-- ==== Sys2Proof/Word.lean ====
section
/-! DEFINITION. The word types of the model: bytes, 32-bit registers and counters, and sparse tables.

A sparse table holds one entry for each key whose value differs from the default its reader names, keys strictly
rising, so that equal tables are equal data. -/

namespace Sys2Proof

/-- One byte (R5: multi-byte fields are little-endian lists of these). -/
abbrev Byte := BitVec 8

/-- A byte string in ascending address order. -/
abbrev Bytes := List Byte

/-- A 32-bit register word (R9), also every 32-bit wrapping counter. -/
abbrev W32 := BitVec 32

/-- A sparse table from identifiers to values. -/
abbrev Tbl (α : Type) := List (Nat × α)

end Sys2Proof
end

