-- ==== Sys2Proof/LawIsa.lean ====
section
/-! DEFINITION. The law engines' instruction set as data (05, Tables 5.4 to 5.10): operations, slots and bundles. -/

namespace Sys2Proof

/-- 05 Table 5.7: the compute operations. -/
inductive COp where
  | nop | mpy | mac | msu | adda | suba | nega | absa | clra | shla | shra | expa | norma | mvad | mvda
  | add | sub | adds | subs | and_ | or_ | xor_ | asr | lsr | lsl | asrv | exp | norm | min | max | cmp | mov
  | abs | neg | sel | mulq | rcp | rsq
  deriving DecidableEq, Repr

/-- 05 Table 5.5: the operand fields of the compute slot. -/
structure CFields where
  f1 : BitVec 5
  f2 : BitVec 5
  f3 : BitVec 5
  f4 : BitVec 5
  deriving DecidableEq, Repr

/-- 05 Table 5.5: a compute slot. -/
structure Compute where
  op : COp
  f : CFields
  deriving DecidableEq, Repr

/-- 05 Table 5.6: an X or Y move. -/
structure Move where
  store : Bool
  d : BitVec 5
  p : BitVec 3
  am : BitVec 2
  m : BitVec 3
  deriving DecidableEq, Repr

/-- 05 Table 5.8: the operands of LD and ST. -/
structure GenMem where
  reg : BitVec 7
  p : BitVec 3
  am : BitVec 2
  m : BitVec 3
  disp : BitVec 16
  deriving DecidableEq, Repr

/-- 05 Table 5.8: a general slot. -/
inductive GenOp where
  | nop
  | ld (a : GenMem)
  | st (a : GenMem)
  | movr (rd rs : BitVec 7)
  | addi (r : BitVec 7) (imm : BitVec 16)
  | ldis (r : BitVec 7) (imm : BitVec 16)
  deriving DecidableEq, Repr

/-- 05 Table 5.9: the count of LOOP. -/
inductive LoopN where
  | imm (c : BitVec 16)
  | reg (d : BitVec 5)
  deriving DecidableEq, Repr

/-- 05 Table 5.9: a control slot. -/
inductive CtlOp where
  | nop
  | br (c : BitVec 4) (tgt : BitVec 14)
  | bri (c : BitVec 4) (p : BitVec 3)
  | call (c : BitVec 4) (tgt : BitVec 14)
  | loop (n : LoopN) (ls le : BitVec 14)
  | rotn (k : BitVec 4)
  | srset (mask val : BitVec 16)
  | jend (c : BitVec 4)
  | rti
  | trap (c : BitVec 4) (n : BitVec 8)
  | bkpt
  | sync
  deriving DecidableEq, Repr

/-- 05 Table 5.4: a bundle in one of the four formats. -/
inductive Bundle where
  | par (c : Compute) (x y : Option Move) (rot : Bool)
  | gen (c : Compute) (g : GenOp)
  | ctl (o : CtlOp)
  | ldi (r : BitVec 7) (imm : BitVec 32)
  deriving DecidableEq, Repr

/-- 05 Table 5.4: what a PARALLEL or GENERAL bundle carries beside its compute slot. -/
inductive Side where
  | moves (x y : Option Move) (rot : Bool)
  | gen (g : GenOp)
  deriving DecidableEq, Repr

/-- The bundle of a compute slot and what stands beside it. -/
def Side.bundle (c : Compute) : Side → Bundle
  | .moves x y r => .par c x y r
  | .gen g => .gen c g

end Sys2Proof
end

