-- ==== Sys2Proof/Machine/Parts.lean ====
section
/-! DEFINITION. The parts of the machine's state, unit by unit, each field with the rule that names it and its reset value. -/

namespace Sys2Proof.Machine

/-! ## Function units (01) -/

/-- 01 R34, Table 1.9: the state of a function unit. -/
inductive FState where
  | stopped | starting | running | stopping | retired
  deriving DecidableEq, Repr

/-- 01 R34, R514: one function unit, with the blocks its fades fall on. -/
structure FUnit where
  /-- 01 R34: the unit's state, 3 bits in status reads. Reset STOPPED. -/
  st : FState := .stopped
  /-- 01 R34: the block the unit's last start fades in over (audio units). Reset none. -/
  startBlk : Option Nat := none
  /-- 01 R34: the block a stop fades out over. Reset none. -/
  stopBlk : Option Nat := none
  /-- 01 R514: the block a retirement fades out over. Reset none. -/
  retBlk : Option Nat := none
  /-- 03 Table 3.7: the tick in which the unit's last start was validated. Reset 0. -/
  startVal : Nat := 0
  deriving DecidableEq, Repr

/-- 15 R393: a run of units started or stopped together, until EV_FUNC_DONE reports it. -/
structure FuncRun where
  /-- 15 Table 15.6: the kind of unit. -/
  kind : Nat
  /-- 15 Table 15.5: first unit. -/
  first : Nat
  /-- 15 Table 15.5: number of units. -/
  count : Nat
  /-- 15 Table 15.8: 0 start, 1 stop. -/
  action : Nat
  /-- 15 R393: TAG of the command, 0 for a trigger. -/
  tag : Nat
  /-- 15 R393: SEQ of the command, 0 for a trigger. -/
  seq : Nat
  /-- 15 R393: SLOT, 0xFF for a command. -/
  slot : Nat
  /-- 15 R392: block j, 0 for a non-audio kind. -/
  block : Nat
  deriving DecidableEq, Repr

/-! ## Time unit (02) -/

/-- 02 R50: time QUALITY. -/
inductive Quality where
  | locked | holdover | coarse | invalid
  deriving DecidableEq, Repr

/-- 02 Table 2.10: one time-trigger slot. -/
structure Slot where
  /-- 02 R66: trigger time in 2^-16 ns since the epoch (NS and FRAC). Reset 0. -/
  time : Nat := 0
  /-- 02 Table 2.6: ACTION, 4 bits. Reset 0. -/
  action : Nat := 0
  /-- 02 Table 2.10: ARMED. Reset 0. -/
  armed : Bool := false
  /-- 02 Table 2.10: FIRED. Reset 0. -/
  fired : Bool := false
  /-- 02 R69: SKIPPED. Reset 0. -/
  skipped : Bool := false
  /-- 02 Table 2.10: TARGET, 16 bits. Reset 0. -/
  target : Nat := 0
  /-- 02 R68: PERIOD in ticks, 24 bits. Reset 0. -/
  period : Nat := 0
  /-- 02 R68: firings made since arming. Reset 0. -/
  firings : Nat := 0
  /-- 02 R67: the lead boundary of the next firing has been processed. Reset 0. -/
  leadBegun : Bool := false
  /-- 02 R70: the control-cycle batch. Reset empty. -/
  batch : Bytes := []
  /-- 18 R72: real-time count of a WAKE_ALARM converted at DOZE entry. Reset none. -/
  alarm : Option Nat := none
  deriving DecidableEq, Repr

/-- 02 Table 2.12: the PTP settings in force. -/
structure PtpCfg where
  /-- 02 Table 2.12: PROFILE. Reset 0. -/
  profile : Nat := 0
  /-- 02 Table 2.12: DOMAIN. Reset 0. -/
  domain : Nat := 0
  /-- 02 Table 2.12: MODE, 0 off. Reset 0. -/
  mode : Nat := 0
  /-- 02 Table 2.12: ONE_STEP. Reset 0. -/
  oneStep : Nat := 0
  /-- 02 Table 2.12: PORT_MASK, 16 bits. Reset 0. -/
  portMask : Nat := 0
  /-- 02 Table 2.12: PRIORITY1. DESIGN CHOICE 128. -/
  priority1 : Nat := 128
  /-- 02 Table 2.12: PRIORITY2. DESIGN CHOICE 128. -/
  priority2 : Nat := 128
  /-- 02 Table 2.12: LOG_SYNC, signed. DESIGN CHOICE 0. -/
  logSync : Int := 0
  /-- 02 Table 2.12: LOG_ANNOUNCE, signed. DESIGN CHOICE 0. -/
  logAnnounce : Int := 0
  /-- 02 Table 2.12: LOG_DELAY_REQ, signed. DESIGN CHOICE 0. -/
  logDelayReq : Int := 0
  /-- 02 Table 2.12: ANNOUNCE_TIMEOUT. DESIGN CHOICE 3. -/
  announceTimeout : Nat := 3
  /-- 02 R49: SLEW_MAX in ppm. Reset 100. -/
  slewMax : Nat := 100
  /-- 02 Table 2.12: CLOCK_CLASS. Reset 248. -/
  clockClass : Nat := 248
  /-- 02 R53: HOLD_DRIFT in 0.1 ppm. Reset 20. -/
  holdDrift : Nat := 20
  deriving DecidableEq, Repr

/-- 02 R55: the selected master and the exchange in progress. -/
structure PtpState where
  /-- 02 Table 2.13: clockIdentity of the selected master. Reset 0. -/
  masterId : Nat := 0
  /-- 02 Table 2.13: SLAVE_PORT, 0xFF none. Reset 0xFF. -/
  slavePort : Nat := 255
  /-- 02 Table 2.13: IEEE 1588 portState of SLAVE_PORT. Reset 0. -/
  portState : Nat := 0
  /-- 02 Table 2.13: clockClass of the selected master. Reset 0. -/
  masterClass : Nat := 0
  /-- 02 R55: the data set of the selected master the best-master algorithm compares. Reset empty. -/
  masterRank : List Nat := []
  /-- 02 R55: a two-step Sync awaiting its Follow_Up: sequence and receive time-stamp. Reset none. -/
  syncWait : Option (Nat × Int) := none
  /-- 02 R55: the last complete Sync: origin and receive time, 2^-16 ns. Reset none. -/
  syncT12 : Option (Int × Int) := none
  /-- 02 R55: the Delay_Req in flight: sequence and transmit time-stamp. Reset none. -/
  delayReq : Option (Nat × Int) := none
  /-- 02 R56: next sequenceId this device sends. Reset 0. -/
  txSeq : Nat := 0
  /-- 02 R55: a mean path delay has been measured since the master was selected. Reset 0. -/
  havePd : Bool := false
  deriving DecidableEq, Repr

/-- 02 Table 2.8 to 2.10: the time unit. -/
structure Tim where
  /-- 02 R43, R45: device time, 96 bits plus 40 fraction bits, in 2^-40 ns. Reset 0. -/
  now : Nat := 0
  /-- 02 R22: index of the tick in progress, 64 bits. Reset 0. -/
  tick : Nat := 0
  /-- 02 R50: QUALITY, 2 bits. Reset invalid. -/
  quality : Quality := .invalid
  /-- 02 Table 2.8: QUAL_SET, 2 bits. Reset 3. -/
  qualSet : Nat := 3
  /-- 02 Table 2.8: SERVO_EN. Reset 0. -/
  servoEn : Bool := false
  /-- 02 R46: increment per cycle, 48 bits. Reset 0x0200_0000_0000. -/
  inc : Nat := 0x020000000000
  /-- 02 Table 2.7: TIM_INC_LO as last written. Reset 0. -/
  incLo : W32 := 0
  /-- 02 Table 2.7: TIM_STEP_NS_LO. Reset 0. -/
  stepLo : W32 := 0
  /-- 02 Table 2.7: TIM_STEP_NS_HI. Reset 0. -/
  stepHi : W32 := 0
  /-- 02 Table 2.9: SNAP_BUSY. Reset 0. -/
  snapBusy : Bool := false
  /-- 02 R71: snapshots that wait for the copy running. Reset 0. -/
  snapQueued : Nat := 0
  /-- 02 R71: TIM_SNAP_SEQ, 32 bits, and with it NET_SNAP_SEQ of each port (10 R279), SNAP_SEQ of each stream and serial port
  (11 R311) and HLT_SNAP_SEQ (17 R443), which every snapshot writes with it. Reset 0. -/
  snapSeq : W32 := 0
  /-- 02 Table 2.9: STEP_REFUSED. Reset 0. -/
  stepRefused : Bool := false
  /-- 02 Table 2.9: PPS_SEEN. Reset 0. -/
  ppsSeen : Bool := false
  /-- 02 R47: INC_CLAMP. Reset 0. -/
  incClamp : Bool := false
  /-- 02 Table 2.7: PPS mode, 2 bits. Reset 1 (MONITOR). -/
  ppsMode : Nat := 1
  /-- 02 R61: PPS_GATE. Reset 0; firmware writes 1 during boot. -/
  ppsGate : Bool := false
  /-- 02 R61: PPS_WIDTH in microseconds, 24 bits. Reset 100,000. -/
  ppsWidth : Nat := 100000
  /-- 02 R62: TIM_PPS_IN, Q24.8 ns. Reset 0. -/
  ppsIn : W32 := 0
  /-- 02 R62: TIM_PPS_LIMIT, Q24.8 ns. Reset 0x0000_6400. -/
  ppsLimit : Int := 0x6400
  /-- 02 R61: level of the PPS_OUT pin. Reset low. -/
  ppsOut : Bool := false
  /-- 02 R60: TIM_MCLKn_CTRL, n 0 to 3. Reset 0. -/
  mclk : Tbl W32 := []
  /-- 02 R60: outputs held low until their frequency change completes. Reset none. -/
  mclkSwitching : Tbl Bool := []
  /-- 02 R63: TIM_TOUTn_CTRL, n 0 to 7: active high, and the width in 8 ns steps. Reset active high, 0. -/
  tout : Tbl (Bool × Nat) := []
  /-- 02 R63: a configuration waiting for the pulse on its pin to end. Reset none. -/
  toutNext : Tbl (Option (Bool × Nat)) := []
  /-- 02 R63: pins with a pulse active, and the pulse's end time in 2^-16 ns. Reset none. -/
  toutPulse : Tbl Nat := []
  /-- 02 Table 2.10: slots TT0 to TT31. Reset as Slot. -/
  slots : Tbl Slot := []
  /-- 02 R57: TIM_TSC_RXp, Q16.16 ns. Reset 0. -/
  tscRx : Tbl W32 := []
  /-- 02 R57: TIM_TSC_TXp, Q16.16 ns. Reset 0. -/
  tscTx : Tbl W32 := []
  /-- 02 R55: PTP settings. -/
  ptp : PtpCfg := {}
  /-- 02 R55: PTP protocol state. -/
  ptpS : PtpState := {}
  /-- 02 R51: successive measurements within 200 ns. Reset 0. -/
  lockRun : Nat := 0
  /-- 02 R51: the frequency estimates at the last measurements, newest first, at most 8, in 10^-4 ppm. Reset none. -/
  lockEst : List Int := []
  /-- 02 R52: the servo's frequency estimate, in 10^-4 ppm. Reset 0. -/
  freqEst : Int := 0
  /-- 02 Table 2.13: the last servo offset from the master, 2^-16 ns. Reset 0. -/
  offset : Int := 0
  /-- 02 Table 2.13: the mean path delay, 2^-16 ns. Reset 0. -/
  pathDelay : Int := 0
  /-- 02 R53: U_now at the base instant, ns; none is unknown. Reset unknown. -/
  uBase : Option Nat := none
  /-- 02 R53: the base instant from which HOLD_DRIFT grows, 2^-40 ns. Reset 0. -/
  uSince : Nat := 0
  /-- 20 R497: REF_IN is present. Reset 1. -/
  refIn : Bool := true
  deriving DecidableEq, Repr

/-! ## Objects and layouts (03) -/

/-- A vector of three Q16.16 components. -/
structure V3 where
  x : Int := 0
  y : Int := 0
  z : Int := 0
  deriving DecidableEq, Repr

/-- 03 Table 3.3: one trajectory record. -/
structure KRec where
  obj : Nat := 0
  flags : Nat := 0
  gain : Int := 0
  time : Nat := 0
  pos : V3 := {}
  vel : V3 := {}
  ext : Nat := 0
  lay : Nat := 0
  prio : Nat := 0
  deriving DecidableEq, Repr

/-- 03 R82 to R84: one knot of a queue. -/
structure Knot where
  /-- 03 Table 3.3: the record. -/
  r : KRec := {}
  /-- 03 R83: effective time in 2^-16 ns. -/
  eff : Nat := 0
  /-- 03 R84: the knot is a synthetic anchor. -/
  synth : Bool := false
  /-- 03 R88: the velocity once fixed. -/
  vel : Option V3 := none
  deriving DecidableEq, Repr

/-- 03 R106: what TRJ evaluated for the last block written. -/
structure ObjEval where
  /-- 03 R106: the queue held a knot when the block was evaluated. -/
  valid : Bool := false
  /-- 03 R90: the middle position. -/
  mid : V3 := {}
  /-- 03 R90: the end position. -/
  pos : V3 := {}
  /-- 03 R90: the end velocity. -/
  vel : V3 := {}
  /-- 03 R87: the knot gain at the end. -/
  gain : Int := 0
  /-- 03 R79: O at the end. -/
  factor : Int := 0
  /-- 03 R85: placed in the block. -/
  placed : Bool := false
  /-- 03 R87: PRIORITY. -/
  prio : Nat := 0
  /-- 03 R87: LAYMASK_HI. -/
  lay : Nat := 0
  /-- 03 R87: routing word in force. -/
  route : W32 := 0
  /-- 03 R87: EXTENT, unscaled. -/
  ext : Nat := 0
  /-- 03 R86: the block is the fade-out or the silent block of a jump. -/
  mute : Bool := false
  deriving DecidableEq, Repr

/-- 03: one object. -/
structure Obj where
  /-- 03 R82: the knot queue, the anchor first, at most 8. Reset empty. -/
  queue : List Knot := []
  /-- 03 R100: live gain, Q4.28. Reset 1.0. -/
  gain : Int := 0x10000000
  /-- 03 R106: the live gain most recently validated, Q4.28. Reset 1.0. -/
  gainVal : Int := 0x10000000
  /-- 03 R86: the blocks that hold the latest jumps. Reset none. -/
  jumps : List Nat := []
  /-- 03 R106: last evaluation. Reset none. -/
  ev : ObjEval := {}
  deriving DecidableEq, Repr

/-- 03 Table 3.1: one layout. -/
structure Layout where
  /-- 03 R92: DELAY_MODE. Reset 0. -/
  mode : Nat := 0
  /-- 03 R97: LAW_PERIOD code. Reset 2. -/
  period : Nat := 2
  /-- 03 R97: LAW_PHASE. Reset 0. -/
  phase : Nat := 0
  /-- 03 Table 3.1: LAW_ID, 16 bits. Reset 0. -/
  law : Nat := 0
  /-- 03 R96: ATT_MODE. Reset 0. -/
  att : Nat := 0
  /-- 03 R76: SCALE, Q4.28. Reset 0x1000_0000. -/
  scale : Int := 0x10000000
  /-- 03 R92: REF_DELAY, Q16.16. Reset 0. -/
  refDelay : Int := 0
  /-- 03 R91: SPEED, Q16.16. Reset 0x0157_0000. -/
  speed : Nat := 0x01570000
  /-- 03 R93: SLEW, Q16.16. Reset 0. -/
  slew : Nat := 0
  /-- 03 R96: REF_DIST, Q16.16. Reset 0x0001_0000. -/
  refDist : Nat := 0x00010000
  /-- 03 R96: MIN_DIST, Q16.16. Reset 0x0000_199A. -/
  minDist : Nat := 0x199A
  /-- 03 R96: ATT_MAX, Q4.28. Reset 0x4000_0000. -/
  attMax : Int := 0x40000000
  /-- 03 Table 3.8: jobs issued for the last law period. Reset 0. -/
  jobs : W32 := 0
  deriving DecidableEq, Repr

/-- 03 Table 3.2: one loudspeaker entry. -/
structure Speaker where
  /-- 03 R78: position in the layout frame. Reset 0. -/
  pos : V3 := {}
  /-- 03 R78: facing vector, Q2.14. Reset 0. -/
  face : V3 := {}
  /-- 03 R78: LAYOUT. Reset 0. -/
  layout : Nat := 0
  /-- 03 R92: ALIGN_DELAY, Q16.16. Reset 0. -/
  align : Nat := 0
  /-- 03 R98: TRIM, Q4.28. Reset 1.0. -/
  trim : Int := 0x10000000
  deriving DecidableEq, Repr

/-- 03 Table 3.8: the trajectory engine. -/
structure Trj where
  /-- 03 R94: FOLD_SKEW. Reset 0. -/
  fold : Bool := false
  /-- 03 Table 3.8: BUSY. Reset 0. -/
  busy : Bool := false
  /-- 03 Table 3.8: MISSED. Reset 0. -/
  missed : Bool := false
  /-- 03 Table 3.8: the ten counters KNOT_LATE to JUMPS, 32 bits each, in offset order. Reset 0. -/
  ctr : Tbl W32 := []
  /-- 03 R77: layouts 0 to 31. Reset as Layout. -/
  lay : Tbl Layout := []
  /-- 03 R80: routing words other than their reset value (word 0 all ones, the others 0). Reset as R80. -/
  route : Tbl W32 := []
  /-- 03 R78: loudspeaker entries 0 to 511. Reset as Speaker. -/
  spk : Tbl Speaker := []
  /-- 03: objects 0 to 1023. Reset as Obj. -/
  obj : Tbl Obj := []
  /-- 03 R106: last output block whose endpoints were written. Reset none. -/
  block : Option Nat := none
  /-- 03 R95: the deadline of the block being written has passed unwritten. Reset 0. -/
  late : Bool := false
  deriving DecidableEq, Repr

/-! ## Filter chain (04) -/

/-- 04 Table 4.10: a filter engine's settings. -/
structure Fe where
  /-- 04 Table 4.8: KIND, 2 bits. Reset 0 (FE0 to FE3), 3 (FE4, FE5). -/
  kind : Nat := 0
  /-- 04 Table 4.8: PROFILE. Reset 0. -/
  profile : Nat := 0
  /-- 04 Table 4.8: ALIGN. Reset 0 (FE0 to FE3), 1 (FE4, FE5). -/
  align : Nat := 0
  /-- 04 Table 4.8: SLOTS, 9 bits. Reset 0. -/
  slots : Nat := 0
  /-- 04 Table 4.7: FLT_FEe_MISS, 32 bits. Reset 0. -/
  miss : W32 := 0
  /-- 04 R112: FLT_FEe_CLIP, 32 bits. Reset 0. -/
  clip : W32 := 0
  deriving DecidableEq, Repr

/-- 04 R107: the route of a channel or output. -/
structure Route where
  /-- 04 Table 4.7: ENGINE, 0xF DIRECT. Reset 0xF. -/
  engine : Nat := 15
  /-- 04 Table 4.7: SLOT, 9 bits. Reset 0. -/
  slot : Nat := 0
  deriving DecidableEq, Repr

/-- 04 Table 4.4: the state of a rate group. -/
inductive GState where
  | idle | acquire | locked | lost
  deriving DecidableEq, Repr

/-- 04 R113: one ASRC rate group. -/
structure Group where
  /-- 04 Table 4.9: SRC_KIND, 0 none. Reset 0. -/
  srcKind : Nat := 0
  /-- 04 Table 4.9: SRC_ID. Reset 0. -/
  srcId : Nat := 0
  /-- 04 Table 4.3: RATE. Reset 0. -/
  rate : Nat := 0
  /-- 04 R113: SLOT_FIRST. Reset 0. -/
  first : Nat := 0
  /-- 04 R113: SLOT_COUNT. Reset 0. -/
  count : Nat := 0
  /-- 04 R114: state, 2 bits. Reset IDLE. -/
  st : GState := .idle
  /-- 04 R114: RATE_RANGE. Reset 0. -/
  rangeErr : Bool := false
  /-- 04 Table 4.7: DEV, Q16.16 ppm. Reset 0. -/
  dev : Int := 0
  /-- 04 Table 4.7: FILL, Q16.16 input samples. Reset 0. -/
  fill : Int := 0
  /-- 04 R114: SLIPS, 32 bits. Reset 0. -/
  slips : W32 := 0
  /-- 04 R114: the block the group fades in over after LOCKED, or out over. Reset none. -/
  fadeBlk : Option Nat := none
  /-- 16 Table 16.3: RATIO of the group's ASRC entry, in 2^-56. Reset 0. -/
  ratio : BitVec 64 := 0
  deriving DecidableEq, Repr

/-- 04 R119 to R122: one tone detector. -/
structure Tone where
  /-- 04 Table 4.7: ENABLE. Reset 0. -/
  enable : Bool := false
  /-- 04 Table 4.7: SRC_KIND, 2 bits. Reset 0. -/
  srcKind : Nat := 0
  /-- 04 Table 4.7: WINDOW. Reset 0. -/
  window : Nat := 0
  /-- 04 Table 4.7: SRC, 11 bits. Reset 0. -/
  src : Nat := 0
  /-- 04 Table 4.7: FREQ, Q16.16 Hz. Reset 0. -/
  freq : Nat := 0
  /-- 04 Table 4.7: N. Reset 0x1000. -/
  n : Nat := 0x1000
  /-- 04 R121: THRESH, Q8.8 dB. Reset 0. -/
  thresh : Int := 0
  /-- 04 R121: HYST, Q8.8 dB. Reset 0. -/
  hyst : Nat := 0
  /-- 04 R120: LEVEL, Q8.8 dB. Reset 0x8000. -/
  level : Int := -32768
  /-- 04 R120: PHASE, 16 bits. Reset 0. -/
  phase : Nat := 0
  /-- 04 Table 4.7: source block index of the result, 64 bits. Reset 0. -/
  block : Nat := 0
  /-- 04 R121: PRESENT. Reset 0. -/
  present : Bool := false
  /-- 04 R121: VALID. Reset 0. -/
  valid : Bool := false
  /-- 04 R122: first block index of the block under way; a configuration discards it. Reset none. -/
  start : Option Nat := none
  /-- 04 R121: the block under way holds a sample of a unit not RUNNING. Reset 0. -/
  bad : Bool := false
  /-- 04 R122: first block index at which a block may begin after a configuration. Reset 0. -/
  cfgBlk : Nat := 0
  /-- 04 R120: samples of the block under way, newest first. Reset none. -/
  buf : List Int := []
  /-- 04 R121: the block complete and not yet reported: its first index, whether it is bad, its samples. Reset none. -/
  full : Option (Nat × Bool × List Int) := none
  deriving DecidableEq, Repr

/-- 04 Table 4.7: the filter chain. -/
structure Flt where
  /-- 04 Table 4.7: MISSED, one bit per engine. Reset 0. -/
  missed : Nat := 0
  /-- 04 R108: FLT_RATE_MISMATCH, 32 bits. Reset 0. -/
  mismatch : W32 := 0
  /-- 04 Table 4.8: engines FE0 to FE5. Reset as Table 4.10. -/
  fe : Tbl Fe := []
  /-- 04 Table 4.7: FLT_INMAPi, i 0 to 1087. Reset DIRECT. -/
  inmap : Tbl Route := []
  /-- 04 Table 4.7: FLT_OUTMAPs, s 0 to 511. Reset DIRECT. -/
  outmap : Tbl Route := []
  /-- 04 R117: FLT_INPHASEi, Q16.16. Reset 0. -/
  inphase : Tbl Nat := []
  /-- 04 R117: FLT_OUTPHASEs, Q16.16. Reset 0. -/
  outphase : Tbl Nat := []
  /-- 04 R113: groups 16e + g. Reset no source. -/
  grp : Tbl Group := []
  /-- 04 R119: detectors TD0 to TD63. Reset disabled. -/
  td : Tbl Tone := []
  /-- 04 R112: filter history of each engine slot (512e + slot), newest first. Reset empty. -/
  hist : Tbl (List Int) := []
  /-- 01 Table 1.7: samples of the block under conditioning that missed their mark: 16e + s. Reset none. -/
  late : List Nat := []
  /-- 01 R23: the captured input block k, 16 samples for each channel. Reset empty. -/
  inBlk : Tbl (List Int) := []
  /-- 04: the conditioned block, 16 samples for each channel. Reset empty. -/
  cond : Tbl (List Int) := []
  deriving DecidableEq, Repr

/-! ## Host interface (14) -/

/-- 14 R360: one mailbox ring. -/
structure Ring where
  /-- 14 Table 14.2: BASE as written, 20 bits. Reset 0. -/
  baseReg : Nat := 0
  /-- 14 R360: the committed base. Reset 0. -/
  base : Nat := 0
  /-- 14 Table 14.2: SIZE, 0 disabled. Reset 0. -/
  size : Nat := 0
  /-- 14 Table 14.2: HEAD, 18 bits. Reset 0. -/
  head : Nat := 0
  /-- 14 Table 14.2: TAIL, 18 bits. Reset 0. -/
  tail : Nat := 0
  deriving DecidableEq, Repr

/-- 14 Table 14.12: an event held for the event ring. -/
structure EvRec where
  code : Nat
  inst : Nat
  ns : Nat
  frac : Nat
  sev : Nat
  payload : Bytes
  deriving DecidableEq, Repr

/-- 14 Table 14.7: a command as taken: TAG, FLAGS, SEQ, the reserved field and the inline bytes. -/
structure AcpReq where
  tag : BitVec 8
  flags : BitVec 8
  seq : BitVec 32
  rsvd : BitVec 32
  inl : Bytes
  deriving DecidableEq, Repr

/-- 14 Table 14.11: a response on its way to the response ring. -/
structure Rsp where
  op : Nat
  tag : Nat
  flags : Nat
  status : Nat
  seq : Nat
  /-- 14 R377: LENGTH when it is not the size of `payload` (result-buffer writes). -/
  len : Nat
  payload : Bytes
  /-- 14 R379: the TAG, SEQ and OFFSET an RSP_CONTINUE delivers from. -/
  cont : Option (Nat × Nat × Nat) := none
  deriving DecidableEq, Repr

/-- 14 R368: one entry of the tag table. -/
structure TagRec where
  /-- 14 R368: a command has completed under the tag. Reset 0. -/
  used : Bool := false
  seq : Nat := 0
  op : Nat := 0
  status : Nat := 0
  flags : Nat := 0
  deriving DecidableEq, Repr

/-- 14 R374: a timed command that waits for its block. -/
structure Timed where
  /-- 01 R32: the command's place in the order of taking. -/
  ord : Nat
  op : Nat
  tag : Nat
  seq : Nat
  block : Nat
  payload : Bytes
  deriving DecidableEq, Repr

/-- 14 R378: the bytes of a truncated response. -/
structure Retained where
  tag : Nat
  seq : Nat
  /-- 14 R378: first byte not yet delivered. -/
  done : Nat
  /-- 14 R377: the whole response payload. -/
  payload : Bytes
  /-- 14 R378: bytes it holds in the pool. -/
  held : Nat
  deriving DecidableEq, Repr

/-- 14 R372: a response that waits for an acknowledgement or for an operation. -/
structure Waiting where
  op : Nat
  tag : Nat
  seq : Nat
  flags : Nat
  /-- 14 Table 14.8: the result-buffer descriptor, address and length. -/
  rb : Option (Nat × Nat)
  status : Nat
  payload : Bytes
  /-- 14 R372: the tick whose record must be acknowledged; none: no acknowledgement is awaited. -/
  ackTick : Option Nat
  /-- 14 R371: the operation awaited (opcode and an argument); (0, 0): none. -/
  key : Nat × Nat
  /-- 14 R372: REPLICATED of the response. -/
  repl : Bool
  deriving DecidableEq, Repr

/-- 14 R377: a response that waits for its result-buffer write. -/
structure RbWait where
  r : Rsp
  addr : Nat
  cap : Nat
  full : Bytes
  deriving DecidableEq, Repr

/-- 14: the host interface. -/
structure Hst where
  /-- 14 R356: HOST_SEL as sampled (1 HSPI). Reset 0. -/
  hspi : Bool := false
  /-- 14 Table 14.4: PCIE_GEN of the link. DESIGN CHOICE 3. -/
  pcieGen : Nat := 3
  /-- 14 Table 14.4: PCIE_WIDTH of the link. DESIGN CHOICE 2. -/
  pcieWidth : Nat := 2
  /-- 14 Table 14.3: ACP_MAJOR and ACP_MINOR, 16 bits. Reset 0. -/
  acp : Nat := 0
  /-- 14 R361: command ring. -/
  cmd : Ring := {}
  /-- 14 R361: response ring. -/
  rsp : Ring := {}
  /-- 14 R361: event ring. -/
  evt : Ring := {}
  /-- 14 R362: CMD_HALTED. Reset 0. -/
  halted : Bool := false
  /-- 14 Table 14.6: HOST_IRQ_STATUS. Reset 0. -/
  irq : BitVec 6 := 0
  /-- 14 Table 14.2: HOST_IRQ_ENABLE [5:0]. Reset 0. -/
  irqEn : BitVec 6 := 0
  /-- 14 R381: HOLDOFF in microseconds, 8 bits. Reset 0. -/
  holdoff : Nat := 0
  /-- 14 R381: RSP waits for HOLDOFF. Reset 0. -/
  rspHeld : Bool := false
  /-- 14 R381: EVT waits for HOLDOFF. Reset 0. -/
  evtHeld : Bool := false
  /-- 14 R381: MSI enabled by the host. PRESUMED 0 (PCI Express). -/
  msiEn : Bool := false
  /-- 14 R381: MSI messages sent. Reset 0. -/
  msi : Nat := 0
  /-- 14 R381: level of IRQ_N (false is low). Reset high. -/
  irqN : Bool := true
  /-- 14 R381: INTA asserted. Reset 0. -/
  inta : Bool := false
  /-- 14 Table 14.1: Bus Master Enable. PRESUMED 0 (PCI Express). -/
  busMaster : Bool := false
  /-- 14 R382: DIAG_ADDR. Reset 0. -/
  diagAddr : W32 := 0
  /-- 14 R382: DIAG_BUSY. Reset 0. -/
  diagBusy : Bool := false
  /-- 14 R382: DIAG_ERR. Reset 0. -/
  diagErr : Bool := false
  /-- 14 R382: the fetched word. Reset 0. -/
  diagData : W32 := 0
  /-- 14 R382: the fetch gave no data: a read sets DIAG_ERR. Reset 0. -/
  diagBad : Bool := false
  /-- 14 R383: the window's own HI latches, by address. Reset 0. -/
  diagLatch : Tbl W32 := []
  /-- 10 R277: firmware's HI latches, by address. Reset 0. -/
  latch : Tbl W32 := []
  /-- 14 R382: the last word a register read returned to its reader. Reset 0. -/
  readData : W32 := 0
  /-- 14 R368: the tag table. Reset clear. -/
  tags : Tbl TagRec := []
  /-- 14 R367: tags in flight, with SEQ. Reset none. -/
  inflight : Tbl (Option Nat) := []
  /-- 14 R376: the indirect fetch in progress. Reset none. -/
  fetch : Option (Nat × AcpReq) := none
  /-- 14 R386: commands that wait for a fetch or for wake, oldest first. Reset none. -/
  waitCmd : List (Nat × AcpReq) := []
  /-- 14 R374: waiting timed commands, oldest first, at most 1,024. Reset none. -/
  timed : List Timed := []
  /-- 01 R32: commands taken so far. Reset 0. -/
  ord : Nat := 0
  /-- 01 R32: the block and the place in the order of taking of the last setting of an item: 4 x object (gain), 4 x word + 1
  (route), 4 x output + 2 (trim), 4 x output + 3 (mute). Reset none. -/
  lastSet : Tbl (Option (Nat × Nat)) := []
  /-- 14 R371, R372: responses that wait for an operation or an acknowledgement. Reset none. -/
  wait : List Waiting := []
  /-- 14 R377: responses that wait for their result buffer. Reset none. -/
  rbWait : List RbWait := []
  /-- 14 R363: completed responses, oldest first. Reset none. -/
  rspQ : List Rsp := []
  /-- 14 R378: retained responses, oldest first. Reset none. -/
  retained : List Retained := []
  /-- 14 R380: events not yet written, oldest first. Reset none. -/
  evq : List EvRec := []
  /-- 14 R380: events dropped and not yet reported. Reset 0. -/
  evLost : Nat := 0
  /-- 14 R395: the reset DEVICE_RESET asked for, 0 warm, 1 chip. Reset none. -/
  resetDue : Option Nat := none
  deriving DecidableEq, Repr

/-! ## Faults, ageing and health (17) -/

/-- 17 R430: one channel's strike bucket. -/
structure Chan where
  /-- 17 R431: level L, 0 to 8. Reset 0. -/
  level : Nat := 0
  /-- 17 R431: the leak timer runs. Reset 0. -/
  leak : Bool := false
  /-- 17 R435: RETIRED. Reset 0. -/
  retired : Bool := false
  /-- 17 Table 17.6: CAUSE, 4 bits. Reset 0. -/
  cause : Nat := 0
  /-- 17 R443: STRIKES, 32 bits. Reset 0. -/
  strikes : W32 := 0
  /-- 17 R443: shadow of STRIKES. Reset 0. -/
  shadow : W32 := 0
  /-- 17 R432: the tick of the last strike. Reset none. -/
  lastTick : Option Nat := none
  deriving DecidableEq, Repr

/-- 17 Table 17.5: a fault-log entry. -/
structure LogEnt where
  tick : Nat := 0
  channel : Nat := 0
  kind : Nat := 0
  code : Nat := 0
  cause : Nat := 0
  level : Nat := 0
  historic : Bool := false
  source : Nat := 0
  detail : Nat := 0
  deriving DecidableEq, Repr

/-- 17 R444 to R448: one island's plan. -/
structure Island where
  /-- 17 Table 17.8: planned clock in MHz, 12 bits; 0 stands for the ceiling or fixed clock of Table 17.7. Reset that clock. -/
  mhz : Nat := 0
  /-- 17 R444: trim code t, 0 to 7. Reset 0. -/
  trim : Nat := 0
  /-- 17 R448: FLOOR_LOST. Reset 0. -/
  floorLost : Bool := false
  /-- 17 Table 17.8: DEFERRED. Reset 0. -/
  deferred : Bool := false
  /-- 17 R445: margin M, Q8.8 %. Reset 0. -/
  margin : Int := 0
  /-- 17 Table 17.8: A at the current trim, MHz. Reset 0. -/
  allowed : Nat := 0
  /-- 17 R447: the margin is below MARGIN_WARN. Reset 0. -/
  warned : Bool := false
  /-- 17 R448: a plan under way: old trim, old clock, new clock. Reset none. -/
  plan : Option (Nat × Nat × Nat) := none
  /-- 17 R448: the supply trim of the plan is rising. Reset 0. -/
  slewing : Bool := false
  deriving DecidableEq, Repr

/-- 17 Table 17.8: the health block. -/
structure Hlt where
  /-- 17 R430: channels 0 to 1,175. Reset as Chan. -/
  ch : Tbl Chan := []
  /-- 17 R442: the fault log, entries 0 to 511. Reset 0. -/
  log : Tbl LogEnt := []
  /-- 17 Table 17.8: HLT_LOG_WR [8:0]. Reset 0. -/
  logWr : Nat := 0
  /-- 17 Table 17.8: WRAPPED. Reset 0. -/
  wrapped : Bool := false
  /-- 17 Table 17.8: AUTO. Reset 1. -/
  auto : Bool := true
  /-- 17 R440: PROVE. Reset 0. -/
  prove : Bool := false
  /-- 17 Table 17.8: SWEEP_BUSY. Reset 0. -/
  sweepBusy : Bool := false
  /-- 17 R445: NO_BIRTH. Reset 0. -/
  noBirth : Bool := false
  /-- 17 Table 17.8: ring being measured, 7 bits. Reset 0. -/
  ring : Nat := 0
  /-- 17 R438: HLT_FLAGS, 32 bits. Reset 0. -/
  flags : W32 := 0
  /-- 17 R438: HLT_ARB_MASK. Reset 0x0001_0889. -/
  arbMask : W32 := 0x00010889
  /-- 17 R446: MEAS_PERIOD in seconds. Reset 600. -/
  period : Nat := 600
  /-- 17 R447: GUARD, Q8.8 %. Reset 0x0600. -/
  guard : Nat := 0x0600
  /-- 17 R447: MARGIN_WARN, Q8.8 %. Reset 0x0300. -/
  marginWarn : Nat := 0x0300
  /-- 17 Table 17.8: HLT_SWEEPS, 32 bits. Reset 0. -/
  sweeps : W32 := 0
  /-- 17 Table 17.8: HLT_REPLANS, 32 bits. Reset 0. -/
  replans : W32 := 0
  /-- 17 R446: HLT_RINGi_COUNT, i 0 to 95. Reset 0. -/
  ringN : Tbl W32 := []
  /-- 17 R446: HLT_RINGi_RATIO, Q1.15. Reset 0x8000. -/
  ringR : Tbl Nat := []
  /-- 17 R444: islands 0 to 86. Reset the ceiling or fixed clock, trim 0. -/
  isl : Tbl Island := []
  /-- 17 R436: OBJECTS_SHED. Reset 0. -/
  objectsShed : Nat := 0
  /-- 17 R439: successive servo measurements above 1 microsecond while locked. Reset 0. -/
  servoBad : Nat := 0
  /-- 17 R440: reserve lanes still to be proven, lowest first. Reset none. -/
  proving : List Nat := []
  deriving DecidableEq, Repr

/-! ## Law engines and the scheduler (05, 06) -/

/-- 05 Table 5.15: STATE of a law engine. -/
inductive LState where
  | idle | job | handler | halted | retired
  deriving DecidableEq, Repr

/-- 05 R136: where a result in flight lands. -/
inductive LTgt where
  /-- a physical D register -/
  | pd (k : Nat)
  /-- a pointer -/
  | ptr (k : Nat)
  /-- a modifier -/
  | mdf (k : Nat)
  /-- the slow view of an accumulator: what MVAD, EXPA, NORMA's Dd and moves read -/
  | acc (k : Nat)
  /-- the fast view of an accumulator: what the accumulator operations read -/
  | accF (k : Nat)
  /-- both views, by a move: part 0 all 72 bits, 1 bits 31:0, 2 bits 63:32, 3 bits 71:64 -/
  | accW (k part : Nat)
  /-- N, Z, V, C -/
  | flags
  /-- the sticky bits AOV (1) and AS (2), or-ed in, with the causes they make pending (4, 8) -/
  | sticky
  /-- SR under a mask: mask x 65536 + value -/
  | sr
  | rrb | ictl | lc | ls | le | epc | esr
  deriving DecidableEq, Repr

/-- 05 R136: one result in flight. -/
structure Land where
  /-- 05 R136: visible to bundles numbered from this one. -/
  due : Nat
  tgt : LTgt
  val : Int
  /-- 05 R139: a scratch-bank or window load: a bundle that names its register waits for it. -/
  lock : Bool
  deriving DecidableEq, Repr

/-- 06 Table 6.3: one law job. -/
structure Job where
  obj : Nat := 0
  /-- 06 R159: lead layout. -/
  lead : Nat := 0
  prio : Nat := 0
  law : Nat := 0
  nOut : Nat := 0
  laymask : W32 := 0
  param : Nat := 0
  paramLen : Nat := 0
  block : Nat := 0
  /-- 03 R97: evaluation instant, 2^-16 ns. -/
  eval : Nat := 0
  pos : V3 := {}
  vel : V3 := {}
  ext : Nat := 0
  /-- 06 R161: place in the issue order. -/
  order : Nat := 0
  /-- 06 R170: the age has reached AFF_WAIT. -/
  waited : Bool := false
  /-- 06 R180: MAX_CYC of a test job, none for a scheduled job. -/
  test : Option Nat := none
  deriving DecidableEq, Repr

/-- 05: one law engine. -/
structure LawEng where
  /-- 05 Table 5.16: RUN_EN. Reset 0. -/
  runEn : Bool := false
  /-- 05 Table 5.16: DBG_EN. Reset 0. -/
  dbgEn : Bool := false
  /-- 05 Table 5.15: STATE. Reset IDLE. -/
  st : LState := .idle
  /-- 05 R156: state to resume to when HALTED in a handler. Reset 0. -/
  inHandler : Bool := false
  /-- 05 Table 5.15: LAW_PC, 14 bits. Reset 0. -/
  pc : Nat := 0
  /-- 05 Table 5.2: PD0 to PD31, 32 bits each. Reset 0. -/
  pd : Tbl W32 := []
  /-- 05 Table 5.2: P0 to P7, 32 bits each. Reset 0. -/
  p : Tbl W32 := []
  /-- 05 Table 5.2: M0 to M7, 32 bits each. Reset 0. -/
  m : Tbl W32 := []
  /-- 05 R132: A0 to A3, 72 bits each, as accumulator operations read them. Reset 0. -/
  acc : Tbl Int := []
  /-- 05 Table 5.11: A0 to A3 as MVAD, EXPA, NORMA's Dd and moves read them. Reset 0. -/
  accS : Tbl Int := []
  /-- 05 R142: LC, 16 bits. Reset 0. -/
  lc : Nat := 0
  /-- 05 R142: LS, 14 bits. Reset 0. -/
  ls : Nat := 0
  /-- 05 R142: LE, 14 bits. Reset 0. -/
  le : Nat := 0
  /-- 05 R127: RRB, 4 bits. Reset 0. -/
  rrb : Nat := 0
  /-- 05 Table 5.3: SR, 16 bits. Reset 0x1F40. -/
  sr : BitVec 16 := 0x1F40
  /-- 05 Table 5.11: N, Z, V, C as conditions read them are SR[3:0] once landed. Reset 0. -/
  ictl : W32 := 0
  /-- 05 R147: EPC, 14 bits. Reset 0. -/
  epc : Nat := 0
  /-- 05 R145: ECAUSE, 16 bits. Reset 0. -/
  ecause : Nat := 0
  /-- 05 R147: ESR, 16 bits. Reset 0. -/
  esr : BitVec 16 := 0
  /-- 05 Table 5.2: CYC, 32 bits. Reset 0. -/
  cyc : W32 := 0
  /-- 05 R136: results in flight. Reset none. -/
  flight : List Land := []
  /-- 05 R136: bundles issued since job start. Reset 0. -/
  issued : Nat := 0
  /-- 05 R140: delay slots still to issue. Reset 0. -/
  slots : Nat := 0
  /-- 05 R140: target of the taken branch whose delay slots issue. Reset none. -/
  target : Option Nat := none
  /-- 05 R143: the loop body is held in the loop cache. Reset 0. -/
  cached : Bool := false
  /-- 05 R139: bundle number of the last RCP or RSQ. Reset none. -/
  lastRcp : Option Nat := none
  /-- 05 R156: RESUME has left a breakpoint whose bundle has still to issue. Reset 0. -/
  resumed : Bool := false
  /-- 05 R156: a halt has been requested. Reset 0. -/
  haltReq : Bool := false
  /-- 05 5.1: program memory, 16,384 bundles of 64 bits; bundles 0 to 4,095 hold the library. Reset 0 above them. -/
  prog : Tbl (BitVec 64) := []
  /-- 05 5.1: X memory above the frame, 32-bit words by word index. Reset 0. -/
  x : Tbl W32 := []
  /-- 05 5.1: Y memory, 32-bit words by word index. Reset 0. -/
  y : Tbl W32 := []
  /-- 06 R163: frame bank visible to the running job, words 0 to 1,023. Reset 0. -/
  frame : Tbl W32 := []
  /-- 06 R163: frame bank of the local slot. Reset 0. -/
  frameS : Tbl W32 := []
  /-- 06 R163: frame bank draining to the gain collector. Reset 0. -/
  frameC : Tbl W32 := []
  /-- 06 R169: the job in the local slot. Reset none. -/
  slot : Option Job := none
  /-- 06 R169: the job running. Reset none. -/
  run : Option Job := none
  /-- 06 R166: the job whose gains are being collected. Reset none. -/
  coll : Option Job := none
  /-- 06 R179: a disable waits for the running job. Reset 0. -/
  disabling : Bool := false
  /-- 05 Table 5.15: LAW_FAULT_ADDR. Reset 0. -/
  faultAddr : W32 := 0
  /-- 05 Table 5.15: LAW_FAULT_PC. Reset 0. -/
  faultPc : Nat := 0
  /-- 05 R152: LAW_PROT_CODE. Reset 0. -/
  protCode : W32 := 0
  /-- 05 R152: LAW_PROT_X. Reset 0. -/
  protX : W32 := 0
  /-- 05 R152: LAW_PROT_Y. Reset 0. -/
  protY : W32 := 0
  /-- 05 R152: LAW_PROT_SCB. Reset 0. -/
  protScb : W32 := 0
  /-- 05 R152: LAW_PROT_BW. Reset 0. -/
  protBw : W32 := 0
  /-- 05 R145: LAW_BUDGET. Reset 0. -/
  budget : W32 := 0
  /-- 05 Table 5.15: LAW_WINSEL, 2 bits. Reset 0. -/
  winsel : Nat := 0
  /-- 05 Table 5.15: LAW_BUSY, 64 bits. Reset 0. -/
  busy : Nat := 0
  /-- 05 R150: LAW_FAULTS, 32 bits. Reset 0. -/
  faults : W32 := 0
  /-- 05 Table 5.15: LAW_AOV_JOBS, 32 bits. Reset 0. -/
  aovJobs : W32 := 0
  /-- 05 R154: LAW_ECC_CORR, 32 bits. Reset 0. -/
  eccCorr : W32 := 0
  /-- 05 R154: LAW_ECC_UNCORR, 32 bits. Reset 0. -/
  eccUncorr : W32 := 0
  /-- 05 Table 5.15: LAW_BP0 to LAW_BP3. Reset 0. -/
  bp : Tbl W32 := []
  /-- 05 Table 5.15: LAW_WP0_ADDR, LAW_WP1_ADDR. Reset 0. -/
  wpAddr : Tbl W32 := []
  /-- 05 Table 5.15: LAW_WP0_CTRL, LAW_WP1_CTRL. Reset 0. -/
  wpCtrl : Tbl W32 := []
  deriving DecidableEq, Repr

/-- 06 Table 6.1: a layout's law binding. -/
structure Bind where
  /-- 06 Table 6.1: LEAD, none for the layout itself. Reset the layout itself. -/
  lead : Option Nat := none
  /-- 06 R160: SPLIT. Reset 0. -/
  split : Bool := false
  /-- 06 Table 6.1: PARAM. Reset 0. -/
  param : Nat := 0
  /-- 06 Table 6.1: PARAM_LEN. Reset 0. -/
  len : Nat := 0
  deriving DecidableEq, Repr

/-- 06 Table 6.7: a loaded customer law program. -/
structure Prog where
  version : Nat := 0
  codeBase : Nat := 0
  codeLimit : Nat := 0
  entry : Nat := 0
  xLimit : Nat := 0
  yBase : Nat := 0
  yLimit : Nat := 0
  scb : W32 := 0
  bw : W32 := 0
  wcet : W32 := 0
  budget : W32 := 0
  crc : W32 := 0
  /-- 06 Table 6.7: X word of the X data and its words. -/
  xAddr : Nat := 0
  xWords : Nat := 0
  /-- 06 Table 6.7: Y word of the Y data and its words. -/
  yAddr : Nat := 0
  yWords : Nat := 0
  deriving DecidableEq, Repr

/-- 06 Table 6.4: a trace entry. -/
structure TraceEnt where
  tickLo : Nat := 0
  cycle : Nat := 0
  obj : Nat := 0
  layout : Nat := 0
  engPri : Nat := 0
  kind : Nat := 0
  reason : Nat := 0
  qdepth : Nat := 0
  deriving DecidableEq, Repr

/-- 06: bindings, programs, the scheduler. -/
structure Sch where
  /-- 06 R170: AFF_WAIT, 16 bits. Reset 2,000. -/
  affWait : Nat := 2000
  /-- 06 R171: TRACE_MODE, 2 bits. Reset 1. -/
  traceMode : Nat := 1
  /-- 06 R168: the queue, in issue order, at most 4,096. Reset empty. -/
  queue : List Job := []
  /-- 06 R161: jobs issued so far: the next place in the issue order. Reset 0. -/
  nextOrder : Nat := 0
  /-- 06 Table 6.9: SCH_QDEPTH_MAX, 13 bits, RC. Reset 0. -/
  qMax : Nat := 0
  /-- 06 Table 6.9: SCH_ISSUED, 32 bits. Reset 0. -/
  issued : W32 := 0
  /-- 06 Table 6.9: SCH_DONE, 32 bits. Reset 0. -/
  done : W32 := 0
  /-- 06 Table 6.9: SCH_FULL, 32 bits. Reset 0. -/
  full : W32 := 0
  /-- 06 Table 6.9: LAW_DEADLINE_MISS, 32 bits. Reset 0. -/
  miss : W32 := 0
  /-- 06 Table 6.9: SCH_AFFINE, 32 bits. Reset 0. -/
  affine : W32 := 0
  /-- 06 Table 6.9: SCH_WAITED, 32 bits. Reset 0. -/
  waited : W32 := 0
  /-- 06 R170: affinity entries, 32 x object + lead layout to engine. Reset empty. -/
  aff : Tbl (Option Nat) := []
  /-- 06 R171: trace ring, 2,048 entries. Reset 0. -/
  trace : Tbl TraceEnt := []
  /-- 06 Table 6.9: SCH_TRACE_WR [10:0]. Reset 0. -/
  traceWr : Nat := 0
  /-- 06 Table 6.9: WRAPPED. Reset 0. -/
  traceWrapped : Bool := false
  /-- 06 R171: the ring has stopped. Reset 0. -/
  traceStop : Bool := false
  /-- 06 Table 6.1: bindings of layouts 0 to 31. Reset as Bind. -/
  bind : Tbl Bind := []
  /-- 06 R176: loaded programs, by LAW_ID. Reset none. -/
  prog : Tbl (Option Prog) := []
  /-- 06 R97, R98: law gain of the current period of each path (512 x object + output). Reset 0. -/
  gNew : Tbl Int := []
  /-- 06 R98: law gain of the period before. Reset 0. -/
  gPrev : Tbl Int := []
  /-- 06 R98: results of the period not yet begun: path to gain, with the period's block. Reset none. -/
  result : Tbl (Option (Nat × Int)) := []
  /-- 06 R99: for each object and lead layout, the outcome of the period in force: block j, and 0 no job, 1 missed,
  2 done, 3 issued. Reset none. -/
  period : Tbl (Option (Nat × Nat)) := []
  /-- 06 R97: jobs issued for the period still to begin, per object and lead layout: block j and outcome as above.
  Reset none. -/
  periodN : Tbl (Option (Nat × Nat)) := []
  deriving DecidableEq, Repr

/-! ## Render fabric (07) -/

/-- 07 Table 7.9: STATE of a physical lane. -/
inductive LaneSt where
  | idle | working | testing | replanning | retired
  deriving DecidableEq, Repr

/-- 07 Table 7.3: a path entry. -/
structure PathE where
  /-- 07 Table 7.3: G0, Q4.28. Reset 0. -/
  g0 : Int := 0
  /-- 07 Table 7.3: G1, Q4.28. Reset 0. -/
  g1 : Int := 0
  /-- 07 Table 7.3: D0, Q16.16. Reset 0. -/
  d0 : Nat := 0
  /-- 07 Table 7.3: DMID, Q16.16. Reset 0. -/
  dmid : Nat := 0
  /-- 07 Table 7.3: D1, Q16.16. Reset 0. -/
  d1 : Nat := 0
  /-- 07 Table 7.3: G1_NEXT, Q4.28. Reset 0. -/
  g1n : Int := 0
  /-- 07 Table 7.3: DMID_NEXT, Q16.16. Reset 0. -/
  dmidn : Nat := 0
  /-- 07 Table 7.3: D1_NEXT, Q16.16. Reset 0. -/
  d1n : Nat := 0
  deriving DecidableEq, Repr

/-- 07 Table 7.7: one physical lane. -/
structure Lane where
  /-- 07 Table 7.9: STATE, 3 bits. Reset WORKING (0 to 63), IDLE (64 to 67). -/
  st : LaneSt := .working
  /-- 07 Table 7.9: LOGICAL, 7 bits. Reset p, none for 64 to 67. -/
  logical : Option Nat := none
  /-- 07 Table 7.9: OWN_DELAY. Reset 0. -/
  ownDelay : Bool := false
  /-- 07 Table 7.9: OWN_PATH. Reset 0. -/
  ownPath : Bool := false
  /-- 07 Table 7.9: DELAY_MEM_BAD. Reset 0. -/
  delayBad : Bool := false
  /-- 07 Table 7.9: PATH_MEM_BAD. Reset 0. -/
  pathBad : Bool := false
  /-- 07 Table 7.7: planned clock in MHz, 12 bits. Reset 1,100. -/
  clock : Nat := 1100
  /-- 07 Table 7.7: spread code, 2 bits. Reset 2. -/
  spread : Nat := 2
  /-- 07 R200: REDO, 32 bits. Reset 0. -/
  redo : W32 := 0
  /-- 07 Table 7.7: LATE, 32 bits. Reset 0. -/
  late : W32 := 0
  /-- 07 R200: BUDGET_OVER, 32 bits. Reset 0. -/
  budgetOver : W32 := 0
  /-- 07 R201: ECC_CORR, 32 bits. Reset 0. -/
  eccCorr : W32 := 0
  /-- 07 R201: ECC_UNCORR, 32 bits. Reset 0. -/
  eccUncorr : W32 := 0
  /-- 01 Table 1.7: the lane is late for the block in render. Reset 0. -/
  lateNow : Bool := false
  /-- 07 R205: after a retirement, the logical lane it served and the last block it hands over. Reset none. -/
  lastBlk : Option (Nat × Nat) := none
  /-- 17 R434: words with an uncorrectable error rewritten: memory (0 delay, 1 path), address, time in 2^-40 ns. Reset none. -/
  bad : List (Nat × Nat × Nat) := []
  deriving DecidableEq, Repr

/-- 07 R204, R206: the migration in progress. -/
structure Migration where
  /-- 07 R204: logical lane L. -/
  logical : Nat
  /-- 07 Table 7.7: new physical lane. -/
  new : Nat
  /-- 07 Table 7.7: old physical lane. -/
  old : Nat
  /-- 17 R448: a firmware re-plan of the old lane (1 out to a reserve, 2 back home), 0 otherwise. -/
  replan : Nat
  /-- 07 R204: takeover block B once fixed. -/
  block : Option Nat
  /-- 07 Table 7.6: the lane switch has moved. -/
  done : Bool
  deriving DecidableEq, Repr

/-- 07: the render fabric. -/
structure Rnd where
  /-- 07 Table 7.8: SCRUB_EN. Reset 1. -/
  scrub : Bool := true
  /-- 07 Table 7.8: CHECK_EN. Reset 1. -/
  check : Bool := true
  /-- 07 Table 7.7: BUSY. Reset 0. -/
  busy : Bool := false
  /-- 07 Table 7.7: MISSED. Reset 0. -/
  missed : Bool := false
  /-- 07 Table 7.7: logical lanes shed since reset (bit 2 SHED). Reset none. -/
  shed : List Nat := []
  /-- 01 R41: logical lanes fading out by a stop rotation, with the fade-out block. Reset none. -/
  shedding : List (Nat × Nat) := []
  /-- 07 R205: attaches to make: physical lane, logical lane, and the takeover block once fixed. Reset none. -/
  attachAt : List (Nat × Nat × Option Nat) := []
  /-- 07 R206: the migration in progress. Reset none. -/
  mig : Option Migration := none
  /-- 07 R193: RND_DCLAMP, 32 bits. Reset 0. -/
  dclamp : W32 := 0
  /-- 07 R196: RND_INTERP_SAT, 32 bits. Reset 0. -/
  isat : W32 := 0
  /-- 07 R201: RND_PATH_UNCORR, 32 bits. Reset 0. -/
  pathUncorr : W32 := 0
  /-- 07 Table 7.7: RND_MIGRATIONS, 32 bits. Reset 0. -/
  migrations : W32 := 0
  /-- 07 R206: RND_MIG_DEFERRED, 32 bits. Reset 0. -/
  migDeferred : W32 := 0
  /-- 07 R183: physical lanes 0 to 67. Reset as Lane. -/
  lane : Tbl Lane := []
  /-- 07 R184: lane map, slot 16L + t to object, 0xFFFF empty, where it differs from Table 7.1. Reset Table 7.1. -/
  map : Tbl Nat := []
  /-- 07 R189: path entries, 512 x (16L + t) + s. Reset 0. -/
  path : Tbl PathE := []
  /-- 07 R210: block of the last rotation. Reset none. -/
  block : Option Nat := none
  /-- 07 R201: entries and slots to be given a cold rotation at the next boundary: entry index. Reset none. -/
  cold : List Nat := []
  /-- 16 R425: every entry takes a cold rotation at the next boundary. Reset 0. -/
  coldAll : Bool := false
  /-- 07 R201: entries whose term is zero in the block in render. Reset none. -/
  mute : List Nat := []
  /-- 07 R186: delay line of each slot 16L + t, newest sample first, 32 bits each. Reset 0. -/
  line : Tbl (List Int) := []
  /-- 18 R460: first of the free words the path memory reads as after a DOZE, which does not retain it, until RENDER next
  starts. Reset none. -/
  pathFree : Option Nat := none
  deriving DecidableEq, Repr

/-! ## Room correction (08) -/

/-- 08 Table 8.6: the state of a coefficient bank. -/
inductive BankSt where
  | empty | loading | incomplete | ready
  deriving DecidableEq, Repr

/-- 08 R225: one coefficient bank of an output. -/
structure Bank where
  /-- 08 Table 8.6: state, 2 bits. Reset EMPTY. -/
  st : BankSt := .empty
  /-- 08 R212: TAPS, 16 bits. Reset 1. -/
  taps : Nat := 1
  /-- 08 R212: taps other than zero, Q2.30; an EMPTY bank acts as the unit filter. Reset none. -/
  h : Tbl Int := []
  /-- 08 R227: taps announced by BEGIN. Reset 0. -/
  want : Nat := 0
  /-- 08 R227: NEXT. Reset 0. -/
  next : Nat := 0
  /-- 08 R227: CRC of the bank's taps as announced. Reset 0. -/
  crc : Nat := 0
  /-- 08 R229: PREEQ of the BEGIN, 0xFF none. Reset 0xFF. -/
  preeq : Nat := 255
  /-- 08 R228: warm block W. Reset 0. -/
  warm : Nat := 0
  /-- 08 R236: the bank's tier-2 spectra in DRAM are lost. Reset 0. -/
  t2Lost : Bool := false
  /-- 08 R224: words that read zero after a double-bit error: tier, partition, word. Reset none. -/
  dead : List (Nat × Nat × Nat) := []
  /-- 08 R227: the commit has been validated and the spectra are being computed; TRUNCATED. Reset none. -/
  committing : Option Nat := none
  deriving DecidableEq, Repr

/-- 08 R230, R231: a bank switch queued for a block. -/
structure Swap where
  bank : Nat
  block : Nat
  fade : Nat
  deriving DecidableEq, Repr

/-- 08: one output's room correction. -/
structure CnvOut where
  /-- 08 R225: selected bank, the bank fading in during a fade. Reset 0 (A). -/
  sel : Nat := 0
  /-- 08 R232: the running fade: first block j and ticks F. Reset none. -/
  fade : Option (Nat × Nat) := none
  /-- 08 R231: the queued request. Reset none. -/
  queued : Option Swap := none
  /-- 08 R225: bank A. Reset as Bank. -/
  a : Bank := {}
  /-- 08 R225: bank B. Reset as Bank. -/
  b : Bank := {}
  /-- 08 R234: DEGRADED. Reset 0. -/
  degraded : Bool := false
  /-- 08 R214 to R216: z of the output, newest first, 36 bits each, back to the oldest sample of the T2 history; the stored history
  spectra are those of its frames. Reset 0. -/
  z : List Int := []
  /-- 08 R224: words of T1 history spectra that read zero: frame g and word. Reset none. -/
  deadH : List (Nat × Nat) := []
  /-- 08 R216: tier-1 frame results per bank for the frame in output, 128 values each. Reset 0. -/
  y1 : Tbl (List Int) := []
  /-- 08 R216: tier-2 frame results per bank, 1,024 values each. Reset 0. -/
  y2 : Tbl (List Int) := []
  /-- 08 R220: the tier-2 frame that missed its deadline last. Reset none. -/
  t2Late : Option Nat := none
  deriving DecidableEq, Repr

/-- 08: the convolution engine. -/
structure Cnv where
  /-- 08 Table 8.10: T2_EN. Reset 1. -/
  t2En : Bool := true
  /-- 08 Table 8.10: T2_BASE, 16 bits. Reset 0. -/
  t2Base : Nat := 0
  /-- 08 R236: verification in progress. Reset 0. -/
  verifying : Bool := false
  /-- 08 R233: tier 2 in service. Reset 0. -/
  t2In : Bool := false
  /-- 08 R234: tier 2 was out of service in the window in progress. Reset 1. -/
  t2Bad : Bool := true
  /-- 08 R234: the tier-2 frame in output is complete as far as service goes. Reset 0. -/
  frameOk : Bool := false
  /-- 08 R237: service has returned and no frame has been stored since. Reset 0. -/
  t2Wait : Bool := false
  /-- 08 R237: first tier-2 frame stored since service returned, until the frame that fades in has passed. Reset none. -/
  t2From : Option Nat := none
  /-- 08 Table 8.9: the counters 0x010 to 0x02C in offset order, 32 bits each. Reset 0. -/
  ctr : Tbl W32 := []
  /-- 08: outputs 0 to 511. Reset as CnvOut. -/
  out : Tbl CnvOut := []
  /-- 08 R229: pre-equalisation tables 0 to 7. Reset the single tap 1.0. -/
  preeq : Tbl (List Int) := []
  /-- 08 R239: output sample index at which CNV last started. Reset 0. -/
  startN : Nat := 0
  deriving DecidableEq, Repr

/-! ## Output stage (09) -/

/-- 01 R32: a live setting in force up to a block and the one from that block on. -/
structure Live (α : Type) where
  /-- 01 R32: the value in force before block `at`. -/
  cur : α
  /-- 01 R32: the value from block `at` on. -/
  nxt : α
  /-- 01 R32: the first block of `nxt`. -/
  at_ : Nat
  deriving DecidableEq, Repr

/-- 09: one output. -/
structure OutCh where
  /-- 09 R242: POLARITY. Reset 0. -/
  polarity : Bool := false
  /-- 09 R244: LIM_EN. Reset 0. -/
  limEn : Bool := false
  /-- 09 R247: PILOT_EN. Reset 0. -/
  pilotEn : Bool := false
  /-- 09 R251: DITHER, 2 bits. Reset 1. -/
  dither : Nat := 1
  /-- 09 R251: WIDTH, 6 bits. Reset 24. -/
  width : Nat := 24
  /-- 09 R243: TRIM_DELAY, 13 bits. Reset 0. -/
  delay : Nat := 0
  /-- 09 R244: CEIL, Q1.31. Reset 0x7FFF_FFFF. -/
  ceil : Nat := 0x7FFFFFFF
  /-- 09 R244: RELEASE. Reset 0x0000_8000. -/
  release : Nat := 0x8000
  /-- 09 R247: PILOT_FREQ, Q16.16 Hz. Reset 0. -/
  pfreq : Nat := 0
  /-- 09 R247: PILOT_AMP, Q1.31. Reset 0. -/
  pamp : Nat := 0
  /-- 09 R251: SEED, 64 bits, where it differs from its reset value s x 2^32. Reset none. -/
  seed : Option Nat := none
  /-- 09 R242: trim gain, Q4.28, live. Reset 1.0. -/
  trim : Live Int := ⟨0x10000000, 0x10000000, 0⟩
  /-- 09 R242: the trim gain in force for the last block processed. Reset 1.0. -/
  trimWas : Int := 0x10000000
  /-- 09 R248: mute target (true muted) and k, live. Reset unmuted, 0. -/
  mute : Live (Bool × Nat) := ⟨(false, 0), (false, 0), 0⟩
  /-- 09 R248: mute factor M, 25 bits. Reset 2^24. -/
  m : Nat := 0x1000000
  /-- 09 R249: the block over which a retirement ramps M to 0. Reset none. -/
  retBlk : Option Nat := none
  /-- 09 R243: trim-delay history, newest first, 36 bits each. Reset 0. -/
  hist : List Int := []
  /-- 09 R244: g_prev. Reset 2^31. -/
  gPrev : Nat := 0x80000000
  /-- 09 R251: e1. Reset 0. -/
  e1 : Int := 0
  /-- 09 R251: e2. Reset 0. -/
  e2 : Int := 0
  /-- 09 R257: meter N in ticks, 16 bits. Reset 600. -/
  mN : Nat := 600
  /-- 09 R257: meter TAP, 2 bits. Reset 2. -/
  mTap : Nat := 2
  /-- 09 R257: first block at which a window may begin after a configuration. Reset 0. -/
  mFrom : Nat := 0
  /-- 09 R257: start block of the window in progress. Reset none. -/
  mStart : Option Nat := none
  /-- 09 R257: greatest |x| of the window, in units of 2^-31. Reset 0. -/
  mMax : Nat := 0
  /-- 09 R257: sum of x^2 of the window. Reset 0. -/
  mSum : Nat := 0
  /-- 09 R257: blocks of the window in which the output was live throughout. Reset 0. -/
  mCnt : Nat := 0
  /-- 09 R257: least g of the window. Reset 2^31. -/
  mGain : Nat := 0x80000000
  /-- 09 R257: start block of the window last reported, 64 bits. Reset 0. -/
  mBlock : Nat := 0
  /-- 09 R257: PEAK, Q8.8 dB. Reset 0x8000. -/
  peak : Int := -32768
  /-- 09 R257: RMS, Q8.8 dB. Reset 0x8000. -/
  rms : Int := -32768
  /-- 09 R257: GR, 16 bits. Reset 0. -/
  gr : Nat := 0
  /-- 09 R257: VALID. Reset 0. -/
  valid : Bool := false
  /-- 09 Table 9.2: OUT_sCLIP, 32 bits. Reset 0. -/
  clip : W32 := 0
  /-- 09 Table 9.2: OUT_sLIMITED, 32 bits. Reset 0. -/
  limited : W32 := 0
  /-- 09: stage 8 words of the block last handed over (the tap of R119). Reset none. -/
  tap : List Int := []
  /-- 09: stage 10 words of the block last handed over. Reset none. -/
  word : List Int := []
  deriving DecidableEq, Repr

/-- 09 R255: one guarded-output slot. -/
structure Guard where
  /-- 09 Table 9.2: OUTPUT, 9 bits. Reset 0. -/
  out : Nat := 0
  /-- 09 Table 9.2: ENABLE. Reset 0. -/
  en : Bool := false
  /-- 09 R255: block m of the CRC, 64 bits. Reset 0. -/
  block : Nat := 0
  /-- 09 R255: CRC-32. Reset 0. -/
  crc : W32 := 0
  deriving DecidableEq, Repr

/-- 09: the output stage. -/
structure Out where
  /-- 09: outputs 0 to 511. Reset as OutCh. -/
  ch : Tbl OutCh := []
  /-- 09 R255: slots GS0 to GS31. Reset disabled. -/
  gs : Tbl Guard := []
  /-- 09 R253: sources of TX channels, 64 x stream + channel. Reset 0xFFFF. -/
  tx : Tbl Nat := []
  /-- 09 R253: sources of TDM slots, 32 x lane + slot. Reset 0xFFFF. -/
  tdm : Tbl Nat := []
  /-- 09 R253: sources of MADI channels, 64 x port + channel. Reset 0xFFFF. -/
  madi : Tbl Nat := []
  /-- 09 R255: last block handed over. Reset none. -/
  block : Option Nat := none
  /-- 09 R253: destination words of the block handed over, of TDM slots and MADI channels: kind x 2^20 + channel key. Reset none. -/
  dest : Tbl (List Int) := []
  /-- 01 R26: those of the block being emitted, as they leave. Reset none. -/
  emit : Tbl (List Int) := []
  deriving DecidableEq, Repr

/-! ## Ethernet ports (10) -/

/-- 10 Table 10.4: a transmit time-stamp entry. -/
structure TsEnt where
  /-- 10 Table 10.4: time in 2^-16 ns. -/
  time : Nat
  msg : Nat
  domain : Nat
  seq : Nat
  deriving DecidableEq, Repr

/-- 10 R275: a wake-pattern filter. -/
structure WakeF where
  /-- 10 R275: MASK, 128 bits. Reset 0. -/
  mask : Nat := 0
  /-- 10 R275: OFFSET, 14 bits. Reset 0. -/
  offset : Nat := 0
  /-- 10 R275: CHECK, 16 bits. Reset 0. -/
  check : Nat := 0
  /-- 10 R275: DEST. Reset 0. -/
  dest : Bool := false
  deriving DecidableEq, Repr

/-- 10: one Ethernet port. -/
structure Port where
  /-- 10 Table 10.8: MODE, 3 bits. Reset 0. -/
  mode : Nat := 0
  /-- 10 Table 10.8: AN_EN. Reset 1. -/
  an : Bool := true
  /-- 10 Table 10.7: TAGGED. Reset 0. -/
  tagged : Bool := false
  /-- 10 Table 10.7: ACCEPT_UNTAGGED. Reset 0. -/
  acceptUnt : Bool := false
  /-- 10 Table 10.7: VID, 12 bits. Reset 0. -/
  vid : Nat := 0
  /-- 10 Table 10.7: PCP of Q0. Reset 6. -/
  pcp0 : Nat := 6
  /-- 10 Table 10.7: PCP of Q1. Reset 5. -/
  pcp1 : Nat := 5
  /-- 10 Table 10.7: PCP of Q2. Reset 0. -/
  pcp2 : Nat := 0
  /-- 10 Table 10.7: MAXFRM, 14 bits. Reset 1,522. -/
  maxfrm : Nat := 1522
  /-- 10 R262: MAC address, 6 octets, where it is not the factory address. Reset factory. -/
  mac : Option Nat := none
  /-- 10 Table 10.7: IPv4 address. Reset 0. -/
  ipv4 : W32 := 0
  /-- 10 Table 10.7: prefix length, 6 bits (NET_IPV4_PREFIX). Reset 0. -/
  plen : Nat := 0
  /-- 10 Table 10.7: NET_GATEWAY. Reset 0. -/
  gateway : W32 := 0
  /-- 10 Table 10.7: NET_FCS_LIMIT. Reset 100. -/
  fcsLimit : W32 := 100
  /-- 10 Table 10.7: EXPRESS, 3 bits. Reset 0b011. -/
  express : Nat := 3
  /-- 10 Table 10.7: ADD_FRAG, 2 bits. Reset 0. -/
  addFrag : Nat := 0
  /-- 10 Table 10.7: preemption ENABLE. Reset 0. -/
  preEn : Bool := false
  /-- 10 Table 10.7: VERIFY_DIS. Reset 0. -/
  verifyDis : Bool := false
  /-- 10 Table 10.7: NET_PREEMPT_STATUS [1:0]. Reset 0. -/
  preSt : Nat := 0
  /-- 10 Table 10.7: ADD_FRAG in use, 2 bits. Reset 0. -/
  fragUse : Nat := 0
  /-- 10 Table 10.7: partner addFragSize, 2 bits. Reset 0. -/
  fragPartner : Nat := 0
  /-- 10 Table 10.9: LINK. Reset 0. -/
  link : Bool := false
  /-- 10 Table 10.9: SIGNAL. Reset 0. -/
  signal : Bool := false
  /-- 10 Table 10.9: AN_DONE. Reset 0. -/
  anDone : Bool := false
  /-- 10 Table 10.9: LINK_CHANGED. Reset 0. -/
  linkChg : Bool := false
  /-- 10 R274: TS_LOST_FLAG. Reset 0. -/
  tsLost : Bool := false
  /-- 10 R274: TS_LOST_OVR. Reset 0. -/
  tsOvr : Bool := false
  /-- 10 R280: the link has been up since the last start. Reset 0. -/
  wasUp : Bool := false
  /-- 10 Table 10.7: instant the link was last lost, 2^-40 ns, for NET_LINK_DOWN_MS. Reset none. -/
  downAt : Option Nat := none
  /-- 10 R277: the 40 counters, 40 bits each. Reset 0. -/
  ctr : Tbl (BitVec 40) := []
  /-- 10 R279: their shadows. Reset 0. -/
  shd : Tbl (BitVec 40) := []
  /-- 10 R278: NET_CTR_HALF, 40 bits. Reset 0. -/
  half : BitVec 40 := 0
  /-- 10 R273: transmit time-stamp FIFO, at most 64 entries. Reset empty. -/
  tsf : List TsEnt := []
  /-- 10 R274: NET_TS_LOST_ID0 to ID3, 16 bytes. Reset 0. -/
  lostId : Bytes := []
  /-- 10 R275: wake filters 0 to 7. Reset 0. -/
  wf : Tbl WakeF := []
  /-- 10 R280: FCS_ERR and CODE_ERR in the current second. Reset 0. -/
  errSec : Nat := 0
  /-- 10 R280: tick of the last RX_OVERRUN strike. Reset none. -/
  overTick : Option Nat := none
  /-- 10 R271: the preemptable frame being sent: data octets left from the start of its current fragment, and whether it
  has been interrupted. Reset none. -/
  sending : Option (Nat × Bool) := none
  /-- 10 R269: the last frame sent, before FCS. Reset empty. -/
  sent : Bytes := []
  /-- 10 R269: the last frame handed to the port was refused with TX_REJECT. Reset 0. -/
  reject : Bool := false
  /-- 10 R267: the last frame delivered, its consumer of Table 10.3 and receive time-stamp. Reset none. -/
  taken : Option (Nat × Bytes × Int) := none
  deriving DecidableEq, Repr

/-- 10: the Ethernet block. -/
structure Net where
  /-- 10: ports ETH0 to ETH15. Reset as Port. -/
  port : Tbl Port := []
  /-- 10 R276: wake port, 0x1F none. Reset 0x1F. -/
  wakePort : Nat := 31
  /-- 10 R276: LINK_WAKE. Reset 0. -/
  linkWake : Bool := false
  deriving DecidableEq, Repr

/-! ## Streams and serial ports (11) -/

/-- 11 Table 11.12: one leg of a receive stream. -/
structure RxLeg where
  /-- 11 Table 11.12: PORT, 0xFF off. DESIGN CHOICE 0xFF. -/
  port : Nat := 255
  dstUdp : Nat := 0
  dstIp : Nat := 0
  srcIp : Nat := 0
  deriving DecidableEq, Repr

/-- 11: one receive stream. Settings reset to both legs off and zeros, CHANNELS 1 (DESIGN CHOICE). -/
structure RxStr where
  /-- 11 Table 11.12: PAYLOAD. DESIGN CHOICE 0. -/
  payload : Nat := 0
  /-- 11 Table 11.1: RATE. DESIGN CHOICE 0. -/
  rate : Nat := 0
  /-- 11 Table 11.3: PTIME. DESIGN CHOICE 0. -/
  ptime : Nat := 0
  /-- 11 Table 11.12: CHANNELS. DESIGN CHOICE 1. -/
  chans : Nat := 1
  /-- 11 R295: TIMING. DESIGN CHOICE 0. -/
  timing : Nat := 0
  /-- 11 R293: CONCEAL. DESIGN CHOICE 0. -/
  conceal : Nat := 0
  /-- 11 R290: PT, 0 any. DESIGN CHOICE 0. -/
  pt : Nat := 0
  /-- 11 R291: LINK_OFFSET. DESIGN CHOICE 0. -/
  link : Nat := 0
  /-- 11 R291: TS_OFFSET, 32 bits. DESIGN CHOICE 0. -/
  tsOff : Nat := 0
  /-- 11 R290: leg A. -/
  legA : RxLeg := {}
  /-- 11 R290: leg B. -/
  legB : RxLeg := {}
  /-- 11 R292: words drawn from the pool. Reset 0. -/
  pool : Nat := 0
  /-- 11 Table 11.9: last SSRC. Reset 0. -/
  ssrc : W32 := 0
  /-- 11 R290: a packet has been received since the start. Reset 0. -/
  seen : Bool := false
  /-- 11 Table 11.9: arrivals of the last second that MARGIN may report, oldest first, each with its margin, 2^-16 ns. Reset none. -/
  margins : List (Nat × Int) := []
  /-- 11 R292: extended sequence numbers received within the last 32,768. Reset none. -/
  seqs : List Nat := []
  /-- 11 R292: highest extended sequence number received on leg A, B. Reset none. -/
  topA : Option Nat := none
  topB : Option Nat := none
  /-- 11 Table 11.9: instants of the last packets on legs A and B, 2^-40 ns. Reset none. -/
  lastA : Option Nat := none
  lastB : Option Nat := none
  /-- 11 R292: jitter buffer: sample index to the channels' samples. Reset empty. -/
  buf : Tbl (List Int) := []
  /-- 11 R293: each channel's last received sample. Reset 0. -/
  last : List Int := []
  /-- 11 R293: missing samples so far in the gap; Table 11.9: CONCEALING. Reset 0. -/
  gap : Nat := 0
  /-- 11 R293: received samples since the gap, 16 when past it. Reset 16. -/
  after : Nat := 16
  /-- 11 R289: for each channel of an AM824 stream, the place of its next sample in the channel-status block (192 before the first
  block start), and whether its block marks non-PCM data. Reset none. -/
  cs : List (Nat × Bool) := []
  /-- 11 R295: samples waiting for the ASRC group, oldest first. Reset empty. -/
  async : List (List Int) := []
  /-- 11 Table 11.8: counters 0 to 11, 32 bits. Reset 0. -/
  ctr : Tbl W32 := []
  /-- 11 R311: shadows. Reset 0. -/
  shd : Tbl W32 := []
  deriving DecidableEq, Repr

/-- 11 Table 11.13: one leg of a transmit stream. -/
structure TxLeg where
  /-- 11 Table 11.13: PORT, 0xFF off. DESIGN CHOICE 0xFF. -/
  port : Nat := 255
  dstUdp : Nat := 0
  srcUdp : Nat := 0
  dstIp : Nat := 0
  /-- 11 Table 11.13: DST_MAC, six octets. -/
  dstMac : Nat := 0
  deriving DecidableEq, Repr

/-- 11: one transmit stream. -/
structure TxStr where
  /-- 11 Table 11.13: FORMAT. DESIGN CHOICE 0. -/
  format : Nat := 0
  /-- 11 Table 11.1: RATE. DESIGN CHOICE 0. -/
  rate : Nat := 0
  /-- 11 Table 11.3: PTIME. DESIGN CHOICE 0. -/
  ptime : Nat := 0
  /-- 11 Table 11.13: CHANNELS. DESIGN CHOICE 1. -/
  chans : Nat := 1
  /-- 11 Table 11.13: DSCP. Reset 34. -/
  dscp : Nat := 34
  /-- 11 Table 11.13: TTL. Reset 64. -/
  ttl : Nat := 64
  /-- 11 Table 11.13: PT. DESIGN CHOICE 96. -/
  pt : Nat := 96
  /-- 11 R297: SSRC. DESIGN CHOICE 0. -/
  ssrc : Nat := 0
  /-- 11 R297: SEQ_BASE, 16 bits. DESIGN CHOICE 0. -/
  seqBase : Nat := 0
  /-- 11 R297: TS_OFFSET, 32 bits. DESIGN CHOICE 0. -/
  tsOff : Nat := 0
  /-- 11 R299: leg A. -/
  legA : TxLeg := {}
  /-- 11 R299: leg B. -/
  legB : TxLeg := {}
  /-- 11 R297: next packet index p once started. Reset none. -/
  nextP : Option Nat := none
  /-- 11 R297, 16 R422: destination words of each channel by sample index, back to 17 blocks. Reset empty. -/
  fifo : Tbl (List Int) := []
  /-- 11 Table 11.8: counters 0 to 3, 32 bits. Reset 0. -/
  ctr : Tbl W32 := []
  /-- 11 R311: shadows. Reset 0. -/
  shd : Tbl W32 := []
  deriving DecidableEq, Repr

/-- 11: the stream engine. -/
structure Str where
  /-- 11: RX0 to RX255. Reset as RxStr. -/
  rx : Tbl RxStr := []
  /-- 11: TX0 to TX255. Reset as TxStr. -/
  tx : Tbl TxStr := []
  /-- 11 R284: input map: channel to KIND, ID, CHAN. Reset empty. -/
  inmap : Tbl (Nat × Nat × Nat) := []
  deriving DecidableEq, Repr

/-- 11 R302: one TDM cluster. -/
structure Tdm where
  /-- 11 Table 11.14: ROLE. DESIGN CHOICE 0. -/
  role : Nat := 0
  /-- 11 Table 11.1: RATE. DESIGN CHOICE 3. -/
  rate : Nat := 3
  /-- 11 Table 11.14: SLOTS. DESIGN CHOICE 2. -/
  slots : Nat := 2
  /-- 11 Table 11.14: SLOT_BITS. DESIGN CHOICE 32. -/
  slotBits : Nat := 32
  /-- 11 Table 11.14: WORD_BITS. DESIGN CHOICE 32. -/
  wordBits : Nat := 32
  /-- 11 Table 11.14: FLAGS [4:0]. DESIGN CHOICE 0. -/
  flags : Nat := 0
  /-- 11 Table 11.14: LANE_DIR, 4 bits. DESIGN CHOICE 0. -/
  dir : Nat := 0
  /-- 11 Table 11.14: LAG, signed. DESIGN CHOICE 0. -/
  lag : Int := 0
  /-- 11 Table 11.10: CLK_PRESENT. Reset 0. -/
  clk : Bool := false
  /-- 11 R310: clocks have been present since the last start. Reset 0. -/
  wasClk : Bool := false
  /-- 11 R305: frames still to arrive after a clock loss. Reset 0. -/
  mute : Nat := 0
  /-- 11 R305: number of the last frame served. Reset none. -/
  lastK : Option Int := none
  /-- 11 Table 11.10: PHASE, 2^-16 frame. Reset 0. -/
  phase : Int := 0
  /-- 11 R304: input words received: frame number to words of lane x 32 + slot. Reset none. -/
  frames : Tbl (List Int) := []
  /-- 11 R305: words a follower last drove on its output slots, lane x 32 + slot. Reset none. -/
  outF : List Int := []
  /-- 11 R305: asynchronous frames waiting for the ASRC group. Reset none. -/
  async : List (List Int) := []
  /-- 11 Table 11.8: counters 0 to 2, 32 bits. Reset 0. -/
  ctr : Tbl W32 := []
  /-- 11 R311: shadows. Reset 0. -/
  shd : Tbl W32 := []
  deriving DecidableEq, Repr

/-- 11 R307: one MADI port. -/
structure Madi where
  /-- 11 Table 11.6: MODE. DESIGN CHOICE 0. -/
  mode : Nat := 0
  /-- 11 Table 11.1: RATE. DESIGN CHOICE 1. -/
  rate : Nat := 1
  /-- 11 R308: ROLE. DESIGN CHOICE 0. -/
  role : Nat := 0
  /-- 11 Table 11.15: LAG. DESIGN CHOICE 0. -/
  lag : Int := 0
  /-- 11 Table 11.15: TX_EN. DESIGN CHOICE 0. -/
  txEn : Bool := false
  /-- 11 Table 11.15: RX_EN. DESIGN CHOICE 0. -/
  rxEn : Bool := false
  /-- 11 Table 11.10: SIGNAL. Reset 0. -/
  signal : Bool := false
  /-- 11 R310: signal has been present since the last start. Reset 0. -/
  wasSig : Bool := false
  /-- 11 Table 11.10: LOCK. Reset 0. -/
  lock : Bool := false
  /-- 11 R308: good frames still to arrive after a sync loss. Reset 0. -/
  mute : Nat := 0
  /-- 11 R308: number of the last frame served. Reset none. -/
  lastK : Option Int := none
  /-- 11 Table 11.10: PHASE. Reset 0. -/
  phase : Int := 0
  /-- 11 R308: input words received: frame number to subframe words. Reset none. -/
  frames : Tbl (List Int) := []
  /-- 11 R308: asynchronous frames waiting for the ASRC group. Reset none. -/
  async : List (List Int) := []
  /-- 11 Table 11.8: counters 0 to 3, 32 bits. Reset 0. -/
  ctr : Tbl W32 := []
  /-- 11 R311: shadows. Reset 0. -/
  shd : Tbl W32 := []
  deriving DecidableEq, Repr

/-- 11: the serial audio ports. -/
structure Sap where
  /-- 11: TC0 to TC9. Reset as Tdm. -/
  tc : Tbl Tdm := []
  /-- 11: MADI0 to MADI7. Reset as Madi. -/
  madi : Tbl Madi := []
  deriving DecidableEq, Repr

/-! ## Scratch banks, dual-port memories, Bight windows (12) -/

/-- 12 R314: who owns a scratch bank. -/
inductive Owner where
  | none | cp | law
  deriving DecidableEq, Repr

/-- 12: one scratch bank. -/
structure SBank where
  /-- 12 Table 12.3: OWNER, 2 bits. Reset CP. -/
  owner : Owner := .cp
  /-- 12 Table 12.3: PENDING, with the owner to come. Reset none. -/
  pending : Option Owner := none
  /-- 12 R323: FAULTY. Reset 0. -/
  faulty : Bool := false
  /-- 12 R318: RETAIN_LOST. Reset 0. -/
  lost : Bool := false
  /-- 12 R316: NOT_OWNER. Reset 0. -/
  notOwner : Bool := false
  /-- 12 R314: names the last power-up of the bank, 0 a reset; a word not written since a power-up holds a free value that depends on
  it, and 0 since a reset (18 R466). Reset 0. -/
  gen : Nat := 0
  /-- 12 R313: words written since the power-up, by word index, 65,536 words of 32 bits. Reset none. -/
  words : Tbl (Option W32) := []
  deriving DecidableEq, Repr

/-- 12: the scratch-bank, dual-port and window registers. -/
structure Scb where
  /-- 12 Table 12.2: TEST_EN. Reset 1. -/
  testEn : Bool := true
  /-- 12 Table 12.2: bank under test, 4 bits. Reset 0. -/
  tBank : Nat := 0
  /-- 12 Table 12.2: TEST_ACTIVE. Reset 0. -/
  tActive : Bool := false
  /-- 12 Table 12.2: phase, 2 bits. Reset 0. -/
  tPhase : Nat := 0
  /-- 12 Table 12.2: stripe, 11 bits. Reset 0. -/
  tStripe : Nat := 0
  /-- 12 Table 12.2: SCB_TEST_MASK, 16 bits. Reset 0xFFFF. -/
  mask : Nat := 0xFFFF
  /-- 12 R322: SCB_TEST_YIELDS, 32 bits. Reset 0. -/
  yields : W32 := 0
  /-- 12 R321: SCB_TEST_PASSES, 32 bits. Reset 0. -/
  passes : W32 := 0
  /-- 12 R323: SCB_TEST_FAILS, 32 bits. Reset 0. -/
  fails : W32 := 0
  /-- 12 R323: SCB_TEST_FAIL_ADDR, 22 bits. Reset 0. -/
  failAddr : Nat := 0
  /-- 12 R313: SCB_ECC_CORR, 32 bits. Reset 0. -/
  eccCorr : W32 := 0
  /-- 12 R313: SCB_ECC_UNCORR, 32 bits. Reset 0. -/
  eccUncorr : W32 := 0
  /-- 12 R313: scratch addresses of words with a double-bit error. Reset none. -/
  dead : List Nat := []
  /-- 12: SB0 to SB15. Reset as SBank. -/
  bank : Tbl SBank := []
  /-- 12 R325: SCB_DPe_STATUS, e 0 to 7, 4 bits. Reset 0. -/
  dpStatus : Tbl Nat := []
  /-- 12 R325: SCB_DPe_ADDR. Reset 0. -/
  dpAddr : Tbl W32 := []
  /-- 12 R326: SCB_DPe_BUSY, 32 bits. Reset 0. -/
  dpBusy : Tbl W32 := []
  /-- 12 R326: SCB_DPe_WR_LOST, 32 bits. Reset 0. -/
  dpLost : Tbl W32 := []
  /-- 12 R327: BW_wBASE, 22 bits. Reset 0. -/
  bwBase : Tbl Nat := []
  /-- 12 R327: BW_wLEN, 19 bits. Reset 0. -/
  bwLen : Tbl Nat := []
  /-- 12 R329: BW_FOLD. Reset 0. -/
  bwFold : Tbl Bool := []
  /-- 12 R329: BW_wFOLDS, 32 bits. Reset 0. -/
  bwFolds : Tbl W32 := []
  deriving DecidableEq, Repr

/-! ## DRAM controller (13) -/

/-- 13 Table 13.3: the controller's condition. -/
inductive Cond where
  | off | training | inService | untrained | frozen
  deriving DecidableEq, Repr

/-- 13 R338: a request in a channel's queue. -/
structure DReq where
  /-- 13 Table 13.5: requester: 0 CNV, 1 CP, 2 DMA, 3 read-modify-write, 4 write-back. -/
  src : Nat
  write : Bool
  /-- 13 R335: DRAM address. -/
  addr : Nat
  /-- 13 R338: the bytes to be written, from `addr` on. -/
  data : Bytes
  /-- 13 R339: arrival at the queue, 2^-16 ns. -/
  at_ : Nat
  deriving DecidableEq, Repr

/-- 13 Table 13.5: the freeze record. -/
structure Freeze where
  cause : Nat := 0
  source : Nat := 0
  write : Bool := false
  training : Bool := false
  sp : Nat := 0
  loc : Nat := 0
  addr : Nat := 0
  syndrome : Nat := 0
  tick : Nat := 0
  data : Bytes := []
  check : Nat := 0
  qdepth : Nat := 0
  temp : Nat := 0
  freezes : Nat := 0
  deriving DecidableEq, Repr

/-- 13 R346: a training run in progress. -/
structure TrnRun where
  /-- 13 R346: set point under training. -/
  sp : Nat
  /-- 13 Table 13.4: phase, channel, rank of the sweep. -/
  phase : Nat
  channel : Nat
  rank : Nat
  /-- 13 R355: an ACP command awaits the end: 0 none, else its opcode. -/
  op : Nat
  deriving DecidableEq, Repr

/-- 13: the DRAM controller. -/
structure Drc where
  /-- 13 Table 13.6: SP in use, 2 bits. Reset 0. -/
  sp : Nat := 0
  /-- 13 Table 13.6: SPREAD. Reset 0. -/
  spread : Bool := false
  /-- 13 Table 13.6: DRIFT_EN. Reset 1. -/
  driftEn : Bool := true
  /-- 13 Table 13.6: RANKS (1 stands for two ranks). Reset 0. -/
  ranks2 : Bool := false
  /-- 13 Table 13.6: DENSITY, 3 bits. Reset 0. -/
  density : Nat := 0
  /-- 13 Table 13.6: DRC_CAPACITY in MiB, set by DRC_CONFIG. Reset 0. -/
  capacity : Nat := 0
  /-- 13 R339: DRC_AGE_MAX, ns. Reset 2,000. -/
  ageMax : Nat := 2000
  /-- 13 R340: DRC_IDLE_CLOSE. Reset 32. -/
  idleClose : Nat := 32
  /-- 13 R350: DQSOSC_MS, 10 bits. Reset 100. -/
  dqsosc : Nat := 100
  /-- 13 R350: DRIFT_MAX, 5 bits. Reset 16. -/
  driftMax : Nat := 16
  /-- 13 R352: FREEZE_HOLD_MS, 16 bits. Reset 5,000. -/
  hold : Nat := 5000
  /-- 13 R337: DRC_WIN, 4 bits. Reset 0. -/
  win : Nat := 0
  /-- 13 Table 13.3: COND, 3 bits. Reset OFF. -/
  cond : Cond := .off
  /-- 13 Table 13.7: OVERWRITTEN. Reset 0. -/
  overwritten : Bool := false
  /-- 13 Table 13.7: SP_TRAINED, 4 bits. Reset 0. -/
  trained : Nat := 0
  /-- 13 Table 13.7: HOT. Reset 0. -/
  hot : Bool := false
  /-- 13 R342: a temperature episode above 2x is under way. Reset 0. -/
  episode : Bool := false
  /-- 13 Table 13.7: REF_2X. Reset 0. -/
  ref2x : Bool := false
  /-- 13 R342: highest refresh requirement last read. Reset 0. -/
  temp : Nat := 0
  /-- 13 Table 13.7: TRN_BUSY. Reset none. -/
  run : Option TrnRun := none
  /-- 13 Table 13.7: TRN_DONE. Reset 0. -/
  trnDone : Bool := false
  /-- 13 R338: queues of channels 0 to 3, oldest first; requests past the 64th still wait at their requester. Reset empty. -/
  queue : Tbl (List DReq) := []
  /-- 13 Table 13.6: highest QDEPTH since last read, 9 bits, RC. Reset 0. -/
  qMax : Nat := 0
  /-- 13 R340: open row of each channel, rank and bank (64 ch + 16 rank + bank). Reset none. -/
  open_ : Tbl (Option Nat) := []
  /-- 13 R341: banks with a per-bank refresh due (64 ch + 16 rank + bank). Reset none. -/
  due : List Nat := []
  /-- 13 R341: next bank of each rank to be refreshed. Reset 0. -/
  nextBank : Tbl Nat := []
  /-- 13 R343, 18 R466: names the last time the memory's contents were lost; a byte not written since holds a free value that depends
  on it. Reset 0. -/
  gen : Nat := 0
  /-- 13 R335: DRAM contents written, by DRAM address, bytes. Reset none. -/
  mem : Tbl (Option Byte) := []
  /-- 13 R336: DRC_LAST_CORR_ADDR, 64 bits. Reset 0. -/
  lastCorr : Nat := 0
  /-- 13 Table 13.6: the eight counters 0x040 to 0x05C in offset order, 32 bits each. Reset 0. -/
  ctr : Tbl W32 := []
  /-- 13 Table 13.5: the freeze record. Reset 0. -/
  frz : Option Freeze := none
  /-- 13 R352: a freeze waits for its resume: cause. Reset none. -/
  frozenBy : Nat := 0
  /-- 13 R347: instants of the failures of the last 60 s, 2^-40 ns. Reset none. -/
  fails : List Nat := []
  /-- 13 R347: instants of the retries to come, oldest first, 2^-40 ns. Reset none. -/
  retries : List Nat := []
  /-- 13 R349: the set point a switch in progress goes to; traffic is held. Reset none. -/
  switch : Option Nat := none
  /-- 13 Table 13.6: DRC_TRN_CTRL PHASE, CHANNEL, RANK and SP, bits 8:1. Reset 0. -/
  trnCtrl : Nat := 0
  /-- 13 Table 13.6: STEP_DONE. Reset 0. -/
  stepDone : Bool := false
  /-- 13 Table 13.6: a training step is running. Reset 0. -/
  stepBusy : Bool := false
  /-- 13 Table 13.6: DRC_TRN_RESULT, 19 bits. Reset 0. -/
  trnResult : Nat := 0
  /-- 13 Table 13.6: DRC_TRN_PATTERN, 16 bits. Reset 0xA5C3. -/
  pattern : Nat := 0xA5C3
  /-- 13 Table 13.6: DRC_DLY_SEL, 13 bits. Reset 0. -/
  dlySel : Nat := 0
  /-- 13 R345: delays in taps, by DRC_DLY_SEL value, 10 bits each. Reset 0. -/
  dly : Tbl Nat := []
  /-- 13 R346: delays of the last good set, by DRC_DLY_SEL value. Reset 0. -/
  good : Tbl Nat := []
  /-- 13 R345: Vref codes, by SP, channel and rank. Reset 0. -/
  vref : Tbl W32 := []
  /-- 13 R346: Vref codes of the last good set. Reset 0. -/
  goodVref : Tbl W32 := []
  /-- 13 R350: oscillator baseline by SP, channel and rank, 16 bits. Reset 0. -/
  base : Tbl Nat := []
  /-- 13 R350: drift target of each write DQ delay still to be reached, by DRC_DLY_SEL value. Reset none. -/
  target : Tbl (Option Nat) := []
  deriving DecidableEq, Repr

/-! ## Faults met at work (07, 08) -/

/-- 08 R224: a word of CNV's on-chip memory: a T0 tap or a T1 spectrum word of bank A (false) or B, or a word of T1 history frame g;
17 Table 17.1: a trim-delay word, 0 the newest. -/
inductive CnvWord where
  | tap (bank : Bool) (k : Nat)
  | coef (bank : Bool) (q word : Nat)
  | hist (g word : Nat)
  | trim (i : Nat)
  deriving DecidableEq, Repr

/-- 07 R200, R201, 08 R224: a hardware fault a lane or CNV meets while it works on the next block. -/
inductive LaneFault where
  /-- `n` path-samples fail their residue check and are computed again -/
  | redo (p n : Nat)
  /-- a path-sample fails four times in succession -/
  | stuck (p : Nat)
  /-- a lane memory word (path memory or delay memory, word address) reads with an error -/
  | ecc (p : Nat) (path : Bool) (addr : Nat) (double : Bool)
  /-- a word of an output's CNV memory, or of its trim-delay memory, reads with an error -/
  | cnv (out : Nat) (w : CnvWord) (double : Bool)
  deriving DecidableEq, Repr

/-! ## Splice sections (16) -/

/-- 16 Table 16.6: the content of a splice section, as this model holds it (the spec gives no byte layout). -/
inductive SpliceData where
  /-- section 1: render rate code and lane map -/
  | rate (code : Nat) (map : Tbl Nat)
  /-- section 2: layouts, loudspeakers, TRJ_CONFIG and law bindings -/
  | layouts (t : Trj) (b : Tbl Bind)
  /-- section 3: customer law programs -/
  | laws (p : Tbl (Option Prog)) (code : Tbl (BitVec 64)) (x y : Tbl W32)
  /-- section 4: scratch banks owned by LAW, and Bight windows -/
  | banks (s : Scb)
  /-- section 5: filter engines, maps, phases, groups -/
  | flt (f : Flt)
  /-- section 6: streams, serial ports, input and output maps -/
  | ports (s : Str) (p : Sap) (o : Out)
  /-- section 7: output configuration, guarded slots, pre-equalisation tables -/
  | outs (o : Out) (preeq : Tbl (List Int))
  /-- section 8: coefficient banks -/
  | cnv (c : Tbl CnvOut)
  /-- section 9: function-unit states; with it S and the epoch of the records from S on, which the spec places in no section -/
  | units (snap epoch : Nat) (u : Tbl FUnit)
  /-- section 10: knot queues, live gains, routing words -/
  | objects (t : Trj)
  /-- section 11: trims, mutes, CNV selections, fades and queued requests -/
  | live (o : Out) (c : Tbl CnvOut)
  /-- section 12: trigger slots, waiting timed commands, tag table -/
  | host (slots : Tbl Slot) (timed : List Timed) (tags : Tbl TagRec)
  deriving DecidableEq, Repr

/-! ## Pairing (16) -/

/-- 16 Table 16.1: the pair states, in the order of their codes. -/
inductive PairSt where
  | off | solo | active | stale | bulk | rewarming | following | lapse
  deriving DecidableEq, Repr

/-- 16 R406: a Lanyard frame sent and not yet acknowledged. -/
structure LkFrame where
  fseq : Nat
  typ : Nat
  payload : Bytes
  /-- 16 R406: times it has been sent again. -/
  tries : Nat
  deriving DecidableEq, Repr

/-- 16 R408: a tick record as received. -/
structure Rec where
  /-- 16 Table 16.3: TICK of OPEN. -/
  tick : Nat
  epoch : Nat
  base : Nat
  /-- 16 Table 16.3: bytes received of each item, by ORDER: KIND and the bytes after byte 8. -/
  items : Tbl (Nat × Bytes)
  /-- 16 Table 16.3: ASRC entries: engine, group, fill, ratio. -/
  asrc : List (Nat × Nat × Int × Nat)
  /-- 16 Table 16.3: PATCH entries: KIND, ID, FIRST, COUNT, samples sample-major. -/
  patch : List (Nat × Nat × Nat × Nat × List Int)
  /-- 16 Table 16.3: GUARD: block, mask and the CRCs. -/
  guard : Option (Nat × Nat × List Nat)
  /-- 16 Table 16.3: WARM: limiter states of the slots. -/
  warm : Option (List Nat)
  /-- 16 Table 16.3: frames, payload bytes and running CRC from OPEN on. -/
  frames : Nat
  bytes : Nat
  crc : Nat
  deriving DecidableEq, Repr

/-- 16 Table 16.8: the PAIR block. -/
structure Pair where
  /-- 16 R403: HB_EN. Reset 1. -/
  hbEn : Bool := true
  /-- 16 R423: AUTO_SPLICE. Reset 1. -/
  autoSplice : Bool := true
  /-- 16 R400: MODE, 2 bits. Reset 0. -/
  mode : Nat := 0
  /-- 16 R428: a MODE that takes effect at the next boundary. Reset none. -/
  modeNext : Option Nat := none
  /-- 16 R401: pair state, 4 bits. Reset OFF. -/
  st : PairSt := .off
  /-- 16 R405: ARB_FILTER_NS, 12 bits. Reset 64. -/
  filter : Nat := 64
  /-- 16 R404: MISMATCH_HOLD, 16 bits. Reset 16. -/
  mmHold : Nat := 16
  /-- 16 Table 16.8: PAIR_EPOCH. Reset 0. -/
  epoch : Nat := 0
  /-- 16 Table 16.8: LAST_SEALED, 64 bits. Reset 0. -/
  lastSealed : Nat := 0
  /-- 16 Table 16.8: LAST_COMMIT, 64 bits. Reset 0. -/
  lastCommit : Nat := 0
  /-- 16 R418: PEER_OFFSET, Q24.8 ns. Reset 0. -/
  offset : Int := 0
  /-- 16 R418: TIME_LIMIT, Q24.8 ns. Reset 0x1400. -/
  timeLimit : Nat := 0x1400
  /-- 16 Table 16.8: the 15 counters, 32 bits each. Reset 0. -/
  ctr : Tbl W32 := []
  /-- 16 Table 16.8: PAIR_GSk_PEER_CRC. Reset 0. -/
  peerCrc : Tbl Nat := []
  /-- 16 Table 16.8: PAIR_GSk_MISMATCHES. Reset 0. -/
  mm : Tbl W32 := []
  /-- 16 Table 16.8: PAIR_GSk_MM_BLOCK. Reset 0. -/
  mmBlock : Tbl Nat := []
  /-- 16 Table 16.11: slots whose last comparison differed. Reset none. -/
  lastMm : Tbl Bool := []
  /-- 16 R403: level of ARB_HB. Reset low (20 R499). -/
  hb : Bool := false
  /-- 16 R404: level driven on ARB_FLT. Reset high until PAIR drives it (20 R499). -/
  flt : Bool := true
  /-- 16 R405: filtered level of ARB_ACT. Reset low (20 R499: weak pull-down). -/
  act : Bool := false
  /-- 16 R405: last tick-boundary sample. Reset 0. -/
  sample : Bool := false
  /-- 16 R402: samples taken since MODE 1 that agree, and their level. Reset none. -/
  first : Option Bool := none
  /-- 16 R420: a first sample has shown a change: the level and the kind of takeover (0 warm, 1 cold, 2 solo). Reset none. -/
  take : Option (Bool × Nat) := none
  /-- 16 R405: the role change of the next boundary: level and kind. Reset none. -/
  roleNext : Option (Bool × Nat) := none
  /-- 16 R402: the role taken, true active, none before the first. Reset none. -/
  role : Option Bool := none
  /-- 16 R400: ARB_ACT has selected the SOLO device. Reset 0. -/
  soloOn : Bool := false
  /-- 16 R420: block k+2 that fades in, and whether guarded outputs fade too. Reset none. -/
  fadeIn : Option (Nat × Bool) := none
  /-- 16 R420: the block from which every output is rendered before a takeover. Reset none. -/
  fullFrom : Option Nat := none
  /-- 16 R406: lanes up, 2 bits. Reset 0. -/
  lanes : Nat := 0
  /-- 16 R412: the tick in which the link went down. Reset none. -/
  downTick : Option Nat := none
  /-- 16 R412: commit deadlines passed in succession without a commit. Reset 0. -/
  missed : Nat := 0
  /-- 16 R412: cause a suspended STALE would carry. Reset none. -/
  staleHeld : Option Nat := none
  /-- 16 R418: TIME_DIVERGED. Reset 0. -/
  diverged : Bool := false
  /-- 16 R418: successive TIME frames that speak against the flag. Reset 0. -/
  divRun : Nat := 0
  /-- 16 R418: this device's last TIME frame: TX in 2^-16 ns. Reset none. -/
  timeTx : Option Nat := none
  /-- 16 R418: TX and arrival of the peer's last TIME frame, 2^-16 ns. Reset none. -/
  timeRx : Option (Nat × Nat) := none
  /-- 16 Table 16.11: PEER_STATE. Reset 0. -/
  peerSt : Nat := 0
  /-- 16 Table 16.11: PEER_CHIP_ID. Reset 0. -/
  peerId : Nat := 0
  /-- 16 R404: tick of the last mismatch within MISMATCH_HOLD. Reset none. -/
  mmTick : Option Nat := none
  /-- 16 R419: two devices are active at once. Reset 0. -/
  both : Bool := false
  /-- 16 R415: the peer applies records: responses may wait for it. Reset 0. -/
  peerOk : Bool := false
  /-- 16 R415: last record the peer acknowledged. Reset none. -/
  acked : Option Nat := none
  /-- 16 R415: successive records unacknowledged at their deadlines. Reset 0. -/
  unacked : Nat := 0
  /-- 16 Table 16.10: SPLICE_PHASE: 0 none, 1 bulk, 2 snapshot, 3 re-warming. Reset 0. -/
  phase : Nat := 0
  /-- 16 R423: this device serves a splice. Reset 0. -/
  serving : Bool := false
  /-- 16 R425: snapshot tick S. Reset none. -/
  snap : Option Nat := none
  /-- 16 R426: W. Reset none. -/
  warmTick : Option Nat := none
  /-- 16 R425: the standby has caught up with the records. Reset 0. -/
  caughtUp : Bool := false
  /-- 16 R429: bytes of sections received by SPLICE frames. Reset 0. -/
  bulkBytes : Nat := 0
  /-- 16 R425: sections of the snapshot received so far, by bit. Reset 0. -/
  snapGot : Nat := 0
  /-- 16 R410: the record being received. Reset none. -/
  rcv : Option Rec := none
  /-- 16 R425: sealed records that wait for the snapshot. Reset none. -/
  recBuf : List Rec := []
  /-- 16 R423: a complete sealed record has come from an active peer. Reset 0. -/
  sawRec : Bool := false
  /-- 16 R412: the last record was rejected. Reset 0. -/
  rejected : Bool := false
  /-- 16 R413: payloads received ahead of their item, by HANDLE. Reset none. -/
  bulk : Tbl Bytes := []
  /-- 16 R408: items of the tick in progress as active: KIND and bytes, in validation order. Reset none. -/
  items : List (Nat × Bytes) := []
  /-- 16 R421: having given up its role, the device takes the EPOCH of the next record as its own. Reset 0. -/
  epochNew : Bool := false
  /-- 16 R408: BASE of the first record of the epoch, until that record is sealed. Reset none. -/
  base : Option Nat := none
  /-- 16 R425: snapshot sections latched by the active, or those a standby holds until all four have come. Reset none. -/
  latched : List SpliceData := []
  /-- 16 R406: FSEQ of the next frame sent. Reset 0. -/
  txSeq : Nat := 0
  /-- 16 R406: frames sent and not yet acknowledged. Reset none. -/
  tx : List LkFrame := []
  /-- 16 R406: highest FSEQ received in order. Reset none. -/
  rxSeq : Option Nat := none
  /-- 16 R410: mismatch bits of the next STATUS frame. Reset 0. -/
  mmBits : Nat := 0
  /-- 16 R422: stage 10 words of guarded outputs of the last 16 blocks: output to words, newest block first. Reset none. -/
  words : Tbl (List Int) := []
  /-- 16 R410: a following standby's tick work waits for the commit of record n. Reset none. -/
  waitRec : Option Nat := none
  /-- 16 R410: the faults of the work that waits with it. Reset none. -/
  waitFaults : List LaneFault := []
  deriving DecidableEq, Repr

/-! ## Power, reset and boot (18, 20) -/

/-- 18 R451: the power states, with the ways between them. -/
inductive PowSt where
  | active | idle
  /-- DOZE or HIBERNATE entry under way, before the commit point -/
  | entering (hib : Bool)
  | doze | hibernate
  /-- from the wake source to IDLE -/
  | waking
  deriving DecidableEq, Repr

/-- 14 Table 14.3: BOOT. -/
inductive BootSt where
  | reset | rom | loading | init | ready | failed
  deriving DecidableEq, Repr

/-- 18 R458: one entry of the wake latch. -/
structure Latch where
  count : Nat
  source : Nat
  detail : Nat
  value : Nat
  deriving DecidableEq, Repr

/-- 18 Table 18.8: the wake record. -/
structure WakeRec where
  version : Nat := 0
  flags : Nat := 0
  source : Nat := 0
  detail : Nat := 0
  latched : Nat := 0
  /-- 18 Table 18.8: T0, an ACP time value of 16 bytes. -/
  t0 : Bytes := []
  c0 : Nat := 0
  rho : Nat := 0
  u0 : Nat := 0
  c1 : Nat := 0
  t1 : Bytes := []
  uncert : Nat := 0
  mask : Nat := 0
  lost : Nat := 0
  /-- 18 Table 18.8: SIG, by bank. -/
  sig : Tbl Nat := []
  count : Nat := 0
  dropped : Nat := 0
  entryUs : Nat := 0
  exitUs : Nat := 0
  deriving DecidableEq, Repr

/-- 18 Table 18.14: the PWR block and the Cleat. -/
structure Pwr where
  /-- 18 R451: power state. Reset ACTIVE. -/
  st : PowSt := .active
  /-- 18 R452: IDLE_EN. Reset 1. -/
  idleEn : Bool := true
  /-- 18 R454: DOZE_EN. Reset 0. -/
  dozeEn : Bool := false
  /-- 18 R457: WAKE_N_EN. Reset 0. -/
  wakeNEn : Bool := false
  /-- 18 R456: HOST_WAKE_EN. Reset 1. -/
  hostWakeEn : Bool := true
  /-- 18 R452: IDLE_MS. Reset 1,000. -/
  idleMs : Nat := 1000
  /-- 18 R454: DOZE_S. Reset 300. -/
  dozeS : Nat := 300
  /-- 18 R457: WAKE_FILT_NS. Reset 64. -/
  wakeFilt : Nat := 64
  /-- 18 Table 18.14: real-time count last read, 48 bits. Reset 0. -/
  rtc : Nat := 0
  /-- 18 Table 18.14: RTC_RUNNING. Reset 0. -/
  rtcRun : Bool := false
  /-- 18 R465: PWR_RESET_CAUSE, 4 bits. Reset 0. -/
  cause : Nat := 0
  /-- 18 Table 18.14: PWR_LAST_WAKE SOURCE and DETAIL. Reset 0. -/
  lastWake : Nat × Nat := (0, 0)
  /-- 18 Table 18.14: PWR_DOZE_COUNT. Reset 0. -/
  dozeCount : W32 := 0
  /-- 18 R460: PWR_RETAIN_MASK. Reset 0. -/
  mask : W32 := 0
  /-- 18 R461: PWR_RETAIN_LOST. Reset 0. -/
  lost : W32 := 0
  /-- 18 R464: the wake record. Reset 0. -/
  wrec : WakeRec := {}
  /-- 14 Table 14.2: HOST_WAKE_REC, the copy the host reads, 256 bytes. Reset 0. -/
  hostRec : Bytes := []
  /-- 18 Table 18.14: PWR_SIGb. Reset 0. -/
  sig : Tbl Nat := []
  /-- 18 R458: the wake latch, oldest first, at most 16. Reset empty. -/
  latch : List Latch := []
  /-- 18 R458: sources latched since the latch opened, those beyond 16 included. Reset 0. -/
  latchN : Nat := 0
  /-- 18 R458: the latch is open. Reset 0. -/
  latchOpen : Bool := false
  /-- 18 R455: the first enabled source since the start of entry. Reset none. -/
  first : Option (Nat × Nat × Nat) := none
  /-- 18 R456: DROPPED_WRITES since the latch opened. Reset 0. -/
  dropped : Nat := 0
  /-- 18 R454: entry to begin after a response: true hibernate. Reset none. -/
  entryDue : Option Bool := none
  /-- 18 R454: device time at which the device last became IDLE, 2^-40 ns, for DOZE_LEFT_S. Reset 0. -/
  idleAt : Nat := 0
  /-- 02 R64: device time of the last boot or wake, 2^-40 ns, from which the ten seconds of ρ are counted. Reset 0. -/
  upAt : Nat := 0
  /-- 18 R454: the DOZE timer has expired and waits for the mask to read 0. Reset 0. -/
  timerOut : Bool := false
  /-- 18 R463: device time at the commit point in 2^-16 ns. Reset 0. -/
  t0 : Nat := 0
  /-- 20 R494: SEQ_EN0 to SEQ_EN3. Reset low. -/
  seqEn : Nat := 0
  /-- 20 R494: the sequence is to be repeated after 100 ms. Reset 0. -/
  retry : Bool := false
  /-- 18 R465: RESET_N is held low, or a fault holds the device as if it were. Reset 0. -/
  held : Bool := false
  /-- 20 R509: a thermal shutdown holds the device. Reset 0. -/
  hot : Bool := false
  /-- 18 R469: BOOT_MODE1:0 as sampled. Reset 0. -/
  bootMode : Nat := 0
  deriving DecidableEq, Repr

/-- 18 18.6: the boot. -/
structure Boot where
  /-- 18 R468: BOOT, 3 bits. Reset RESET. -/
  st : BootSt := .reset
  /-- 18 R471: slots ROM has still to try, in order. Reset none. -/
  tryList : List Nat := []
  /-- 18 R470: slot that booted: 0 A, 1 B, 0xFF host-loaded. Reset 0xFF. -/
  slot : Nat := 255
  /-- 18 R471: the running image passed the signature checks. Reset 0. -/
  secure : Bool := false
  /-- 19 Table 19.4: FW_MAJOR, FW_MINOR, FW_BUILD, SECVER and BINDING of the running image. Reset 0. -/
  fw : Nat × Nat × Nat × Nat × Bool := (0, 0, 0, 0, false)
  /-- 18 R471: fused minimum security version. Reset 0 (a fuse). -/
  minSec : Nat := 0
  /-- 18 R470: the host-loaded image is to run. Reset 0. -/
  hostImg : Bool := false
  deriving DecidableEq, Repr

/-! ## Configuration store (19) -/

/-- 19 R481: a journal record as firmware replays it. -/
structure JRec where
  kind : Nat
  key : Nat
  payload : Bytes
  /-- 19 R478: its COMMIT is programmed. -/
  done : Bool
  deriving DecidableEq, Repr

/-- 19 R480: one journal half. -/
structure JHalf where
  /-- 19 Table 19.2: GEN. Reset 0. -/
  gen : Nat := 0
  /-- 19 R478: header valid and committed. Reset 0. -/
  valid : Bool := false
  /-- 19 R481: records in address order. Reset none. -/
  recs : List JRec := []
  deriving DecidableEq, Repr

/-- 19 Table 19.5: a firmware slot. -/
structure FwSlot where
  /-- 19 R478: the slot record is present. Reset 0. -/
  valid : Bool := false
  gen : Nat := 0
  major : Nat := 0
  minor : Nat := 0
  build : Nat := 0
  secver : Nat := 0
  binding : Bool := false
  /-- 19 R487: the image bytes. Reset none. -/
  img : Bytes := []
  deriving DecidableEq, Repr

/-- 19 R485: a committed blob. -/
structure Blob where
  gen : Nat
  total : Nat
  crc : Nat
  /-- 19 R485: first 64 KiB block of the blob area it occupies. -/
  block : Nat
  data : Bytes
  deriving DecidableEq, Repr

/-- 19 R486: a blob write that is open. -/
structure BlobW where
  total : Nat
  block : Nat
  data : Bytes
  deriving DecidableEq, Repr

/-- 19 R489: the flash operation whose end a response or a compaction awaits. -/
inductive FlashOp where
  /-- 19 R484: compaction; a command waits -/
  | compact (cmd : Bool)
  /-- 19 R488: the erase of FW_UPDATE_BEGIN -/
  | fwBegin (slot : Nat)
  /-- 19 R488: the slot record of FW_UPDATE_COMMIT -/
  | fwCommit (slot : Nat)
  deriving DecidableEq, Repr

/-- 19: the configuration store. -/
structure Store where
  /-- 19 R476: flash density in MiB. DESIGN CHOICE 16. -/
  mib : Nat := 16
  /-- 19 Table 19.6: MODE, true octal. DESIGN CHOICE 0. -/
  octal : Bool := false
  /-- 19 R477: the factory calibration passes its check. Reset 1 (DESIGN CHOICE). -/
  cal : Bool := true
  /-- 19 R480: journal half 0. DESIGN CHOICE erased. -/
  h0 : JHalf := {}
  /-- 19 R480: journal half 1. DESIGN CHOICE erased. -/
  h1 : JHalf := {}
  /-- 19 R480: active half, true half 1. Reset 0. -/
  half : Bool := false
  /-- 19 R484: compaction under way, with the step reached. Reset none. -/
  compacting : Option Nat := none
  /-- 19 R488: slot A. DESIGN CHOICE erased. -/
  slotA : FwSlot := {}
  /-- 19 R488: slot B. DESIGN CHOICE erased. -/
  slotB : FwSlot := {}
  /-- 19 R488: update open: slot, LEN and the bytes written. Reset none. -/
  upd : Option (Nat × Nat × Bytes) := none
  /-- 19 R485: committed blobs, by ID. Reset none. -/
  blob : Tbl (Option Blob) := []
  /-- 19 R486: open blob writes, by ID. Reset none. -/
  blobW : Tbl (Option BlobW) := []
  /-- 19 R489: operations that run, with the TAG and SEQ of the command that waits. Reset none. -/
  ops : List FlashOp := []
  /-- 19 R481: appends that wait for the flash, oldest first: kind, key, payload. Reset none. -/
  appends : List (Nat × Nat × Bytes) := []
  /-- 19 R490: events raised at READY: OP of EV_STORE_ERROR. Reset none. -/
  errs : List Nat := []
  /-- 20 R500: drive codes the host's blob of ID 255 sets: group to code. Reset none. -/
  drive : Tbl (Option Nat) := []
  deriving DecidableEq, Repr

/-! ## A control cycle past its lead (02 R69) -/

/-- 02 R69: what a control cycle's lead boundary changed, as it stood before. -/
structure Undo where
  /-- 03: objects named by the batch. -/
  obj : Tbl Obj
  /-- 03: routing words named by it. -/
  route : Tbl W32
  /-- 09: outputs named by it. -/
  out : Tbl OutCh
  /-- 08: CNV outputs named by it. -/
  cnv : Tbl CnvOut
  deriving DecidableEq, Repr

end Sys2Proof.Machine
end

