-- ==== Sys2Proof/Syntax.lean ====
section
/-! DEFINITION. The commands: one constructor for each row of the opcode table, with the row's operands. -/

namespace Sys2Proof

open Sys2Proof.Machine

/-- 05 R154, 07 R201: an ECC error found in a word. -/
inductive EccErr where
  | none | single | double
  deriving DecidableEq, Repr

/-- 01 R22: what the pins and the hardware bring to a tick boundary. -/
structure TickIn where
  /-- 16 R405: filtered level of ARB_ACT. -/
  arb : Bool
  /-- 16 R403: firmware has completed its pair service of the tick that ended. -/
  served : Bool
  /-- 07 R200, R201: faults of the lanes and CNV in the work on the next block. -/
  faults : List LaneFault
  /-- 11 R304: words received on the input slots (32 x lane + slot) of master clusters in the tick that ended. -/
  tdm : List (Nat × List Int)
  deriving DecidableEq, Repr

/-- 02 R55: a received PTP message. -/
structure PtpMsg where
  /-- IEEE 1588 messageType: 0 Sync, 1 Delay_Req, 8 Follow_Up, 9 Delay_Resp, 11 Announce. -/
  kind : Nat
  domain : Nat
  twoStep : Bool
  seq : Nat
  /-- clockIdentity of the sender. -/
  src : Nat
  /-- origin or receive time-stamp carried, 2^-16 ns. -/
  ts : Int
  /-- correctionField, 2^-16 ns. -/
  corr : Int
  /-- 02 R57: capture at the MII boundary of the port, 2^-16 ns. -/
  rx : Int
  /-- the announced data set in the order the best-master algorithm compares; clockClass second. -/
  rank : List Nat
  deriving DecidableEq, Repr

/-- 10 R265: a frame as it arrives. -/
structure RxFrame where
  /-- the frame from its destination address to the octet before its FCS. -/
  bytes : Bytes
  /-- 10 R272: fragment assembly failed. -/
  badAsm : Bool
  /-- 10 R265: the PCS reported an error inside the frame. -/
  badCode : Bool
  /-- 10 R265: the FCS is wrong. -/
  badFcs : Bool
  /-- 10 R265: no buffer was free. -/
  overrun : Bool
  /-- 10 R272: fragments the frame came in, 0 for a whole frame. -/
  frags : Nat
  /-- 02 R57: capture at the MII boundary of the port, 2^-16 ns. -/
  at_ : Nat
  deriving DecidableEq, Repr

/-- 11 R290: a datagram handed to the stream engine. -/
structure RtpIn where
  srcIp : Nat
  dstIp : Nat
  dstUdp : Nat
  /-- arrival, 2^-16 ns of device time. -/
  at_ : Nat
  /-- the UDP payload. -/
  data : Bytes
  deriving DecidableEq, Repr

/-- 12 R321 to R323: how the test of a stripe ends. -/
inductive StripeRes where
  | pass | yielded
  /-- a march read fails at this word of the stripe -/
  | fail (w : Nat)
  deriving DecidableEq, Repr

/-- 13 R346: how a training run ends. -/
inductive TrainRes where
  /-- it passes: the centres, by DRC_DLY_SEL value; the Vref codes, by its low 5 bits; the oscillator baselines, by 2 x channel + rank -/
  | pass (dly vref base : List (Nat × Nat))
  /-- a window of a phase is too narrow -/
  | fail (phase ch rank : Nat)
  deriving DecidableEq, Repr

/-- 13 R343: how DRC initialisation ends. -/
inductive DrcStart where
  /-- initialisation passes, and the training run ends -/
  | trained (r : TrainRes)
  /-- the memory reports another type, width or density: ranks and density code found -/
  | other (ranks density : Nat)
  /-- the PHY or the initialisation fails -/
  | failed
  deriving DecidableEq, Repr

/-- 13 R339, R351: what the array answers at a command slot. -/
inductive DrcServe where
  | ok
  /-- a single-bit error, corrected -/
  | corr
  /-- an uncorrectable data error, with its syndrome, the burst and the check bytes as read -/
  | uncorr (syndrome : Nat) (data : Bytes) (check : Nat)
  /-- a command or address parity error -/
  | parity
  deriving DecidableEq, Repr

/-- 17 R446: one ring's measurement. -/
structure RingMeas where
  ring : Nat
  /-- cycles counted over the gate, N. -/
  count : Nat
  /-- the island's temperature T, in 2^-8 of a degree Celsius. -/
  temp : Int
  deriving DecidableEq, Repr

/-- 14 R358, R382: what a register address is counted in. -/
inductive Space where
  /-- the host's register window -/
  | host
  /-- an internal address, written by firmware -/
  | fw
  /-- mailbox SRAM, by byte offset -/
  | mailbox
  /-- PCI Express configuration space: 0 Bus Master Enable, 1 MSI Enable -/
  | config
  deriving DecidableEq, Repr

/-- The commands and events of the device, in the order of the opcode table. Each constructor names its row and rule. -/
inductive Instr where
  /-- TICK_BOUNDARY (R22): The time unit reaches a tick boundary T_k and the per-tick pipeline actions that fall on it begin. -/
  | tickBoundary (i : TickIn)
  /-- OUT_BLOCK_HANDOVER (R255): The output stage completes the block, computes guarded CRCs and hands words to ports and packetisers. -/
  | outBlockHandover
  /-- FLT_SAMPLE_MARK (R187): A sample's mark passes unwritten and it is written as zero, a filter-engine deadline miss. -/
  | fltSampleMark (e : Nat) (sample : Nat)
  /-- RND_DEADLINE (R28): The 0.90 render deadline passes and a late lane's contribution is zero for the block. -/
  | rndDeadline (lane : Nat)
  /-- TRJ_DEADLINE (R95): The TRJ deadline passes with endpoints unwritten, so the delays hold and a strike is added. -/
  | trjDeadline
  /-- LAW_JOB_DEADLINE (R29): A law period's deadline passes and every job still queued, slotted or running is discarded as missed. -/
  | lawJobDeadline
  /-- CNV_T2_FRAME_DEADLINE (R220): A tier-2 frame not complete at its deadline is omitted for its B blocks. -/
  | cnvT2FrameDeadline (out : Nat) (frame : Nat)
  /-- TIMED_COMMAND_BOUNDARY (R374): A waiting timed command reaches its boundary, is checked again and applies or is dropped. -/
  | timedCommandBoundary
  /-- TRIGGER_LEAD_BOUNDARY (R70): An armed audio trigger slot reaches its lead boundary and its action or batch is checked for block j. -/
  | triggerLeadBoundary (slot : Nat)
  /-- TRIGGER_FIRE (R66): A time-trigger slot fires its action and raises EV_TRIG_DONE. -/
  | triggerFire (slot : Nat)
  /-- TIM_INC_COMMIT (R47): A write of TIM_INC_HI commits the increment pair, clamped to the allowed range. -/
  | timIncCommit (hi : W32)
  /-- TIM_STEP_GO (R48): A write of TIM_STEP_GO applies a signed step to device time or is refused. -/
  | timStepGo (v : W32)
  /-- SNAP_NOW (R71): A write of TIM_CTRL.SNAP_NOW starts an untimed snapshot. -/
  | snapNow
  /-- PTP_MESSAGE_RX (R55): A received PTP message is processed by the time servo or discarded. -/
  | ptpMessageRx (port : Nat) (msg : PtpMsg)
  /-- MASTER_LOST (R50): No Sync for 8 intervals or the announce timeout expires, and QUALITY becomes holdover. -/
  | masterLost
  /-- PPS_IN_EDGE (R62): A filtered PPS_IN rising edge is time-stamped and used in MONITOR or DISCIPLINE mode. -/
  | ppsInEdge (at_ : Nat)
  /-- PPS_IN_MISSING (R50): Eight successive PPS_IN pulses are missing in DISCIPLINE mode and QUALITY becomes holdover. -/
  | ppsInMissing
  /-- PPS_OUT_SECOND (R61): PPS_OUT rises at a whole second of device time. -/
  | ppsOutSecond
  /-- PPS_WIDTH_END (R61): PPS_WIDTH elapses and PPS_OUT falls. -/
  | ppsWidthEnd
  /-- TRIG_OUT_PULSE_END (R63): A TRIG_OUT pulse ends and any pending pin configuration takes effect. -/
  | trigOutPulseEnd (pin : Nat)
  /-- MCLK_SWITCH (R60): An MCLK output completes its frequency change after being held low. -/
  | mclkSwitch (n : Nat)
  /-- OFFSET_LARGE_REPORT (R49): Once per second with the offset above 1 µs while slewing, EV_TIME_OFFSET_LARGE is raised. -/
  | offsetLargeReport
  /-- SERVO_CHECK (R439): Every 10 s firmware compares the time counter with the real-time counter and may strike the servo. -/
  | servoCheck (dTime : Int) (dRtc : Int)
  /-- STRIKE_LEAK (R431): The 7.5 s leak timer expires and a channel's level falls by one. -/
  | strikeLeak (ch : Nat)
  /-- MEMORY_SCRUB (R201): The background scrub reads a lane memory word in an idle cycle and corrects it. -/
  | memoryScrub (lane : Nat) (path : Bool) (addr : Nat) (err : EccErr)
  /-- LANE_SELF_TEST_DONE (R203): A reserve or re-clocked lane finishes its self-test, fixing the takeover block or retiring the lane. -/
  | laneSelfTestDone (lane : Nat) (pass : Bool)
  /-- LANE_TAKEOVER (R204): At takeover block B the lane switch moves a logical lane to its new physical lane. -/
  | laneTakeover
  /-- FRAME_RECEIVE (R265): A frame is received whole, checked, counted and classified to its consumer. -/
  | frameReceive (port : Nat) (f : RxFrame)
  /-- FRAME_TRANSMIT (R269): A frame handed to a port's queue is padded and sent, or refused with TX_REJECT. -/
  | frameTransmit (port : Nat) (q : Nat) (f : Bytes) (mark : Bool)
  /-- EXPRESS_PREEMPT (R271): An express frame becomes ready and interrupts a preemptable frame at the first allowed boundary. -/
  | expressPreempt (port : Nat) (octets : Nat)
  /-- LINK_CHANGE (R261): A port's link goes up or down and EV_NET_LINK is raised. -/
  | linkChange (port : Nat) (up : Bool) (an : Bool)
  /-- PORT_SERDES_LOCK (R261): A starting port's SerDes locks and the port becomes RUNNING. -/
  | portSerdesLock (port : Nat)
  /-- PORT_START_TIMEOUT (R261): A port's SerDes fails to lock within 2 ms and the port is retired. -/
  | portStartTimeout (port : Nat)
  /-- PORT_STOP_DONE (R261): A stopping port finishes its frame in progress and becomes STOPPED. -/
  | portStopDone (port : Nat)
  /-- PREEMPT_VERIFY (R270): An 802.3br verify attempt completes or times out and EV_NET_PREEMPT reports the outcome. -/
  | preemptVerify (port : Nat) (ok : Bool) (frag : Nat)
  /-- FCS_LIMIT_SECOND (R280): A second of device time ends with more than FCS_LIMIT errors, adding a strike to the port. -/
  | fcsLimitSecond (port : Nat)
  /-- LINK_ABSENT_10S (R280): A running port's link is absent for 10 s and the port is retired. -/
  | linkAbsent10s (port : Nat)
  /-- WAKE_PATTERN_MATCH (R276): A frame on the wake port in DOZE matches a wake filter and wakes the device. -/
  | wakePatternMatch (port : Nat) (f : Bytes) (count : Nat)
  /-- RTP_PACKET_RX (R291): An RTP packet of a receive stream is checked, indexed and stored in the jitter buffer or ASRC group. -/
  | rtpPacketRx (port : Nat) (p : RtpIn)
  /-- TRAJECTORY_PACKET_RX (R301): A trajectory stream packet passes its records to TRJ as knots. -/
  | trajectoryPacketRx (port : Nat) (p : RtpIn)
  /-- TDM_FRAME_SYNC (R305): A follower cluster time-stamps a frame-sync edge and numbers or slips the frame. -/
  | tdmFrameSync (c : Nat) (at_ : Nat) (words : List Int)
  /-- TDM_CLOCK_LOSS (R305): No frame-sync edge for 2 frame periods is a clock loss. -/
  | tdmClockLoss (c : Nat)
  /-- TDM_CLOCK_ABSENT_10S (R310): A follower cluster's clock is absent for 10 s and its lanes are retired. -/
  | tdmClockAbsent10s (c : Nat)
  /-- MADI_FRAME_RX (R308): A MADI frame is received, decoded and numbered or fed to its ASRC group. -/
  | madiFrameRx (m : Nat) (at_ : Nat) (words : List Nat) (codeErrs : Nat)
  /-- MADI_SYNC_LOSS (R308): No valid MADI synchronisation for 2 frames is a sync loss. -/
  | madiSyncLoss (m : Nat)
  /-- MADI_CODE_ERR_SECOND (R310): A second with more than 100 MADI code errors adds a strike. -/
  | madiCodeErrSecond (m : Nat) (errs : Nat)
  /-- MADI_SIGNAL_ABSENT_10S (R310): A MADI port's signal is absent for 10 s and the port is retired. -/
  | madiSignalAbsent10s (m : Nat)
  /-- ASRC_LOCK (R114): An ASRC group's estimate settles over 32 ticks and the group enters LOCKED. -/
  | asrcLock (e : Nat) (g : Nat)
  /-- ASRC_LOST (R114): No source sample for 2 ticks puts an ASRC group into LOST. -/
  | asrcLost (e : Nat) (g : Nat)
  /-- TONE_BLOCK_RESULT (R121): A tone detector completes a block, publishes LEVEL and PHASE and updates PRESENT. -/
  | toneBlockResult (d : Nat)
  /-- METER_WINDOW_END (R257): An output meter's window ends and PEAK, RMS and GR are reported. -/
  | meterWindowEnd (out : Nat)
  /-- SCHEDULER_DECISION (R169): An enabled engine's empty slot is filled with a job chosen under the PRIORITY or AFFINITY policy. -/
  | schedulerDecision (e : Nat) (cycle : Nat)
  /-- AFF_WAIT_REACHED (R170): A queued job's age reaches AFF_WAIT and a new decision is made. -/
  | affWaitReached (order : Nat) (cycle : Nat)
  /-- JOB_DISPATCH (R128): A slotted job starts on its engine with registers and protection windows set. -/
  | jobDispatch (e : Nat)
  /-- JOB_COLLECTION_DONE (R166): The gain collector finishes delivering a completed job's gains to the combiner. -/
  | jobCollectionDone (e : Nat)
  /-- INTERRUPT_ENTRY (R147): A law engine takes a pending cause, drains and enters its handler. -/
  | interruptEntry (e : Nat)
  /-- BUDGET_EXPIRY (R145): CYC reaches LAW_BUDGET and the BUDGET cause becomes pending. -/
  | budgetExpiry (e : Nat)
  /-- NOP (R129): A law-engine no-operation. -/
  | lawNop (e : Nat) (s : Option (CFields × Side))
  /-- MPY (R132): Accumulator takes the product of two D registers. -/
  | lawMpy (e : Nat) (f : CFields) (s : Side)
  /-- MAC (R132): Accumulator adds the product of two D registers. -/
  | lawMac (e : Nat) (f : CFields) (s : Side)
  /-- MSU (R132): Accumulator subtracts the product of two D registers. -/
  | lawMsu (e : Nat) (f : CFields) (s : Side)
  /-- ADDA (R132): Accumulator sum. -/
  | lawAdda (e : Nat) (f : CFields) (s : Side)
  /-- SUBA (R132): Accumulator difference. -/
  | lawSuba (e : Nat) (f : CFields) (s : Side)
  /-- NEGA (R132): Accumulator negation. -/
  | lawNega (e : Nat) (f : CFields) (s : Side)
  /-- ABSA (R132): Accumulator absolute value. -/
  | lawAbsa (e : Nat) (f : CFields) (s : Side)
  /-- CLRA (R132): Accumulator cleared. -/
  | lawClra (e : Nat) (f : CFields) (s : Side)
  /-- SHLA (R132): Accumulator shifted left by k. -/
  | lawShla (e : Nat) (f : CFields) (s : Side)
  /-- SHRA (R134): Accumulator shifted right by k. -/
  | lawShra (e : Nat) (f : CFields) (s : Side)
  /-- EXPA (R132): Exponent of an accumulator into a D register. -/
  | lawExpa (e : Nat) (f : CFields) (s : Side)
  /-- NORMA (R132): Accumulator normalised with its exponent into a D register. -/
  | lawNorma (e : Nat) (f : CFields) (s : Side)
  /-- MVAD (R133): Scaled, rounded, saturating move from accumulator to D register. -/
  | lawMvad (e : Nat) (f : CFields) (s : Side)
  /-- MVDA (R133): D register scaled by 2^SCALE into an accumulator. -/
  | lawMvda (e : Nat) (f : CFields) (s : Side)
  /-- ADD (R135): Wrapping 32-bit addition with flags. -/
  | lawAdd (e : Nat) (f : CFields) (s : Side)
  /-- SUB (R135): Wrapping 32-bit subtraction with flags. -/
  | lawSub (e : Nat) (f : CFields) (s : Side)
  /-- ADDS (R134): Saturating addition. -/
  | lawAdds (e : Nat) (f : CFields) (s : Side)
  /-- SUBS (R134): Saturating subtraction. -/
  | lawSubs (e : Nat) (f : CFields) (s : Side)
  /-- AND (R135): Bitwise and. -/
  | lawAnd (e : Nat) (f : CFields) (s : Side)
  /-- OR (R135): Bitwise or. -/
  | lawOr (e : Nat) (f : CFields) (s : Side)
  /-- XOR (R135): Bitwise exclusive or. -/
  | lawXor (e : Nat) (f : CFields) (s : Side)
  /-- ASR (R134): Arithmetic shift right. -/
  | lawAsr (e : Nat) (f : CFields) (s : Side)
  /-- LSR (R134): Logical shift right. -/
  | lawLsr (e : Nat) (f : CFields) (s : Side)
  /-- LSL (R134): Wrapping shift left. -/
  | lawLsl (e : Nat) (f : CFields) (s : Side)
  /-- ASRV (R134): Shift by a clamped register amount. -/
  | lawAsrv (e : Nat) (f : CFields) (s : Side)
  /-- EXP (R135): Redundant sign bits of a D register. -/
  | lawExp (e : Nat) (f : CFields) (s : Side)
  /-- NORM (R135): D register normalised. -/
  | lawNorm (e : Nat) (f : CFields) (s : Side)
  /-- MIN (R135): Signed minimum. -/
  | lawMin (e : Nat) (f : CFields) (s : Side)
  /-- MAX (R135): Signed maximum. -/
  | lawMax (e : Nat) (f : CFields) (s : Side)
  /-- CMP (R135): Flags of a subtraction with no destination. -/
  | lawCmp (e : Nat) (f : CFields) (s : Side)
  /-- MOV (R135): D register copy. -/
  | lawMov (e : Nat) (f : CFields) (s : Side)
  /-- ABS (R134): Saturating absolute value. -/
  | lawAbs (e : Nat) (f : CFields) (s : Side)
  /-- NEG (R134): Saturating negation. -/
  | lawNeg (e : Nat) (f : CFields) (s : Side)
  /-- SEL (R135): Conditional select of one of two registers. -/
  | lawSel (e : Nat) (f : CFields) (s : Side)
  /-- MULQ (R134): Rounded, saturating scaled product. -/
  | lawMulq (e : Nat) (f : CFields) (s : Side)
  /-- RCP (R134): Reciprocal of a Q1.31 value in Q4.28. -/
  | lawRcp (e : Nat) (f : CFields) (s : Side)
  /-- RSQ (R134): Reciprocal square root in Q4.28. -/
  | lawRsq (e : Nat) (f : CFields) (s : Side)
  /-- MOVE_LOAD (R125): An X or Y move loads a D register from X or Y memory with post-modify. -/
  | moveLoad (e : Nat) (c : Compute) (y : Bool) (mv : Move) (other : Option Move) (rot : Bool)
  /-- MOVE_STORE (R125): An X or Y move stores a D register to X or Y memory with post-modify. -/
  | moveStore (e : Nat) (c : Compute) (y : Bool) (mv : Move) (other : Option Move) (rot : Bool)
  /-- LD (R124): General load of any register from the law address space. -/
  | lawLd (e : Nat) (c : Compute) (a : GenMem)
  /-- ST (R124): General store of any register to the law address space. -/
  | lawSt (e : Nat) (c : Compute) (a : GenMem)
  /-- MOVR (R126): Register-to-register move by code. -/
  | lawMovr (e : Nat) (c : Compute) (rd : BitVec 7) (rs : BitVec 7)
  /-- ADDI (R134): Adds a signed 16-bit immediate to a D, P or M register. -/
  | lawAddi (e : Nat) (c : Compute) (r : BitVec 7) (imm : BitVec 16)
  /-- LDIS (R129): Loads a sign-extended 16-bit immediate. -/
  | lawLdis (e : Nat) (c : Compute) (r : BitVec 7) (imm : BitVec 16)
  /-- LDI (R129): IMMEDIATE bundle loads a 32-bit immediate into a register. -/
  | lawLdi (e : Nat) (r : BitVec 7) (imm : BitVec 32)
  /-- BR (R140): Conditional branch after two delay slots. -/
  | lawBr (e : Nat) (c : BitVec 4) (tgt : BitVec 14)
  /-- BRI (R140): Conditional branch to a pointer register. -/
  | lawBri (e : Nat) (c : BitVec 4) (p : BitVec 3)
  /-- CALL (R140): Conditional branch saving the return bundle in P7. -/
  | lawCall (e : Nat) (c : BitVec 4) (tgt : BitVec 14)
  /-- LOOP (R142): Sets loop count, start and end and arms the loop engine. -/
  | lawLoop (e : Nat) (n : LoopN) (ls : BitVec 14) (le_ : BitVec 14)
  /-- ROTN (R127): Rotates the register file base by k. -/
  | lawRotn (e : Nat) (k : BitVec 4)
  /-- SRSET (R129): Sets masked bits of SR. -/
  | lawSrset (e : Nat) (mask : BitVec 16) (val : BitVec 16)
  /-- JEND (R151): Ends the job, drains and hands the gain bank to the collector. -/
  | lawJend (e : Nat) (c : BitVec 4)
  /-- RTI (R148): Returns from the handler restoring SR from ESR. -/
  | lawRti (e : Nat)
  /-- TRAP (R146): Raises a TRAP cause taken at its own bundle. -/
  | lawTrap (e : Nat) (c : BitVec 4) (n : BitVec 8)
  /-- BKPT (R156): Halts the engine when debug is enabled, otherwise acts as NOP. -/
  | lawBkpt (e : Nat)
  /-- SYNC (R139): Waits until every issued operation has landed. -/
  | lawSync (e : Nat)
  /-- LAW_DOORBELL (R145): A write of LAW_CTRL.DOORBELL raises the DOORBELL cause. -/
  | lawDoorbell (e : Nat)
  /-- HALT_REQ (R156): A write of LAW_CTRL.HALT_REQ requests a debug halt. -/
  | lawHaltReq (e : Nat)
  /-- STEP (R156): A write of LAW_CTRL.STEP issues one bundle and halts. -/
  | lawStep (e : Nat)
  /-- RESUME (R156): A write of LAW_CTRL.RESUME leaves HALTED and continues. -/
  | lawResume (e : Nat)
  /-- LAW_PROG_LOAD_DONE (R178): A loaded law image is held by every engine and the command completes. -/
  | lawProgLoadDone (law : Nat)
  /-- LAW_ENGINE_DISABLE_DONE (R179): A disabled engine's running job ends, RUN_EN clears and the command completes. -/
  | lawEngineDisableDone (e : Nat)
  /-- SCB_OWNER_WRITE (R317): A write of SCB_OWNn.OWNER begins a bank hand-over with PENDING set. -/
  | scbOwnerWrite (bank : Nat) (owner : Nat)
  /-- BANK_HANDOVER_DONE (R317): Granted accesses finish and OWNER takes its new value with PENDING clear. -/
  | bankHandoverDone (bank : Nat)
  /-- TEST_STRIPE (R321): The background test saves, marches and restores one 32-word stripe in idle cycles. -/
  | testStripe (bank : Nat) (stripe : Nat) (r : StripeRes)
  /-- BANK_READY (R227): A committed coefficient bank's spectra are computed, the bank becomes READY and the commit responds. -/
  | bankReady (out : Nat) (bank : Nat)
  /-- CNV_VERIFY_DONE (R236): CNV finishes verifying tier-2 areas after DRC returns, rejecting failed banks. -/
  | cnvVerifyDone (failed : List (Nat × Nat))
  /-- DRC_START_DONE (R343): DRC initialisation and training end and DRC becomes RUNNING, STOPPED or RETIRED. -/
  | drcStartDone (r : DrcStart)
  /-- DRC_STOP_DONE (R343): DRC completes queued requests, enters self-refresh and becomes STOPPED. -/
  | drcStopDone
  /-- DRC_COMMAND_SLOT (R339): At a channel's command slot the controller chooses a refresh or request to serve. -/
  | drcCommandSlot (ch : Nat) (c : DrcServe)
  /-- REFRESH (R341): A per-bank refresh slot falls due and the refresh is issued. -/
  | refresh (ch : Nat) (rank : Nat)
  /-- TEMPERATURE_POLL (R342): Every 16 ms the temperature mode registers set the refresh rate and HOT state. -/
  | temperaturePoll (level : Nat)
  /-- TRAINING_STEP_DONE (R346): A training sweep step completes and its result is readable. -/
  | trainingStepDone (result : Nat)
  /-- TRAINING_RUN_DONE (R346): A training run ends, passing into IN_SERVICE or failing into UNTRAINED. -/
  | trainingRunDone (r : TrainRes)
  /-- TRAINING_RETRY (R347): 10 s after a failure firmware starts a new training run. -/
  | trainingRetry
  /-- TRAIN_HELD_TIMEOUT (R344): A request held in TRAINING for 250 ms is returned with an error. -/
  | trainHeldTimeout (ch : Nat)
  /-- DRIFT_MEASURE (R350): The DQS oscillator measurement runs and may trigger retraining. -/
  | driftMeasure (counts : List (Nat × Nat))
  /-- DRIFT_TAP_STEP (R350): A write DQ delay moves one tap toward its new value between bursts. -/
  | driftTapStep (sel : Nat)
  /-- FREQ_SWITCH_DONE (R349): A set-point switch and its read-eye check complete. -/
  | freqSwitchDone (ok : Bool)
  /-- FREEZE_AUTO_RESUME (R352): FREEZE_HOLD_MS after a freeze the controller resumes automatically. -/
  | freezeAutoResume
  /-- DRC_TRN_GO (R346): A write of DRC_TRN_CTRL.GO starts one training step. -/
  | drcTrnGo (v : W32)
  /-- DRC_DLY_VAL_WRITE (R345): A delay value write takes effect between bursts. -/
  | drcDlyValWrite (v : W32)
  /-- DOORBELL (R362): A write of HOST_CMD_TAIL makes firmware take the command entries up to it. -/
  | doorbell (tail : W32)
  /-- RING_COMMIT (R360): A write of a ring's SIZE commits or refuses its base and size. -/
  | ringCommit (ring : Nat) (v : W32)
  /-- RING_HEAD_WRITE (R363): The host writes a response or event ring HEAD, freeing entries or setting RING_ERR. -/
  | ringHeadWrite (ring : Nat) (v : W32)
  /-- HOST_RESET_CHIP (R365): HOST_RESET with key and CHIP resets the chip. -/
  | hostResetChip (v : W32)
  /-- HOST_RESET_WARM (R365): HOST_RESET with key and WARM performs a warm reset. -/
  | hostResetWarm (v : W32)
  /-- IRQ_STATUS_WRITE (R381): A W1C write of HOST_IRQ_STATUS clears bits and may send another MSI. -/
  | irqStatusWrite (v : W32)
  /-- IRQ_HOLDOFF_EXPIRY (R381): HOLDOFF elapses and RSP or EVT sets. -/
  | irqHoldoffExpiry (evt : Bool)
  /-- DIAG_ADDR_WRITE (R382): A write of DIAG_ADDR starts the fetch of the addressed word. -/
  | diagAddrWrite (v : W32)
  /-- DIAG_DATA_READ (R382): A read of DIAG_DATA returns the fetched word and may auto-increment. -/
  | diagDataRead
  /-- DIAG_FETCH_DONE (R382): The diagnostic fetch completes and DIAG_BUSY clears. -/
  | diagFetchDone
  /-- RC_REGISTER_READ (R11): A read of an RC field returns it and clears it. -/
  | rcRegisterRead (addr : Nat)
  /-- LATCHING_READ (R277): A read of a LO register latches its HI partner. -/
  | latchingRead (addr : Nat)
  /-- NET_TSF_POP (R273): A write of NET_TSF_POP removes the head time-stamp entry. -/
  | netTsfPop (port : Nat)
  /-- TRACE_CLEAR (R171): A write of SCH_CTRL.TRACE_CLEAR empties and restarts the trace ring. -/
  | traceClear
  /-- SWEEP_NOW (R446): A write of HLT_CTRL.SWEEP_NOW starts a Sloe sweep at once. -/
  | sweepNow
  /-- REGISTER_WRITE (R11): A write to a register with no behaviour of its own stores or ignores the value by access code. -/
  | registerWrite (space : Space) (addr : Nat) (v : W32)
  /-- RESPONSE_WRITE (R363): A completed response is written to the response ring once it has room. -/
  | responseWrite
  /-- EVENT_WRITE (R380): A held event is written to the event ring, preceded by EV_HOST_EVENTS_LOST after drops. -/
  | eventWrite
  /-- INDIRECT_FETCH_DONE (R376): An indirect payload fetch completes or fails. -/
  | indirectFetchDone (ok : Bool) (data : Bytes)
  /-- FETCH_TIMEOUT (R376): An indirect fetch has no completion within 50 ms and the command is refused. -/
  | fetchTimeout
  /-- RESULT_BUFFER_WRITE (R377): A response payload DMA to the result buffer completes or fails. -/
  | resultBufferWrite (ok : Bool)
  /-- RETAINED_RESPONSE_EXPIRY (R378): A retained response is released after 10 s without delivery. -/
  | retainedResponseExpiry (tag : Nat)
  /-- OPEN (R408): A standby receives the OPEN frame starting a tick record. -/
  | recOpen (fseq : Nat) (tick : Nat) (epoch : Nat) (base : Nat)
  /-- ITEM (R411): A standby receives an ITEM frame carrying a command or knot of the record. -/
  | recItem (fseq : Nat) (order : Nat) (kind : Nat) (data : Bytes)
  /-- ASRC (R411): A standby receives the ASRC ratio and fill words of the record. -/
  | recAsrc (fseq : Nat) (entries : List (Nat × Nat × Int × Nat))
  /-- PATCH (R411): A standby receives input samples of the record. -/
  | recPatch (fseq : Nat) (kind : Nat) (id : Nat) (first : Nat) (count : Nat) (samples : List Int)
  /-- GUARD (R417): A standby receives the active's guarded CRCs of the record. -/
  | recGuard (fseq : Nat) (block : Nat) (mask : Nat) (crcs : List Nat)
  /-- BULK (R413): A standby receives a large payload ahead of its item. -/
  | recBulk (fseq : Nat) (handle : Nat) (off : Nat) (data : Bytes)
  /-- SPLICE (R424): A standby receives a splice section and loads it. -/
  | recSplice (fseq : Nat) (size : Nat) (d : SpliceData)
  /-- WARM (R426): A standby receives limiter states and becomes FOLLOWING at the commit. -/
  | recWarm (fseq : Nat) (g : List Nat)
  /-- SEAL (R410): A standby receives SEAL and commits or rejects the record. -/
  | recSeal (fseq : Nat) (tick : Nat) (epoch : Nat) (frames : Nat) (bytes : Nat) (crc : Nat)
  /-- STATUS (R414): A STATUS frame arrives, acknowledging records and reporting the peer's state. -/
  | lnkStatus (fseq : Nat) (lastCommit : Nat) (state : Nat) (healthy : Bool) (mismatch : Nat) (chipId : Nat)
  /-- TIME (R418): A TIME frame arrives and the peer offset is computed and checked. -/
  | lnkTime (fseq : Nat) (tx : Nat) (peerTx : Nat) (peerRx : Nat) (rx : Nat)
  /-- LINK_ACK (R406): A link acknowledgement arrives, confirming frames or requesting a resend. -/
  | lnkAck (fseq : Nat) (nak : Nat)
  /-- FRAME_RESEND_TIMEOUT (R406): A Lanyard frame is not acknowledged within 1 µs and is resent. -/
  | frameResendTimeout (fseq : Nat)
  /-- LANYARD_LINK_CHANGE (R406): A Lanyard lane gains or loses block lock and the link state changes. -/
  | lanyardLinkChange (lane : Nat) (up : Bool)
  /-- LANYARD_ABSENT_10S (R407): Both Lanyard lanes are lost for 10 s and the Lanyard is retired. -/
  | lanyardAbsent10s
  /-- COMMIT_DEADLINE (R410): A record's commit deadline passes uncommitted, leading to LAPSE or STALE. -/
  | commitDeadline
  /-- ACK_DEADLINE (R415): An acknowledgement deadline passes and the active may judge its standby STALE. -/
  | ackDeadline
  /-- MISMATCH_HOLD_EXPIRY (R404): MISMATCH_HOLD ticks pass since the last mismatch and its ARB_FLT condition ends. -/
  | mismatchHoldExpiry
  /-- SPLICE_AUTO_START (R423): A STALE standby with AUTO_SPLICE starts a splice once link and a sealed record are present. -/
  | spliceAutoStart
  /-- SPLICE_SNAPSHOT (R425): At the snapshot tick the active latches sections 9 to 12 for the splice. -/
  | spliceSnapshot
  /-- SWEEP (R446): A periodic Sloe sweep measures every ring and firmware re-plans islands. -/
  | sweep
  /-- WATCHDOG_EXPIRY (R465): Firmware fails to serve the watchdog for 2 s and a warm reset follows. -/
  | watchdogExpiry
  /-- IDLE_ENTRY (R452): The idle conditions hold for IDLE_MS and the device enters IDLE. -/
  | idleEntry
  /-- DOZE_TIMER (R454): The DOZE timer expires and entry begins or EV_DOZE_REFUSED is raised. -/
  | dozeTimer
  /-- DOZE_COMMIT_POINT (R455): Signatures are complete and the Cleat records time and enters DOZE. -/
  | dozeCommitPoint (count : Nat) (rho : Nat) (entry : Nat)
  /-- WAKE_N_ASSERT (R457): WAKE_N goes low past its filter and wakes the device. -/
  | wakeNAssert (count : Nat)
  /-- WAKE_ALARM_DUE (R72): A WAKE_ALARM's real-time count is reached and wakes the device. -/
  | wakeAlarmDue (slot : Nat) (count : Nat)
  /-- HOST_DOZE_WRITE (R456): A host register write during DOZE is latched and may wake the device. -/
  | hostDozeWrite (reg : Nat) (v : W32) (count : Nat)
  /-- MAILBOX_WRITE_DROPPED (R456): A host mailbox write during DOZE is dropped and counted. -/
  | mailboxWriteDropped (count : Nat)
  /-- DOZE_EXIT_DONE (R459): The wake sequence completes, retention is checked, the latch is replayed and the device is IDLE. -/
  | dozeExitDone (lost : W32) (exit : Nat)
  /-- POWER_ON (R465): Supplies rise and a power-on reset begins supply sequencing. -/
  | powerOn
  /-- RESET_N_ASSERT (R465): RESET_N goes low beyond its filter and the chip resets. -/
  | resetNAssert
  /-- FUNCTION_LEVEL_RESET (R357): A PCI Express Function Level Reset performs a warm reset. -/
  | functionLevelReset
  /-- PGOOD_SAMPLE (R494): PGOOD is sampled at the end of sequencing, ending reset or retrying after 100 ms. -/
  | pgoodSample (ok : Bool) (hostSel : Bool) (bootMode : BitVec 2)
  /-- SUPPLY_FAULT (R495): PGOOD falls outside a masked interval and the supplies are taken down. -/
  | supplyFault
  /-- VDD_AON_FALL (R495): VDD_AON falls below 1.62 V, a power-on reset. -/
  | vddAonFall
  /-- THERMAL_SHUTDOWN (R509): A sensor reads 120 °C for 10 ms and the device is held in reset. -/
  | thermalShutdown
  /-- BOOT_IMAGE_CHECKED (R471): ROM finishes loading and checking a boot image and runs it or skips to the next. -/
  | bootImageChecked (ok : Bool)
  /-- HOST_LOAD_GO (R470): The host writes the load word and ROM checks the host-loaded image. -/
  | hostLoadGo (v : W32) (ok : Bool)
  /-- BOOT_READY (R468): Firmware completes INIT, writes HOST_REV and raises EV_BOOT_READY. -/
  | bootReady (failed : List Nat)
  /-- JOURNAL_APPEND (R481): Firmware appends and commits a journal record to flash. -/
  | journalAppend (ok : Bool)
  /-- COMPACTION (R484): Journal compaction runs its steps and commits the new half. -/
  | compaction (step : Nat)
  /-- FLASH_OP_DONE (R489): A flash program or erase completes, or fails twice and raises EV_STORE_ERROR. -/
  | flashOpDone (ok : Bool) (erase : Bool) (addr : Nat)
  /-- IDENTIFY (R516): Returns device, silicon, grade, firmware and chip identity. -/
  | identify (r : AcpReq)
  /-- CAPS_GET (R390): Returns the capacities in force. -/
  | capsGet (r : AcpReq)
  /-- ECHO (R390): Returns the request bytes unchanged. -/
  | echo (r : AcpReq)
  /-- FUNC_START (R391): Starts a run of function units. -/
  | funcStart (r : AcpReq)
  /-- FUNC_STOP (R391): Stops a run of function units. -/
  | funcStop (r : AcpReq)
  /-- FUNC_STATE_GET (R390): Returns the states of a run of units. -/
  | funcStateGet (r : AcpReq)
  /-- RENDER_RATE_SET (R394): Changes the render rate and restores reset values. -/
  | renderRateSet (r : AcpReq)
  /-- DEVICE_RESET (R395): Resets the receiving device warm or chip. -/
  | deviceReset (r : AcpReq)
  /-- DIAG_READ (R396): Returns words from a readable internal region. -/
  | diagRead (r : AcpReq)
  /-- RSP_CONTINUE (R379): Delivers retained bytes of a truncated response. -/
  | rspContinue (r : AcpReq)
  /-- TIME_GET (R53): Returns device time, tick, uncertainty and master data. -/
  | timeGet (r : AcpReq)
  /-- PTP_CONFIG (R55): Configures the PTP instance. -/
  | ptpConfig (r : AcpReq)
  /-- TIME_STEP (R48): Steps device time by a signed offset. -/
  | timeStep (r : AcpReq)
  /-- TIME_SET (R50): Sets device time and enters holdover. -/
  | timeSet (r : AcpReq)
  /-- TSC_SET (R57): Sets a port's board time-stamp trims. -/
  | tscSet (r : AcpReq)
  /-- MCLK_CONFIG (R60): Configures an MCLK output. -/
  | mclkConfig (r : AcpReq)
  /-- PPS_CONFIG (R62): Configures PPS_IN mode and PPS_OUT. -/
  | ppsConfig (r : AcpReq)
  /-- TRIG_OUT_CONFIG (R63): Sets a TRIG_OUT pin's polarity and width. -/
  | trigOutConfig (r : AcpReq)
  /-- TRIGGER_SET (R67): Arms a time-trigger slot. -/
  | triggerSet (r : AcpReq)
  /-- TRIGGER_CANCEL (R67): Disarms a time-trigger slot. -/
  | triggerCancel (r : AcpReq)
  /-- TRIGGER_STATUS (R66): Returns every trigger slot's state. -/
  | triggerStatus (r : AcpReq)
  /-- NET_PORT_CONFIG (R261): Configures an Ethernet port. -/
  | netPortConfig (r : AcpReq)
  /-- NET_PORT_GET (R282): Returns a port's configuration and status. -/
  | netPortGet (r : AcpReq)
  /-- NET_LINK_STATUS (R282): Returns every port's link status. -/
  | netLinkStatus (r : AcpReq)
  /-- NET_PREEMPT_CONFIG (R270): Configures frame preemption on a port. -/
  | netPreemptConfig (r : AcpReq)
  /-- NET_STATS_GET (R277): Returns a port's live or shadow counters. -/
  | netStatsGet (r : AcpReq)
  /-- NET_HALF_CLEAR (R278): Clears counter half-range bits. -/
  | netHalfClear (r : AcpReq)
  /-- NET_WAKE_FILTER_SET (R275): Sets a wake-pattern filter. -/
  | netWakeFilterSet (r : AcpReq)
  /-- NET_WAKE_PORT_SET (R276): Names the wake port and link wake. -/
  | netWakePortSet (r : AcpReq)
  /-- NET_WAKE_GET (R276): Returns wake port and filters. -/
  | netWakeGet (r : AcpReq)
  /-- STREAM_RX_CONFIG (R290): Configures a receive stream. -/
  | streamRxConfig (r : AcpReq)
  /-- STREAM_RX_GET (R312): Returns a receive stream's configuration and state. -/
  | streamRxGet (r : AcpReq)
  /-- STREAM_TX_CONFIG (R297): Configures a transmit stream. -/
  | streamTxConfig (r : AcpReq)
  /-- STREAM_TX_GET (R312): Returns a transmit stream's configuration and state. -/
  | streamTxGet (r : AcpReq)
  /-- INPUT_MAP_SET (R284): Sets input channel sources. -/
  | inputMapSet (r : AcpReq)
  /-- INPUT_MAP_GET (R284): Returns input channel sources. -/
  | inputMapGet (r : AcpReq)
  /-- STREAM_STATS_GET (R311): Returns stream counters. -/
  | streamStatsGet (r : AcpReq)
  /-- TDM_CLUSTER_CONFIG (R302): Configures a TDM cluster. -/
  | tdmClusterConfig (r : AcpReq)
  /-- TDM_CLUSTER_GET (R312): Returns a TDM cluster's configuration and state. -/
  | tdmClusterGet (r : AcpReq)
  /-- MADI_CONFIG (R307): Configures a MADI port. -/
  | madiConfig (r : AcpReq)
  /-- MADI_GET (R312): Returns a MADI port's configuration and state. -/
  | madiGet (r : AcpReq)
  /-- SAP_STATS_GET (R311): Returns TDM or MADI counters. -/
  | sapStatsGet (r : AcpReq)
  /-- FLT_ENGINE_CONFIG (R110): Configures a filter engine. -/
  | fltEngineConfig (r : AcpReq)
  /-- FLT_ENGINE_GET (R123): Returns a filter engine's configuration and counters. -/
  | fltEngineGet (r : AcpReq)
  /-- FLT_CHAN_MAP (R111): Routes channels or outputs to engine slots or DIRECT. -/
  | fltChanMap (r : AcpReq)
  /-- FLT_PHASE_SET (R117): Sets phased-mode phase delays. -/
  | fltPhaseSet (r : AcpReq)
  /-- FLT_DELAY_GET (R118): Returns conditioning delays. -/
  | fltDelayGet (r : AcpReq)
  /-- FLT_COEF_GET (R112): Returns a route's filter coefficients. -/
  | fltCoefGet (r : AcpReq)
  /-- ASRC_GROUP_CONFIG (R113): Configures an ASRC rate group. -/
  | asrcGroupConfig (r : AcpReq)
  /-- ASRC_GROUP_STATUS (R114): Returns an ASRC group's state. -/
  | asrcGroupStatus (r : AcpReq)
  /-- TD_CONFIG (R122): Configures a tone detector. -/
  | tdConfig (r : AcpReq)
  /-- TD_READ (R121): Returns tone detector results. -/
  | tdRead (r : AcpReq)
  /-- LAYOUT_CONFIG (R77): Sets a layout's parameters. -/
  | layoutConfig (r : AcpReq)
  /-- LAYOUT_GET (R104): Returns a layout's parameters and state. -/
  | layoutGet (r : AcpReq)
  /-- SPEAKER_SET (R78): Sets loudspeaker entries. -/
  | speakerSet (r : AcpReq)
  /-- SPEAKER_GET (R78): Returns loudspeaker entries. -/
  | speakerGet (r : AcpReq)
  /-- ROUTE_SET (R80): Sets routing-table words. -/
  | routeSet (r : AcpReq)
  /-- TRJ_CONFIG (R94): Sets FOLD_SKEW. -/
  | trjConfig (r : AcpReq)
  /-- KNOT_PUSH (R105): Applies trajectory knots to object queues. -/
  | knotPush (r : AcpReq)
  /-- OBJ_GAIN_SET (R100): Sets an object's live gain. -/
  | objGainSet (r : AcpReq)
  /-- OBJ_CLEAR (R100): Empties objects' queues and ends their placement. -/
  | objClear (r : AcpReq)
  /-- OBJ_STATE_GET (R106): Returns an object's evaluated state. -/
  | objStateGet (r : AcpReq)
  /-- TRJ_STATS_GET (R104): Returns TRJ counters. -/
  | trjStatsGet (r : AcpReq)
  /-- LAW_BIND (R158): Sets a layout's law binding. -/
  | lawBind (r : AcpReq)
  /-- LAW_BIND_GET (R182): Returns a layout's law binding. -/
  | lawBindGet (r : AcpReq)
  /-- LAW_PROG_LOAD (R177): Checks and loads a customer law program. -/
  | lawProgLoad (r : AcpReq)
  /-- LAW_PROG_UNLOAD (R178): Unloads a customer law program. -/
  | lawProgUnload (r : AcpReq)
  /-- LAW_PROG_LIST (R176): Lists loaded law programs. -/
  | lawProgList (r : AcpReq)
  /-- LAW_TABLE_LOAD (R182): Writes table data into law-owned scratch banks. -/
  | lawTableLoad (r : AcpReq)
  /-- SCH_CONFIG (R170): Sets AFF_WAIT and trace mode. -/
  | schConfig (r : AcpReq)
  /-- SCH_STATUS_GET (R182): Returns scheduler status and counters. -/
  | schStatusGet (r : AcpReq)
  /-- SCH_TRACE_READ (R171): Returns scheduler trace entries. -/
  | schTraceRead (r : AcpReq)
  /-- LAW_ENGINE_SET (R179): Enables or disables a law engine for scheduling. -/
  | lawEngineSet (r : AcpReq)
  /-- LAW_TEST_RUN (R180): Runs a test job on a disabled engine. -/
  | lawTestRun (r : AcpReq)
  /-- LAW_DEBUG (R181): Reads or writes LAW registers or requests halt, step or resume. -/
  | lawDebug (r : AcpReq)
  /-- LAW_STATS_GET (R182): Returns a law engine's statistics. -/
  | lawStatsGet (r : AcpReq)
  /-- RND_LANE_MAP_SET (R209): Sets the lane map. -/
  | rndLaneMapSet (r : AcpReq)
  /-- RND_LANE_MAP_GET (R184): Returns the lane map. -/
  | rndLaneMapGet (r : AcpReq)
  /-- RND_LANE_STATUS (R208): Returns every physical lane's status. -/
  | rndLaneStatus (r : AcpReq)
  /-- RND_MIGRATE (R208): Migrates a logical lane to a reserve or back home. -/
  | rndMigrate (r : AcpReq)
  /-- RND_PATH_GET (R210): Returns an object's path entries. -/
  | rndPathGet (r : AcpReq)
  /-- RND_COEF_GET (R195): Returns interpolator coefficients. -/
  | rndCoefGet (r : AcpReq)
  /-- RND_STATS_GET (R208): Returns render counters. -/
  | rndStatsGet (r : AcpReq)
  /-- CNV_CONFIG (R222): Sets T2_EN and the tier-2 region. -/
  | cnvConfig (r : AcpReq)
  /-- CNV_STATUS_GET (R240): Returns CNV status and counters. -/
  | cnvStatusGet (r : AcpReq)
  /-- CNV_COEF_BEGIN (R227): Begins a coefficient upload to a bank. -/
  | cnvCoefBegin (r : AcpReq)
  /-- CNV_COEF_WRITE (R227): Writes taps to a loading bank. -/
  | cnvCoefWrite (r : AcpReq)
  /-- CNV_COEF_COMMIT (R227): Checks and commits a loading bank. -/
  | cnvCoefCommit (r : AcpReq)
  /-- CNV_COEF_CLEAR (R226): Returns a bank to EMPTY. -/
  | cnvCoefClear (r : AcpReq)
  /-- CNV_SWITCH (R231): Requests or cancels a bank switch with cross-fade. -/
  | cnvSwitch (r : AcpReq)
  /-- CNV_OUT_STATUS (R240): Returns per-output CNV state. -/
  | cnvOutStatus (r : AcpReq)
  /-- CNV_PREEQ_SET (R229): Stores a pre-equalisation table. -/
  | cnvPreeqSet (r : AcpReq)
  /-- CNV_TWIDDLE_GET (R218): Returns the twiddle table. -/
  | cnvTwiddleGet (r : AcpReq)
  /-- OUT_CONFIG (R258): Sets output configuration entries. -/
  | outConfig (r : AcpReq)
  /-- OUT_CONFIG_GET (R259): Returns output configuration entries. -/
  | outConfigGet (r : AcpReq)
  /-- OUT_TRIM_SET (R242): Sets output trim gains. -/
  | outTrimSet (r : AcpReq)
  /-- OUT_MUTE_SET (R248): Sets output mute targets and ramps. -/
  | outMuteSet (r : AcpReq)
  /-- OUT_MAP_SET (R254): Maps outputs to destination channels. -/
  | outMapSet (r : AcpReq)
  /-- OUT_MAP_GET (R253): Returns a destination's map. -/
  | outMapGet (r : AcpReq)
  /-- GUARD_SET (R256): Sets a guarded-output slot. -/
  | guardSet (r : AcpReq)
  /-- GUARD_GET (R255): Returns guarded slots and CRCs. -/
  | guardGet (r : AcpReq)
  /-- OUT_METER_CONFIG (R257): Configures output meters. -/
  | outMeterConfig (r : AcpReq)
  /-- OUT_METER_READ (R257): Returns output meter readings. -/
  | outMeterRead (r : AcpReq)
  /-- SCB_OWNER_SET (R332): Moves a scratch bank to a new owner. -/
  | scbOwnerSet (r : AcpReq)
  /-- SCB_STATUS_GET (R331): Returns scratch-bank status and counters. -/
  | scbStatusGet (r : AcpReq)
  /-- SCB_TEST_CONFIG (R321): Configures the background test. -/
  | scbTestConfig (r : AcpReq)
  /-- DP_STATS_GET (R326): Returns dual-port collision statistics. -/
  | dpStatsGet (r : AcpReq)
  /-- BW_CONFIG (R327): Sets a Bight window's base and length. -/
  | bwConfig (r : AcpReq)
  /-- BW_GET (R331): Returns a Bight window's settings. -/
  | bwGet (r : AcpReq)
  /-- DRC_CONFIG (R343): Configures the DRAM controller. -/
  | drcConfig (r : AcpReq)
  /-- DRC_STATUS_GET (R355): Returns DRC status. -/
  | drcStatusGet (r : AcpReq)
  /-- DRC_FREQ_SET (R349): Switches the DRAM set point. -/
  | drcFreqSet (r : AcpReq)
  /-- DRC_TRAIN (R348): Starts a training run. -/
  | drcTrain (r : AcpReq)
  /-- DRC_RESUME (R352): Resumes a frozen controller. -/
  | drcResume (r : AcpReq)
  /-- DRC_FREEZE_GET (R351): Returns and optionally clears the freeze record. -/
  | drcFreezeGet (r : AcpReq)
  /-- DRC_STATS_GET (R355): Returns DRC counters. -/
  | drcStatsGet (r : AcpReq)
  /-- PAIR_CONFIG (R428): Sets pair mode and parameters. -/
  | pairConfig (r : AcpReq)
  /-- PAIR_STATUS_GET (R428): Returns pair status. -/
  | pairStatusGet (r : AcpReq)
  /-- PAIR_GUARD_STATUS (R428): Returns guarded comparison status. -/
  | pairGuardStatus (r : AcpReq)
  /-- PAIR_SPLICE_START (R428): Starts a splice on a STALE standby. -/
  | pairSpliceStart (r : AcpReq)
  /-- PAIR_STATS_GET (R428): Returns pair counters. -/
  | pairStatsGet (r : AcpReq)
  /-- HLT_REPORT_GET (R441): Returns the health report. -/
  | hltReportGet (r : AcpReq)
  /-- HLT_LOG_READ (R442): Returns fault-log entries. -/
  | hltLogRead (r : AcpReq)
  /-- HLT_STRIKES_GET (R443): Returns channel levels and strikes. -/
  | hltStrikesGet (r : AcpReq)
  /-- HLT_AGEING_GET (R449): Returns island plans and margins. -/
  | hltAgeingGet (r : AcpReq)
  /-- HLT_REPLAN_CONFIG (R449): Configures re-planning and sweeps. -/
  | hltReplanConfig (r : AcpReq)
  /-- PWR_CONFIG (R474): Configures power timers and wake enables. -/
  | pwrConfig (r : AcpReq)
  /-- PWR_STATE_GET (R474): Returns the power state. -/
  | pwrStateGet (r : AcpReq)
  /-- PWR_DOZE (R454): Requests DOZE entry. -/
  | pwrDoze (r : AcpReq)
  /-- PWR_HIBERNATE (R463): Requests HIBERNATE entry. -/
  | pwrHibernate (r : AcpReq)
  /-- PWR_WAKE_REC_GET (R474): Returns the wake record and latch. -/
  | pwrWakeRecGet (r : AcpReq)
  /-- STORE_STATUS_GET (R489): Returns store status. -/
  | storeStatusGet (r : AcpReq)
  /-- STORE_BLOB_WRITE (R486): Writes, commits or deletes a blob. -/
  | storeBlobWrite (r : AcpReq)
  /-- STORE_BLOB_READ (R489): Reads a blob range. -/
  | storeBlobRead (r : AcpReq)
  /-- STORE_COMPACT (R484): Requests journal compaction. -/
  | storeCompact (r : AcpReq)
  /-- FW_UPDATE_BEGIN (R488): Begins a firmware update of the inactive slot. -/
  | fwUpdateBegin (r : AcpReq)
  /-- FW_UPDATE_WRITE (R488): Writes firmware image bytes. -/
  | fwUpdateWrite (r : AcpReq)
  /-- FW_UPDATE_COMMIT (R488): Checks and commits the firmware slot. -/
  | fwUpdateCommit (r : AcpReq)
  /-- REF_IN_LOSS (R497): REF_IN stops and the time PLL free-runs within ±2,000 ppm of 500 MHz. -/
  | refInLoss
  /-- REF_IN_RETURN (R497): REF_IN returns and the time PLL locks to it again, restoring the jitter and alignment figures. -/
  | refInReturn
  /-- RTC_CLOCK_STOP (R464): The Cleat's crystal monitor finds the 32.768 kHz real-time counter stopped and sets RTC_STOPPED, so a wake leaves QUALITY invalid. -/
  | rtcClockStop
  /-- RESET_N_RELEASE (R465): RESET_N is released, the chip reset ends, HOST_SEL and BOOT_MODE are sampled and boot begins. -/
  | resetNRelease (hostSel : Bool) (bootMode : BitVec 2)
  /-- SEQUENCE_RETRY (R494): 100 ms after PGOOD was low at its sample or after a supply fault, the Cleat starts the supply sequence again. -/
  | sequenceRetry
  /-- THERMAL_RECOVERY (R509): The 100 ms thermal check finds every readable sensor at 100 °C or less and the Cleat sequences the supplies again. -/
  | thermalRecovery
  /-- PTP_MESSAGE_TX (R56): A PTP message interval expires and the device sends Sync, Announce or Delay_Req on its ports. -/
  | ptpMessageTx (port : Nat) (kind : Nat)
  /-- SPLICE_BULK_DONE (R425): The active finishes sending the bulk splice sections and fixes the snapshot tick S. -/
  | spliceBulkDone
  /-- MAX_CYC_REACHED (R180): A test job reaches MAX_CYC cycles and is aborted as cause 10, completing LAW_TEST_RUN. -/
  | maxCycReached (e : Nat)
  /-- SWEEP_DONE (R447): A Sloe sweep completes and firmware computes allowed clocks, plans islands and raises margin warnings. -/
  | sweepDone (meas : List RingMeas)
  /-- TRIM_SLEW_DONE (R448): An island's supply trim finishes slewing at 1 mV per µs, after which its clock change or re-plan completion follows. -/
  | trimSlewDone (island : Nat)
  /-- SNAPSHOT_COPY_DONE (R71): A snapshot copy ends, SNAP_BUSY clears and a snapshot queued behind it begins. -/
  | snapshotCopyDone
  deriving DecidableEq, Repr

end Sys2Proof
end

