-- ==== Sys2Proof/Decode.lean ====
section
/-! DEFINITION. Commands spelt by table words. The opcode table gives bits to none of its rows, so no word spells a
command; the 64-bit bundles of the law engines are decoded in Machine/LawDec.lean and the ACP command headers in
Machine/Mailbox.lean, by the encodings of 05 and 14. -/

namespace Sys2Proof

/-- The command a word of `nbits` bits spells by the table's bits: none, for no row gives bits. -/
def decodeTableWord (nbits w : Nat) : Option Instr :=
  match nbits, w with
  | _, _ => none

end Sys2Proof
end

