-- ==== Sys2Proof/Config.lean ====
section
/-! DEFINITION. What one part or one system fixes, and every value the spec leaves open: constants with no body, so that
nothing can be proved of the value they take (assumption log 1). -/

namespace Sys2Proof.Config

/-! ## Fuses and factory data -/

/-- 15 R516, 18 R472: the debug-lock fuse is blown. -/
opaque debugLocked : Bool
/-- 18 R471: the SECURE_EN fuse is blown. -/
opaque secureEn : Bool
/-- 15 Table 15.3: GRADE, true on a VRT-1064-B0-I. -/
opaque gradeI : Bool
/-- 15 Table 15.3: CHIP_ID. -/
opaque chipId : Nat
/-- 10 R262: the factory MAC address of a port. -/
opaque factoryMac : Nat → Nat
/-- 17 R445: the birth record passes its check. -/
opaque birthOk : Bool
/-- 17 R445: N_BIRTH of a ring. -/
opaque nBirth : Nat → Nat
/-- 17 R445: ALPHA of a ring, in units of 2^-20 per degree Celsius. -/
opaque alpha : Nat → Int
/-- 17 R445: FMAX of an island at a trim. -/
opaque fmax : Nat → Nat → Nat

/-! ## Free values -/

/-- 00 R8: what a field holds of a value outside its format, where no rule says whether it saturates or wraps: by the value. -/
opaque outOfRange : Int → Nat
/-- 02 R52: the servo's frequency estimate after a measurement, 10^-4 ppm, by the number of the draw. -/
opaque servoEst : Nat → Int
/-- 02 R48: the increment the servo chooses after a measurement, by the number of the draw. -/
opaque servoInc : Nat → Nat
/-- 02 R48: the servo corrects the phase by a step where it may, by the number of the draw. -/
opaque servoStep : Nat → Bool
/-- 02 R55: what the device announces of its own clock: 0 accuracy, 1 variance, 2 clockIdentity. -/
opaque clockQual : Nat → Nat

/-- A free word: the value after an event the spec leaves undefined, by the number of the draw. -/
opaque freeWord : Nat → Nat
/-- 18 Table 18.14: real-time counts that pass between two reads. -/
opaque rtcAdvance : Nat → Nat
/-- 12 R314: what a word of a scratch bank holds after a power-up of the bank: bank, power-up, word. -/
opaque bankInit : Nat → Nat → Nat → BitVec 32
/-- 05 5.1, 06 R175: the library's bundles. -/
opaque libBundle : Nat → BitVec 64

/-- 05 R135: carry after ABS, which no rule states: by the operand. -/
opaque absCarry : BitVec 32 → Bool

/-- 04 R112, FLT_COEF_GET: phases of the filter of a kind, profile and render rate. -/
opaque fltPhases : Nat → Nat → Nat → Nat
/-- 04 R112: taps of each phase, by kind, profile and render rate. -/
opaque fltTaps : Nat → Nat → Nat → Nat
/-- 04 R112: a coefficient in Q1.31, by kind, profile, render rate, skew or phase in Q16.16, filter phase and tap. -/
opaque fltCoef : Nat → Nat → Nat → Nat → Nat → Nat → Int
/-- 04 R113: an asynchronously converted sample, by its parameters (profile, render rate, source rate code, skew or phase, fill,
ratio), the source samples newest first, and the sample of the block. -/
opaque asrcOut : List Int → List Int → Nat → Int
/-- 04 R114: an estimated deviation, Q16.16 ppm, by the number of the draw. -/
opaque asrcDev : Nat → Int
/-- 04 R114: a buffer fill, Q16.16 input samples, by the number of the draw. -/
opaque asrcFill : Nat → Int
/-- 04 R120: LEVEL of a detector block, by frequency, N, window, render rate and samples. -/
opaque toneLevel : Nat → Nat → Nat → Nat → List Int → Int
/-- 04 R120: PHASE of a detector block, as for LEVEL, with the reference instant of its first sample. -/
opaque tonePhase : Nat → Nat → Nat → Nat → Nat → List Int → Nat

/-- 06 R172: the bundle at which a library law begins. -/
opaque libEntry : Nat → Nat
/-- 06 R174: how far a library gain lies from the exact value of its formula, in units of 2^-28: by LAW_ID, the descriptor's
object, position and extent, the table's words and the rank. The library keeps it within 2^-20. -/
opaque libErr : Nat → List Int → List (BitVec 32) → Nat → Int
/-- 06 Table 6.5: a library gain whose formula this model does not evaluate, or that no rule states; arguments as above. -/
opaque libGain : Nat → List Int → List (BitVec 32) → Nat → Int
/-- 06 R173: the neighbouring cell is taken by a direction within 0.01 degrees of an edge: true across, by the position. -/
opaque libEdge : List Int → Bool

/-- 07 Table 7.7: cycles a serving lane used in a tick: lane, tick. -/
opaque laneLoad : Nat → Nat → Nat
/-- 07 Table 7.10: LOAD_PCT of a serving lane in a tick, Q8.8 %. -/
opaque laneLoadPct : Nat → Nat → Nat

/-- 13 R343: what a byte of DRAM holds that nothing has written since the memory's supply came up: supply count, DRAM address. -/
opaque dramInit : Nat → Nat → BitVec 8
/-- 13 R350: taps that a difference from the baseline stands for: baseline, count. -/
opaque driftTaps : Nat → Nat → Int

/-- 14 R382: the words of CP ROM, by word index, and those of CP RAM, by word index and the number of the draw: firmware's own. -/
opaque cpRom : Nat → BitVec 32
opaque cpRam : Nat → Nat → BitVec 32
/-- 18 R471: the image's signature verifies against a fused key digest that is not revoked. -/
opaque imageSigned : List (BitVec 8) → Bool
/-- 18 R460: the signature of a retained bank whose bytes this model does not lay out: bank, number of the draw. -/
opaque retainSig : Nat → Nat → Nat

/-- 08 Table 8.9: CNV_LOAD of a tick in which CNV ran. -/
opaque cnvLoad : Nat → Nat

end Sys2Proof.Config
end

