-- ==== Sys2Proof/Machine/Num.lean ====
section
/-! DEFINITION. Arithmetic the chapters share: rounding to nearest even (R8), saturation (R7), square roots (R91),
little-endian byte readers and writers (R5), sparse tables and the first failing check (R387). -/

namespace Sys2Proof.Machine

/-- R8: the integer nearest to `a / b`, ties to even; `b` is positive at every use. -/
def rne (a : Int) (b : Nat) : Int :=
  let q := a / (b : Int)
  let r := a - q * (b : Int)
  if 2 * r < b then q else if 2 * r > b then q + 1 else if q % 2 = 0 then q else q + 1

/-- R8 on natural numbers. -/
def rneN (a b : Nat) : Nat := (rne (a : Int) b).toNat

/-- The quotient rounded up (R53: uncertainties never understate). -/
def ceilDiv (a b : Nat) : Nat := (a + b - 1) / b

/-- Saturation to a signed two's-complement number of `n` bits (R7). -/
def satI (n : Nat) (x : Int) : Int :=
  let hi : Int := 2 ^ (n - 1)
  if x < -hi then -hi else if hi ≤ x then hi - 1 else x

/-- The signed value of the low `n` bits of `x` (two's complement). -/
def wrapI (n : Nat) (x : Int) : Int := (BitVec.ofInt n x).toInt

/-- R79: the Q4.28 product, rounded and saturated. -/
def mul28 (a b : Int) : Int := satI 32 (rne (a * b) (2 ^ 28))

/-- 1.0 in Q4.28. -/
def one28 : Int := 2 ^ 28

/-- One digit of the binary square root. -/
def sqrtGo : Nat → Nat → Nat → Nat
  | 0, _, r => r
  | f + 1, s, r =>
    let c := r + 2 ^ f
    if c * c ≤ s then sqrtGo f s c else sqrtGo f s r

/-- The floor of the square root, for arguments below 2^160. -/
def floorSqrt (s : Nat) : Nat := sqrtGo 80 s 0

/-- R91: the square root rounded as the spec's `isqrt`. -/
def isqrtR (s : Nat) : Nat :=
  let q := floorSqrt s
  if s - q * q > q then q + 1 else q

/-- Floor division of integers that may be negative (0.4.8). -/
def fdiv (a : Int) (b : Nat) : Int := a / (b : Int)

/-! ## Bytes -/

/-- `n` little-endian bytes of `v` (R5). -/
def le : Nat → Nat → Bytes
  | 0, _ => []
  | n + 1, v => BitVec.ofNat 8 v :: le n (v / 256)

/-- `n` little-endian bytes of a signed value. -/
def leI (n : Nat) (v : Int) : Bytes := le n ((v % (2 ^ (8 * n) : Int)).toNat)

/-- The unsigned value of a little-endian byte string. -/
def leNat : Bytes → Nat
  | [] => 0
  | b :: r => b.toNat + 256 * leNat r

/-- `n` zero bytes: a reserved field of a response (R13). -/
def zb (n : Nat) : Bytes := List.replicate n 0

/-- The unsigned field of `n` bytes at offset `o`. -/
def uN (n : Nat) (p : Bytes) (o : Nat) : Nat := leNat ((p.drop o).take n)

/-- u8 at offset `o`. -/
def u8 (p : Bytes) (o : Nat) : Nat := uN 1 p o
/-- u16 at offset `o`. -/
def u16 (p : Bytes) (o : Nat) : Nat := uN 2 p o
/-- u32 at offset `o`. -/
def u32 (p : Bytes) (o : Nat) : Nat := uN 4 p o
/-- u64 at offset `o`. -/
def u64 (p : Bytes) (o : Nat) : Nat := uN 8 p o
/-- s8 at offset `o`. -/
def s8 (p : Bytes) (o : Nat) : Int := wrapI 8 (u8 p o)
/-- s16 at offset `o`. -/
def s16 (p : Bytes) (o : Nat) : Int := wrapI 16 (u16 p o)
/-- s32 at offset `o`. -/
def s32 (p : Bytes) (o : Nat) : Int := wrapI 32 (u32 p o)
/-- s64 at offset `o`. -/
def s64 (p : Bytes) (o : Nat) : Int := wrapI 64 (uN 8 p o)

/-- R13: the `n` bytes at offset `o` hold a non-zero reserved field. -/
def rsv (p : Bytes) (o n : Nat) : Bool := uN n p o != 0

/-- A Bool as 0 or 1. -/
def b01 (b : Bool) : Nat := if b then 1 else 0

/-- A word with `v` placed at bit `sh`. -/
def fld (v sh : Nat) : Nat := v * 2 ^ sh

/-- The `n` bits of `v` from bit `lo` up. -/
def bitsOf (v lo n : Nat) : Nat := v / 2 ^ lo % 2 ^ n

/-- The 32-bit two's-complement word of a signed value. -/
def wI (v : Int) : Nat := (v % (2 ^ 32 : Int)).toNat

/-- A string of words, each four little-endian bytes. -/
def words : List Nat → Bytes
  | [] => []
  | w :: r => le 4 w ++ words r

/-- Pads with zeros to a multiple of `n` bytes. -/
def padTo (n : Nat) (b : Bytes) : Bytes := b ++ zb ((n - b.length % n) % n)

/-- Cuts a byte string into pieces of `n` bytes, `k` of them. -/
def chunks (n : Nat) : Nat → Bytes → List Bytes
  | 0, _ => []
  | k + 1, b => b.take n :: chunks n k (b.drop n)

/-- CRC-32 (reflected polynomial 0xEDB8_8320): eight steps on one byte. -/
def crcByte (c : Nat) : Nat → Nat
  | 0 => c
  | k + 1 => crcByte (if c % 2 = 1 then (c / 2) ^^^ 0xEDB88320 else c / 2) k

/-- The running CRC-32 remainder over a byte string. -/
def crcGo : Nat → Bytes → Nat
  | c, [] => c
  | c, b :: r => crcGo (crcByte (c ^^^ b.toNat) 8) r

/-- The IEEE 802.3 CRC-32: initial value and final inversion all ones. -/
def crc32 (b : Bytes) : Nat := crcGo 0xFFFFFFFF b ^^^ 0xFFFFFFFF

/-! ## Sparse tables -/

/-- The value under key `k`, or the default `d`. -/
def tget {α : Type} (d : α) : Tbl α → Nat → α
  | [], _ => d
  | (j, v) :: r, k => if j = k then v else tget d r k

/-- The table without key `k`. -/
def tdel {α : Type} : Tbl α → Nat → Tbl α
  | [], _ => []
  | (j, v) :: r, k => if j = k then tdel r k else (j, v) :: tdel r k

/-- The table with `v` put at key `k`, in the order of the keys. -/
def tins {α : Type} : Tbl α → Nat → α → Tbl α
  | [], k, v => [(k, v)]
  | (j, w) :: r, k, v => if j < k then (j, w) :: tins r k v else (k, v) :: (j, w) :: r

/-- Writes `v` at key `k`; the default value `d` removes the entry. -/
def tput {α : Type} [DecidableEq α] (d : α) (t : Tbl α) (k : Nat) (v : α) : Tbl α :=
  if v = d then tdel t k else tins (tdel t k) k v

/-- Applies `f` to the value under key `k`. -/
def tmod {α : Type} [DecidableEq α] (d : α) (t : Tbl α) (k : Nat) (f : α → α) : Tbl α :=
  tput d t k (f (tget d t k))

/-! ## Lists and checks -/

/-- `[a, a+1, …, a+n−1]`. -/
def rangeFrom (a : Nat) : Nat → List Nat
  | 0 => []
  | n + 1 => a :: rangeFrom (a + 1) n

/-- The status of the first failing check, or none (R387: the order of the list). -/
def firstErr : List (Bool × Nat) → Option Nat
  | [] => none
  | (b, e) :: r => if b then some e else firstErr r

/-- The first failing member of a run, with its offset, and its status (R388). -/
def firstFail (f : Nat → Option Nat) : Nat → List Nat → Option (Nat × Nat)
  | _, [] => none
  | i, k :: r => match f k with
    | some e => some (i, e)
    | none => firstFail f (i + 1) r

/-- A list fold that reads left to right over identifiers. -/
def forRun {α : Type} (f : Nat → α → α) : List Nat → α → α
  | [], a => a
  | k :: r, a => forRun f r (f k a)

/-- Replaces the element at index `i`. -/
def setAt {α : Type} : List α → Nat → α → List α
  | [], _, _ => []
  | _ :: r, 0, v => v :: r
  | a :: r, i + 1, v => a :: setAt r i v

/-- The sum of a list of integers. -/
def sumI : List Int → Int
  | [] => 0
  | a :: r => a + sumI r

/-- The largest of a list of natural numbers, 0 for none. -/
def maxN : List Nat → Nat
  | [] => 0
  | a :: r => max a (maxN r)

/-- The least of a list of natural numbers, if any. -/
def minN : List Nat → Option Nat
  | [] => none
  | a :: r => match minN r with
    | none => some a
    | some b => some (min a b)

end Sys2Proof.Machine
end

