-- ==== Sys2Proof/Machine/State.lean ====
section
/-! DEFINITION. The machine's state as plain data, its reset value, and the reasons a step can stop. -/

namespace Sys2Proof.Machine

/-- Everything the spec gives the device but the mailbox SRAM and the queue of commands. -/
structure Dev where
  /-- 02: the time unit. -/
  tim : Tim := {}
  /-- 03: the trajectory engine. -/
  trj : Trj := {}
  /-- 04: the filter chain. -/
  flt : Flt := {}
  /-- 05: law engines LE0 to LE7. Reset as LawEng. -/
  law : Tbl LawEng := []
  /-- 06: scheduler, bindings and law programs. -/
  sch : Sch := {}
  /-- 07: the render fabric. -/
  rnd : Rnd := {}
  /-- 08: the convolution engine. -/
  cnv : Cnv := {}
  /-- 09: the output stage. -/
  out : Out := {}
  /-- 10: the Ethernet block. -/
  net : Net := {}
  /-- 11: the stream engine. -/
  str : Str := {}
  /-- 11: the serial audio ports. -/
  sap : Sap := {}
  /-- 12: scratch banks and windows. -/
  scb : Scb := {}
  /-- 13: the DRAM controller. -/
  drc : Drc := {}
  /-- 14: the host interface. -/
  hst : Hst := {}
  /-- 16: pairing. -/
  pair : Pair := {}
  /-- 17: the health block. -/
  hlt : Hlt := {}
  /-- 18: power, and the Cleat. -/
  pwr : Pwr := {}
  /-- 18: the boot. -/
  boot : Boot := {}
  /-- 19: the configuration store. -/
  store : Store := {}
  /-- 01 R34: function units, 4096 x kind + index. Reset STOPPED. -/
  units : Tbl FUnit := []
  /-- 15 R393: runs of units whose EV_FUNC_DONE is still to come. Reset none. -/
  runs : List FuncRun := []
  /-- 01 R15: render rate code: 0 88.2, 1 96, 2 176.4, 3 192 kHz. DESIGN CHOICE 1. -/
  rate : Nat := 1
  /-- 02 R69: for each slot past its lead, what its control cycle changed, as it stood before. Reset none. -/
  undo : Tbl (Option Undo) := []
  /-- The model's own: how many free values have been drawn. DESIGN CHOICE 0. -/
  free : Nat := 0
  /-- The model's own: the command cleared the mailbox SRAM (18 R466). DESIGN CHOICE 0. -/
  mboxClear : Bool := false
  deriving DecidableEq, Repr

/-- The machine: the device, the mailbox SRAM and the commands that wait. -/
structure State where
  /-- The device. -/
  dev : Dev
  /-- 14 R359: mailbox SRAM, 1 MiB; unlisted bytes read 0; addresses rise and no entry is 0. Reset 0 (18 R466). -/
  mbox : List Host.Cell
  /-- The commands that wait, the next one first. Reset empty. -/
  pending : List Instr
  deriving DecidableEq, Repr

/-- Why a step stops with a fault. -/
inductive Fault where
  /-- A command names a port, engine, lane, slot or other unit the device does not have, or carries operands no such
  event has. Raised by every meaning whose command names a unit. Safe: the hardware has no such event. -/
  | noSuchUnit
  deriving DecidableEq, Repr

/-- Why a command is refused. -/
inductive Refusal where
  /-- The command has no meaning yet. Raised by `exec` alone. Safe: nothing follows from it. -/
  | notModelled (mnemonic : String)
  deriving DecidableEq, Repr

/-- The machine as supplies rise: every field at its power-on value (18 R466, Table 14.3: BOOT reads RESET). -/
def State.reset : State := { dev := {}, mbox := [], pending := [] }

end Sys2Proof.Machine
end

