-- ==== Sys2Proof/Machine/Ops.lean ====
section
/-! DEFINITION. The operations the meanings share: mailbox memory, time, interrupts, events, the fault log and function
units. -/

namespace Sys2Proof.Machine

/-! ## The mailbox SRAM (14 R359) -/

/-- The canonical form of the mailbox: addresses strictly rising, each entry inside the SRAM and not 0. -/
def Memory.wfFrom : Nat → List Host.Cell → Bool
  | _, [] => true
  | lo, (a, b) :: r => decide (lo ≤ a) && decide (a < 0x100000) && decide (b ≠ 0) && Memory.wfFrom (a + 1) r

/-- The canonical form (assumption log 2). -/
def Memory.wf (m : List Host.Cell) : Bool := Memory.wfFrom 0 m

/-- The byte at an offset; an unlisted byte reads 0 (18 R466: SRAM is initialised to zero). -/
def Memory.get : List Host.Cell → Nat → Byte
  | [], _ => 0
  | (a, b) :: r, k => if a = k then b else Memory.get r k

/-- Writes one byte, keeping the canonical form. -/
def Memory.put : List Host.Cell → Nat → Byte → List Host.Cell
  | [], k, v => if v = 0 then [] else [(k, v)]
  | (a, b) :: r, k, v =>
    if a < k then (a, b) :: Memory.put r k v
    else if a = k then (if v = 0 then r else (k, v) :: r)
    else (if v = 0 then (a, b) :: r else (k, v) :: (a, b) :: r)

/-- Writes one byte inside the SRAM; an offset outside it ignores the write (14 R358). -/
def Memory.set (m : List Host.Cell) (k : Nat) (v : Byte) : List Host.Cell :=
  if k < 0x100000 then Memory.put m k v else m

/-- Reads `n` bytes in ascending address. -/
def Memory.read (m : List Host.Cell) : Nat → Nat → Bytes
  | _, 0 => []
  | a, n + 1 => Memory.get m a :: Memory.read m (a + 1) n

/-- Writes a byte string in ascending address. -/
def Memory.write : List Host.Cell → Nat → Bytes → List Host.Cell
  | m, _, [] => m
  | m, a, b :: r => Memory.write (Memory.set m a b) (a + 1) r

/-- R361: reads `n` bytes of a ring from offset `o`. -/
def Memory.ringRead (m : List Host.Cell) (base size : Nat) : Nat → Nat → Bytes
  | _, 0 => []
  | o, n + 1 => Memory.get m (base + o % size) :: Memory.ringRead m base size (o + 1) n

/-- R361: writes a byte string into a ring from offset `o`. -/
def Memory.ringWrite (base size : Nat) : List Host.Cell → Nat → Bytes → List Host.Cell
  | m, _, [] => m
  | m, o, b :: r => Memory.ringWrite base size (Memory.set m (base + o % size) b) (o + 1) r

/-! ## Numbers of the render rate (01) -/

/-- 01 R15: Fr in Hz. -/
def frOf (rate : Nat) : Nat :=
  match rate with
  | 0 => 88200
  | 1 => 96000
  | 2 => 176400
  | _ => 192000

/-- 01 Table 1.10: slots (objects) of a lane. -/
def slotsPerLane (rate : Nat) : Nat := if rate < 2 then 16 else 8
/-- 01 R15: objects in force. -/
def nObj (rate : Nat) : Nat := if rate < 2 then 1024 else 512
/-- 01 Table 1.10: greatest delay of a path in samples. -/
def maxDelay (rate : Nat) : Nat := if rate < 2 then 16384 else 32768
/-- 08 R212: TAPS_MAX. -/
def tapsMax (rate : Nat) : Nat := if rate < 2 then 16384 else 8192
/-- 11 Table 11.1: I/O sample rates in Hz by rate code 0 to 5: 44.1, 48, 88.2, 96, 176.4, 192 kHz. -/
def ioRate (c : Nat) : Nat :=
  match c with
  | 0 => 44100
  | 1 => 48000
  | 2 => 88200
  | 3 => 96000
  | 4 => 176400
  | _ => 192000

/-! ## Time (01 R22, 02) -/

/-- 01 R22: instant of sample `n` from the epoch, in 2^-16 ns, rounded under R8. -/
def sampleT (rate n : Nat) : Nat := rneN (n * 65536000000000) (frOf rate)

/-- 01 R22: T_k in 2^-16 ns. -/
def boundT (rate k : Nat) : Nat := sampleT rate (16 * k)

/-- 01 R22: the tick that contains an instant in 2^-16 ns, by the boundaries as the time unit holds them. -/
def tickOf (rate t : Nat) : Nat :=
  let k := t * frOf rate / (16 * 65536000000000)
  if boundT rate (k + 1) ≤ t then k + 1 else if t < boundT rate k then k - 1 else k

/-- 14 R374: the first block whose boundary is at or after an instant. -/
def blockAt (rate t : Nat) : Nat :=
  let k := tickOf rate t
  if t ≤ boundT rate k then k else k + 1

/-- 02 R45: device time in 2^-16 ns, as the time unit presents it. -/
def Dev.now16 (d : Dev) : Nat := rneN d.tim.now (2 ^ 24)
/-- 02 R45: the nanoseconds of device time as presented. -/
def Dev.nowNs (d : Dev) : Nat := d.now16 / 65536
/-- 02 R45: the fraction of device time as presented, 2^-16 ns. -/
def Dev.nowFrac (d : Dev) : Nat := d.now16 % 65536
/-- Moves device time forward to an instant in 2^-16 ns; it never moves back. -/
def Dev.advance (d : Dev) (t : Nat) : Dev := { d with tim := { d.tim with now := max d.tim.now (t * 2 ^ 24) } }

/-- Table 2.1: the code of QUALITY. -/
def Quality.code : Quality → Nat
  | .locked => 0
  | .holdover => 1
  | .coarse => 2
  | .invalid => 3

/-- 02 Table 2.1: an ACP time value of 16 bytes. -/
def timeValue (ns frac q : Nat) : Bytes := le 8 ns ++ le 2 frac ++ le 1 q ++ zb 5

/-! ## Counters -/

/-- Adds to a 32-bit counter of a table. -/
def bump (t : Tbl W32) (k : Nat) (n : Nat) : Tbl W32 := tput 0 t k (tget 0 t k + BitVec.ofNat 32 n)

/-! ## Interrupts (14 R381) -/

/-- 14 Table 14.6: sets a bit of HOST_IRQ_STATUS: 0 RSP, 1 EVT, 2 CMD_SPACE, 3 STATUS, 4 RING_ERR, 5 WAKE. -/
def Dev.setIrq (d : Dev) (bit : Nat) : Dev :=
  { d with hst := { d.hst with irq := d.hst.irq ||| BitVec.ofNat 6 (2 ^ bit) } }

/-- 14 R381: the pending set. -/
def Dev.pendingIrq (d : Dev) : BitVec 6 := d.hst.irq &&& d.hst.irqEn

/-- 14 R381: drives IRQ_N, INTA and MSI from the pending set. -/
def Dev.driveIrq (d : Dev) : Dev :=
  let p := d.pendingIrq != 0
  { d with hst := { d.hst with
      irqN := !p
      inta := p && !d.hst.hspi && !d.hst.msiEn
      msi := if p && d.hst.irqN && !d.hst.hspi && d.hst.msiEn then d.hst.msi + 1 else d.hst.msi } }

/-! ## Events (14 R380, 15 R398) -/

/-- 15 Table 15.8: severity of an event. -/
def evSev (code : Nat) : Nat :=
  if [0x8101, 0x8210, 0x8301, 0x8303, 0x8620, 0x8900, 0x8F03, 0x9002, 0x9100].contains code then 0
  else if [0x8100, 0x8300, 0x8601, 0x8D00, 0x8E00, 0x8E02, 0x8E04, 0x9000, 0x9102].contains code then 1
  else if [0x8110, 0x8112, 0x8200, 0x8201, 0x8302, 0x8600, 0x8A00, 0x8A03, 0x8D01, 0x8D04, 0x8E01, 0x8F02].contains code then 2
  else if [0x8D02, 0x8F01].contains code then 4
  else 3

/-- 14 R361: bytes an event takes in its ring. -/
def evLen (e : EvRec) : Nat := (24 + e.payload.length + 7) / 8 * 8

/-- 14 R361: used bytes of a ring. -/
def Ring.used (r : Ring) : Nat := if r.size = 0 then 0 else (r.tail + r.size - r.head) % r.size

/-- 14 R361: a producer may write an entry of `n` padded bytes. -/
def Ring.room (r : Ring) (n : Nat) : Bool := r.size != 0 && n + 8 + r.used ≤ r.size

/-- 14 R380: how many events of the queue the event ring cannot take now. -/
def evUnfit : Nat → List EvRec → Nat
  | _, [] => 0
  | free, e :: r => if evLen e ≤ free then evUnfit (free - evLen e) r else (e :: r).length

/-- 14 R380: an event held; beyond 64 that the ring cannot take, it is dropped and counted, and a place is kept for
EV_HOST_EVENTS_LOST. -/
def Dev.hold (d : Dev) (e : EvRec) : Dev :=
  let h := d.hst
  let free := if h.evt.size = 0 then 0 else h.evt.size - 8 - h.evt.used
  if evUnfit free (h.evq.filter (fun x => x.code != 0x8112) ++ [e]) ≤ 64 then { d with hst := { h with evq := h.evq ++ [e] } }
  else
    let q := if h.evq.any (fun x => x.code == 0x8112) then h.evq
      else h.evq ++ [{ code := 0x8112, inst := 0, ns := 0, frac := 0, sev := 2, payload := zb 8 }]
    { d with hst := { h with evq := q, evLost := h.evLost + 1 } }

/-- 15 R398: raises an event with its severity of Table 15.8; `inst` above 254 reads 0xFF. -/
def Dev.raiseSev (d : Dev) (code inst sev : Nat) (p : Bytes) : Dev :=
  d.hold { code := code, inst := if inst > 254 then 255 else inst, ns := d.nowNs, frac := d.nowFrac, sev := sev, payload := p }

/-- 15 R398: raises an event. -/
def Dev.raise (d : Dev) (code inst : Nat) (p : Bytes) : Dev := d.raiseSev code inst (evSev code) p

/-! ## Function units (01 R34) -/

/-- 15 Table 15.5: units of a kind. -/
def kindSize (k : Nat) : Nat :=
  match k with
  | 0 => 1
  | 1 => 32
  | 2 => 1
  | 3 => 6
  | 4 => 16
  | 5 => 256
  | 6 => 256
  | 7 => 10
  | 8 => 8
  | 9 => 1
  | _ => 0

/-- 15 Table 15.6: the kind is an audio unit. -/
def kindAudio (k : Nat) : Bool := k != 4 && k != 9

/-- The function unit of a kind and index. -/
def Dev.unit (d : Dev) (kind i : Nat) : FUnit := tget {} d.units (4096 * kind + i)

/-- Writes a function unit. -/
def Dev.setUnit (d : Dev) (kind i : Nat) (u : FUnit) : Dev := { d with units := tput {} d.units (4096 * kind + i) u }

/-- 15 Table 15.5: the code of a unit's state. -/
def FState.code : FState → Nat
  | .stopped => 0
  | .starting => 1
  | .running => 2
  | .stopping => 3
  | .retired => 4

/-- The unit is STOPPED. -/
def Dev.stopped (d : Dev) (kind i : Nat) : Bool := (d.unit kind i).st == .stopped
/-- The unit is RETIRED. -/
def Dev.retired (d : Dev) (kind i : Nat) : Bool := (d.unit kind i).st == .retired
/-- The unit is RUNNING or STOPPING, or RETIRED with its fade still to come: it acts in the tick in progress. -/
def Dev.acting (d : Dev) (kind i : Nat) : Bool :=
  match (d.unit kind i).st with
  | .running => true
  | .stopping => true
  | .retired => (d.unit kind i).startBlk.isSome || (match (d.unit kind i).retBlk with
      | some b => d.tim.tick ≤ b
      | none => false)
  | _ => false

/-- 01 Table 1.9: the unit works on block `m`: it acts, or `m` is not before the block it starts at. -/
def Dev.serves (d : Dev) (kind i m : Nat) : Bool :=
  match (d.unit kind i).st with
  | .starting => (d.unit kind i).startBlk.any (fun j => decide (j ≤ m))
  | _ => d.acting kind i

/-- 01 Table 1.9, R514: numerator over 256 of a unit's fade at sample `s` of block `b`. -/
def FUnit.factor (u : FUnit) (b s : Nat) : Nat :=
  match u.startBlk with
  | none => 0
  | some j =>
    if b < j then 0
    else
      let up := if b = j then s else 16
      let down := match u.stopBlk with
        | none => 16
        | some x => if b < x then 16 else if b = x then 16 - s else 0
      let ret := match u.retBlk with
        | none => 16
        | some x => if b < x then 16 else if b = x ∧ u.stopBlk ≠ some x then 16 - s else if b = x then 16 else 0
      if ret = 16 then up * down else if down = 16 then up * ret else if down = 0 ∨ ret = 0 then 0 else down * ret

/-- The unit's fade at sample `s` of block `b`, in Q4.28 (exact). -/
def Dev.fade (d : Dev) (kind i b s : Nat) : Int := ((d.unit kind i).factor b s : Int) * 2 ^ 20

/-- 01 R34: the unit is RUNNING over some sample of block `b`. -/
def Dev.liveAt (d : Dev) (kind i b : Nat) : Bool :=
  decide (0 < (d.unit kind i).factor b 8)

/-- 15 R393: a unit of a run has not yet ended what the run began. -/
def runOpen (d : Dev) (r : FuncRun) (i : Nat) : Bool :=
  let u := d.unit r.kind i
  if r.action = 0 then u.st == .starting
  else u.st == .stopping || (u.st == .starting && u.stopBlk.isSome) || (u.st == .running && u.stopBlk.isSome)

/-- 15 R393: EV_FUNC_DONE of a run. -/
def Dev.funcDone (d : Dev) (r : FuncRun) : Dev :=
  let n := ((rangeFrom r.first r.count).filter (fun i => d.retired r.kind i)).length
  d.raise 0x8101 r.kind (le 1 r.kind ++ le 1 r.action ++ le 2 r.first ++ le 2 r.count ++ le 2 n ++ le 1 r.tag
    ++ le 1 (if r.slot = 255 then 0 else 1) ++ le 1 r.slot ++ zb 1 ++ le 4 r.seq ++ le 8 r.block)

/-- 15 R393: reports every run whose units have all ended, oldest first. -/
def reapGo : List FuncRun → List FuncRun → Dev → Dev
  | [], keep, d => { d with runs := keep }
  | r :: rs, keep, d =>
    if (rangeFrom r.first r.count).any (runOpen d r) then reapGo rs (keep ++ [r]) d else reapGo rs keep (d.funcDone r)

/-- 15 R393: reports every run that has ended. -/
def Dev.reapRuns (d : Dev) : Dev := reapGo d.runs [] d

/-! ## Health counts the rest of the device reads (17) -/

/-- 17 Table 17.1: KIND of a channel. -/
def chanKind (c : Nat) : Nat :=
  if c < 68 then 0 else if c < 580 then 1 else if c < 836 then 2 else if c < 1092 then 3 else if c < 1108 then 4
  else if c < 1148 then 5 else if c < 1156 then 6 else if c < 1164 then 7 else if c = 1164 then 8
  else if c < 1171 then 9 else c - 1161

/-- 17 Table 17.1: first channel of a KIND. -/
def chanBase (k : Nat) : Nat :=
  match k with
  | 0 => 0
  | 1 => 68
  | 2 => 580
  | 3 => 836
  | 4 => 1092
  | 5 => 1108
  | 6 => 1148
  | 7 => 1156
  | 8 => 1164
  | 9 => 1165
  | _ => k + 1161

/-- 17 Table 17.1: channels of a KIND. -/
def chanCount (k : Nat) : Nat :=
  match k with
  | 0 => 68
  | 1 => 512
  | 2 => 256
  | 3 => 256
  | 4 => 16
  | 5 => 40
  | 6 => 8
  | 7 => 8
  | 8 => 1
  | 9 => 6
  | _ => 1

/-- 17 R431: a channel's bucket. -/
def Dev.chan (d : Dev) (c : Nat) : Chan := tget {} d.hlt.ch c
/-- 17 R435: the channel is RETIRED. -/
def Dev.chRet (d : Dev) (c : Nat) : Bool := (d.chan c).retired
/-- 17 Table 17.4: channels retired of a KIND. -/
def Dev.nRet (d : Dev) (k : Nat) : Nat :=
  (d.hlt.ch.filter (fun x => chanKind x.1 == k && x.2.retired)).length

/-- 07 R183: a physical lane; lanes 64 to 67 are idle after reset. -/
def laneDflt (p : Nat) : Lane := if p < 64 then { logical := some p } else { st := .idle }
/-- 07 R183: the physical lane `p`. -/
def Dev.lane (d : Dev) (p : Nat) : Lane := tget (laneDflt p) d.rnd.lane p
/-- Writes a physical lane. -/
def Dev.setLane (d : Dev) (p : Nat) (l : Lane) : Dev :=
  { d with rnd := { d.rnd with lane := tput (laneDflt p) d.rnd.lane p l } }
/-- 07 R205: reserve lanes that are free, lowest first. -/
def Dev.freeReserves (d : Dev) : List Nat :=
  [64, 65, 66, 67].filter (fun p => (d.lane p).st == .idle && (d.lane p).logical.isNone)

/-- 17 Table 17.4: FLAGS. -/
def Dev.hltFlags (d : Dev) : Nat :=
  fld (b01 (d.rnd.shed.length != 0)) 0 + fld (b01 (d.freeReserves.length == 0)) 1 + fld (b01 (d.nRet 1 != 0)) 2
  + fld (b01 (d.out.gs.any (fun g => g.2.en && d.chRet (68 + g.2.out)))) 3 + fld (b01 (d.nRet 7 != 0)) 4
  + fld (b01 (!d.cnv.t2In)) 5 + fld (b01 (d.nRet 11 != 0)) 6 + fld (b01 (d.nRet 12 != 0)) 7
  + fld (b01 (d.tim.quality != .locked)) 8 + fld (b01 d.pair.mmTick.isSome) 9
  + fld (b01 (d.hlt.isl.any (fun i => i.2.warned))) 10 + fld (b01 (d.hlt.isl.any (fun i => i.2.floorLost))) 11
  + fld (b01 (d.hlt.isl.any (fun i => i.2.deferred))) 12 + fld (b01 (d.nRet 4 != 0)) 13
  + fld (b01 (d.nRet 2 + d.nRet 3 + d.nRet 5 + d.nRet 6 != 0)) 14 + fld (b01 (d.nRet 8 + d.nRet 9 != 0)) 15
  + fld (b01 (d.nRet 13 + d.nRet 14 != 0)) 16 + fld (b01 d.pair.diverged) 17

/-- 16 R404, 17 R438: ARB_FLT, with R400 and 20 R499 (assumption log 3). -/
def Dev.arbFlt (d : Dev) : Bool :=
  if d.boot.st != .ready then true
  else if d.pair.mode = 0 then false
  else (match d.pair.st with
      | .solo | .stale | .bulk | .rewarming | .lapse => true
      | _ => false) || d.pair.mmTick.isSome || d.pair.both
    || (d.hlt.flags &&& d.hlt.arbMask) != 0

/-- What follows from the state at once: runs that have ended, HLT_FLAGS, ARB_FLT, and the interrupt pins. -/
def settle (d : Dev) : Dev :=
  let d := d.reapRuns
  let d := { d with hlt := { d.hlt with flags := BitVec.ofNat 32 d.hltFlags } }
  let d := { d with pair := { d.pair with flt := d.arbFlt } }
  d.driveIrq

/-! ## Outcomes -/

/-- A meaning that changes the device alone; `ok` says that the units it names exist (assumption log 4). -/
def run (ok : Bool) (f : Dev → Dev) (s : State) : Host.Outcome State Fault Refusal :=
  if ok then
    let d := settle (f s.dev)
    .next { s with dev := { d with mboxClear := false }, mbox := if d.mboxClear then [] else s.mbox }
  else .fault .noSuchUnit

/-- A meaning that also reads or writes the mailbox SRAM. -/
def runM (ok : Bool) (f : Dev → List Host.Cell → Dev × List Host.Cell) (s : State) : Host.Outcome State Fault Refusal :=
  if ok then
    let r := f s.dev s.mbox
    let d := settle r.1
    .next { s with dev := { d with mboxClear := false }, mbox := if d.mboxClear then [] else r.2 }
  else .fault .noSuchUnit

end Sys2Proof.Machine
end

