-- ==== Sys2Proof/Machine/Host.lean ====
section
/-! DEFINITION. Completion of commands: the tag table, waiting responses and the response queue (14.5, 14.6), and the
events a waiting timed command's drop raises. -/

namespace Sys2Proof.Machine

/-- 14 Table 14.11: the response header's flags. -/
def rspFlags (more repl rep notRet : Bool) : Nat := b01 more + 2 * b01 repl + 4 * b01 rep + 8 * b01 notRet

/-- 14 R368: enters a completed command in the tag table. -/
def Dev.tagDone (d : Dev) (op tag seq st fl : Nat) : Dev :=
  { d with hst := { d.hst with tags := tput {} d.hst.tags tag { used := true, seq := seq, op := op, status := st, flags := fl } } }

/-- 14 R367: releases a tag that is in flight under SEQ `seq`. -/
def Dev.tagFree (d : Dev) (tag seq : Nat) : Dev :=
  if tget none d.hst.inflight tag = some seq then { d with hst := { d.hst with inflight := tdel d.hst.inflight tag } } else d

/-- 14 R367: takes a tag in flight. -/
def Dev.tagTake (d : Dev) (tag seq : Nat) : Dev :=
  { d with hst := { d.hst with inflight := tput none d.hst.inflight tag (some seq) } }

/-- 14 R372, R373, R377: a command completes: NOREPLY suppresses a response that is no error; a result buffer is written
first; any other response joins the queue of completed responses. -/
def Dev.emit (d : Dev) (op tag seq flags : Nat) (rb : Option (Nat × Nat)) (st : Nat) (p : Bytes) (repl : Bool)
    (cont : Option (Nat × Nat × Nat) := none) : Dev :=
  let d := d.tagDone op tag seq st (2 * b01 repl)
  if flags / 4 % 2 = 1 ∧ st < 256 then d.tagFree tag seq
  else
    let r : Rsp := { op := op, tag := tag, flags := rspFlags false repl false false, status := st, seq := seq, len := 0, payload := p, cont := cont }
    match rb with
    | some (a, n) =>
      if p.length = 0 then { d with hst := { d.hst with rspQ := d.hst.rspQ ++ [r] } }
      else { d with hst := { d.hst with rbWait := d.hst.rbWait ++ [{ r := r, addr := a, cap := min n p.length, full := p }] } }
    | none => { d with hst := { d.hst with rspQ := d.hst.rspQ ++ [r] } }

/-- 14 R372: completes every waiting response that awaits nothing more, oldest first. -/
def flushGo : List Waiting → List Waiting → Dev → Dev
  | [], keep, d => { d with hst := { d.hst with wait := keep } }
  | w :: ws, keep, d =>
    if w.ackTick.isNone && w.key == (0, 0) then flushGo ws keep (d.emit w.op w.tag w.seq w.flags w.rb w.status w.payload w.repl)
    else flushGo ws (keep ++ [w]) d

/-- 14 R372: completes every waiting response that awaits nothing more. -/
def Dev.flushWait (d : Dev) : Dev := flushGo d.hst.wait [] d

/-- 14 R371: an operation ends: the responses that await it take their status and payload. -/
def Dev.finish (d : Dev) (op arg st : Nat) (p : Bytes) : Dev :=
  let f := fun (w : Waiting) =>
    if w.key == (op, arg) then
      { w with key := (0, 0), status := (if st = 0 then w.status else st), payload := p, ackTick := if st < 256 then w.ackTick else none,
               repl := w.repl && decide (st < 256) }
    else w
  Dev.flushWait { d with hst := { d.hst with wait := d.hst.wait.map f } }

/-- 14 R371: a response awaits the operation. -/
def Dev.awaits (d : Dev) (op arg : Nat) : Bool := d.hst.wait.any (fun w => w.key == (op, arg))

/-- 14 R372, 16 R415: every response that awaits an acknowledgement completes with OK_UNREPLICATED. -/
def Dev.unreplicated (d : Dev) : Dev :=
  let f := fun (w : Waiting) => if w.ackTick.isSome then { w with ackTick := none, repl := false, status := 2 } else w
  Dev.flushWait { d with hst := { d.hst with wait := d.hst.wait.map f } }

/-- 16 R414: record `n` is acknowledged. -/
def Dev.acknowledged (d : Dev) (n : Nat) : Dev :=
  let f := fun (w : Waiting) => match w.ackTick with
    | some t => if t ≤ n then { w with ackTick := none, repl := true } else w
    | none => w
  Dev.flushWait { d with hst := { d.hst with wait := d.hst.wait.map f } }

/-- 15 R385: the device is a standby (ROLE 2 or 3). -/
def Dev.standby (d : Dev) : Bool :=
  match d.pair.st with
  | .stale | .bulk | .rewarming | .following | .lapse => true
  | _ => false

/-- 14 Table 14.5: ROLE. -/
def Dev.roleCode (d : Dev) : Nat :=
  match d.pair.st with
  | .off | .solo => 0
  | .active => 1
  | .stale | .bulk => 3
  | _ => 2

/-- 14 R372: the device is active and its standby applies records. -/
def Dev.replicates (d : Dev) : Bool := d.pair.st == .active && d.pair.peerOk

/-- 14 R374: a waiting timed command is dropped, with its cause and status. -/
def Dev.timedDropped (d : Dev) (t : Timed) (cause st : Nat) : Dev :=
  d.raise 0x8110 0 (le 1 t.tag ++ le 1 cause ++ le 2 t.op ++ le 4 t.seq ++ le 8 t.block ++ le 2 st ++ zb 6)

/-- 14 R374: drops the waiting timed commands that `p` names, oldest first. -/
def dropGo (p : Timed → Bool) (cause : Nat) : List Timed → List Timed → Dev → Dev
  | [], keep, d => { d with hst := { d.hst with timed := keep } }
  | t :: ts, keep, d => if p t then dropGo p cause ts keep (d.timedDropped t cause 0) else dropGo p cause ts (keep ++ [t]) d

/-- 14 R374: drops the waiting timed commands that `p` names. -/
def Dev.dropTimed (d : Dev) (p : Timed → Bool) (cause : Nat) : Dev := dropGo p cause d.hst.timed [] d

/-- 14 R374: the units a waiting timed command acts on, as (kind, index); outputs as kind 100. -/
def timedUnits (t : Timed) : List (Nat × Nat) :=
  if t.op = 0x0110 ∨ t.op = 0x0111 then (rangeFrom (u16 t.payload 2) (u16 t.payload 4)).map (fun i => (u8 t.payload 0, i))
  else if t.op = 0x0B02 ∨ t.op = 0x0B03 then (rangeFrom (u16 t.payload 0) (u16 t.payload 2)).map (fun i => (100, i))
  else [(0, 0)]

/-- 14 R374: a unit of a timed command is RETIRED. -/
def Dev.unitGone (d : Dev) (u : Nat × Nat) : Bool := if u.1 = 100 then d.chRet (68 + u.2) else d.retired u.1 u.2

/-- 14 R374: every unit the command acts on is RETIRED. -/
def Dev.timedGone (d : Dev) (t : Timed) : Bool := (timedUnits t).all d.unitGone

/-- 18 R451: moves the power state; POWER of HOST_STATUS changes raise STATUS. -/
def Dev.setPower (d : Dev) (p : PowSt) : Dev :=
  if d.pwr.st == p then d else { d with pwr := { d.pwr with st := p } }.setIrq 3

/-- 18 R452: an IDLE device returns to ACTIVE. -/
def Dev.wakeActive (d : Dev) : Dev := if d.pwr.st == .idle then { d with pwr := { d.pwr with st := .active, timerOut := false } }.setIrq 3 else d

/-- 18 R468: moves the boot state; a change raises STATUS. -/
def Dev.setBoot (d : Dev) (b : BootSt) : Dev :=
  if d.boot.st == b then d else { d with boot := { d.boot with st := b } }.setIrq 3

/-- 16 R401: moves the pair state; a change of ROLE raises STATUS. -/
def Dev.setPair (d : Dev) (p : PairSt) : Dev :=
  let r := d.roleCode
  let d := { d with pair := { d.pair with st := p } }
  if d.roleCode = r then d else d.setIrq 3

end Sys2Proof.Machine
end

