-- ==== Sys2Proof/Machine/Faults.lean ====
section
/-! DEFINITION. Strikes, the fault log and retirement (17.1, 17.2), with the law jobs an engine loses (01 R29). -/

namespace Sys2Proof.Machine

/-! ## Law jobs missed and the decision trace (06) -/

/-- 06 R171: writes a trace entry under TRACE_MODE. -/
def Dev.trace (d : Dev) (t : TraceEnt) : Dev :=
  let s := d.sch
  if s.traceMode = 0 ∨ s.traceStop then d
  else
    let w := s.traceWr + 1
    { d with sch := { s with
        trace := tput {} s.trace s.traceWr t
        traceWr := w % 2048
        traceWrapped := s.traceWrapped || w == 2048
        traceStop := (s.traceMode == 2 && w == 2048) || (s.traceMode == 3 && t.kind != 0) } }

/-- Device time since the boundary of a tick, in cycles of the 1.0 GHz scheduler clock. -/
def Dev.cycleIn (d : Dev) (k : Nat) : Nat := (d.now16 - boundT d.rate k) / 65536

/-- 06 R171: a DISCARD or FULL entry for `n` jobs. -/
def Dev.traceJobs (d : Dev) (kind n tick cyc : Nat) : Dev :=
  d.trace { tickLo := tick % 2 ^ 32, cycle := cyc, obj := n, layout := 255, engPri := 0, kind := kind, reason := 0, qdepth := d.sch.queue.length }

/-- 06: key of an object and lead layout. -/
def affKey (obj lead : Nat) : Nat := 32 * obj + lead

/-- 01 R29: a job is missed: it is counted, and the paths it serves keep their gain. -/
def Dev.missJob (d : Dev) (j : Job) : Dev :=
  if j.test.isSome then d
  else
    let k := affKey j.obj j.lead
    { d with sch := { d.sch with
        miss := d.sch.miss + 1
        periodN := if tget none d.sch.periodN k == some (j.block, 3) then tput none d.sch.periodN k (some (j.block, 1)) else d.sch.periodN } }

/-- 06 R168: a job returns to the queue at its place in the issue order. -/
def insJob (j : Job) : List Job → List Job
  | [] => [j]
  | q :: r => if j.order < q.order then j :: q :: r else q :: insJob j r

/-- The law engine `e`. -/
def Dev.eng (d : Dev) (e : Nat) : LawEng := tget {} d.law e
/-- Writes law engine `e`. -/
def Dev.setEng (d : Dev) (e : Nat) (x : LawEng) : Dev := { d with law := tput {} d.law e x }

/-! ## The fault log (17 R442) -/

/-- 17 Table 17.5: the bytes of a log entry. -/
def LogEnt.bytes (l : LogEnt) : Bytes :=
  le 8 l.tick ++ le 2 l.channel ++ le 1 l.kind ++ le 1 l.code ++ le 1 l.cause ++ le 1 l.level ++ le 1 (b01 l.historic)
  ++ zb 1 ++ le 2 l.source ++ zb 2 ++ le 4 l.detail ++ zb 8

/-- 17 R442, R437: writes a log entry; an entry with code 2 or 3 is also to be appended to the store. -/
def Dev.log (d : Dev) (l : LogEnt) : Dev :=
  let h := d.hlt
  let d := { d with hlt := { h with
      log := tput {} h.log h.logWr l, logWr := (h.logWr + 1) % 512, wrapped := h.wrapped || h.logWr == 511 } }
  if (l.code = 2 ∨ l.code = 3) ∧ ¬ l.historic then
    { d with store := { d.store with appends := d.store.appends ++ [(3, 0, l.bytes)] } }
  else d

/-- 17 R442: an entry of a channel. -/
def Dev.logCh (d : Dev) (c code cause src det : Nat) : Dev :=
  d.log { tick := d.tim.tick, channel := c, kind := chanKind c, code := code, cause := cause, level := (d.chan c).level,
          source := src, detail := det }

/-! ## Effects of a retirement (17 Table 17.2) -/

/-- 01 Table 1.9, R514: a function unit becomes RETIRED; an audio unit fades out over block k+2. Waiting timed commands
whose units are then all RETIRED are dropped (14 R374). -/
def Dev.retireUnit (d : Dev) (kind i : Nat) : Dev :=
  let u := d.unit kind i
  if u.st == .retired then d
  else
    let d := d.setUnit kind i { u with st := .retired, retBlk := some (d.tim.tick + 2) }
    d.dropTimed d.timedGone 0

/-- 07 R184: the object in slot `i` (16 L + t) of the lane map, if any; Table 7.1 by default. -/
def Dev.slotObj (d : Dev) (i : Nat) : Option Nat :=
  let n := slotsPerLane d.rate
  let dflt := if i % 16 < n then n * (i / 16) + i % 16 else 0xFFFF
  let o := tget dflt d.rnd.map i
  if o = 0xFFFF then none else some o

/-- 07: the objects of a logical lane's slots. -/
def Dev.laneObjs (d : Dev) (l : Nat) : List Nat := (rangeFrom (16 * l) 16).filterMap d.slotObj

/-- The object `o`. -/
def Dev.obj (d : Dev) (o : Nat) : Obj := tget {} d.trj.obj o

/-- 17 R436: a logical lane's placed objects. -/
def Dev.lanePlaced (d : Dev) (l : Nat) : List Nat := (d.laneObjs l).filter (fun o => (d.obj o).ev.placed)

/-- 17 R436: the key of a logical lane, plus 1: 0 for a lane with no placed object. -/
def Dev.laneKey (d : Dev) (l : Nat) : Nat := maxN ((d.lanePlaced l).map (fun o => (d.obj o).ev.prio + 1))

/-- 17 R436: lane `a` is shed before lane `b`. -/
def Dev.shedBefore (d : Dev) (a b : Nat) : Bool :=
  let ka := d.laneKey a
  let kb := d.laneKey b
  let na := (d.lanePlaced a).length
  let nb := (d.lanePlaced b).length
  ka < kb || (ka == kb && (na < nb || (na == nb && b < a)))

/-- 17 R436: the logical lane to shed among a list. -/
def pickShed (d : Dev) : List Nat → Nat → Nat
  | [], best => best
  | l :: r, best => pickShed d r (if d.shedBefore l best then l else best)

/-- 07: the physical lane that serves logical lane `l`. -/
def Dev.server (d : Dev) (l : Nat) : Option Nat := (rangeFrom 0 68).find? (fun p => (d.lane p).logical == some l)

/-- 17 R436: sheds logical lane `c` for the lane `p` that failed; EV_LANE_SHED and OBJECTS_SHED. -/
def Dev.shedLane (d : Dev) (c p : Nat) : Dev :=
  let n := (d.laneObjs c).length
  let b := d.tim.tick + 2
  let key := d.laneKey c
  let d := d.log { tick := d.tim.tick, channel := p, kind := 0, code := 4, cause := 0, level := (d.chan p).level, source := 0x8F01, detail := c }
  let d := { d with hlt := { d.hlt with objectsShed := d.hlt.objectsShed + n }, rnd := { d.rnd with shed := d.rnd.shed ++ [c], shedding := d.rnd.shedding ++ [(c, b)] } }
  d.raise 0x8F01 c (le 1 c ++ le 1 p ++ leI 1 ((key : Int) - 1) ++ le 1 n ++ zb 4 ++ le 8 b)

/-- 07 R203, R205: physical lane `q` begins its self-test. -/
def Dev.testing (d : Dev) (q : Nat) : Dev := d.setLane q { d.lane q with st := .testing }

/-- 07 R205: the next free reserve lane attaches logical lane `l`, or a lane is shed; `p` is the lane that failed. -/
def Dev.attach (d : Dev) (l p : Nat) : Dev :=
  match d.freeReserves with
  | q :: _ =>
    let d := d.testing q
    { d with rnd := { d.rnd with attachAt := d.rnd.attachAt ++ [(q, l, none)] } }
  | [] =>
    let c := pickShed d ((rangeFrom 0 64).filter (fun x => !d.rnd.shed.contains x && (x == l || (d.server x).isSome))) l
    let d1 := d.shedLane c p
    if c = l then d1
    else match d.server c with
      | none => d1
      | some q => { d1 with rnd := { d1.rnd with attachAt := d1.rnd.attachAt ++ [(q, l, some (d.tim.tick + 3))] } }

/-- 07 R203, R206: the migration whose new lane `p` is retired takes the next free reserve or fails. -/
def Dev.migLost (d : Dev) (p : Nat) : Dev :=
  match d.rnd.mig with
  | none => d
  | some m =>
    if m.new ≠ p then d
    else match d.freeReserves, m.done with
      | q :: _, false =>
        let d := d.testing q
        { d with rnd := { d.rnd with mig := some { m with new := q, block := none, replan := if m.replan = 2 then 0 else m.replan } } }
      | _, _ => Dev.finish { d with rnd := { d.rnd with mig := none } } 0x0903 0 0x109 []

/-- 07 R203: each attach whose lane `p` is retired before its takeover is made anew. -/
def Dev.attachLost (d : Dev) (p : Nat) : Dev :=
  let lost := d.rnd.attachAt.filter (fun a => a.1 == p)
  lost.foldl (fun d a => d.attach a.2.1 p) { d with rnd := { d.rnd with attachAt := d.rnd.attachAt.filter (fun a => a.1 != p) } }

/-- 07 R205, R206: logical lane `l` lost its lane `p`: a migration before its takeover is abandoned and its new lane serves
`l`; otherwise a reserve attaches it, or a lane is shed. -/
def Dev.replace (d : Dev) (l p : Nat) : Dev :=
  if d.rnd.shed.contains l then d
  else match d.rnd.mig with
    | some m =>
      if m.done then d.attach l p
      else
        let d := Dev.finish { d with rnd := { d.rnd with mig := none } } 0x0903 0 0x109 []
        { d with rnd := { d.rnd with attachAt := d.rnd.attachAt ++ [(m.new, l, m.block.map (fun _ => d.tim.tick + 2))] } }
    | none => d.attach l p

/-- 07 R203, R205, R206, 17 R436: a physical lane is retired. `now` says that the fault keeps it from handing over the
block it renders. -/
def Dev.retireLane (d : Dev) (p : Nat) (now : Bool) : Dev :=
  let x := d.lane p
  let blk := if now then d.tim.tick else d.tim.tick + 1
  let d := d.setLane p { x with st := .retired, logical := none, lastBlk := x.logical.map (fun l => (l, blk)) }
  let d := (d.migLost p).attachLost p
  match x.logical with
  | none => d
  | some l => d.replace l p

/-- 17 Table 17.2: a law engine is retired: its slot job returns to the queue, its running job is missed. -/
def Dev.retireEng (d : Dev) (e : Nat) : Dev :=
  let x := d.eng e
  let d := match x.slot with
    | some j => { d with sch := { d.sch with queue := insJob j d.sch.queue } }
    | none => d
  let d := match x.run with
    | some j => d.missJob j
    | none => d
  let d := d.setEng e { x with st := .retired, slot := none, run := none, coll := none, runEn := false, flight := [], disabling := false }
  (d.finish 0x0830 e 0 []).finish 0x0831 e 0x109 []

/-- 17 Table 17.2, 02 R54: the time servo is retired. -/
def Dev.retireServo (d : Dev) : Dev :=
  { d with tim := { d.tim with
      servoEn := false
      quality := if d.tim.quality == .invalid then .invalid else .holdover
      qualSet := if d.tim.quality == .invalid then 3 else 1
      uBase := if d.tim.quality == .locked then some 1000 else d.tim.uBase
      uSince := if d.tim.quality == .locked then d.tim.now else d.tim.uSince } }

/-- 08 R225: bank A (false) or B of an output. -/
def CnvOut.bank (o : CnvOut) (b : Bool) : Bank := if b then o.b else o.a
/-- 08 R234: the banks an output uses: true is B. -/
def CnvOut.used (o : CnvOut) : List Bool := if o.fade.isSome then [false, true] else [o.sel == 1]
/-- 08 R213: the bank needs T2. -/
def Dev.needsT2 (d : Dev) (b : Bank) : Bool := d.cnv.t2En && b.st != .empty && decide (2048 < b.taps)
/-- 08 R234: outputs in degraded correction. -/
def Dev.degCount (d : Dev) : Nat :=
  (d.cnv.out.filter (fun o => o.2.used.any (fun k => d.needsT2 (o.2.bank k) && (!d.cnv.t2In || (o.2.bank k).t2Lost)))).length

/-- 08 R233: tier 2 goes out of service; EV_CNV_DEGRADED reports it once. -/
def Dev.t2Out (d : Dev) : Dev :=
  let d := { d with cnv := { d.cnv with verifying := false, t2Bad := true } }
  if d.cnv.t2In then
    let d := { d with cnv := { d.cnv with t2In := false, ctr := bump d.cnv.ctr 6 1 } }
    d.raise 0x8A00 0 (le 1 2 ++ zb 1 ++ le 2 d.degCount)
  else d

/-- 13 Table 13.3: the code of COND. -/
def Cond.code : Cond → Nat
  | .off => 0
  | .training => 1
  | .inService => 2
  | .untrained => 3
  | .frozen => 4

/-- 13 R344: COND changes; EV_DRC_COND reports it. -/
def Dev.setCond (d : Dev) (c : Cond) : Dev :=
  if d.drc.cond == c then d
  else
    let p := d.drc.cond
    Dev.raise { d with drc := { d.drc with cond := c } } 0x8D00 0 (le 1 c.code ++ le 1 p.code ++ zb 2)

/-- 13 R347, R353, 08 R235: DRC is retired: tier 2 stays out of service; `cause` is that of EV_DRC_RETIRED. -/
def Dev.retireDrc (d : Dev) (cause : Nat) : Dev :=
  let d := (d.retireUnit 9 0).setCond .off
  let d := { d with drc := { d.drc with run := none, retries := [], switch := none, queue := [] } }
  let d := d.t2Out
  let d := d.raise 0x8D02 0 (le 1 cause ++ zb 3)
  ((d.finish 0x0D02 0 0x109 []).finish 0x0D03 0 0x109 []).finish 0x0D04 0 0x109 []

/-- 16 R401: EV_PAIR_STALE. -/
def Dev.evStale (d : Dev) (entered cause : Nat) : Dev :=
  d.raise 0x8E01 0 (le 1 entered ++ le 1 cause ++ zb 6 ++ le 8 d.pair.lastCommit)

/-- 16 R412, R423: the standby enters STALE; a splice it was in has been interrupted. -/
def Dev.goStale (d : Dev) (cause : Nat) : Dev :=
  let ctr := if d.pair.phase = 0 then d.pair.ctr else bump d.pair.ctr 12 1
  let d := { d with pair := { d.pair with ctr := bump ctr 13 1, sawRec := false, rejected := false, phase := 0, snap := none, rcv := none, recBuf := [], missed := 0, staleHeld := none, caughtUp := false, bulk := [], latched := [], snapGot := 0 } }
  (d.setPair .stale).evStale 1 cause

/-- 16 R407: the Lanyard is retired. -/
def Dev.retireLanyard (d : Dev) : Dev :=
  let d := d.finish 0x0E03 0 0x109 []
  let d := match d.pair.st with
    | .bulk | .rewarming | .following | .lapse => d.goStale 4
    | _ => d
  if d.pair.st == .active then Dev.unreplicated { d with pair := { d.pair with peerOk := false } } else d

/-- 17 Table 17.2: the effects of a retirement on the channel's unit. `aux` is the cause EV_DRC_RETIRED carries. -/
def Dev.retireFx (d : Dev) (c cause aux : Nat) : Dev :=
  let i := c - chanBase (chanKind c)
  match chanKind c with
  | 0 => d.retireLane i (cause == 3)
  | 1 =>
    let o : OutCh := tget {} d.out.ch i
    Dev.dropTimed { d with out := { d.out with ch := tput {} d.out.ch i { o with retBlk := some (d.tim.tick + 2) } } } d.timedGone 0
  | 2 => d.retireUnit 5 i
  | 3 => d.retireUnit 6 i
  | 4 =>
    let p : Port := tget {} d.net.port i
    Dev.retireUnit { d with net := { d.net with port := tput {} d.net.port i { p with link := false, signal := false, sending := none } } } 4 i
  | 5 =>
    let m := i / 4
    if [0, 1, 2, 3].all (fun k => d.chRet (1108 + 4 * m + k)) then d.retireUnit 7 m else d
  | 6 => d.retireUnit 8 i
  | 7 => d.retireEng i
  | 8 => d
  | 9 => d.retireUnit 3 i
  | 10 => d.retireDrc aux
  | 11 => d.retireLanyard
  | 12 => d.retireServo
  | 13 => d.retireUnit 2 0
  | _ => d.retireUnit 0 0

/-- 17 R450: the opcode group of a channel's subsystem. -/
def chanGroup (c : Nat) : Nat :=
  match chanKind c with
  | 0 => 9
  | 1 => 0x0B
  | 2 => 4
  | 3 => 4
  | 4 => 3
  | 5 => 5
  | 6 => 5
  | 7 => 8
  | 8 => 7
  | 9 => 6
  | 10 => 0x0D
  | 11 => 0x0E
  | 12 => 2
  | 13 => 0x0A
  | _ => 9

/-- 16 R423, R424: a unit's configuration changes by another way than a command while the active sends BULK: the splice starts again. -/
def Dev.spliceAgain (d : Dev) : Dev :=
  if d.pair.serving ∧ d.pair.phase = 1 ∧ d.pair.st = .active then
    { d with pair := { d.pair with ctr := bump d.pair.ctr 12 1, bulkBytes := 0, snap := none, latched := [] } }
  else d

/-- 17 R435: retires a channel once, with its log entries, effects and EV_UNIT_RETIRED. A consequence of another
retirement (cause 8) writes no entry of a permanent fault. -/
def Dev.retire1 (d : Dev) (c cause aux : Nat) : Dev :=
  if d.chRet c then d
  else
    let d := if cause = 8 then d else d.logCh c 2 cause 0 0
    let x := d.chan c
    let d := { d with hlt := { d.hlt with ch := tput {} d.hlt.ch c { x with retired := true, cause := cause, leak := false } } }
    let d := d.logCh c 3 cause 0x8F00 0
    let blk := if chanKind c = 0 ∧ cause = 3 then d.tim.tick + 1 else d.tim.tick + 2
    let d := (d.retireFx c cause aux).spliceAgain
    d.raise 0x8F00 (chanGroup c) (le 1 (chanKind c) ++ le 1 cause ++ le 2 c ++ zb 4 ++ le 8 blk)

/-- 17 R431, R432: a transient event on a channel: at most one strike a tick; the eighth retires it by `ret`. `src` is the
event code of the raising rule, or 0, and `det` its count or address. -/
def Dev.strikeBy (ret : Dev → Dev) (d : Dev) (c src det : Nat) : Dev :=
  let x := d.chan c
  if x.retired then d
  else if x.lastTick = some d.tim.tick then d.logCh c 1 0 src det
  else
    let y : Chan := { x with level := x.level + 1, leak := true, strikes := x.strikes + 1, lastTick := some d.tim.tick }
    let d := { d with hlt := { d.hlt with ch := tput {} d.hlt.ch c y } }
    let d := d.logCh c 0 0 src det
    if x.level + 1 = 8 then ret d else d

/-- 02 R50, R53, R54: a lock is lost: holdover with U_now 1,000 ns, and a strike on the time servo. -/
def Dev.loseLock (d : Dev) : Dev :=
  if d.tim.quality == .locked then
    Dev.strikeBy (fun d => d.retire1 1173 1 2)
      { d with tim := { d.tim with quality := .holdover, qualSet := 1, uBase := some 1000, uSince := d.tim.now, lockRun := 0, lockEst := [] } } 1173 0 0
  else d

/-- 02 R55: the selected master is given up. -/
def Dev.dropMaster (d : Dev) : Dev :=
  { d with tim := { d.tim with ptpS := { d.tim.ptpS with
      masterId := 0, slavePort := 255, portState := 0, masterClass := 0, masterRank := [], syncWait := none, syncT12 := none, delayReq := none, havePd := false } } }

/-- 17 R435, Table 17.2: retires a channel; with the trajectory engine, RENDER is retired with cause 8; with the PTP slave port
the master is lost (10 R281). -/
def Dev.retire (d : Dev) (c cause : Nat) (aux : Nat := 2) : Dev :=
  let d := d.retire1 c cause aux
  if c = 1164 then d.retire1 1175 8 aux
  else if chanKind c = 4 ∧ d.tim.ptpS.slavePort = c - 1092 then d.dropMaster.loseLock else d

/-- 17 R431: a transient event on a channel. -/
def Dev.strike (d : Dev) (c src det : Nat) : Dev := d.strikeBy (fun d => d.retire c 1) c src det

/-- 17 R431: the leak timer of a channel expires. -/
def Dev.leak (d : Dev) (c : Nat) : Dev :=
  let x := d.chan c
  if x.retired ∨ x.level = 0 then d
  else { d with hlt := { d.hlt with ch := tput {} d.hlt.ch c { x with level := x.level - 1, leak := decide (1 < x.level) } } }

end Sys2Proof.Machine
end

