-- ==== Sys2Proof/Machine/Cmd.lean ====
section
/-! DEFINITION. How an ACP command passes the checks of 14 Table 14.10 and completes (14 R366 to R377, 15 R384 to R389). -/

namespace Sys2Proof.Machine

/-- What a command's body sees of its validation. -/
structure Ctx where
  op : Nat
  tag : Nat
  seq : Nat
  /-- 16 R411: the tick in which the command was validated. -/
  vt : Nat
  /-- 14 R374, 02 R70: the block a timed command or a control cycle names. -/
  blk : Option Nat
  /-- 02 R70: the command stands in a batch of this slot. -/
  slot : Option Nat
  /-- 01 R32: the place in the order of taking. -/
  ord : Nat
  /-- 14 R374: the boundary of a waiting timed command has come; retired members of its run are passed over. -/
  due : Bool := false
  /-- 14 R382: the mailbox SRAM, where the command reads it. -/
  mem : List Host.Cell := []

/-- What a command's body answers. -/
structure Rep where
  st : Nat
  data : Bytes
  dev : Dev
  /-- 14 R371: the operation whose end the response awaits. -/
  defer : Option (Nat × Nat)
  /-- 14 R379: what an RSP_CONTINUE delivers from. -/
  cont : Option (Nat × Nat × Nat) := none

/-- A command of the catalogue (15 Table 15.9). -/
structure Cmd where
  op : Nat
  /-- 15 R384: the class, judged from the own payload: true is A. -/
  classA : Bytes → Dev → Bool
  /-- 15 R385: the class depends on the payload. -/
  mixed : Bool
  /-- 15 Table 15.1: may stand in a batch. -/
  batch : Bool
  /-- 15 Table 15.1: may carry TIMED. -/
  timed : Bool
  body : Ctx → Bytes → Dev → Rep

/-- 15 R389: a refusal changes nothing. -/
def no (st : Nat) (d : Dev) : Rep := { st := st, data := [], dev := d, defer := none }
/-- A refusal whose response names fields (14 Table 14.11). -/
def noWith (st : Nat) (p : Bytes) (d : Dev) : Rep := { st := st, data := p, dev := d, defer := none }
/-- Done, with no response payload. -/
def ok (d : Dev) : Rep := { st := 0, data := [], dev := d, defer := none }
/-- Done, with a response payload. -/
def okData (p : Bytes) (d : Dev) : Rep := { st := 0, data := p, dev := d, defer := none }
/-- Accepted; the response awaits an operation. -/
def later (key : Nat × Nat) (p : Bytes) (d : Dev) : Rep := { st := 0, data := p, dev := d, defer := some key }
/-- The first failing check of a list in the order of 15 R387 refuses; else `r`. -/
def checks (l : List (Bool × Nat)) (d : Dev) (r : Rep) : Rep :=
  match firstErr l with
  | some e => no e d
  | none => r

/-- A class A command that is neither batchable nor timed. -/
def cmdA (op : Nat) (body : Ctx → Bytes → Dev → Rep) : Cmd :=
  { op := op, classA := fun _ _ => true, mixed := false, batch := false, timed := false, body := body }
/-- A class L command. -/
def cmdL (op : Nat) (body : Ctx → Bytes → Dev → Rep) : Cmd :=
  { op := op, classA := fun _ _ => false, mixed := false, batch := false, timed := false, body := body }

/-- 15 R387: the place of a status in the order of the checks; a status of success stands last. -/
def errRank (st : Nat) : Nat :=
  match st with
  | 0x101 => 1
  | 0x102 => 2
  | 0x109 => 3
  | 0x103 => 4
  | 0x10B => 5
  | 0x104 => 6
  | 0x10C => 7
  | 0x106 => 8
  | 0x107 => 9
  | _ => 10

/-- 15 R387: the earlier of two statuses. -/
def errMin (a b : Nat) : Nat := if errRank b < errRank a then b else a

/-- 01 R32: makes a setting of item `key` for block `b`, unless a command taken later has set it for that block. -/
def Dev.setItem (d : Dev) (c : Ctx) (key b : Nat) (f : Dev → Dev) : Dev :=
  let put := fun (d : Dev) => f { d with hst := { d.hst with lastSet := tput none d.hst.lastSet key (some (b, c.ord)) } }
  match tget none d.hst.lastSet key with
  | some (b', o) => if b' = b ∧ c.ord < o then d else put d
  | none => put d

/-- 14 Table 14.7: FLAGS bits. -/
def AcpReq.isTimed (r : AcpReq) : Bool := r.flags.getLsbD 0
def AcpReq.isInd (r : AcpReq) : Bool := r.flags.getLsbD 1
def AcpReq.isRb (r : AcpReq) : Bool := r.flags.getLsbD 3
/-- 14 Table 14.8: offset of part 2. -/
def AcpReq.rbOff (r : AcpReq) : Nat := if r.isTimed then 16 else 0
/-- 14 Table 14.8: offset of part 3. -/
def AcpReq.ownOff (r : AcpReq) : Nat := r.rbOff + (if r.isRb then 16 else 0)
/-- 14 Table 14.9: the result buffer. -/
def AcpReq.rb (r : AcpReq) : Option (Nat × Nat) := if r.isRb then some (u64 r.inl r.rbOff, u32 r.inl (r.rbOff + 8)) else none
/-- 14 R366: the command's own inline payload. -/
def AcpReq.own (r : AcpReq) : Bytes := r.inl.drop r.ownOff
/-- Table 2.1: the time value in 2^-16 ns. -/
def AcpReq.time (r : AcpReq) : Nat := u64 r.inl 0 * 65536 + u16 r.inl 8

/-- 14 Table 14.9: a descriptor's reserved field is not 0. -/
def descBad (inl : Bytes) (o : Nat) : Bool := rsv inl (o + 12) 4

/-- 14 R375: the inline limit. -/
def Dev.inlineLimit (d : Dev) : Nat := if d.hst.cmd.size = 0 then 16384 else min 16384 (d.hst.cmd.size / 4)

/-- Two ranges of bytes share one. -/
def overlaps (a n b m : Nat) : Bool := decide (a < b + m) && decide (b < a + n)

/-- 14 R366: under HSPI a descriptor's range lies below 0xF_0000 and outside every enabled ring. -/
def Dev.hspiRange (d : Dev) (a n : Nat) : Bool :=
  decide (a + n ≤ 0xF0000) && [d.hst.cmd, d.hst.rsp, d.hst.evt].all (fun r => r.size == 0 || !overlaps a n r.base r.size)

/-- 14 R376: EV_HOST_DMA_ERROR. -/
def Dev.dmaError (d : Dev) (kind op tag seq addr : Nat) : Dev :=
  d.raise 0x8111 0 (le 1 tag ++ le 1 kind ++ le 2 op ++ le 4 seq ++ le 8 addr)

/-- 14 R372: a refused command is answered at once. -/
def Dev.refuse (d : Dev) (op : Nat) (r : AcpReq) (st : Nat) (p : Bytes) : Dev :=
  d.emit op r.tag.toNat r.seq.toNat r.flags.toNat r.rb st p false

/-- 16 Table 16.3: the bytes of an ITEM for a command. -/
def itemBytes (op : Nat) (r : AcpReq) (st : Nat) (own : Bytes) : Bytes :=
  let t := if r.isTimed then r.inl.take 16 else []
  le 2 op ++ le 1 r.tag.toNat ++ le 1 (b01 r.isTimed) ++ le 4 (t.length + own.length) ++ le 4 r.seq.toNat ++ zb 4
  ++ le 2 st ++ zb 6 ++ t ++ own

/-- 14 R372: an accepted command completes, at once or when its operation and its acknowledgement have come. -/
def Dev.complete (c : Cmd) (r : AcpReq) (isA : Bool) (own : Bytes) (p : Rep) : Dev :=
  let d := p.dev
  let act := isA && d.pair.st == .active
  let st := if act && !d.pair.peerOk then 2 else p.st
  let d := if act then { d with pair := { d.pair with items := d.pair.items ++ [(0, itemBytes c.op r st own)] } } else d
  let ack := act && d.pair.peerOk
  if ack || p.defer.isSome then
    { d with hst := { d.hst with wait := d.hst.wait ++ [{
        op := c.op, tag := r.tag.toNat, seq := r.seq.toNat, flags := r.flags.toNat, rb := r.rb, status := st, payload := p.data,
        ackTick := if ack then some d.tim.tick else none, key := p.defer.getD (0, 0), repl := ack }] } }
  else d.emit c.op r.tag.toNat r.seq.toNat r.flags.toNat r.rb st p.data false p.cont

/-- 16 R424: class A commands the active accepts while it serves the BULK phase. -/
def bulkOk (op : Nat) : Bool := [0x0710, 0x0711, 0x0712, 0x0704, 0x0B02, 0x0B03, 0x0A20].contains op

/-- 01 Table 1.8: boundaries before T_j by which a timed command must be validated. -/
def leadOf (op : Nat) : Nat := if op = 0x0B02 ∨ op = 0x0B03 ∨ op = 0x0A20 then 1 else 2

/-- 14 R374: a timed command is judged, and waits for its boundary. A timed CNV_SWITCH is queued in CNV instead; a timed
OBJ_GAIN_SET is the live gain most recently validated (03 R106). -/
def timedRep (c : Cmd) (r : AcpReq) (own : Bytes) (d : Dev) : Rep :=
  let j := blockAt d.rate r.time
  let ctx : Ctx := { op := c.op, tag := r.tag.toNat, seq := r.seq.toNat, vt := d.tim.tick, blk := some j, slot := none, ord := d.hst.ord }
  let p := c.body ctx own d
  let late := d.tim.quality == .invalid || decide (j ≤ d.tim.tick + leadOf c.op)
  let e := if p.st < 256 then 0 else p.st
  let e := if r.time > d.now16 + 60 * 10 ^ 9 * 65536 ∨ rsv r.inl 11 5 then errMin 0x102 e else e
  let e := if 1024 ≤ d.hst.timed.length ∧ c.op ≠ 0x0A20 then errMin e 0x106 else e
  let e := if late then errMin e 0x107 else e
  if 256 ≤ e then { st := e, data := if e = p.st then p.data else [], dev := d, defer := none }
  else if c.op = 0x0A20 then { p with st := 1 }
  else
    let o := u16 own 0
    let d := if c.op = 0x0711 then { d with trj := { d.trj with obj := tput {} d.trj.obj o { d.obj o with gainVal := s32 own 4 } } } else d
    { p with st := 1, dev := { d with hst := { d.hst with timed := d.hst.timed ++ [{
           ord := d.hst.ord, op := c.op, tag := r.tag.toNat, seq := r.seq.toNat, block := j, payload := own }] } }, defer := none }

/-- 14 Table 14.10 steps 8 (for a mixed class) and 10, and completion. -/
def acpBody (c : Cmd) (r : AcpReq) (own : Bytes) (d : Dev) (m : List Host.Cell := []) : Dev :=
  let d := d.wakeActive
  let d := { d with hst := { d.hst with ord := d.hst.ord + 1 } }
  let isA := c.classA own d
  if isA && d.standby then d.refuse c.op r 0x108 []
  else if isA && d.pair.serving && d.pair.phase == 1 && !bulkOk c.op then d.refuse c.op r 0x104 []
  else if isA && d.replicates && decide (262144 < own.length) then d.refuse c.op r 0x106 []
  else
    let ctx : Ctx := { op := c.op, tag := r.tag.toNat, seq := r.seq.toNat, vt := d.tim.tick, blk := none, slot := none, ord := d.hst.ord, mem := m }
    let p := if r.isTimed then timedRep c r own d else c.body ctx own d
    if 256 ≤ p.st then p.dev.refuse c.op r p.st p.data else Dev.complete c r isA own p

/-- 14 R376: a fetch failure. -/
def Dev.fetchFail (d : Dev) (op : Nat) (r : AcpReq) : Dev :=
  (d.dmaError 0 op r.tag.toNat r.seq.toNat (u64 r.inl r.ownOff)).refuse op r 0x102 []

/-- 14 R376: begins an indirect fetch, or fails it at once. -/
def acpFetch (op : Nat) (r : AcpReq) (d : Dev) : Dev :=
  let a := u64 r.inl r.ownOff
  let n := u32 r.inl (r.ownOff + 8)
  if n = 0 ∨ 16777216 < n ∨ (¬ d.hst.hspi ∧ a % 4 ≠ 0) then d.refuse op r 0x102 []
  else if (d.hst.hspi && !d.hspiRange a n) || (!d.hst.hspi && !d.hst.busMaster) then d.fetchFail op r
  else { d with hst := { d.hst with fetch := some (op, r) } }

/-- 14 R368: what a match of TAG and SEQ answers; none where nothing matches. -/
def acpMatch (op : Nat) (r : AcpReq) (d : Dev) : Option Dev :=
  let t := tget {} d.hst.tags r.tag.toNat
  match tget none d.hst.inflight r.tag.toNat with
  | some q => if q = r.seq.toNat then some d else if t.used && t.seq == r.seq.toNat then
      some (if t.op = op then
        { d with hst := { d.hst with rspQ := d.hst.rspQ ++ [{ op := op, tag := r.tag.toNat, flags := t.flags ||| 4, status := t.status, seq := t.seq, len := 0, payload := [] }] } }
        else d.refuse op r 0x102 []) else some (d.refuse op r 0x104 [])
  | none =>
    if t.used && t.seq == r.seq.toNat then
      if t.op = op then
        if r.flags.getLsbD 2 && decide (t.status < 256) then some d
        else some { d with hst := { d.hst with rspQ := d.hst.rspQ ++ [{
          op := op, tag := r.tag.toNat, flags := t.flags ||| 4, status := t.status, seq := t.seq, len := 0, payload := [] }] } }
      else some (d.refuse op r 0x102 [])
    else none

/-- 14 Table 14.10: the checks of steps 3, 5, 6 and 7, in order. -/
def headErr (c : Cmd) (r : AcpReq) (d : Dev) : Option Nat :=
  firstErr [
    (decide (16 ≤ r.flags.toNat) || r.rsvd != 0 || (r.isRb && descBad r.inl r.rbOff) || (r.isInd && descBad r.inl r.ownOff), 0x102),
    (r.isTimed && !c.timed, 0x102),
    (if r.isInd then r.inl.length != r.ownOff + 16 else decide (r.inl.length < r.ownOff), 0x101),
    (!r.isInd && decide (d.inlineLimit < r.own.length), 0x105)]

/-- 14 R378: a tag that takes a command with another SEQ releases what is retained for it. -/
def Dev.dropRetained (d : Dev) (tag seq : Nat) : Dev :=
  { d with hst := { d.hst with retained := d.hst.retained.filter (fun x => x.tag != tag || x.seq == seq) } }

/-- 14 Table 14.10: firmware validates a command. -/
def acpValidate (c : Cmd) (r : AcpReq) (d : Dev) (m : List Host.Cell := []) : Dev :=
  match acpMatch c.op r d with
  | some d' => d'
  | none =>
    let d := (d.dropRetained r.tag.toNat r.seq.toNat).tagTake r.tag.toNat r.seq.toNat
    match headErr c r d with
    | some e => d.refuse c.op r e []
    | none =>
      if r.isInd then
        if !c.mixed && c.classA [] d && d.standby then d.refuse c.op r 0x108 [] else acpFetch c.op r d
      else acpBody c r r.own d m

/-- 15 R386: firmware validates commands: BOOT reads READY and the device is ACTIVE or IDLE. -/
def Dev.validates (d : Dev) : Bool := d.pwr.st == .active || d.pwr.st == .idle

/-- 14 R371, 15 R386: a command is taken: it is validated, or waits behind a fetch or for wake. With BOOT not READY no
firmware runs, and nothing happens. -/
def acpTake (c : Cmd) (r : AcpReq) (d : Dev) (m : List Host.Cell := []) : Dev :=
  if d.boot.st != .ready then d
  else if !d.validates || d.hst.fetch.isSome then { d with hst := { d.hst with waitCmd := d.hst.waitCmd ++ [(c.op, r)] } }
  else acpValidate c r d m

end Sys2Proof.Machine
end

