-- ==== Sys2Proof/Machine/Banks.lean ====
section
/-! DEFINITION. Scratch banks, their hand-over and test, and Bight windows (12), with the commands 0x0Cxx. -/

namespace Sys2Proof.Machine

/-! ## Words of the scratch space -/

/-- The scratch bank `n`. -/
def Dev.bank (d : Dev) (n : Nat) : SBank := tget {} d.scb.bank n
/-- Writes scratch bank `n`. -/
def Dev.setBank (d : Dev) (n : Nat) (b : SBank) : Dev := { d with scb := { d.scb with bank := tput {} d.scb.bank n b } }

/-- 12 R313, R314: the word at scratch word index `w` (scratch address / 4). Before a bank's first power-down it holds the
zeros of reset (18 R466); after a power-up an unwritten word is free. -/
def Dev.scrWord (d : Dev) (w : Nat) : W32 :=
  let n := w / 65536
  let b := d.bank n
  match tget none b.words (w % 65536) with
  | some v => v
  | none => if b.gen = 0 then 0 else Config.bankInit n b.gen (w % 65536)

/-- 12 R313: writes the word at scratch word index `w`. -/
def Dev.setScrWord (d : Dev) (w : Nat) (v : W32) : Dev :=
  let b := d.bank (w / 65536)
  let d := d.setBank (w / 65536) { b with words := tput none b.words (w % 65536) (some v) }
  { d with scb := { d.scb with dead := d.scb.dead.filter (fun a => a != 4 * w) } }

/-- 12 R322: an access of the owner or DMA to a bank in whose stripe the test stands makes the test yield; the stripe
holds its saved contents again. -/
def Dev.testYield (d : Dev) (n : Nat) : Dev :=
  if d.scb.tActive && d.scb.tBank == n then
    { d with scb := { d.scb with tActive := false, yields := d.scb.yields + 1, tPhase := 0 } }
  else d

/-- 12 R314, R316, R317: the law engines may reach the bank now. -/
def Dev.lawBank (d : Dev) (n : Nat) : Bool := (d.bank n).owner == .law && (d.bank n).pending.isNone

/-! ## Bight windows -/

/-- 12 R327: BASE of a window. -/
def Dev.bwB (d : Dev) (w : Nat) : Nat := tget 0 d.scb.bwBase w
/-- 12 R327: LENGTH of a window. -/
def Dev.bwL (d : Dev) (w : Nat) : Nat := tget 0 d.scb.bwLen w

/-- 12 R328, R329: an offset plus a signed step, modulo LENGTH. -/
def bwStep (o : Nat) (step : Int) (len : Nat) : Nat := if len = 0 then 0 else (((o : Int) + step) % (len : Int)).toNat

/-- 12 R329: the pointer a post-modify stores, with the fold it may count. -/
def Dev.bwPost (d : Dev) (p : Nat) (step : Int) : Nat × Dev :=
  let w := p / 0x100000 % 16
  let o := p % 0x100000
  let l := d.bwL w
  let d' := if l ≤ o then
      { d with scb := { d.scb with bwFold := tput false d.scb.bwFold w true, bwFolds := bump d.scb.bwFolds w 1 } } else d
  (0x01000000 + w * 0x100000 + bwStep o step l, d')

/-! ## Hand-over and test events -/

/-- 12 R317: a write of SCB_OWNn.OWNER; 3 is stored as 1 (Table 12.3). -/
def ownerOf (v : Nat) : Owner := if v % 4 = 0 then .none else if v % 4 = 2 then .law else .cp
/-- 12 Table 12.3: the code of OWNER. -/
def Owner.code : Owner → Nat
  | .none => 0
  | .cp => 1
  | .law => 2

/-- 12 R317: begins a hand-over. -/
def beginHandover (n v : Nat) (d : Dev) : Dev :=
  let d := d.testYield n
  d.setBank n { d.bank n with pending := some (ownerOf v) }

/-- 12 R317, R314, R318: a hand-over ends. A bank that leaves NONE has been powered up anew; a hand-over to LAW clears
RETAIN_LOST. -/
def endHandover (n : Nat) (d : Dev) : Dev :=
  let b := d.bank n
  match b.pending with
  | none => d
  | some o =>
    let up := b.owner == .none && o != .none
    Dev.setBank { d with free := if up then d.free + 1 else d.free } n { b with
      owner := o, pending := none, lost := b.lost && o != .law
      gen := if up then d.free + 1 else b.gen, words := if up then [] else b.words }

/-- SCB_OWNER_WRITE. -/
def execScbOwnerWrite (bank owner : Nat) (s : State) : Host.Outcome State Fault Refusal :=
  run (decide (bank < 16)) (beginHandover bank owner) s

/-- BANK_HANDOVER_DONE. -/
def execBankHandoverDone (bank : Nat) (s : State) : Host.Outcome State Fault Refusal :=
  run (decide (bank < 16)) (endHandover bank) s

/-- 12 R321: the test visits the bank. -/
def Dev.testable (d : Dev) (n : Nat) : Bool :=
  d.scb.testEn && (d.scb.mask / 2 ^ n) % 2 == 1 && (d.bank n).owner != .none && !(d.bank n).faulty && (d.bank n).pending.isNone

/-- 12 R321: the test goes on from stripe `s` of bank `n`; the end of the last stripe of the last enabled bank counts a
pass. -/
def Dev.testNext (d : Dev) (n s : Nat) : Dev :=
  if s < 2047 then { d with scb := { d.scb with tBank := n, tStripe := s + 1, tActive := false, tPhase := 0 } }
  else
    match (rangeFrom 0 16).find? (fun k => decide (n < k) && d.testable k) with
    | some k => { d with scb := { d.scb with tBank := k, tStripe := 0, tActive := false, tPhase := 0 } }
    | none =>
      let k := ((rangeFrom 0 16).find? d.testable).getD 0
      { d with scb := { d.scb with tBank := k, tStripe := 0, tActive := false, tPhase := 0, passes := d.scb.passes + 1 } }

/-- 12 R321 to R323: the test of a stripe ends; every word of it holds its saved contents. -/
def stripeTest (n s : Nat) (r : StripeRes) (d : Dev) : Dev :=
  if !d.testable n then d
  else match r with
  | .pass => d.testNext n s
  | .yielded => { d with scb := { d.scb with tBank := n, tStripe := s, tActive := false, tPhase := 0, yields := d.scb.yields + 1 } }
  | .fail w =>
    let a := n * 0x40000 + s * 128 + 4 * (w % 32)
    let d := d.setBank n { d.bank n with faulty := true }
    let d := { d with scb := { d.scb with failAddr := a, fails := d.scb.fails + 1 } }
    (d.raise 0x8C01 n (le 4 a)).testNext n 2047

/-- TEST_STRIPE. -/
def execTestStripe (bank stripe : Nat) (r : StripeRes) (s : State) : Host.Outcome State Fault Refusal :=
  run (decide (bank < 16) && decide (stripe < 2048)) (stripeTest bank stripe r) s

/-! ## Layouts that use a bank or a window (12 R332) -/

/-- 06 Table 6.1: binding of a layout. -/
def Dev.bind (d : Dev) (l : Nat) : Bind := tget {} d.sch.bind l
/-- 06 R159: the lead of a layout. -/
def Dev.leadOf (d : Dev) (l : Nat) : Nat := (d.bind l).lead.getD l
/-- 03 Table 3.1: the settings of a layout. -/
def Dev.layout (d : Dev) (l : Nat) : Layout := tget {} d.trj.lay l
/-- 06 R176: the loaded program of a LAW_ID. -/
def Dev.prog (d : Dev) (law : Nat) : Option Prog := tget none d.sch.prog law

/-- 06 R182: the scratch words, as (first, count), of a layout's parameter table. -/
def Dev.tableOf (d : Dev) (l : Nat) : Nat × Nat := ((d.bind l).param, (d.bind l).len)

/-- The law-address range of a table meets bank `n`. -/
def inBank (a len n : Nat) : Bool := decide (0 < len) && overlaps a len (0x100000 + n * 0x40000) 0x40000

/-- 12 R332: a layout uses a bank. -/
def Dev.usesBank (d : Dev) (l n : Nat) : Bool :=
  inBank (d.tableOf l).1 (d.tableOf l).2 n ||
  (match d.prog (d.layout l).law with
   | some p => p.scb.getLsbD n || p.scb.getLsbD (16 + n)
   | none => false)

/-- 12 R332: a layout uses a window, or a bank that holds it before or after a change. -/
def Dev.usesWindow (d : Dev) (l w : Nat) (banks : List Nat) : Bool :=
  match d.prog (d.layout l).law with
  | some p => p.bw.getLsbD w || p.bw.getLsbD (16 + w) || banks.any (fun n => p.scb.getLsbD n || p.scb.getLsbD (16 + n))
  | none => false

/-- Layouts that are not STOPPED. -/
def Dev.busyLayouts (d : Dev) : List Nat := (rangeFrom 0 32).filter (fun l => !d.stopped 1 l)

/-! ## Commands (Table 12.4) -/

/-- 0x0C00 SCB_OWNER_SET: the hand-over's cycles lie within the command (R317). -/
def cmdScbOwnerSet : Cmd := cmdA 0x0C00 fun _ p d =>
  let n := u8 p 0
  let o := u8 p 1
  checks [(p.length != 4, 0x101), (decide (14 < n) || decide (2 < o) || rsv p 2 2, 0x102),
          ((d.bank n).owner == .law && o != 2 && d.busyLayouts.any (fun l => d.usesBank l n), 0x103)] d
    (ok (endHandover n (beginHandover n o d)))

/-- 0x0C01 SCB_STATUS_GET. -/
def cmdScbStatusGet : Cmd := cmdL 0x0C01 fun _ p d =>
  let ent := fun n => let b := d.bank n
    le 1 b.owner.code ++ le 1 (b01 b.pending.isSome + 2 * b01 b.faulty + 4 * b01 b.lost + 8 * b01 b.notOwner) ++ zb 2
  checks [(p.length != 0, 0x101)] d (okData ((rangeFrom 0 16).flatMap ent
    ++ words [d.scb.yields.toNat, d.scb.passes.toNat, d.scb.fails.toNat, d.scb.failAddr, d.scb.eccCorr.toNat, d.scb.eccUncorr.toNat]) d)

/-- 0x0C02 SCB_TEST_CONFIG. -/
def cmdScbTestConfig : Cmd := cmdL 0x0C02 fun _ p d =>
  checks [(p.length != 4, 0x101), (decide (1 < u8 p 2) || rsv p 3 1, 0x102)] d
    (ok { d with scb := { d.scb with mask := u16 p 0, testEn := u8 p 2 == 1, tActive := d.scb.tActive && u8 p 2 == 1 } })

/-- 0x0C03 DP_STATS_GET. -/
def cmdDpStatsGet : Cmd := cmdL 0x0C03 fun _ p d =>
  let e := u8 p 0
  checks [(p.length != 4, 0x101), (decide (7 < e) || rsv p 1 3, 0x102)] d
    (okData (le 1 (tget 0 d.scb.dpStatus e) ++ zb 3 ++ words [(tget 0 d.scb.dpAddr e).toNat, (tget 0 d.scb.dpBusy e).toNat, (tget 0 d.scb.dpLost e).toNat]) d)

/-- 0x0C10 BW_CONFIG. -/
def cmdBwConfig : Cmd := cmdA 0x0C10 fun _ p d =>
  let w := u8 p 0
  let b := u32 p 4
  let l := u32 p 8
  let bad := decide (15 < w) || rsv p 1 3 || b % 4 != 0 || decide (0x400000 ≤ b) || l % 4 != 0 || decide (0x40000 < l)
    || (l != 0 && b / 0x40000 != (b + l - 1) / 0x40000)
  let banks := (if d.bwL w = 0 then [] else [d.bwB w / 0x40000]) ++ (if l = 0 then [] else [b / 0x40000])
  checks [(p.length != 12, 0x101), (bad, 0x102), (d.busyLayouts.any (fun x => d.usesWindow x w banks), 0x103)] d
    (ok { d with scb := { d.scb with bwBase := tput 0 d.scb.bwBase w b, bwLen := tput 0 d.scb.bwLen w l, bwFold := tdel d.scb.bwFold w } })

/-- 0x0C11 BW_GET. -/
def cmdBwGet : Cmd := cmdL 0x0C11 fun _ p d =>
  let w := u8 p 0
  checks [(p.length != 4, 0x101), (decide (15 < w) || rsv p 1 3, 0x102)] d
    (okData (words [d.bwB w, d.bwL w] ++ le 1 (b01 (tget false d.scb.bwFold w)) ++ zb 3 ++ le 4 (tget 0 d.scb.bwFolds w).toNat) d)

/-- SCB_OWNER_SET. -/
def execScbOwnerSet (r : AcpReq) (s : State) : Host.Outcome State Fault Refusal := run true (acpTake cmdScbOwnerSet r) s
/-- SCB_STATUS_GET. -/
def execScbStatusGet (r : AcpReq) (s : State) : Host.Outcome State Fault Refusal := run true (acpTake cmdScbStatusGet r) s
/-- SCB_TEST_CONFIG. -/
def execScbTestConfig (r : AcpReq) (s : State) : Host.Outcome State Fault Refusal := run true (acpTake cmdScbTestConfig r) s
/-- DP_STATS_GET. -/
def execDpStatsGet (r : AcpReq) (s : State) : Host.Outcome State Fault Refusal := run true (acpTake cmdDpStatsGet r) s
/-- BW_CONFIG. -/
def execBwConfig (r : AcpReq) (s : State) : Host.Outcome State Fault Refusal := run true (acpTake cmdBwConfig r) s
/-- BW_GET. -/
def execBwGet (r : AcpReq) (s : State) : Host.Outcome State Fault Refusal := run true (acpTake cmdBwGet r) s

end Sys2Proof.Machine
end

