-- ==== Sys2Proof/Machine/LawDec.lean ====
section
/-! DEFINITION. The law engines' bundle encodings (05 Tables 5.4 to 5.9): encoder, decoder and the static checks of R130. -/

namespace Sys2Proof.Machine

/-- 05 Table 5.7: OP codes with their operations. -/
def copTable : List (COp × Nat) := [
  (.nop, 0x00), (.mpy, 0x01), (.mac, 0x02), (.msu, 0x03), (.adda, 0x08), (.suba, 0x09), (.nega, 0x0A), (.absa, 0x0B),
  (.clra, 0x0C), (.shla, 0x0D), (.shra, 0x0E), (.expa, 0x0F), (.norma, 0x10), (.mvad, 0x11), (.mvda, 0x12), (.add, 0x18),
  (.sub, 0x19), (.adds, 0x1A), (.subs, 0x1B), (.and_, 0x1C), (.or_, 0x1D), (.xor_, 0x1E), (.asr, 0x1F), (.lsr, 0x20),
  (.lsl, 0x21), (.asrv, 0x22), (.exp, 0x23), (.norm, 0x24), (.min, 0x25), (.max, 0x26), (.cmp, 0x27), (.mov, 0x28),
  (.abs, 0x29), (.neg, 0x2A), (.sel, 0x2B), (.mulq, 0x2C), (.rcp, 0x2D), (.rsq, 0x2E)]

/-- The code of an operation in a table of codes. -/
def codeIn : List (COp × Nat) → COp → Nat
  | [], _ => 0
  | (o, n) :: r, c => if o = c then n else codeIn r c

/-- The operation of a code in a table of codes. -/
def opIn : List (COp × Nat) → Nat → Option COp
  | [], _ => none
  | (o, n) :: r, c => if n = c then some o else opIn r c

/-- 05 Table 5.5: the compute slot's 26 bits. -/
def encCompute (c : Compute) : Nat :=
  codeIn copTable c.op * 2 ^ 20 + c.f.f1.toNat * 2 ^ 15 + c.f.f2.toNat * 2 ^ 10 + c.f.f3.toNat * 2 ^ 5 + c.f.f4.toNat

/-- 05 Table 5.6: a move's 18 bits, without ROT. -/
def encMove : Option Move → Nat
  | none => 0
  | some m => 2 ^ 17 + b01 m.store * 2 ^ 16 + m.d.toNat * 2 ^ 11 + m.p.toNat * 2 ^ 8 + m.am.toNat * 2 ^ 6 + m.m.toNat * 2 ^ 3

/-- 05 Table 5.8: the operand bits of LD and ST. -/
def encMem (a : GenMem) : Nat :=
  a.reg.toNat * 2 ^ 25 + a.p.toNat * 2 ^ 22 + a.am.toNat * 2 ^ 20 + a.m.toNat * 2 ^ 17 + a.disp.toNat

/-- 05 Table 5.8: the general slot's 36 bits. -/
def encGen : GenOp → Nat
  | .nop => 0
  | .ld a => 1 * 2 ^ 32 + encMem a
  | .st a => 2 * 2 ^ 32 + encMem a
  | .movr rd rs => 3 * 2 ^ 32 + rd.toNat * 2 ^ 25 + rs.toNat * 2 ^ 18
  | .addi r i => 4 * 2 ^ 32 + r.toNat * 2 ^ 25 + i.toNat
  | .ldis r i => 5 * 2 ^ 32 + r.toNat * 2 ^ 25 + i.toNat

/-- 05 Table 5.9: COP, COND and the operand bits of a control slot. -/
def encCtlBits (cop cond ops : Nat) : Nat := cop * 2 ^ 56 + cond * 2 ^ 52 + ops

/-- 05 Table 5.9: the control slot's 62 bits. -/
def encCtl : CtlOp → Nat
  | .nop => encCtlBits 0 0 0
  | .br c t => encCtlBits 1 c.toNat t.toNat
  | .bri c p => encCtlBits 2 c.toNat p.toNat
  | .call c t => encCtlBits 3 c.toNat t.toNat
  | .loop (.imm n) ls e => encCtlBits 4 0 (n.toNat * 2 ^ 32 + ls.toNat * 2 ^ 14 + e.toNat)
  | .loop (.reg d) ls e => encCtlBits 4 0 (2 ^ 48 + d.toNat * 2 ^ 32 + ls.toNat * 2 ^ 14 + e.toNat)
  | .rotn k => encCtlBits 5 0 k.toNat
  | .srset m v => encCtlBits 6 0 (m.toNat * 2 ^ 16 + v.toNat)
  | .jend c => encCtlBits 7 c.toNat 0
  | .rti => encCtlBits 8 0 0
  | .trap c n => encCtlBits 9 c.toNat n.toNat
  | .bkpt => encCtlBits 10 0 0
  | .sync => encCtlBits 11 0 0

/-- 05 Table 5.4: a bundle as a number. -/
def encBundle : Bundle → Nat
  | .par c x y r => encCompute c * 2 ^ 36 + (encMove x + b01 r) * 2 ^ 18 + encMove y
  | .gen c g => 1 * 2 ^ 62 + encCompute c * 2 ^ 36 + encGen g
  | .ctl o => 2 * 2 ^ 62 + encCtl o
  | .ldi r i => 3 * 2 ^ 62 + r.toNat * 2 ^ 55 + i.toNat

/-- 05 Table 5.4: a bundle's 64 bits. -/
def encodeBundle (b : Bundle) : BitVec 64 := BitVec.ofNat 64 (encBundle b)

/-- 05 Table 5.5: reads a compute slot. -/
def decCompute (w : Nat) : Option Compute :=
  match opIn copTable (w / 2 ^ 20 % 64) with
  | none => none
  | some o => some { op := o, f := { f1 := BitVec.ofNat 5 (w / 2 ^ 15), f2 := BitVec.ofNat 5 (w / 2 ^ 10),
                                     f3 := BitVec.ofNat 5 (w / 2 ^ 5), f4 := BitVec.ofNat 5 w } }

/-- 05 Table 5.6: reads a move field without its bit 0; a reserved bit set is ILLEGAL. -/
def decMove (w : Nat) : Option (Option Move) :=
  if w / 2 ^ 17 % 2 = 0 then (if w / 2 % 2 ^ 16 = 0 then some none else none)
  else if w / 2 % 4 ≠ 0 then none
  else some (some { store := w / 2 ^ 16 % 2 == 1, d := BitVec.ofNat 5 (w / 2 ^ 11), p := BitVec.ofNat 3 (w / 2 ^ 8),
                    am := BitVec.ofNat 2 (w / 2 ^ 6), m := BitVec.ofNat 3 (w / 2 ^ 3) })

/-- 05 Table 5.8: reads the operands of LD and ST. -/
def decMem (w : Nat) : Option GenMem :=
  if w / 2 ^ 16 % 2 ≠ 0 then none
  else some { reg := BitVec.ofNat 7 (w / 2 ^ 25), p := BitVec.ofNat 3 (w / 2 ^ 22), am := BitVec.ofNat 2 (w / 2 ^ 20),
              m := BitVec.ofNat 3 (w / 2 ^ 17), disp := BitVec.ofNat 16 w }

/-- 05 Table 5.8: reads a general slot. -/
def decGen (w : Nat) : Option GenOp :=
  match w / 2 ^ 32 % 16 with
  | 0 => if w % 2 ^ 32 = 0 then some .nop else none
  | 1 => (decMem (w % 2 ^ 32)).map .ld
  | 2 => (decMem (w % 2 ^ 32)).map .st
  | 3 => if w % 2 ^ 18 = 0 then some (.movr (BitVec.ofNat 7 (w / 2 ^ 25)) (BitVec.ofNat 7 (w / 2 ^ 18))) else none
  | 4 => if w / 2 ^ 16 % 2 ^ 9 = 0 then some (.addi (BitVec.ofNat 7 (w / 2 ^ 25)) (BitVec.ofNat 16 w)) else none
  | 5 => if w / 2 ^ 16 % 2 ^ 9 = 0 then some (.ldis (BitVec.ofNat 7 (w / 2 ^ 25)) (BitVec.ofNat 16 w)) else none
  | _ => none

/-- 05 Table 5.9: reads a control slot. -/
def decCtl (w : Nat) : Option CtlOp :=
  let cond := w / 2 ^ 52 % 16
  let c := BitVec.ofNat 4 cond
  let o := w % 2 ^ 52
  match w / 2 ^ 56 % 64 with
  | 0 => if cond = 0 ∧ o = 0 then some .nop else none
  | 1 => if o < 2 ^ 14 then some (.br c (BitVec.ofNat 14 o)) else none
  | 2 => if o < 8 then some (.bri c (BitVec.ofNat 3 o)) else none
  | 3 => if o < 2 ^ 14 then some (.call c (BitVec.ofNat 14 o)) else none
  | 4 =>
    if cond ≠ 0 ∨ o / 2 ^ 28 % 2 ^ 4 ≠ 0 ∨ o / 2 ^ 49 ≠ 0 then none
    else
      let ls := BitVec.ofNat 14 (o / 2 ^ 14)
      let e := BitVec.ofNat 14 o
      if o / 2 ^ 48 % 2 = 0 then some (.loop (.imm (BitVec.ofNat 16 (o / 2 ^ 32))) ls e)
      else if o / 2 ^ 37 % 2 ^ 11 = 0 then some (.loop (.reg (BitVec.ofNat 5 (o / 2 ^ 32))) ls e) else none
  | 5 => if cond = 0 ∧ o < 16 then some (.rotn (BitVec.ofNat 4 o)) else none
  | 6 => if cond = 0 ∧ o < 2 ^ 32 then some (.srset (BitVec.ofNat 16 (o / 2 ^ 16)) (BitVec.ofNat 16 o)) else none
  | 7 => if o = 0 then some (.jend c) else none
  | 8 => if cond = 0 ∧ o = 0 then some .rti else none
  | 9 => if o < 256 then some (.trap c (BitVec.ofNat 8 o)) else none
  | 10 => if cond = 0 ∧ o = 0 then some .bkpt else none
  | 11 => if cond = 0 ∧ o = 0 then some .sync else none
  | _ => none

/-- 05 Table 5.4: reads a bundle's number; none is an ILLEGAL bundle. -/
def decBundle (w : Nat) : Option Bundle :=
  match w / 2 ^ 62 % 4 with
  | 0 =>
    match decCompute (w / 2 ^ 36), decMove (w / 2 ^ 18), decMove w with
    | some c, some x, some y => if w % 2 = 0 then some (.par c x y (w / 2 ^ 18 % 2 == 1)) else none
    | _, _, _ => none
  | 1 =>
    match decCompute (w / 2 ^ 36), decGen (w % 2 ^ 36) with
    | some c, some g => some (.gen c g)
    | _, _ => none
  | 2 => (decCtl (w % 2 ^ 62)).map .ctl
  | _ => if w / 2 ^ 32 % 2 ^ 23 = 0 then some (.ldi (BitVec.ofNat 7 (w / 2 ^ 55)) (BitVec.ofNat 32 w)) else none

/-- 05 Table 5.4: reads a bundle's 64 bits. -/
def decodeBundle (w : BitVec 64) : Option Bundle := decBundle w.toNat

/-! ## R130: fields and register codes -/

/-- 05 R126: a register code a bundle may read. -/
def codeReadable (c : BitVec 7) : Bool := c.toNat < 0x4C
/-- 05 R126: a register code a bundle may write. -/
def codeWritable (c : BitVec 7) : Bool := c.toNat < 0x4C && !(List.contains [0x47, 0x49, 0x4A, 0x4B] c.toNat)

/-- 05 Table 5.5: an An field. -/
def isAcc (f : BitVec 5) : Bool := decide (f.toNat < 4)

/-- 05 R130, Table 5.7: fields an operation does not use are 0, and An fields name A0 to A3. -/
def computeOk (c : Compute) : Bool :=
  let f := c.f
  let z3 := f.f3 == 0
  let z4 := f.f4 == 0
  match c.op with
  | .nop => f.f1 == 0 && f.f2 == 0 && z3 && z4
  | .mpy | .mac | .msu => isAcc f.f1 && z4
  | .adda | .suba | .nega | .absa => isAcc f.f1 && isAcc f.f2 && z3 && z4
  | .clra => isAcc f.f1 && f.f2 == 0 && z3 && z4
  | .shla | .shra => isAcc f.f1 && isAcc f.f2 && z3
  | .expa | .mvad => isAcc f.f2 && z3 && z4
  | .norma => isAcc f.f1 && isAcc f.f2 && z4
  | .mvda => isAcc f.f1 && z3 && z4
  | .add | .sub | .adds | .subs | .and_ | .or_ | .xor_ | .asrv | .min | .max => z4
  | .asr | .lsr | .lsl => z3
  | .exp | .norm | .mov | .abs | .neg | .rcp | .rsq => z3 && z4
  | .cmp => f.f1 == 0 && z4
  | .sel => decide (f.f4.toNat < 16)
  | .mulq => true

/-- 05 Table 5.8: DISP is 0 but for AM 3. -/
def memOk (a : GenMem) : Bool := a.am.toNat == 3 || a.disp == 0

/-- 05 R130: a general slot's register codes and fields. -/
def genOk : GenOp → Bool
  | .nop => true
  | .ld a => codeWritable a.reg && memOk a
  | .st a => codeReadable a.reg && memOk a
  | .movr rd rs => codeWritable rd && codeReadable rs
  | .addi r _ => decide (r.toNat < 0x30)
  | .ldis r _ => codeWritable r

/-- 05 R130: what makes a bundle ILLEGAL wherever it stands. -/
def bundleOk : Bundle → Bool
  | .par c _ _ _ => computeOk c
  | .gen c g => computeOk c && genOk g
  | .ctl _ => true
  | .ldi r _ => codeWritable r

end Sys2Proof.Machine
end

