-- ==== Sys2Proof/Machine/LawLib.lean ====
section
/-! DEFINITION. The law library's gains (06 R172 to R174, Table 6.5). NONE, BED, VBAP and WFS are evaluated; what the formulas of
DBAP, EXTENT and AMBI give is a free value (assumption log 20). -/

namespace Sys2Proof.Machine

/-- R173: sines of multiples of 5.625 degrees from 0 to 90, in units of 2^-40. -/
def sinTable : List Int := [0, 107770985514, 214504077523, 319171378006, 420764883643, 518306193436, 610855931251, 697522792521, 777472127994,
  849933981865, 914210506869, 969682684934, 1015816288660, 1052167026225, 1078384820155, 1094217178761, 1099511627776]

/-- The sine of `k` times 5.625 degrees, for `k` from -16 to 16. -/
def sinK (k : Int) : Int := if k < 0 then -(sinTable.getD (-k).toNat 0) else sinTable.getD k.toNat 0
/-- The cosine of `k` times 5.625 degrees, for `k` from -16 to 16. -/
def cosK (k : Int) : Int := sinK (16 - (if k < 0 then -k else k))

/-- R173: the direction (cosine `c`, sine `s`, up to a factor) stands at or past the edge at `k` times 5.625 degrees. -/
def pastEdge (c s k : Int) : Bool := decide (c * sinK k ≤ s * cosK k)
/-- R173: the direction lies within 0.01 degrees of the edge at `k` times 5.625 degrees. -/
def nearEdge (c s k : Int) : Bool :=
  let v := s * cosK k - c * sinK k
  decide ((if v < 0 then -v else v) ≤ 191900980 * (isqrtR (c * c + s * s).toNat : Int))

/-- R173: the greatest of `n` edges from `lo` up that a direction stands past, as its index. -/
def edgeIdx (c s lo : Int) : Nat → Nat
  | 0 => 0
  | n + 1 => if pastEdge c s (lo + (n + 1 : Nat)) then n + 1 else edgeIdx c s lo n

/-- R173: the azimuth column of a direction, with the neighbour a direction close to an edge may take. -/
def azimuth (x y : Int) (alt : Bool) : Nat :=
  let q : Nat × Int × Int := if 0 ≤ x ∧ 0 < y then (0, y, x) else if 0 < x ∧ y ≤ 0 then (16, x, -y)
    else if x ≤ 0 ∧ y < 0 then (32, -y, -x) else if x < 0 ∧ 0 ≤ y then (48, -x, y) else (0, 1, 0)
  let i := edgeIdx q.2.1 q.2.2 0 15
  let k := q.1 + i
  if alt && nearEdge q.2.1 q.2.2 i then (k + 63) % 64 else if alt && nearEdge q.2.1 q.2.2 (i + 1) then (k + 1) % 64 else k

/-- R173: the elevation row of a direction. -/
def elevation (h z : Int) (alt : Bool) : Nat :=
  let i := edgeIdx h z (-16) 31
  if alt && decide (0 < i) && nearEdge h z ((i : Int) - 16) then i - 1
  else if alt && decide (i < 31) && nearEdge h z ((i : Int) - 15) then i + 1 else i

/-- R173: the grid cell of a direction. -/
def gridCell (p : V3) : Nat :=
  let alt := Config.libEdge [p.x, p.y, p.z]
  32 * azimuth p.x p.y alt + elevation (isqrtR (p.x * p.x + p.y * p.y).toNat) p.z alt

/-- What a law reads of its job. -/
structure LibJob where
  law : Nat
  obj : Nat
  pos : V3
  ext : Nat
  tab : List W32

/-- The descriptor's part of a free value's argument. -/
def LibJob.key (j : LibJob) : List Int := [j.obj, j.pos.x, j.pos.y, j.pos.z, j.ext]
/-- Word `i` of the parameter table. -/
def LibJob.w (j : LibJob) (i : Nat) : W32 := j.tab.getD i 0
/-- Word `i` of the parameter table, signed. -/
def LibJob.wi (j : LibJob) (i : Nat) : Int := (j.w i).toInt
/-- A free gain. -/
def LibJob.open_ (j : LibJob) (rank : Nat) : Int := satI 32 (Config.libGain j.law j.key j.tab rank)
/-- R174: a gain within 2^-20 of the exact value `v`, saturated. -/
def LibJob.within (j : LibJob) (rank : Nat) (v : Int) : Int :=
  satI 32 (v + max (-256) (min 256 (Config.libErr j.law j.key j.tab rank)))

/-- |p| of a position, and the origin's bound. -/
def lenOf (p : V3) : Nat := isqrtR (p.x * p.x + p.y * p.y + p.z * p.z).toNat

/-- Table 6.5: the candidate triangle of index `t`: its ranks with their weights, each times |p| and 2^28. -/
def LibJob.weights (j : LibJob) (t : Nat) : List (Nat × Int) :=
  let b := 2 + 12 * t
  let c := (j.w (b + 1)).toNat % 65536
  let row := fun r => j.wi (b + 2 + 3 * r) * j.pos.x + j.wi (b + 3 + 3 * r) * j.pos.y + j.wi (b + 4 + 3 * r) * j.pos.z
  [((j.w b).toNat % 65536, row 0), ((j.w b).toNat / 65536, row 1)] ++ (if c = 0xFFFF then [] else [(c, row 2)])

/-- The least weight of a candidate. -/
def leastW : List (Nat × Int) → Int
  | [] => 0
  | [a] => a.2
  | a :: r => min a.2 (leastW r)

/-- Table 6.5: the candidate with the largest least weight, the first of equals. -/
def bestW : List (List (Nat × Int)) → List (Nat × Int)
  | [] => []
  | a :: r => let b := bestW r
    if b.isEmpty then a else if leastW b ≤ leastW a then a else b

/-- Table 6.5, VBAP: the gain of a rank. -/
def LibJob.vbap (j : LibJob) (rank : Nat) : Int :=
  let n := (j.w 0).toNat
  let len := lenOf j.pos
  if len < 256 then j.within rank (rne (2 ^ 56) (isqrtR (n * 2 ^ 56)))
  else
    let t := (j.w 1).toNat
    let g := 2 + 12 * t + 2 * gridCell j.pos
    let ids := [(j.w g).toNat % 65536, (j.w g).toNat / 65536, (j.w (g + 1)).toNat % 65536, (j.w (g + 1)).toNat / 65536]
    let cs := (ids.filter (fun i => i != 0xFFFF)).map j.weights
    let c := match cs.find? (fun c => decide (-(256 * (len : Int)) ≤ leastW c)) with
      | some c => c
      | none => bestW cs
    let c := c.map (fun x => (x.1, max 0 x.2))
    let q := sumI (c.map (fun x => x.2 * x.2))
    if q ≤ 0 then j.open_ rank
    else match c.find? (fun x => x.1 == rank) with
      | some x => j.within rank (rne (x.2 * 2 ^ 28) (isqrtR q.toNat))
      | none => j.within rank 0

/-- Table 6.5, BED: the gain of a rank. -/
def LibJob.bed (j : LibJob) (rank : Nat) : Int :=
  let n := (j.w 0).toNat
  let first := (j.w 1).toNat
  let rows := (j.w 2).toNat
  if j.obj < first ∨ first + rows ≤ j.obj then j.within rank 0 else j.within rank (j.wi (3 + (j.obj - first) * n + rank))

/-- Table 6.5, WFS: the entry of a rank: vector from the object, and the normal. -/
def LibJob.wfsAt (j : LibJob) (i : Nat) : V3 × V3 :=
  let b := 1 + (j.w 0).toNat + 5 * i
  let n := (j.w (b + 3)).toNat
  ({ x := j.wi b - j.pos.x, y := j.wi (b + 1) - j.pos.y, z := j.wi (b + 2) - j.pos.z },
   { x := wrapI 16 n, y := wrapI 16 (n / 65536), z := wrapI 16 (j.w (b + 4)).toNat })

/-- The scalar product of two vectors. -/
def dot3 (a b : V3) : Int := a.x * b.x + a.y * b.y + a.z * b.z

/-- Table 6.5, WFS: the nearest rank, the lowest of equals, with its distance. -/
def LibJob.nearest (j : LibJob) : List Nat → Nat × Nat → Nat × Nat
  | [], b => b
  | i :: r, b => let v := lenOf (j.wfsAt i).1
    j.nearest r (if v < b.2 then (i, v) else b)

/-- Table 6.5, WFS: the gain of a rank; sigma is + where the vector from the loudspeaker to the object stands against the facing
vector (03 R91). -/
def LibJob.wfs (j : LibJob) (rank : Nat) : Int :=
  let n := (j.w 0).toNat
  let b := j.nearest (rangeFrom 1 (n - 1)) (0, lenOf (j.wfsAt 0).1)
  let t := j.wi (1 + rank)
  if b.2 ≤ 256 then j.within rank (if rank = b.1 then t else 0)
  else
    let a := j.wfsAt rank
    let f := j.wfsAt b.1
    let side := fun (v : V3 × V3) => decide (0 < dot3 v.1 v.2)
    if side a != side f then j.within rank 0
    else
      let p := dot3 a.1 a.2
      j.within rank (rne (t * (if p < 0 then -p else p)) (2 ^ 14 * lenOf a.1))

/-- Table 6.5: the gain of a rank under a library law. -/
def LibJob.gain (j : LibJob) (rank : Nat) : Int :=
  match j.law with
  | 0 => 0
  | 1 => j.vbap rank
  | 3 => if j.ext = 0 then j.vbap rank else j.open_ rank
  | 4 => j.bed rank
  | 6 => j.wfs rank
  | _ => j.open_ rank

end Sys2Proof.Machine
end

