-- ==== Sys2Proof/Machine/LawCore.lean ====
section
/-! DEFINITION. The law engines' registers, arithmetic, latencies, data addresses and aborts (05). A bundle is numbered by
the bundles issued since job start; a result is seen by bundles numbered from its `due` on (R136). -/

namespace Sys2Proof.Machine

/-! ## Registers (05 R126, R127) -/

/-- R127: the physical register of logical Dn. -/
def LawEng.phys (x : LawEng) (n : Nat) : Nat := if n < 16 then n else 16 + (n - 16 + x.rrb) % 16
/-- The signed value of logical Dn. -/
def LawEng.d (x : LawEng) (n : BitVec 5) : Int := (tget 0 x.pd (x.phys n.toNat)).toInt
/-- The word of logical Dn. -/
def LawEng.dw (x : LawEng) (n : BitVec 5) : W32 := tget 0 x.pd (x.phys n.toNat)
/-- Pointer Pn. -/
def LawEng.ptr (x : LawEng) (n : BitVec 3) : Nat := (tget 0 x.p n.toNat).toNat
/-- Modifier Mn, signed. -/
def LawEng.mdf (x : LawEng) (n : BitVec 3) : Int := (tget 0 x.m n.toNat).toInt
/-- R132: An as the accumulator operations read it. -/
def LawEng.accOf (x : LawEng) (n : BitVec 5) : Int := tget 0 x.acc (n.toNat % 4)
/-- Table 5.11: An as MVAD, EXPA, NORMA's Dd and moves read it. -/
def LawEng.slowOf (x : LawEng) (n : Nat) : Int := tget 0 x.accS (n % 4)
/-- Table 5.3: SCALE. -/
def LawEng.scale (x : LawEng) : Nat := (x.sr.extractLsb' 8 6).toNat

/-- Table 5.3: SR after a write under a mask: reserved bits stay 0 and SCALE above 40 stores 40. -/
def srWrite (old mask val : BitVec 16) : BitVec 16 :=
  let v := ((old &&& ~~~mask) ||| (val &&& mask)) &&& 0x3FFF
  if 40 < (v.extractLsb' 8 6).toNat then (v &&& 0x00FF) ||| 0x2800 else v

/-- Table 5.13: ICTL after a write of its RW fields: PEND stays. -/
def ictlWrite (old v : W32) : W32 := (v &&& 0x3FFF001F) ||| (old &&& 0x00000F00)

/-- R126: the parts of a 72-bit accumulator a raw write replaces. -/
def accPart (old : Int) (part : Nat) (v : Int) : Int :=
  let u := (old % (2 ^ 72 : Int)).toNat
  let w := wI v
  match part with
  | 0 => v
  | 1 => wrapI 72 ((u / 2 ^ 32 * 2 ^ 32 + w : Nat) : Int)
  | 2 => wrapI 72 ((u / 2 ^ 64 * 2 ^ 64 + w * 2 ^ 32 + u % 2 ^ 32 : Nat) : Int)
  | _ => wrapI 72 ((w % 256 * 2 ^ 64 + u % 2 ^ 64 : Nat) : Int)

/-- R126: the value a move reads from a register code. -/
def LawEng.readCode (x : LawEng) (e : Nat) (c : Nat) : Int :=
  if c < 0x20 then (tget 0 x.pd (x.phys c)).toInt
  else if c < 0x28 then (tget 0 x.p (c - 0x20)).toInt
  else if c < 0x30 then (tget 0 x.m (c - 0x28)).toInt
  else if c < 0x34 then satI 32 (rne (x.slowOf c) (2 ^ x.scale))
  else if c < 0x38 then wrapI 32 (x.slowOf c)
  else if c < 0x3C then wrapI 32 (x.slowOf c / 2 ^ 32)
  else if c < 0x40 then wrapI 8 (x.slowOf c / 2 ^ 64)
  else match c with
    | 0x40 => x.lc
    | 0x41 => x.ls
    | 0x42 => x.le
    | 0x43 => x.rrb
    | 0x44 => x.sr.toNat
    | 0x45 => x.ictl.toInt
    | 0x46 => x.epc
    | 0x47 => x.ecause
    | 0x48 => x.esr.toNat
    | 0x49 => x.cyc.toInt
    | 0x4A => 0
    | 0x4B => e
    | _ => 0

/-- R126: the register a code names; `none` for a code no bundle writes. -/
def LawEng.regOf (x : LawEng) (c : Nat) : Option LTgt :=
  if c < 0x20 then some (.pd (x.phys c))
  else if c < 0x28 then some (.ptr (c - 0x20))
  else if c < 0x30 then some (.mdf (c - 0x28))
  else if c < 0x40 then some (.accW (c % 4) ((c - 0x30) / 4))
  else match c with
    | 0x40 => some .lc
    | 0x41 => some .ls
    | 0x42 => some .le
    | 0x43 => some .rrb
    | 0x44 => some .sr
    | 0x45 => some .ictl
    | 0x46 => some .epc
    | 0x48 => some .esr
    | _ => none

/-- Table 5.11: the latency of a move into a register: `ld` for a load. -/
def moveLatency (t : LTgt) (ld : Bool) : Nat :=
  match t with
  | .lc | .ls | .le => 3
  | .ptr _ | .mdf _ | .rrb | .sr | .ictl => if ld then 3 else 2
  | _ => if ld then 3 else 1

/-- R133: the value a move lands: a scaled accumulator write is scaled at issue. -/
def LawEng.moveVal (x : LawEng) (t : LTgt) (v : Int) : Int :=
  match t with
  | .accW _ 0 => v * 2 ^ x.scale
  | .sr => 0xFFFF * 65536 + (wI v % 65536 : Nat)
  | _ => v

/-- R126, R136: the write a move makes to a register code. -/
def LawEng.moveTo (x : LawEng) (c : Nat) (v : Int) (ld lock : Bool) : List Land :=
  match x.regOf c with
  | none => []
  | some t => [{ due := x.issued + (if lock then 6 else moveLatency t ld), tgt := t, val := x.moveVal t v, lock := lock }]

/-! ## Landing (05 R136 to R138) -/

/-- R136: one result lands. -/
def LawEng.landOne (x : LawEng) (l : Land) : LawEng :=
  let w := BitVec.ofInt 32 l.val
  match l.tgt with
  | .pd k => { x with pd := tput 0 x.pd k w }
  | .ptr k => { x with p := tput 0 x.p k w }
  | .mdf k => { x with m := tput 0 x.m k w }
  | .acc k => { x with accS := tput 0 x.accS k l.val }
  | .accF k => { x with acc := tput 0 x.acc k l.val }
  | .accW k part =>
    let v := accPart (tget 0 x.acc k) part l.val
    { x with acc := tput 0 x.acc k v, accS := tput 0 x.accS k v }
  | .flags => { x with sr := (x.sr &&& 0x3FF0) ||| BitVec.ofInt 16 l.val }
  | .sticky =>
    let v := l.val.toNat
    { x with sr := x.sr ||| BitVec.ofNat 16 (v % 2 * 16 + v / 2 % 2 * 32), ictl := x.ictl ||| BitVec.ofNat 32 (v / 4 % 4 * 256) }
  | .sr => { x with sr := srWrite x.sr (BitVec.ofInt 16 (l.val / 65536)) (BitVec.ofInt 16 l.val) }
  | .rrb => { x with rrb := wI l.val % 16 }
  | .ictl => { x with ictl := ictlWrite x.ictl w }
  | .lc => { x with lc := wI l.val % 65536 }
  | .ls => { x with ls := wI l.val % 16384, cached := false }
  | .le => { x with le := wI l.val % 16384, cached := false }
  | .epc => { x with epc := wI l.val % 16384 }
  | .esr => { x with esr := srWrite 0 0xFFFF (BitVec.ofInt 16 l.val) }

/-- A result is the slow view of accumulator `k` due before a bundle. -/
def slowBefore (ks : List Nat) (bound : Nat) (o : Land) : Bool :=
  match o.tgt with
  | .acc j => ks.contains j && decide (o.due < bound)
  | _ => false

/-- R136: the results due at bundle `n` land, in issue order. A move's write of an accumulator supersedes the slow view of
the operations that reached the accumulator before it; `ks` are the accumulators so written. -/
def landGo (n : Nat) : List Nat → List Land → List Land → LawEng → LawEng
  | _, [], keep, x => { x with flight := keep }
  | ks, l :: r, keep, x =>
    if slowBefore ks (n + 2) l then landGo n ks r keep x
    else if l.due ≤ n then
      match l.tgt with
      | .accW k _ => landGo n (k :: ks) r (keep.filter (fun o => !slowBefore [k] (n + 3) o)) (x.landOne l)
      | _ => landGo n ks r keep (x.landOne l)
    else landGo n ks r (keep ++ [l]) x

/-- R136: what bundle `n` sees landed. -/
def LawEng.landAt (x : LawEng) (n : Nat) : LawEng := landGo n [] x.flight [] x

/-- Lands bundle by bundle from `n`, for `k` bundles. -/
def landRun : Nat → Nat → LawEng → LawEng
  | _, 0, x => x
  | n, k + 1, x => landRun (n + 1) k (x.landAt n)

/-- Cycles until the last result in flight lands. -/
def LawEng.drainCycles (x : LawEng) : Nat := maxN (x.flight.map (fun l => l.due - x.issued))

/-- R149, SYNC: every result in flight lands. -/
def LawEng.drain (x : LawEng) : LawEng := landRun x.issued 10 x

/-- Cycles pass on an engine. -/
def LawEng.cycles (x : LawEng) (n : Nat) : LawEng := { x with cyc := x.cyc + BitVec.ofNat 32 n, busy := (x.busy + n) % 2 ^ 64 }

/-! ## Registers a bundle names (05 R139) -/

/-- Table 5.5, Table 5.7: registers of a compute slot. -/
def LawEng.namesC (x : LawEng) (c : Compute) : List LTgt :=
  let dd := fun (n : BitVec 5) => LTgt.pd (x.phys n.toNat)
  let a := fun (n : BitVec 5) => LTgt.acc (n.toNat % 4)
  let f := c.f
  match c.op with
  | .nop => []
  | .mpy | .mac | .msu => [a f.f1, dd f.f2, dd f.f3]
  | .adda | .suba | .nega | .absa | .shla | .shra => [a f.f1, a f.f2]
  | .clra => [a f.f1]
  | .expa | .mvad => [dd f.f1, a f.f2]
  | .norma => [a f.f1, a f.f2, dd f.f3]
  | .mvda => [a f.f1, dd f.f2]
  | .add | .sub | .adds | .subs | .and_ | .or_ | .xor_ | .asrv | .min | .max | .sel | .mulq => [dd f.f1, dd f.f2, dd f.f3]
  | .cmp => [dd f.f2, dd f.f3]
  | .asr | .lsr | .lsl | .exp | .norm | .mov | .abs | .neg | .rcp | .rsq => [dd f.f1, dd f.f2]

/-- A register code as a register, the parts of an accumulator as the accumulator. -/
def LawEng.nameCode (x : LawEng) (c : Nat) : List LTgt :=
  match x.regOf c with
  | some (.accW k _) => [.acc k]
  | some t => [t]
  | none => []

/-- Registers of a move. -/
def LawEng.namesM (x : LawEng) (m : Option Move) : List LTgt :=
  match m with
  | none => []
  | some v => [.pd (x.phys v.d.toNat), .ptr v.p.toNat, .mdf v.m.toNat]

/-- R139: registers a bundle reads or writes. -/
def LawEng.names (x : LawEng) (b : Bundle) : List LTgt :=
  match b with
  | .par c mx my _ => x.namesC c ++ x.namesM mx ++ x.namesM my
  | .gen c g => x.namesC c ++ (match g with
    | .nop => []
    | .ld a | .st a => x.nameCode a.reg.toNat ++ [.ptr a.p.toNat, .mdf a.m.toNat]
    | .movr rd rs => x.nameCode rd.toNat ++ x.nameCode rs.toNat
    | .addi r _ | .ldis r _ => x.nameCode r.toNat)
  | .ctl o => (match o with
    | .bri _ p => [.ptr p.toNat]
    | .call _ _ => [.ptr 7]
    | .loop (.reg n) _ _ => [.pd (x.phys n.toNat), .lc, .ls, .le]
    | .loop _ _ _ => [.lc, .ls, .le]
    | .srset _ _ => [.sr]
    | .rti => [.sr, .esr, .epc]
    | _ => [])
  | .ldi r _ => x.nameCode r.toNat

/-- R139: a load in flight locks a register the bundle names. -/
def locked (ns : List LTgt) (l : Land) : Bool :=
  l.lock && ns.contains (match l.tgt with
    | .accW k _ => .acc k
    | t => t)

/-- R139: cycles the bundle waits for locked loads, RCP spacing or SYNC. -/
def LawEng.stall (x : LawEng) (b : Bundle) : Nat :=
  let ns := x.names b
  let s := maxN ((x.flight.filter (locked ns)).map (fun l => l.due - x.issued))
  let rc : Bool := match b with
    | .par c _ _ _ | .gen c _ => c.op == .rcp || c.op == .rsq
    | _ => false
  let r := match x.lastRcp with
    | some n => if rc then n + 8 - x.issued else 0
    | none => 0
  max s r

/-- R139: the stall: loads move on, every other stage holds. -/
def LawEng.afterStall (x : LawEng) (s : Nat) : LawEng :=
  if s = 0 then x
  else ({ x with flight := x.flight.map (fun (l : Land) => if l.lock then { l with due := l.due - s } else l) }.landAt x.issued).cycles s

/-! ## Arithmetic (05 R131 to R135) -/

/-- The bits below the sign bit of an `n`-bit value that equal the sign bit. -/
def rsBits (n : Nat) (v : Int) : Nat :=
  let u := (if v < 0 then -v - 1 else v).toNat
  if u = 0 then n - 1 else n - 2 - Nat.log2 u

/-- Table 5.10: a condition on SR. -/
def condHolds (sr : BitVec 16) (c : BitVec 4) : Bool :=
  let n := sr.getLsbD 3
  let z := sr.getLsbD 2
  let v := sr.getLsbD 1
  let cy := sr.getLsbD 0
  match c.toNat with
  | 0 => true
  | 1 => z
  | 2 => !z
  | 3 => n != v
  | 4 => n == v
  | 5 => z || n != v
  | 6 => !z && n == v
  | 7 => n
  | 8 => !n
  | 9 => v
  | 10 => !v
  | 11 => cy
  | 12 => !cy
  | 13 => sr.getLsbD 4
  | 14 => sr.getLsbD 5
  | _ => false

/-- Table 5.13: an enable bit of ICTL. -/
def LawEng.en (x : LawEng) (bit : Nat) : Bool := x.ictl.getLsbD bit

/-- R132: an accumulator result: saturated or wrapped, AOV, and its two views. -/
def LawEng.accOut (x : LawEng) (n : BitVec 5) (r : Int) : List Land :=
  let k := n.toNat % 4
  let v := if x.sr.getLsbD 6 then satI 72 r else wrapI 72 r
  [{ due := x.issued + 1, tgt := .accF k, val := v, lock := false }, { due := x.issued + 3, tgt := .acc k, val := v, lock := false }]
  ++ (if satI 72 r = r then [] else [{ due := x.issued + 3, tgt := .sticky, val := 1 + 4 * (b01 (x.en 1) : Nat), lock := false }])

/-- R134: AS sets, with its cause. -/
def LawEng.asOut (x : LawEng) (sat : Bool) (lat : Nat) : List Land :=
  if sat then [{ due := x.issued + lat, tgt := .sticky, val := 2 + 8 * (b01 (x.en 2) : Nat), lock := false }] else []

/-- A D register result after `lat` bundles. -/
def LawEng.dOut (x : LawEng) (n : BitVec 5) (v : Int) (lat : Nat) : List Land :=
  [{ due := x.issued + lat, tgt := .pd (x.phys n.toNat), val := wrapI 32 v, lock := false }]

/-- R135: the flags N, Z from a result, with V and C. -/
def LawEng.flagOut (x : LawEng) (v : Int) (ov cy : Bool) : List Land :=
  let r := wrapI 32 v
  [{ due := x.issued + 2, tgt := .flags, val := 8 * (b01 (decide (r < 0)) : Nat) + 4 * (b01 (r == 0) : Nat) + 2 * (b01 ov : Nat) + (b01 cy : Nat), lock := false }]

/-- A D operation marked NZ. -/
def LawEng.nz (x : LawEng) (n : BitVec 5) (v : Int) : List Land := x.dOut n v 1 ++ x.flagOut v false false

/-- A D operation marked NZVC that saturates: `raw` is the exact result. -/
def LawEng.sat (x : LawEng) (n : BitVec 5) (raw : Int) (cy : Bool) : List Land :=
  let v := satI 32 raw
  x.dOut n v 1 ++ x.flagOut v (v != raw) cy ++ x.asOut (v != raw) 2

/-- R134: the reciprocal of a Q1.31 value. -/
def rcpRaw (d : Int) : Int := if d ≤ 0 then 2 ^ 31 else rne (2 ^ 59) d.toNat
/-- R134: the reciprocal square root of a Q1.31 value. -/
def rsqRaw (d : Int) : Int := if d ≤ 0 then 2 ^ 31 else (isqrtR (rne (2 ^ 87) d.toNat).toNat : Nat)

/-- Table 5.7: the results of a compute slot. -/
def LawEng.compute (x : LawEng) (c : Compute) : List Land :=
  let f := c.f
  let s := x.d f.f2
  let t := x.d f.f3
  let us := (x.dw f.f2).toNat
  let ut := (x.dw f.f3).toNat
  let k := f.f4.toNat
  let am := x.accOf f.f2
  match c.op with
  | .nop => []
  | .mpy => x.accOut f.f1 (s * t)
  | .mac => x.accOut f.f1 (x.accOf f.f1 + s * t)
  | .msu => x.accOut f.f1 (x.accOf f.f1 - s * t)
  | .adda => x.accOut f.f1 (x.accOf f.f1 + am)
  | .suba => x.accOut f.f1 (x.accOf f.f1 - am)
  | .nega => x.accOut f.f1 (-am)
  | .absa => x.accOut f.f1 (if am < 0 then -am else am)
  | .clra => x.accOut f.f1 0
  | .shla => x.accOut f.f1 (am * 2 ^ k)
  | .shra => x.accOut f.f1 (am / 2 ^ k)
  | .expa => x.dOut f.f1 ((rsBits 72 (x.slowOf f.f2.toNat) : Int) - 8) 2
  | .norma =>
    let e : Int := (rsBits 72 am : Int) - 8
    x.accOut f.f1 (if e < 0 then am / 2 ^ (-e).toNat else am * 2 ^ e.toNat)
      ++ x.dOut f.f3 ((rsBits 72 (x.slowOf f.f2.toNat) : Int) - 8) 2
  | .mvad =>
    let r := rne (x.slowOf f.f2.toNat) (2 ^ x.scale)
    x.dOut f.f1 (satI 32 r) 2 ++ x.asOut (satI 32 r != r) 2
  | .mvda => x.accOut f.f1 (s * 2 ^ x.scale)
  | .add => x.dOut f.f1 (s + t) 1 ++ x.flagOut (s + t) (satI 32 (s + t) != s + t) (decide (2 ^ 32 ≤ us + ut))
  | .sub => x.dOut f.f1 (s - t) 1 ++ x.flagOut (s - t) (satI 32 (s - t) != s - t) (decide (ut ≤ us))
  | .adds => x.sat f.f1 (s + t) (decide (2 ^ 32 ≤ us + ut))
  | .subs => x.sat f.f1 (s - t) (decide (ut ≤ us))
  | .and_ => x.nz f.f1 (x.dw f.f2 &&& x.dw f.f3).toInt
  | .or_ => x.nz f.f1 (x.dw f.f2 ||| x.dw f.f3).toInt
  | .xor_ => x.nz f.f1 (x.dw f.f2 ^^^ x.dw f.f3).toInt
  | .asr => x.nz f.f1 (s / 2 ^ k)
  | .lsr => x.nz f.f1 ((us / 2 ^ k : Nat) : Int)
  | .lsl => x.nz f.f1 (s * 2 ^ k)
  | .asrv =>
    let h := if t < -31 then -31 else if 31 < t then 31 else t
    x.nz f.f1 (if h < 0 then s * 2 ^ (-h).toNat else s / 2 ^ h.toNat)
  | .exp => x.nz f.f1 (rsBits 32 s : Nat)
  | .norm => x.nz f.f1 (s * 2 ^ rsBits 32 s)
  | .min => x.nz f.f1 (if s < t then s else t)
  | .max => x.nz f.f1 (if s < t then t else s)
  | .cmp => x.flagOut (s - t) (satI 32 (s - t) != s - t) (decide (ut ≤ us))
  | .mov => x.nz f.f1 s
  | .abs => x.sat f.f1 (if s < 0 then -s else s) (Config.absCarry (x.dw f.f2))
  | .neg => x.sat f.f1 (-s) (decide (us = 0))
  | .sel => x.dOut f.f1 (if condHolds x.sr (BitVec.ofNat 4 k) then s else t) 1
  | .mulq =>
    let r := rne (s * t) (2 ^ k)
    x.dOut f.f1 (satI 32 r) 3 ++ x.asOut (satI 32 r != r) 3
  | .rcp => x.dOut f.f1 (satI 32 (rcpRaw s)) 8 ++ x.asOut (satI 32 (rcpRaw s) != rcpRaw s) 8
  | .rsq => x.dOut f.f1 (satI 32 (rsqRaw s)) 8 ++ x.asOut (satI 32 (rsqRaw s) != rsqRaw s) 8

/-! ## Data addresses (05 R124, R125, R152; 12 R316, R328) -/

/-- Where a data access goes. -/
inductive LAddr where
  /-- X word -/
  | x (w : Nat)
  /-- Y word -/
  | y (w : Nat)
  /-- scratch word index -/
  | s (w : Nat)
  /-- DMEM fault -/
  | fault
  /-- 12 R317: the access waits for a hand-over to LAW to end -/
  | wait
  deriving DecidableEq, Repr

/-- Table 5.15: BASE to LIMIT, inclusive. -/
def inWindow (prot : W32) (i : Nat) : Bool :=
  decide ((prot.extractLsb' 0 14).toNat ≤ i) && decide (i ≤ (prot.extractLsb' 16 14).toNat)

/-- 12 R316, R317: an engine's access to a scratch word. -/
def Dev.lawScr (d : Dev) (w : Nat) : LAddr :=
  let b := d.bank (w / 65536)
  if b.pending == some .law then .wait else if d.lawBank (w / 65536) then .s w else .fault

/-- R124, R152, 12 R328: where LD (`wr` false) or ST reaches with a data address. -/
def Dev.lawAddr (d : Dev) (x : LawEng) (a : Nat) (wr : Bool) : LAddr :=
  let m := if wr then 16 else 0
  if a % 4 ≠ 0 then .fault
  else if a < 0x10000 then (if inWindow x.protX (a / 4) then .x (a / 4) else .fault)
  else if a < 0x20000 then (if inWindow x.protY (a / 4 - 0x4000) then .y (a / 4 - 0x4000) else .fault)
  else if 0x100000 ≤ a ∧ a < 0x500000 then
    let w := (a - 0x100000) / 4
    if x.protScb.getLsbD (m + w / 65536) then d.lawScr w else .fault
  else if 0x01000000 ≤ a ∧ a < 0x02000000 then
    let w := a / 0x100000 % 16
    if x.protBw.getLsbD (m + w) ∧ d.bwL w ≠ 0 then d.lawScr ((d.bwB w + a % 0x100000 % d.bwL w) / 4) else .fault
  else .fault

/-- R125: where an X or Y move reaches. -/
def LawEng.moveAddr (x : LawEng) (y : Bool) (a : Nat) : LAddr :=
  if a % 4 ≠ 0 then .fault
  else if y then (if 0x10000 ≤ a ∧ a < 0x20000 ∧ inWindow x.protY (a / 4 - 0x4000) then .y (a / 4 - 0x4000) else .fault)
  else (if a < 0x10000 ∧ inWindow x.protX (a / 4) then .x (a / 4) else .fault)

/-- The word an access reads. -/
def Dev.lawRead (d : Dev) (x : LawEng) : LAddr → W32
  | .x w => if w < 1024 then tget 0 x.frame w else tget 0 x.x w
  | .y w => tget 0 x.y w
  | .s w => d.scrWord w
  | _ => 0

/-- The access writes a word. -/
def storeAt (e : Nat) (t : LAddr) (v : W32) (d : Dev) : Dev :=
  let x := d.eng e
  match t with
  | .x w => d.setEng e (if w < 1024 then { x with frame := tput 0 x.frame w v } else { x with x := tput 0 x.x w v })
  | .y w => d.setEng e { x with y := tput 0 x.y w v }
  | .s w => (d.testYield (w / 65536)).setScrWord w v
  | _ => d

/-- The pointer names a Bight window. -/
def inBight (p : Nat) : Bool := decide (0x01000000 ≤ p) && decide (p < 0x02000000)

/-- Table 5.6, Table 5.8, 12 R328: the address of an access and the step of its post-modify. -/
def Dev.addrOf (d : Dev) (x : LawEng) (p : BitVec 3) (am : BitVec 2) (m : BitVec 3) (disp : BitVec 16) (bight : Bool) : Nat × Option Int :=
  let b := x.ptr p
  let off := fun (v : Int) =>
    if bight && inBight b then b / 0x100000 * 0x100000 + bwStep (b % 0x100000) v (d.bwL (b / 0x100000 % 16))
    else (((b : Int) + v) % (2 ^ 32 : Int)).toNat
  match am.toNat with
  | 0 => (b, some 4)
  | 1 => (b, some (x.mdf m))
  | 2 => (off (x.mdf m), none)
  | _ => (off disp.toInt, none)

/-- Table 5.6, 12 R329: the post-modify of a pointer; a window pointer of LD and ST folds. -/
def postModify (p : BitVec 3) (st : Option Int) (bight : Bool) (x : LawEng) (d : Dev) : List Land × Dev :=
  match st with
  | none => ([], d)
  | some v =>
    let b := x.ptr p
    let r := if bight && inBight b then d.bwPost b v else ((((b : Int) + v) % (2 ^ 32 : Int)).toNat, d)
    ([{ due := x.issued + 1, tgt := .ptr p.toNat, val := (r.1 : Nat), lock := false }], r.2)

/-! ## Ends of jobs (05 R150, R151; 06 R180) -/

/-- PEND cleared. -/
def noPend (i : W32) : W32 := i &&& 0x3FFF001F

/-- 06 R180: the answer of LAW_TEST_RUN: ECAUSE, CYC and the gain words. -/
def testAnswer (x : LawEng) (ecause n : Nat) : Bytes :=
  le 2 ecause ++ zb 2 ++ le 4 x.cyc.toNat ++ words ((rangeFrom 16 n).map (fun w => (tget 0 x.frame w).toNat))

/-- R150: a job is aborted with a cause, at a bundle; `addr` is what LAW_FAULT_ADDR records for causes 2 and 3. -/
def Dev.lawAbort (d : Dev) (e cause pc : Nat) (addr : Option Nat) (strike : Bool) : Dev :=
  let x := d.eng e
  let y : LawEng := { x with
    st := .idle, inHandler := false, flight := [], slots := 0, target := none, ictl := noPend x.ictl, run := none
    haltReq := false, resumed := false
    ecause := cause, faultPc := pc, faultAddr := (match addr with
      | some a => BitVec.ofNat 32 a
      | none => x.faultAddr)
    faults := if cause ≤ 3 then x.faults + 1 else x.faults
    eccUncorr := if cause = 9 then x.eccUncorr + 1 else x.eccUncorr }
  let d := d.setEng e y
  match x.run with
  | none => d
  | some j =>
    let d := if cause ≤ 3 then d.raise 0x8800 e (le 2 j.law ++ le 2 cause ++ le 4 pc ++ le 4 y.faultAddr.toNat) else d
    if j.test.isSome then d.finish 0x0831 e 0 (testAnswer y cause j.nOut)
    else
      let d := d.missJob j
      if strike && decide (9 ≤ cause) then d.strike (1156 + e) 0 y.faultAddr.toNat else d

/-- 06 Table 6.5: the job runs a library law with a table. -/
def Job.library (j : Job) : Bool := decide (0 < j.law) && decide (j.law < 0x100)

/-- 06 R172: law addresses of the words of a job's parameter table. -/
def Job.tabAddrs (j : Job) : List Nat := (rangeFrom 0 (j.paramLen / 4)).map (fun i => j.param + 4 * i)

/-- 06 R162: a word of a library job's table that the engine may not read. -/
def Dev.libFault (d : Dev) (x : LawEng) (j : Job) : Option Nat :=
  if j.library then (j.tabAddrs).find? (fun a => match d.lawAddr x a false with
    | .fault | .wait => true
    | _ => false) else none

/-- 06 Table 6.5: a library job's gains, written as gain words. -/
def Dev.libFill (d : Dev) (x : LawEng) (j : Job) : LawEng :=
  if j.library then
    let l : LibJob := { law := j.law, obj := j.obj, pos := j.pos, ext := j.ext, tab := j.tabAddrs.map (fun a => d.lawRead x (d.lawAddr x a false)) }
    { x with frame := forRun (fun i f => tput 0 f (16 + i) (BitVec.ofInt 32 (l.gain i))) (rangeFrom 0 j.nOut) x.frame }
  else x

/-- R151, 06 R166: JEND completes the job: its gain bank goes to the collector. A test job ends LAW_TEST_RUN. A library job's
gains are those of its law. -/
def Dev.lawEnd (d : Dev) (e : Nat) : Dev :=
  let x := d.eng e
  let x := x.cycles x.drainCycles
  let x := x.drain
  match x.run with
  | none => d.setEng e { x with st := .idle, inHandler := false, slots := 0, target := none, ictl := noPend x.ictl }
  | some j =>
    match d.libFault x j with
    | some a => (d.setEng e x).lawAbort e 3 x.pc (some a) true
    | none =>
      let x := d.libFill x j
      let y : LawEng := { x with
        st := .idle, inHandler := false, slots := 0, target := none, ictl := noPend x.ictl, run := none, haltReq := false
        resumed := false, aovJobs := if x.sr.getLsbD 4 then x.aovJobs + 1 else x.aovJobs }
      if j.test.isSome then (d.setEng e y).finish 0x0831 e 0 (testAnswer x 0 j.nOut)
      else d.setEng e { y with coll := some j, frameC := x.frame, frame := x.frameC }

/-! ## Halts and interrupts (05 R145 to R149, R155, R156) -/

/-- R155: debug acts on the engine. -/
def LawEng.dbg (x : LawEng) : Bool := x.dbgEn && !x.runEn && !Config.debugLocked && x.st != .retired

/-- The engine issues bundles. -/
def LawEng.active (x : LawEng) : Bool := x.st == .job || x.st == .handler

/-- R149, R156: the engine halts after its drain. -/
def LawEng.halt (x : LawEng) : LawEng :=
  let y := (x.cycles x.drainCycles).drain
  { y with st := .halted, inHandler := x.st == .handler, haltReq := false, resumed := false }

/-- R146: the highest pending cause: its ECAUSE and its PEND bit. -/
def LawEng.pending (x : LawEng) : Option (Nat × Nat) :=
  if x.ictl.getLsbD 8 then some (4, 8) else if x.ictl.getLsbD 9 then some (5, 9)
  else if x.ictl.getLsbD 10 then some (7, 10) else if x.ictl.getLsbD 11 then some (8, 11) else none

/-- R147, Table 5.14: entry to the handler with an ECAUSE; an entry outside the code window is a PMEM fault. -/
def Dev.lawEntry (d : Dev) (e ecause : Nat) (bit : Option Nat) : Dev :=
  let x := d.eng e
  let y := (x.cycles (x.drainCycles + 2)).drain
  let v := (y.ictl.extractLsb' 16 14).toNat
  let i := match bit with
    | some b => y.ictl &&& ~~~(BitVec.ofNat 32 (2 ^ b))
    | none => y.ictl
  let z : LawEng := { y with epc := y.pc, esr := y.sr, sr := y.sr &&& 0x3F7F, ictl := i &&& 0xFFFFFFFE, ecause := ecause, st := .handler, pc := v }
  let d := d.setEng e z
  if inWindow z.protCode v then d else d.lawAbort e 2 v (some v) true

/-- R146: an interrupt is due at the next bundle boundary. -/
def LawEng.irqDue (x : LawEng) : Bool := x.en 0 && x.slots == 0 && x.pending.isSome

end Sys2Proof.Machine
end

