-- ==== Sys2Proof/Machine/LawExec.lean ====
section
/-! DEFINITION. Issue of one bundle by a law engine, and what each instruction and engine event does (05). The command
carries the bundle the engine fetches at its PC. -/

namespace Sys2Proof.Machine

/-! ## Placement and sequencing (05 R140 to R143) -/

/-- R140: the bundle has delay slots. -/
def hasSlots : Bundle → Bool
  | .ctl (.br _ _) | .ctl (.bri _ _) | .ctl (.call _ _) | .ctl (.loop _ _ _) => true
  | _ => false

/-- R141: the bundle may not stand in a delay slot. -/
def slotBarred : Bundle → Bool
  | .ctl (.jend _) | .ctl .rti | .ctl (.trap _ _) | .ctl .bkpt => true
  | b => hasSlots b

/-- R141, R142: the bundle's placement is allowed. -/
def LawEng.placed (x : LawEng) (b : Bundle) : Bool :=
  !(x.slots != 0 && slotBarred b)
  && !(x.sr.getLsbD 7 && hasSlots b && decide (x.le ≤ x.pc + 2) && decide (x.pc ≤ x.le))
  && (match b with
    | .ctl (.loop _ ls le_) => decide (x.pc + 1 ≤ ls.toNat) && decide (ls.toNat ≤ le_.toNat) && decide (x.pc + 3 ≤ le_.toNat)
    | _ => true)

/-- R142, R143: the bundle after one that is no branch, with the loop engine's work. -/
def LawEng.loopEdge (x : LawEng) : LawEng :=
  if x.sr.getLsbD 7 ∧ x.pc = x.le then
    if 1 < x.lc then
      let long := decide (64 < x.le - x.ls + 1)
      (if long then x.cycles 2 else x) |> fun y => { y with lc := x.lc - 1, pc := x.ls, cached := !long }
    else { x with lc := 0, sr := x.sr &&& 0x3F7F, pc := x.le + 1 }
  else { x with pc := x.pc + 1 }

/-- R136, R140: a bundle has issued: the next bundle is set and the issue count advances. -/
def LawEng.advance (x : LawEng) (branch : Bool) (tgt : Option Nat) (rcp : Bool) : LawEng :=
  let y := (x.cycles 1)
  let y := if branch then { y with slots := 2, target := tgt, pc := y.pc + 1 }
    else
      let z := y.loopEdge
      { z with slots := y.slots - 1, target := (if y.slots ≤ 1 then none else y.target), pc := (if y.slots = 1 then y.target.getD z.pc else z.pc) }
  { y with issued := x.issued + 1, resumed := false, lastRcp := if rcp then some x.issued else x.lastRcp }

/-! ## Data accesses -/

/-- One data access of a bundle: its address, where it goes, and whether it stores. -/
structure Access where
  addr : Nat
  at_ : LAddr
  store : Bool

/-- R156: a watchpoint matches the access. -/
def LawEng.watched (x : LawEng) (a : Access) : Bool :=
  [0, 1].any (fun w => (tget 0 x.wpCtrl w).getLsbD (if a.store then 1 else 0) && (tget 0 x.wpAddr w).toNat == a.addr)

/-- R156: a breakpoint stands at the next bundle. -/
def LawEng.atBreak (x : LawEng) : Bool :=
  [0, 1, 2, 3].any (fun b => (tget 0 x.bp b).getLsbD 31 && (tget 0 x.bp b).toNat % 16384 == x.pc)

/-- The access of an X (`y` false) or Y move. -/
def Dev.moveAccess (d : Dev) (x : LawEng) (y : Bool) (m : Move) : Access :=
  let a := (d.addrOf x m.p m.am m.m 0 false).1
  { addr := a, at_ := x.moveAddr y a, store := m.store }

/-- R138: what a move lands, with its pointer's post-modify; a load reads the word as it stands. -/
def Dev.moveLands (d : Dev) (x : LawEng) (y : Bool) (m : Option Move) : List Land :=
  match m with
  | none => []
  | some v =>
    let st := (d.addrOf x v.p v.am v.m 0 false).2
    (if v.store then [] else x.moveTo v.d.toNat (d.lawRead x (d.moveAccess x y v).at_).toInt true false)
    ++ (postModify v.p st false x d).1

/-- A store move writes its word. -/
def moveStores (e : Nat) (x : LawEng) (y : Bool) (m : Option Move) (d : Dev) : Dev :=
  match m with
  | some v => if v.store then storeAt e (d.moveAccess x y v).at_ (x.dw v.d) d else d
  | none => d

/-- The address and place of LD or ST. -/
def Dev.memAccess (d : Dev) (x : LawEng) (a : GenMem) (wr : Bool) : Access :=
  let q := (d.addrOf x a.p a.am a.m a.disp true).1
  { addr := q, at_ := d.lawAddr x q wr, store := wr }

/-- The accesses of a bundle, the X move before the Y move. -/
def Dev.accesses (d : Dev) (x : LawEng) (b : Bundle) : List Access :=
  match b with
  | .par _ mx my _ => (mx.toList.map (d.moveAccess x false)) ++ (my.toList.map (d.moveAccess x true))
  | .gen _ (.ld a) => [d.memAccess x a false]
  | .gen _ (.st a) => [d.memAccess x a true]
  | _ => []

/-- 12 R313: a load meets a word with a double-bit error. -/
def Dev.deadWord (d : Dev) (a : Access) : Bool :=
  match a.at_ with
  | .s w => !a.store && d.scb.dead.contains (4 * w)
  | _ => false

/-! ## Issue -/

/-- The operation is RCP or RSQ. -/
def isRcp : Bundle → Bool
  | .par c _ _ _ | .gen c _ => c.op == .rcp || c.op == .rsq
  | _ => false

/-- R140: a bundle with delay slots: where it goes when its condition holds. -/
def LawEng.branchTo (x : LawEng) : CtlOp → Option Nat
  | .br c t | .call c t => if condHolds x.sr c then some t.toNat else none
  | .bri c p => if condHolds x.sr c then some (x.ptr p) else none
  | _ => none

/-- The effects of a bundle's results on the engine, before the next bundle is set. -/
def Dev.results (d : Dev) (e : Nat) (x : LawEng) (b : Bundle) : Dev :=
  match b with
  | .par c mx my rot =>
    let fl := x.compute c ++ d.moveLands x false mx ++ d.moveLands x true my
    let d := moveStores e x true my (moveStores e x false mx d)
    let y := d.eng e
    d.setEng e { y with flight := x.flight ++ fl, rrb := if rot then (x.rrb + 15) % 16 else x.rrb }
  | .gen c g =>
    let fc := x.compute c
    match g with
    | .nop => d.setEng e { x with flight := x.flight ++ fc }
    | .ld a =>
      let t := (d.memAccess x a false).at_
      let lock := match t with
        | .s _ => true
        | _ => false
      let fl := x.moveTo a.reg.toNat (d.lawRead x t).toInt true lock
      let d := match t with
        | .s w => d.testYield (w / 65536)
        | _ => d
      let pm := postModify a.p (d.addrOf x a.p a.am a.m a.disp true).2 true x d
      pm.2.setEng e { x with flight := x.flight ++ fc ++ fl ++ pm.1 }
    | .st a =>
      let t := (d.memAccess x a true).at_
      let pm := postModify a.p (d.addrOf x a.p a.am a.m a.disp true).2 true x d
      let d := storeAt e t (BitVec.ofInt 32 (x.readCode e a.reg.toNat)) pm.2
      let y := d.eng e
      d.setEng e { y with flight := x.flight ++ fc ++ pm.1 }
    | .movr rd rs => d.setEng e { x with flight := x.flight ++ fc ++ x.moveTo rd.toNat (x.readCode e rs.toNat) false false }
    | .addi r i => d.setEng e { x with flight := x.flight ++ fc ++ x.moveTo r.toNat (x.readCode e r.toNat + i.toInt) false false }
    | .ldis r i => d.setEng e { x with flight := x.flight ++ fc ++ x.moveTo r.toNat i.toInt false false }
  | .ldi r i => d.setEng e { x with flight := x.flight ++ x.moveTo r.toNat i.toInt false false }
  | .ctl o => match o with
    | .rotn k => d.setEng e { x with rrb := (x.rrb + 16 - k.toNat) % 16 }
    | .srset m v => d.setEng e { x with flight := x.flight ++ [{ due := x.issued + 2, tgt := .sr, val := ((m.toNat * 65536 + v.toNat : Nat) : Int), lock := false }] }
    | .call c _ => if condHolds x.sr c then
        d.setEng e { x with flight := x.flight ++ [{ due := x.issued + 2, tgt := .ptr 7, val := ((x.pc + 3 : Nat) : Int), lock := false }] } else d
    | .loop n ls le_ =>
      let k := match n with
        | .imm c => c.toNat
        | .reg r => (x.dw r).toNat % 65536
      d.setEng e { x with lc := k, ls := ls.toNat, le := le_.toNat, sr := x.sr ||| 0x0080, cached := false }
    | .sync => d.setEng e (x.cycles x.drainCycles).drain
    | _ => d

/-- R136 to R156: a bundle that passed its checks issues. -/
def Dev.issueOk (d : Dev) (e : Nat) (b : Bundle) : Dev :=
  let x := d.eng e
  let acc := d.accesses x b
  match acc.find? (fun a => a.at_ == .fault) with
  | some a => d.lawAbort e 3 x.pc (some a.addr) true
  | none =>
    if acc.any d.deadWord then Dev.lawAbort { d with scb := { d.scb with eccUncorr := d.scb.eccUncorr + 1 } } e 9 x.pc none true
    else
      let fin := fun (d : Dev) (br : Bool) (t : Option Nat) =>
        let y := (d.eng e).advance br t (isRcp b)
        d.setEng e (if y.dbg && acc.any x.watched then y.halt else y)
      match b with
      | .ctl (.jend c) =>
        if condHolds x.sr c then (d.setEng e (x.cycles 1)).lawEnd e else fin d false none
      | .ctl .rti =>
        d.setEng e { x.cycles 1 with
          sr := x.esr, ictl := x.ictl ||| 1, pc := x.epc, st := .job, inHandler := false, issued := x.issued + 1, resumed := false }
      | .ctl (.trap c n) =>
        if condHolds x.sr c then
          if x.en 0 then (d.setEng e (x.advance false none false)).lawEntry e (6 + 256 * n.toNat) none
          else d.lawAbort e 1 x.pc none true
        else fin d false none
      | .ctl .bkpt =>
        let y := x.advance false none false
        d.setEng e (if x.dbg then y.halt else y)
      | .ctl (.bri c p) =>
        if condHolds x.sr c && decide (16383 < x.ptr p) then d.lawAbort e 2 x.pc (some (x.ptr p)) true
        else fin d true (x.branchTo (.bri c p))
      | .ctl o => fin (d.results e x b) (hasSlots b) (x.branchTo o)
      | _ => fin (d.results e x b) false none

/-- 12 R317, 06 R166: the bundle is held at issue: an access waits for a hand-over to LAW, or JEND for the bank still
draining to the collector. -/
def Dev.issueHeld (d : Dev) (e : Nat) (b : Bundle) : Bool :=
  let x := d.eng e
  (d.accesses x b).any (fun a => a.at_ == .wait)
  || (match b with
    | .ctl (.jend c) => condHolds x.sr c && x.coll.isSome && (match x.run with
      | some j => j.test.isNone
      | none => false)
    | _ => false)

/-- R130, R145, R156: engine `e` comes to its next bundle, `none` for a word that decodes to none: it halts, enters a
handler, faults, waits or issues. -/
def issue (e : Nat) (b : Option Bundle) (d : Dev) : Dev :=
  let x := d.eng e
  if !x.active then d
  else
    let x := x.landAt x.issued
    let d := d.setEng e x
    if x.dbg && (x.haltReq || (x.atBreak && !x.resumed)) then d.setEng e x.halt
    else if x.irqDue then (match x.pending with
      | some (c, bit) => d.lawEntry e c (some bit)
      | none => d)
    else if !inWindow x.protCode x.pc then d.lawAbort e 2 x.pc (some x.pc) true
    else match b with
      | none => d.lawAbort e 1 x.pc none true
      | some b =>
        if !bundleOk b || !x.placed b then d.lawAbort e 1 x.pc none true
        else if d.issueHeld e b then d
        else Dev.issueOk (d.setEng e (x.afterStall (x.stall b))) e b

/-- The bundle at an engine's PC. -/
def LawEng.fetch (x : LawEng) : Option Bundle :=
  decodeBundle (if x.pc < 4096 then Config.libBundle x.pc else tget 0 x.prog x.pc)

/-! ## Engine events -/

/-- INTERRUPT_ENTRY (R146, R147): taken where it is due and no debug halt is. -/
def interruptEntry (e : Nat) (d : Dev) : Dev :=
  let x := d.eng e
  let x := x.landAt x.issued
  if x.active && x.irqDue && !(x.dbg && (x.haltReq || (x.atBreak && !x.resumed))) then
    match x.pending with
    | some (c, bit) => (d.setEng e x).lawEntry e c (some bit)
    | none => d
  else d

/-- BUDGET_EXPIRY (R145): CYC reaches LAW_BUDGET. -/
def budgetExpiry (e : Nat) (d : Dev) : Dev :=
  let x := d.eng e
  if x.active && x.budget != 0 then
    d.setEng e { x with cyc := x.budget, ictl := if x.en 3 then x.ictl ||| 0x400 else x.ictl }
  else d

/-- LAW_DOORBELL (R145, R146). -/
def lawDoorbell (e : Nat) (d : Dev) : Dev :=
  let x := d.eng e
  if x.run.isSome && x.en 4 then d.setEng e { x with ictl := x.ictl ||| 0x800 } else d

/-- HALT_REQ (R156): the engine halts at this bundle boundary; an engine with no job halts before its next job's first
bundle. -/
def haltReq (e : Nat) (d : Dev) : Dev :=
  let x := d.eng e
  if !x.dbg || x.st == .halted then d
  else if x.active then d.setEng e x.halt
  else d.setEng e { x with haltReq := true }

/-- RESUME (R156). -/
def lawResume (e : Nat) (d : Dev) : Dev :=
  let x := d.eng e
  if x.dbg && x.st == .halted then d.setEng e { x with st := if x.inHandler then .handler else .job, resumed := true } else d

/-- STEP (R156): one bundle of program memory issues, and the engine halts again. -/
def lawStep (e : Nat) (d : Dev) : Dev :=
  let x := d.eng e
  if x.dbg && x.st == .halted then
    let d := issue e x.fetch (lawResume e d)
    let y := d.eng e
    if y.active then d.setEng e y.halt else d
  else d

/-- MAX_CYC_REACHED (06 R180). -/
def maxCyc (e : Nat) (d : Dev) : Dev :=
  let x := d.eng e
  match x.run with
  | some j => (match j.test with
    | some m => (d.setEng e { x with cyc := BitVec.ofNat 32 m }).lawAbort e 10 x.pc none false
    | none => d)
  | none => d

/-- INTERRUPT_ENTRY. -/
def execInterruptEntry (e : Nat) (s : State) : Host.Outcome State Fault Refusal := run (decide (e < 8)) (interruptEntry e) s
/-- BUDGET_EXPIRY. -/
def execBudgetExpiry (e : Nat) (s : State) : Host.Outcome State Fault Refusal := run (decide (e < 8)) (budgetExpiry e) s
/-- LAW_DOORBELL. -/
def execLawDoorbell (e : Nat) (s : State) : Host.Outcome State Fault Refusal := run (decide (e < 8)) (lawDoorbell e) s
/-- HALT_REQ. -/
def execHaltReq (e : Nat) (s : State) : Host.Outcome State Fault Refusal := run (decide (e < 8)) (haltReq e) s
/-- STEP. -/
def execStep (e : Nat) (s : State) : Host.Outcome State Fault Refusal := run (decide (e < 8)) (lawStep e) s
/-- RESUME. -/
def execResume (e : Nat) (s : State) : Host.Outcome State Fault Refusal := run (decide (e < 8)) (lawResume e) s
/-- MAX_CYC_REACHED. -/
def execMaxCycReached (e : Nat) (s : State) : Host.Outcome State Fault Refusal := run (decide (e < 8)) (maxCyc e) s

/-! ## Instructions -/

/-- NOP: in the compute slot with what stands beside it, or in the control slot. -/
def execNop (e : Nat) (o : Option (CFields × Side)) (s : State) : Host.Outcome State Fault Refusal :=
  run (decide (e < 8)) (issue e (some (match o with
    | none => .ctl .nop
    | some (f, sd) => sd.bundle ⟨.nop, f⟩))) s
/-- MPY: accumulator takes the product of two D registers. -/
def execMpy (e : Nat) (f : CFields) (sd : Side) (s : State) : Host.Outcome State Fault Refusal :=
  run (decide (e < 8)) (issue e (some (sd.bundle ⟨.mpy, f⟩))) s
/-- MAC: accumulator adds the product of two D registers. -/
def execMac (e : Nat) (f : CFields) (sd : Side) (s : State) : Host.Outcome State Fault Refusal :=
  run (decide (e < 8)) (issue e (some (sd.bundle ⟨.mac, f⟩))) s
/-- MSU: accumulator subtracts the product of two D registers. -/
def execMsu (e : Nat) (f : CFields) (sd : Side) (s : State) : Host.Outcome State Fault Refusal :=
  run (decide (e < 8)) (issue e (some (sd.bundle ⟨.msu, f⟩))) s
/-- ADDA: accumulator sum. -/
def execAdda (e : Nat) (f : CFields) (sd : Side) (s : State) : Host.Outcome State Fault Refusal :=
  run (decide (e < 8)) (issue e (some (sd.bundle ⟨.adda, f⟩))) s
/-- SUBA: accumulator difference. -/
def execSuba (e : Nat) (f : CFields) (sd : Side) (s : State) : Host.Outcome State Fault Refusal :=
  run (decide (e < 8)) (issue e (some (sd.bundle ⟨.suba, f⟩))) s
/-- NEGA: accumulator negation. -/
def execNega (e : Nat) (f : CFields) (sd : Side) (s : State) : Host.Outcome State Fault Refusal :=
  run (decide (e < 8)) (issue e (some (sd.bundle ⟨.nega, f⟩))) s
/-- ABSA: accumulator absolute value. -/
def execAbsa (e : Nat) (f : CFields) (sd : Side) (s : State) : Host.Outcome State Fault Refusal :=
  run (decide (e < 8)) (issue e (some (sd.bundle ⟨.absa, f⟩))) s
/-- CLRA: accumulator cleared. -/
def execClra (e : Nat) (f : CFields) (sd : Side) (s : State) : Host.Outcome State Fault Refusal :=
  run (decide (e < 8)) (issue e (some (sd.bundle ⟨.clra, f⟩))) s
/-- SHLA: accumulator shifted left by k. -/
def execShla (e : Nat) (f : CFields) (sd : Side) (s : State) : Host.Outcome State Fault Refusal :=
  run (decide (e < 8)) (issue e (some (sd.bundle ⟨.shla, f⟩))) s
/-- SHRA: accumulator shifted right by k. -/
def execShra (e : Nat) (f : CFields) (sd : Side) (s : State) : Host.Outcome State Fault Refusal :=
  run (decide (e < 8)) (issue e (some (sd.bundle ⟨.shra, f⟩))) s
/-- EXPA: exponent of an accumulator into a D register. -/
def execExpa (e : Nat) (f : CFields) (sd : Side) (s : State) : Host.Outcome State Fault Refusal :=
  run (decide (e < 8)) (issue e (some (sd.bundle ⟨.expa, f⟩))) s
/-- NORMA: accumulator normalised with its exponent into a D register. -/
def execNorma (e : Nat) (f : CFields) (sd : Side) (s : State) : Host.Outcome State Fault Refusal :=
  run (decide (e < 8)) (issue e (some (sd.bundle ⟨.norma, f⟩))) s
/-- MVAD: scaled, rounded, saturating move from accumulator to D register. -/
def execMvad (e : Nat) (f : CFields) (sd : Side) (s : State) : Host.Outcome State Fault Refusal :=
  run (decide (e < 8)) (issue e (some (sd.bundle ⟨.mvad, f⟩))) s
/-- MVDA: d register scaled by 2^SCALE into an accumulator. -/
def execMvda (e : Nat) (f : CFields) (sd : Side) (s : State) : Host.Outcome State Fault Refusal :=
  run (decide (e < 8)) (issue e (some (sd.bundle ⟨.mvda, f⟩))) s
/-- ADD: wrapping 32-bit addition with flags. -/
def execAdd (e : Nat) (f : CFields) (sd : Side) (s : State) : Host.Outcome State Fault Refusal :=
  run (decide (e < 8)) (issue e (some (sd.bundle ⟨.add, f⟩))) s
/-- SUB: wrapping 32-bit subtraction with flags. -/
def execSub (e : Nat) (f : CFields) (sd : Side) (s : State) : Host.Outcome State Fault Refusal :=
  run (decide (e < 8)) (issue e (some (sd.bundle ⟨.sub, f⟩))) s
/-- ADDS: saturating addition. -/
def execAdds (e : Nat) (f : CFields) (sd : Side) (s : State) : Host.Outcome State Fault Refusal :=
  run (decide (e < 8)) (issue e (some (sd.bundle ⟨.adds, f⟩))) s
/-- SUBS: saturating subtraction. -/
def execSubs (e : Nat) (f : CFields) (sd : Side) (s : State) : Host.Outcome State Fault Refusal :=
  run (decide (e < 8)) (issue e (some (sd.bundle ⟨.subs, f⟩))) s
/-- AND: bitwise and. -/
def execAnd (e : Nat) (f : CFields) (sd : Side) (s : State) : Host.Outcome State Fault Refusal :=
  run (decide (e < 8)) (issue e (some (sd.bundle ⟨.and_, f⟩))) s
/-- OR: bitwise or. -/
def execOr (e : Nat) (f : CFields) (sd : Side) (s : State) : Host.Outcome State Fault Refusal :=
  run (decide (e < 8)) (issue e (some (sd.bundle ⟨.or_, f⟩))) s
/-- XOR: bitwise exclusive or. -/
def execXor (e : Nat) (f : CFields) (sd : Side) (s : State) : Host.Outcome State Fault Refusal :=
  run (decide (e < 8)) (issue e (some (sd.bundle ⟨.xor_, f⟩))) s
/-- ASR: arithmetic shift right. -/
def execAsr (e : Nat) (f : CFields) (sd : Side) (s : State) : Host.Outcome State Fault Refusal :=
  run (decide (e < 8)) (issue e (some (sd.bundle ⟨.asr, f⟩))) s
/-- LSR: logical shift right. -/
def execLsr (e : Nat) (f : CFields) (sd : Side) (s : State) : Host.Outcome State Fault Refusal :=
  run (decide (e < 8)) (issue e (some (sd.bundle ⟨.lsr, f⟩))) s
/-- LSL: wrapping shift left. -/
def execLsl (e : Nat) (f : CFields) (sd : Side) (s : State) : Host.Outcome State Fault Refusal :=
  run (decide (e < 8)) (issue e (some (sd.bundle ⟨.lsl, f⟩))) s
/-- ASRV: shift by a clamped register amount. -/
def execAsrv (e : Nat) (f : CFields) (sd : Side) (s : State) : Host.Outcome State Fault Refusal :=
  run (decide (e < 8)) (issue e (some (sd.bundle ⟨.asrv, f⟩))) s
/-- EXP: redundant sign bits of a D register. -/
def execExp (e : Nat) (f : CFields) (sd : Side) (s : State) : Host.Outcome State Fault Refusal :=
  run (decide (e < 8)) (issue e (some (sd.bundle ⟨.exp, f⟩))) s
/-- NORM: d register normalised. -/
def execNorm (e : Nat) (f : CFields) (sd : Side) (s : State) : Host.Outcome State Fault Refusal :=
  run (decide (e < 8)) (issue e (some (sd.bundle ⟨.norm, f⟩))) s
/-- MIN: signed minimum. -/
def execMin (e : Nat) (f : CFields) (sd : Side) (s : State) : Host.Outcome State Fault Refusal :=
  run (decide (e < 8)) (issue e (some (sd.bundle ⟨.min, f⟩))) s
/-- MAX: signed maximum. -/
def execMax (e : Nat) (f : CFields) (sd : Side) (s : State) : Host.Outcome State Fault Refusal :=
  run (decide (e < 8)) (issue e (some (sd.bundle ⟨.max, f⟩))) s
/-- CMP: flags of a subtraction with no destination. -/
def execCmp (e : Nat) (f : CFields) (sd : Side) (s : State) : Host.Outcome State Fault Refusal :=
  run (decide (e < 8)) (issue e (some (sd.bundle ⟨.cmp, f⟩))) s
/-- MOV: d register copy. -/
def execMov (e : Nat) (f : CFields) (sd : Side) (s : State) : Host.Outcome State Fault Refusal :=
  run (decide (e < 8)) (issue e (some (sd.bundle ⟨.mov, f⟩))) s
/-- ABS: saturating absolute value. -/
def execAbs (e : Nat) (f : CFields) (sd : Side) (s : State) : Host.Outcome State Fault Refusal :=
  run (decide (e < 8)) (issue e (some (sd.bundle ⟨.abs, f⟩))) s
/-- NEG: saturating negation. -/
def execNeg (e : Nat) (f : CFields) (sd : Side) (s : State) : Host.Outcome State Fault Refusal :=
  run (decide (e < 8)) (issue e (some (sd.bundle ⟨.neg, f⟩))) s
/-- SEL: conditional select of one of two registers. -/
def execSel (e : Nat) (f : CFields) (sd : Side) (s : State) : Host.Outcome State Fault Refusal :=
  run (decide (e < 8)) (issue e (some (sd.bundle ⟨.sel, f⟩))) s
/-- MULQ: rounded, saturating scaled product. -/
def execMulq (e : Nat) (f : CFields) (sd : Side) (s : State) : Host.Outcome State Fault Refusal :=
  run (decide (e < 8)) (issue e (some (sd.bundle ⟨.mulq, f⟩))) s
/-- RCP: reciprocal of a Q1.31 value in Q4.28. -/
def execRcp (e : Nat) (f : CFields) (sd : Side) (s : State) : Host.Outcome State Fault Refusal :=
  run (decide (e < 8)) (issue e (some (sd.bundle ⟨.rcp, f⟩))) s
/-- RSQ: reciprocal square root in Q4.28. -/
def execRsq (e : Nat) (f : CFields) (sd : Side) (s : State) : Host.Outcome State Fault Refusal :=
  run (decide (e < 8)) (issue e (some (sd.bundle ⟨.rsq, f⟩))) s
/-- MOVE_LOAD: an X move, or a Y move with `y`, with the bundle's other slots. -/
def execMoveLoad (e : Nat) (c : Compute) (y : Bool) (mv : Move) (other : Option Move) (rot : Bool) (s : State) : Host.Outcome State Fault Refusal :=
  let m := some { mv with store := false }
  run (decide (e < 8)) (issue e (some (.par c (if y then other else m) (if y then m else other) rot))) s
/-- MOVE_STORE. -/
def execMoveStore (e : Nat) (c : Compute) (y : Bool) (mv : Move) (other : Option Move) (rot : Bool) (s : State) : Host.Outcome State Fault Refusal :=
  let m := some { mv with store := true }
  run (decide (e < 8)) (issue e (some (.par c (if y then other else m) (if y then m else other) rot))) s
/-- LD: general load of any register from the law address space. -/
def execLd (e : Nat) (c : Compute) (a : GenMem) (s : State) : Host.Outcome State Fault Refusal :=
  run (decide (e < 8)) (issue e (some (.gen c (.ld a)))) s
/-- ST: general store of any register to the law address space. -/
def execSt (e : Nat) (c : Compute) (a : GenMem) (s : State) : Host.Outcome State Fault Refusal :=
  run (decide (e < 8)) (issue e (some (.gen c (.st a)))) s
/-- MOVR: register-to-register move by code. -/
def execMovr (e : Nat) (c : Compute) (rd rs : BitVec 7) (s : State) : Host.Outcome State Fault Refusal :=
  run (decide (e < 8)) (issue e (some (.gen c (.movr rd rs)))) s
/-- ADDI: adds a signed 16-bit immediate to a D, P or M register. -/
def execAddi (e : Nat) (c : Compute) (r : BitVec 7) (imm : BitVec 16) (s : State) : Host.Outcome State Fault Refusal :=
  run (decide (e < 8)) (issue e (some (.gen c (.addi r imm)))) s
/-- LDIS: loads a sign-extended 16-bit immediate. -/
def execLdis (e : Nat) (c : Compute) (r : BitVec 7) (imm : BitVec 16) (s : State) : Host.Outcome State Fault Refusal :=
  run (decide (e < 8)) (issue e (some (.gen c (.ldis r imm)))) s
/-- LDI: iMMEDIATE bundle loads a 32-bit immediate into a register. -/
def execLdi (e : Nat) (r : BitVec 7) (imm : BitVec 32) (s : State) : Host.Outcome State Fault Refusal :=
  run (decide (e < 8)) (issue e (some (.ldi r imm))) s
/-- BR: conditional branch after two delay slots. -/
def execBr (e : Nat) (c : BitVec 4) (tgt : BitVec 14) (s : State) : Host.Outcome State Fault Refusal :=
  run (decide (e < 8)) (issue e (some (.ctl (.br c tgt)))) s
/-- BRI: conditional branch to a pointer register. -/
def execBri (e : Nat) (c : BitVec 4) (p : BitVec 3) (s : State) : Host.Outcome State Fault Refusal :=
  run (decide (e < 8)) (issue e (some (.ctl (.bri c p)))) s
/-- CALL: conditional branch saving the return bundle in P7. -/
def execCall (e : Nat) (c : BitVec 4) (tgt : BitVec 14) (s : State) : Host.Outcome State Fault Refusal :=
  run (decide (e < 8)) (issue e (some (.ctl (.call c tgt)))) s
/-- LOOP: sets loop count, start and end and arms the loop engine. -/
def execLoop (e : Nat) (n : LoopN) (ls le_ : BitVec 14) (s : State) : Host.Outcome State Fault Refusal :=
  run (decide (e < 8)) (issue e (some (.ctl (.loop n ls le_)))) s
/-- ROTN: rotates the register file base by k. -/
def execRotn (e : Nat) (k : BitVec 4) (s : State) : Host.Outcome State Fault Refusal :=
  run (decide (e < 8)) (issue e (some (.ctl (.rotn k)))) s
/-- SRSET: sets masked bits of SR. -/
def execSrset (e : Nat) (mask val : BitVec 16) (s : State) : Host.Outcome State Fault Refusal :=
  run (decide (e < 8)) (issue e (some (.ctl (.srset mask val)))) s
/-- JEND: ends the job, drains and hands the gain bank to the collector. -/
def execJend (e : Nat) (c : BitVec 4) (s : State) : Host.Outcome State Fault Refusal :=
  run (decide (e < 8)) (issue e (some (.ctl (.jend c)))) s
/-- RTI: returns from the handler restoring SR from ESR. -/
def execRti (e : Nat) (s : State) : Host.Outcome State Fault Refusal :=
  run (decide (e < 8)) (issue e (some (.ctl .rti))) s
/-- TRAP: raises a TRAP cause taken at its own bundle. -/
def execTrap (e : Nat) (c : BitVec 4) (n : BitVec 8) (s : State) : Host.Outcome State Fault Refusal :=
  run (decide (e < 8)) (issue e (some (.ctl (.trap c n)))) s
/-- BKPT: halts the engine when debug is enabled, otherwise acts as NOP. -/
def execBkpt (e : Nat) (s : State) : Host.Outcome State Fault Refusal :=
  run (decide (e < 8)) (issue e (some (.ctl .bkpt))) s
/-- SYNC: waits until every issued operation has landed. -/
def execSync (e : Nat) (s : State) : Host.Outcome State Fault Refusal :=
  run (decide (e < 8)) (issue e (some (.ctl .sync))) s

end Sys2Proof.Machine
end

