-- ==== Sys2Proof/Machine/Flt.lean ====
section
/-! DEFINITION. The filter chain: routes, rate conversion, asynchronous groups and tone detectors (04), with the commands
0x06xx. -/

namespace Sys2Proof.Machine

/-! ## Settings -/

/-- Table 4.10: the reset values of an engine. -/
def feDflt (e : Nat) : Fe := if e < 4 then {} else { kind := 3, align := 1 }
/-- Filter engine `e`. -/
def Dev.fe (d : Dev) (e : Nat) : Fe := tget (feDflt e) d.flt.fe e
/-- Writes filter engine `e`. -/
def Dev.setFe (d : Dev) (e : Nat) (x : Fe) : Dev := { d with flt := { d.flt with fe := tput (feDflt e) d.flt.fe e x } }
/-- R107: the route of input channel `c`. -/
def Dev.inRoute (d : Dev) (c : Nat) : Route := tget {} d.flt.inmap c
/-- R107: the route of output `s`. -/
def Dev.outRoute (d : Dev) (s : Nat) : Route := tget {} d.flt.outmap s
/-- R113: group `g` of engine `e`. -/
def Dev.grp (d : Dev) (e g : Nat) : Group := tget {} d.flt.grp (16 * e + g)
/-- Writes a group. -/
def Dev.setGrp (d : Dev) (e g : Nat) (x : Group) : Dev := { d with flt := { d.flt with grp := tput {} d.flt.grp (16 * e + g) x } }
/-- R119: detector `t`. -/
def Dev.tone (d : Dev) (t : Nat) : Tone := tget {} d.flt.td t
/-- Writes a detector. -/
def Dev.setTone (d : Dev) (t : Nat) (x : Tone) : Dev := { d with flt := { d.flt with td := tput {} d.flt.td t x } }

/-- R107, R14: an input channel exists at the render rate. -/
def chanOk (rate c : Nat) : Bool := decide (c < 1088) && (decide (rate < 2) || decide (c < 512) || decide (1024 ≤ c))

/-- Table 4.6: base group delay in samples. -/
def baseGd (kind profile : Nat) : Nat :=
  match kind with
  | 0 => if profile = 0 then 32 else 6
  | 1 => if profile = 0 then 48 else 10
  | 2 => if profile = 0 then 64 else 20
  | _ => if profile = 0 then 32 else 6

/-- R117: SKEW_MAX of an engine. -/
def Fe.skewMax (x : Fe) : Nat := if x.align = 1 then 0 else (x.slots - 1) * 256

/-- R117: skew or phase delay of a route, side 0 input or 1 output. -/
def Dev.skewOf (d : Dev) (side c : Nat) : Nat :=
  let r := if side = 0 then d.inRoute c else d.outRoute c
  if r.engine = 15 then 0
  else if (d.fe r.engine).align = 0 then r.slot * 256
  else tget 0 (if side = 0 then d.flt.inphase else d.flt.outphase) c

/-- R118: conditioning delay, Q16.16. -/
def Dev.condDelay (d : Dev) (side c : Nat) : Nat :=
  let r := if side = 0 then d.inRoute c else d.outRoute c
  if r.engine = 15 then 0 else baseGd (d.fe r.engine).kind (d.fe r.engine).profile * 65536 + d.skewOf side c

/-- 03 R94: K of an object. -/
def Dev.foldOf (d : Dev) (obj : Nat) : Nat :=
  let r := d.inRoute obj
  if d.trj.fold ∧ r.engine < 4 ∧ (d.fe r.engine).align = 0 then (d.fe r.engine).skewMax - r.slot * 256 else 0

/-- Table 4.2: greatest SLOTS, 0 where the mode is refused. -/
def slotLimit (kind align : Nat) : Nat :=
  match kind, align with
  | 0, 0 | 1, 0 => 272
  | 2, 0 => 136
  | 3, 0 => 0
  | 0, _ | 1, _ => 136
  | 2, _ => 68
  | _, _ => 256

/-- Table 4.3: rate of a code in Hz. -/
def asrcRate (c : Nat) : Nat :=
  match c with
  | 0 => 32000
  | 1 => 44100
  | 2 => 48000
  | 3 => 88200
  | 4 => 96000
  | 5 => 176400
  | _ => 192000

/-! ## Filters (R112) -/

/-- The exact sum of products of coefficients and samples. -/
def fir (c : Nat → Int) : List Int → Nat → Int
  | [], _ => 0
  | x :: r, t => c t * x + fir c r (t + 1)

/-- R112: one filter output: Q1.31, rounded once and saturated, and whether it saturated. -/
def firOut (c : Nat → Int) (h : List Int) : Int × Nat :=
  let r := rne (fir c h 0) (2 ^ 31)
  (satI 32 r, b01 (satI 32 r != r))

/-- R109: up-conversion by `ph` phases: source samples in, outputs, history (newest first) and saturations. -/
def upGo (coef : Nat → Nat → Int) (taps ph : Nat) : List Int → List Int → List Int → Nat → List Int × List Int × Nat
  | [], h, out, n => (out, h, n)
  | x :: r, h, out, n =>
    let h := (x :: h).take taps
    let ys := (rangeFrom 0 ph).map (fun p => firOut (coef p) h)
    upGo coef taps ph r h (out ++ ys.map Prod.fst) (n + (ys.map Prod.snd).foldl (· + ·) 0)

/-- R109: DOWN2: one output for each pair of samples, at the first of the pair. -/
def downGo (coef : Nat → Int) (taps : Nat) : List Int → List Int → List Int → Nat → List Int × List Int × Nat
  | a :: b :: r, h, out, n =>
    let h := (a :: h).take taps
    let y := firOut coef h
    downGo coef taps r ((b :: h).take taps) (out ++ [y.1]) (n + y.2)
  | _, h, out, n => (out, h, n)

/-- The coefficient of a route's filter. -/
def Dev.coefOf (d : Dev) (side c : Nat) : Nat → Nat → Int :=
  let r := if side = 0 then d.inRoute c else d.outRoute c
  let x := d.fe r.engine
  Config.fltCoef x.kind x.profile d.rate (d.skewOf side c)

/-- Cuts or pads a list to `n` samples. -/
def fitTo (n : Nat) (l : List Int) : List Int := (l ++ List.replicate n 0).take n

/-- The group of an ASRC engine that serves a slot. -/
def Dev.groupOf (d : Dev) (e slot : Nat) : Option Nat :=
  (rangeFrom 0 16).find? (fun g =>
    let x := d.grp e g
    x.srcKind != 0 && decide (x.first ≤ slot) && decide (slot < x.first + x.count))

/-- R114: numerator over 16 of a group's own fade at sample `s` of block `b`. -/
def Group.factor (x : Group) (b s : Nat) : Nat :=
  match x.st with
  | .locked => if x.fadeBlk = some b then s else 16
  | .idle => 0
  | _ => if x.fadeBlk = some b then 16 - s else 0

/-- Samples scaled by a unit's fade of block `b`. -/
def fadeList (u : FUnit) (b : Nat) : Nat → List Int → List Int
  | _, [] => []
  | s, x :: r => rne (x * u.factor b s) 256 :: fadeList u b (s + 1) r

/-- R107 to R113: conditions channel `c` of input block `b` from its captured samples; `match_` says that a DIRECT source runs
at Fr. -/
def condChan (c b : Nat) (match_ : Bool) (d : Dev) : Dev :=
  let x := tget [] d.flt.inBlk c
  let r := d.inRoute c
  let put := fun (d : Dev) (v : List Int) => { d with flt := { d.flt with cond := tput [] d.flt.cond c (if v.all (· == 0) then [] else v) } }
  if r.engine = 15 then put d (if match_ then fitTo 16 x else [])
  else
    let fe := d.fe r.engine
    let u := d.unit 3 r.engine
    let k := 512 * r.engine + r.slot
    let h := tget [] d.flt.hist k
    let taps := Config.fltTaps fe.kind fe.profile d.rate
    let fin := fun (v h : List Int) (clips : Nat) =>
      let d := { d with flt := { d.flt with hist := tput [] d.flt.hist k (if h.all (· == 0) then [] else h) } }
      let d := if clips = 0 then d else d.setFe r.engine { fe with clip := fe.clip + BitVec.ofNat 32 clips }
      put d (fadeList u b 0 v)
    if !(d.acting 3 r.engine) then put d []
    else if fe.kind = 2 then
      match d.groupOf r.engine r.slot with
      | none => put d []
      | some g =>
        let q := d.grp r.engine g
        let h := (x.reverse ++ h).take 512
        let ys := (rangeFrom 0 16).map (fun s =>
          let y := Config.asrcOut [fe.profile, d.rate, q.rate, d.skewOf 0 c, q.fill, q.ratio.toNat] h s
          (rne (satI 32 y * q.factor b s) 16, b01 (satI 32 y != y)))
        fin (ys.map Prod.fst) h ((ys.map Prod.snd).foldl (· + ·) 0)
    else
      let ph := if fe.kind = 1 then 4 else 2
      let y := upGo (d.coefOf 0 c) taps ph (fitTo (16 / ph) x) h [] 0
      fin y.1 y.2.1 y.2.2

/-- R109, R111: down-converts the words of output `s` in block `b`; the engine's own fade scales the result. -/
def downConv (s b : Nat) (x : List Int) (d : Dev) : List Int × Dev :=
  let r := d.outRoute s
  let fe := d.fe r.engine
  let k := 512 * r.engine + r.slot
  let y := downGo (d.coefOf 1 s 0) (Config.fltTaps fe.kind fe.profile d.rate) x (tget [] d.flt.hist k) [] 0
  let d := { d with flt := { d.flt with hist := tput [] d.flt.hist k (if y.2.1.all (· == 0) then [] else y.2.1) } }
  let d := if y.2.2 = 0 then d else d.setFe r.engine { fe with clip := fe.clip + BitVec.ofNat 32 y.2.2 }
  if d.serves 3 r.engine b then ((rangeFrom 0 8).map (fun i => rne (y.1.getD i 0 * (d.unit 3 r.engine).factor b (2 * i)) 256), d)
  else (List.replicate 8 0, d)

/-! ## Asynchronous groups (R114) -/

/-- Table 4.4: codes of group states. -/
def GState.code : GState → Nat
  | .idle => 0
  | .acquire => 1
  | .locked => 2
  | .lost => 3

/-- R114: a group changes state; EV_FLT_ASRC reports it. -/
def Dev.grpTo (d : Dev) (e g : Nat) (st : GState) : Dev :=
  let x := d.grp e g
  if x.st == st then d else (d.setGrp e g { x with st := st }).raise 0x8601 e (le 1 g ++ le 1 st.code ++ zb 2)

/-- A free word is drawn. -/
def Dev.draw (d : Dev) : Nat × Dev := (d.free, { d with free := d.free + 1 })

/-- R114: a group at a tick boundary; `fresh` says that source samples have come. Its deviation, fill and ratio are what the
hardware estimates: free values; a following standby keeps those of the record (R115). -/
def grpTick (e g : Nat) (fresh : Bool) (d : Dev) : Dev :=
  let x := d.grp e g
  if x.srcKind = 0 ∨ (d.fe e).kind ≠ 2 ∨ ¬ d.acting 3 e then d.grpTo e g .idle
  else if d.pair.st = .following ∨ d.pair.st = .rewarming then d
  else
    let d := if x.st == .lost && fresh then d.grpTo e g .acquire else d
    let x := d.grp e g
    if x.st == .idle || x.st == .lost then d
    else
      let n := d.draw
      let dev := Config.asrcDev n.1
      let fill := Config.asrcFill n.1
      let d := n.2.setGrp e g { x with
        dev := dev, fill := fill, ratio := BitVec.ofNat 64 (Config.freeWord n.1)
        rangeErr := decide (1000 * 65536 < dev) || decide (dev < -(1000 * 65536)) }
      if x.st == .locked && (decide (4 * 65536 ≤ fill) || decide (fill ≤ -(4 * 65536))) then
        let y := d.grp e g
        (d.setGrp e g { y with slips := y.slips + 1, fadeBlk := some d.tim.tick }).grpTo e g .acquire
      else d

/-- R111: the history of an engine about to start is cleared. -/
def feClear (e : Nat) (d : Dev) : Dev := { d with flt := { d.flt with hist := d.flt.hist.filter (fun h => h.1 / 512 != e) } }

/-- R114, R111: an engine starts: its groups acquire. -/
def feStart (e : Nat) (d : Dev) : Dev :=
  forRun (fun g d => if (d.grp e g).srcKind = 0 ∨ (d.fe e).kind ≠ 2 then d else (d.setGrp e g { d.grp e g with fadeBlk := none }).grpTo e g .acquire) (rangeFrom 0 16) d

/-- ASRC_LOCK (R114). -/
def asrcLock (e g : Nat) (d : Dev) : Dev :=
  let x := d.grp e g
  if x.st == .acquire && !x.rangeErr then (d.setGrp e g { x with fadeBlk := some d.tim.tick }).grpTo e g .locked else d

/-- ASRC_LOST (R114). -/
def asrcLost (e g : Nat) (d : Dev) : Dev :=
  let x := d.grp e g
  match x.st with
  | .locked => (d.setGrp e g { x with fadeBlk := some d.tim.tick }).grpTo e g .lost
  | .acquire => (d.setGrp e g { x with fadeBlk := none }).grpTo e g .lost
  | _ => d

/-- ASRC_LOCK. -/
def execAsrcLock (e g : Nat) (s : State) : Host.Outcome State Fault Refusal := run (decide (e < 4) && decide (g < 16)) (asrcLock e g) s
/-- ASRC_LOST. -/
def execAsrcLost (e g : Nat) (s : State) : Host.Outcome State Fault Refusal := run (decide (e < 4) && decide (g < 16)) (asrcLost e g) s

/-- FLT_SAMPLE_MARK (01 Table 1.7, R111): engine `e` has not written a sample of the block it conditions; the sample is zero
for every channel of the engine. -/
def fltSampleMark (e sample : Nat) (d : Dev) : Dev :=
  if !(d.acting 3 e) then d
  else
    let x := d.fe e
    let d := d.setFe e { x with miss := x.miss + 1 }
    let d := { d with flt := { d.flt with
      missed := d.flt.missed ||| 2 ^ e
      cond := d.flt.cond.map (fun (c, v) => (c, if (d.inRoute c).engine = e then setAt v sample 0 else v)) } }
    d.strike (1165 + e) 0 0

/-- FLT_SAMPLE_MARK. -/
def execFltSampleMark (e sample : Nat) (s : State) : Host.Outcome State Fault Refusal :=
  run (decide (e < 4) && decide (sample < 16)) (fltSampleMark e sample) s

/-! ## Tone detectors (R119 to R122) -/

/-- R120: the samples of one block of a detector's source reach it, with the block's index. -/
def toneFeed (t idx : Nat) (x : List Int) (live : Bool) (d : Dev) : Dev :=
  let q := d.tone t
  if !q.enable then d
  else
    let q := if q.start.isNone ∧ idx % (q.n / 16) = 0 ∧ q.cfgBlk ≤ idx then { q with start := some idx, buf := [], bad := false } else q
    match q.start with
    | none => d
    | some st =>
      let q := { q with buf := x.reverse ++ q.buf, bad := q.bad || !live }
      d.setTone t (if q.n ≤ q.buf.length then { q with full := some (st, q.bad, q.buf.reverse), start := none, buf := [], bad := false } else q)

/-- R120, R121: a detector's result; a block of zeros has the least level. -/
def toneResult (t : Nat) (d : Dev) : Dev :=
  let q := d.tone t
  match q.full with
  | none => d
  | some (st, bad, x) =>
    let lv := if x.all (· == 0) then -32768 else max (-32768) (satI 16 (Config.toneLevel q.freq q.n (b01 (q.window = 1)) d.rate x))
    let ph := Config.tonePhase q.freq q.n (b01 (q.window = 1)) d.rate st x % 65536
    let pr := if q.thresh ≤ lv then true else if lv < q.thresh - q.hyst then false else q.present
    let d := d.setTone t { q with full := none, level := lv, phase := ph, block := st, valid := !bad, present := pr }
    if pr = q.present then d
    else d.raise 0x8620 t (le 1 (b01 pr) ++ zb 1 ++ leI 2 lv ++ zb 4 ++ le 8 st)

/-- TONE_BLOCK_RESULT. -/
def execToneBlockResult (t : Nat) (s : State) : Host.Outcome State Fault Refusal := run (decide (t < 64)) (toneResult t) s

/-! ## Commands (Table 4.9) -/

/-- Table 4.10: the bytes of an engine's settings. -/
def Fe.bytes (x : Fe) (e : Nat) : Bytes := le 1 e ++ le 1 x.kind ++ le 1 x.profile ++ le 1 x.align ++ le 2 x.slots ++ zb 2

/-- R123: a mapped channel, output or group run lies at or above a slot count. -/
def Dev.mappedAbove (d : Dev) (e n : Nat) : Bool :=
  (d.flt.inmap.any (fun r => r.2.engine == e && decide (n ≤ r.2.slot)))
  || (d.flt.outmap.any (fun r => r.2.engine == e && decide (n ≤ r.2.slot)))
  || (rangeFrom 0 16).any (fun g => (d.grp e g).srcKind != 0 && decide (n < (d.grp e g).first + (d.grp e g).count))

/-- 0x0600 FLT_ENGINE_CONFIG. -/
def cmdFltEngineConfig : Cmd := cmdA 0x0600 fun _ p d =>
  let e := u8 p 0
  let k := u8 p 1
  let n := u16 p 4
  let bad := decide (5 < e) || decide (3 < k) || (decide (e < 4) && k == 3) || (decide (3 < e) && k != 3)
    || (k == 1 && decide (d.rate < 2)) || decide (1 < u8 p 2) || decide (1 < u8 p 3) || n == 0 || decide (slotLimit k (u8 p 3) < n)
    || rsv p 6 2 || d.mappedAbove e n
  checks [(p.length != 8, 0x101), (bad, 0x102), (d.retired 3 e, 0x109), (!d.stopped 3 e, 0x103)] d
    (ok (d.setFe e { d.fe e with kind := k, profile := u8 p 2, align := u8 p 3, slots := n }))

/-- 0x0601 FLT_ENGINE_GET. -/
def cmdFltEngineGet : Cmd := cmdL 0x0601 fun _ p d =>
  let e := u8 p 0
  let x := d.fe e
  checks [(p.length != 4, 0x101), (decide (5 < e) || rsv p 1 3, 0x102)] d
    (okData (x.bytes e ++ le 1 (d.unit 3 e).st.code ++ zb 3 ++ words [baseGd x.kind x.profile * 65536, x.skewMax, x.miss.toNat, x.clip.toNat]) d)

/-- R388: a run of channels (side 0) or outputs (side 1) lies within what the rate gives. -/
def runBad (rate side first count : Nat) : Bool :=
  count == 0 || (if side = 0 then !((rangeFrom first count).all (chanOk rate)) else decide (512 < first + count))

/-- R107: the slot uses of one side, after a run of new routes. -/
def slotClash (t : Tbl Route) : Bool :=
  let k := (t.filter (fun r => r.2.engine != 15)).map (fun r => (r.2.engine, r.2.slot))
  k.length != k.eraseDups.length

/-- The entries of FLT_CHAN_MAP as routes. -/
def mapRoutes (p : Bytes) (n : Nat) : List Route :=
  (rangeFrom 0 n).map (fun i => if u8 p (8 + 4 * i) = 255 then {} else { engine := u8 p (8 + 4 * i), slot := u16 p (10 + 4 * i) })

/-- 0x0602 FLT_CHAN_MAP. -/
def cmdFltChanMap : Cmd := cmdA 0x0602 fun _ p d =>
  let side := u8 p 0
  let f := u16 p 2
  let n := u16 p 4
  let rs := mapRoutes p n
  let old := if side = 0 then d.flt.inmap else d.flt.outmap
  let new := forRun (fun i t => tput {} t (f + i) (rs.getD i {})) (rangeFrom 0 n) old
  let badR := fun (i : Nat) => let r := rs.getD i {}
    rsv p (9 + 4 * i) 1 || u8 p (8 + 4 * i) == 15 || (r.engine != 15 && ((if side = 0 then decide (3 < r.engine) else r.engine != 4 && r.engine != 5)
      || decide ((d.fe r.engine).slots ≤ r.slot)))
  let ret := fun (i : Nat) => let r := rs.getD i {}
    r.engine != 15 && d.retired 3 r.engine
  let busy := fun (i : Nat) => let r := rs.getD i {}
    let o := tget {} old (f + i)
    (r.engine != 15 && !d.stopped 3 r.engine) || (o.engine != 15 && !d.stopped 3 o.engine && !d.retired 3 o.engine)
  let one := fun (i : Nat) => firstErr [(ret i, 0x109), (busy i, 0x103)]
  let pre := firstErr [(p.length != 8 + 4 * n, 0x101),
    (decide (1 < side) || rsv p 1 1 || rsv p 6 2 || runBad d.rate side f n || (rangeFrom 0 n).any badR || slotClash new, 0x102)]
  match pre with
  | some e => no e d
  | none => match firstFail one 0 (rangeFrom 0 n) with
    | some (_, e) => no e d
    | none => ok { d with flt := if side = 0 then { d.flt with inmap := new } else { d.flt with outmap := new } }

/-- 0x0603 FLT_PHASE_SET. -/
def cmdFltPhaseSet : Cmd := cmdA 0x0603 fun _ p d =>
  let side := u8 p 0
  let f := u16 p 2
  let n := u16 p 4
  let rt := fun (i : Nat) => if side = 0 then d.inRoute (f + i) else d.outRoute (f + i)
  let badR := fun (i : Nat) => decide (0x3FFFF < u32 p (8 + 4 * i)) || (rt i).engine == 15 || (d.fe (rt i).engine).align == 0
  let one := fun (i : Nat) => firstErr [(d.retired 3 (rt i).engine, 0x109), (!d.stopped 3 (rt i).engine, 0x103)]
  match firstErr [(p.length != 8 + 4 * n, 0x101),
    (decide (1 < side) || rsv p 1 1 || rsv p 6 2 || runBad d.rate side f n || (rangeFrom 0 n).any badR, 0x102)] with
  | some e => no e d
  | none => match firstFail one 0 (rangeFrom 0 n) with
    | some (_, e) => no e d
    | none =>
      let put := forRun (fun i t => tput 0 t (f + i) (u32 p (8 + 4 * i))) (rangeFrom 0 n)
      ok { d with flt := if side = 0 then { d.flt with inphase := put d.flt.inphase } else { d.flt with outphase := put d.flt.outphase } }

/-- 0x0604 FLT_DELAY_GET. -/
def cmdFltDelayGet : Cmd := cmdL 0x0604 fun _ p d =>
  let side := u8 p 0
  checks [(p.length != 8, 0x101), (decide (1 < side) || rsv p 1 1 || rsv p 6 2 || runBad d.rate side (u16 p 2) (u16 p 4), 0x102)] d
    (okData (words ((rangeFrom (u16 p 2) (u16 p 4)).map (d.condDelay side))) d)

/-- 0x0605 FLT_COEF_GET: a DIRECT route has no coefficients. -/
def cmdFltCoefGet : Cmd := cmdL 0x0605 fun _ p d =>
  let side := u8 p 0
  let c := u16 p 2
  let r := if side = 0 then d.inRoute c else d.outRoute c
  let x := d.fe r.engine
  let ph := if r.engine = 15 then 0 else Config.fltPhases x.kind x.profile d.rate
  let tp := if r.engine = 15 then 0 else Config.fltTaps x.kind x.profile d.rate
  checks [(p.length != 4, 0x101), (decide (1 < side) || rsv p 1 1 || runBad d.rate side c 1, 0x102)] d
    (okData (le 2 ph ++ le 2 tp ++ (rangeFrom 0 ph).flatMap (fun a => (rangeFrom 0 tp).flatMap (fun b => leI 4 (d.coefOf side c a b)))) d)

/-- Table 4.9: a group's source exists. -/
def asrcSrcOk (kind id : Nat) : Bool :=
  match kind with
  | 0 => true
  | 1 => decide (id < 256)
  | 2 => decide (id < 10)
  | 3 => decide (id < 8)
  | _ => false

/-- 0x0610 ASRC_GROUP_CONFIG. -/
def cmdAsrcGroupConfig : Cmd := cmdA 0x0610 fun _ p d =>
  let e := u8 p 0
  let g := u8 p 1
  let k := u8 p 2
  let a := u16 p 6
  let n := u16 p 8
  let x := d.fe e
  let clash := (rangeFrom 0 16).any (fun h => h != g && (d.grp e h).srcKind != 0 && overlaps a n (d.grp e h).first (d.grp e h).count)
  let bad := decide (3 < e) || decide (15 < g) || !asrcSrcOk k (u16 p 4) || decide (6 < u8 p 3) || decide (frOf d.rate < asrcRate (u8 p 3))
    || rsv p 10 6 || (k != 0 && (n == 0 || decide (x.slots < a + n) || clash)) || x.kind != 2
  checks [(p.length != 16, 0x101), (bad, 0x102), (d.retired 3 e, 0x109), (!d.stopped 3 e, 0x103)] d
    (ok (d.setGrp e g (if k = 0 then { slips := (d.grp e g).slips }
      else { d.grp e g with srcKind := k, srcId := u16 p 4, rate := u8 p 3, first := a, count := n })))

/-- 0x0611 ASRC_GROUP_STATUS. -/
def cmdAsrcGroupStatus : Cmd := cmdL 0x0611 fun _ p d =>
  let x := d.grp (u8 p 0) (u8 p 1)
  checks [(p.length != 4, 0x101), (decide (3 < u8 p 0) || decide (15 < u8 p 1) || rsv p 2 2, 0x102)] d
    (okData (le 1 x.st.code ++ le 1 (b01 x.rangeErr) ++ zb 2 ++ leI 4 x.dev ++ leI 4 x.fill ++ le 4 x.slips.toNat) d)

/-- 0x0620 TD_CONFIG. -/
def cmdTdConfig : Cmd := cmdL 0x0620 fun _ p d =>
  let t := u8 p 0
  let k := u8 p 2
  let src := u16 p 4
  let f := u32 p 8
  let n := u32 p 12
  let bad := decide (63 < t) || decide (1 < u8 p 1) || decide (2 < k) || decide (1 < u8 p 3) || rsv p 6 2 || rsv p 20 4
    || (match k with
      | 0 => decide (nObj d.rate ≤ src)
      | 1 => decide (63 < src)
      | _ => decide (511 < src))
    || decide (f < 10 * 65536) || decide (frOf d.rate * 65536 * 45 < f * 100) || decide (n < 256) || decide (65536 < n) || n % 16 != 0
  checks [(p.length != 24, 0x101), (bad, 0x102)] d
    (ok (d.setTone t { d.tone t with
      enable := u8 p 1 == 1, srcKind := k, window := u8 p 3, src := src, freq := f, n := n, thresh := s16 p 16, hyst := u16 p 18
      start := none, buf := [], bad := false, full := none, cfgBlk := d.tim.tick + 1 }))

/-- 0x0621 TD_READ. -/
def cmdTdRead : Cmd := cmdL 0x0621 fun _ p d =>
  let f := u8 p 0
  let n := u8 p 1
  checks [(p.length != 4, 0x101), (n == 0 || decide (64 < f + n) || rsv p 2 2, 0x102)] d
    (okData ((rangeFrom f n).flatMap (fun t => let q := d.tone t
      le 8 q.block ++ leI 2 q.level ++ le 2 q.phase ++ le 1 (b01 q.present + 2 * b01 q.valid) ++ zb 3)) d)

/-- FLT_ENGINE_CONFIG. -/
def execFltEngineConfig (r : AcpReq) (s : State) : Host.Outcome State Fault Refusal := run true (acpTake cmdFltEngineConfig r) s
/-- FLT_ENGINE_GET. -/
def execFltEngineGet (r : AcpReq) (s : State) : Host.Outcome State Fault Refusal := run true (acpTake cmdFltEngineGet r) s
/-- FLT_CHAN_MAP. -/
def execFltChanMap (r : AcpReq) (s : State) : Host.Outcome State Fault Refusal := run true (acpTake cmdFltChanMap r) s
/-- FLT_PHASE_SET. -/
def execFltPhaseSet (r : AcpReq) (s : State) : Host.Outcome State Fault Refusal := run true (acpTake cmdFltPhaseSet r) s
/-- FLT_DELAY_GET. -/
def execFltDelayGet (r : AcpReq) (s : State) : Host.Outcome State Fault Refusal := run true (acpTake cmdFltDelayGet r) s
/-- FLT_COEF_GET. -/
def execFltCoefGet (r : AcpReq) (s : State) : Host.Outcome State Fault Refusal := run true (acpTake cmdFltCoefGet r) s
/-- ASRC_GROUP_CONFIG. -/
def execAsrcGroupConfig (r : AcpReq) (s : State) : Host.Outcome State Fault Refusal := run true (acpTake cmdAsrcGroupConfig r) s
/-- ASRC_GROUP_STATUS. -/
def execAsrcGroupStatus (r : AcpReq) (s : State) : Host.Outcome State Fault Refusal := run true (acpTake cmdAsrcGroupStatus r) s
/-- TD_CONFIG. -/
def execTdConfig (r : AcpReq) (s : State) : Host.Outcome State Fault Refusal := run true (acpTake cmdTdConfig r) s
/-- TD_READ. -/
def execTdRead (r : AcpReq) (s : State) : Host.Outcome State Fault Refusal := run true (acpTake cmdTdRead r) s

end Sys2Proof.Machine
end

