-- ==== Sys2Proof/Machine/Traj.lean ====
section
/-! DEFINITION. Objects, knots, segments, delays and attenuation (03 R75 to R96, R100 to R106), with the commands 0x07xx. -/

namespace Sys2Proof.Machine

/-! ## Layouts and loudspeakers -/

/-- R78: loudspeaker entry `s`. -/
def Dev.spk (d : Dev) (s : Nat) : Speaker := tget {} d.trj.spk s
/-- R78: the layout of an output. -/
def Dev.layOf (d : Dev) (s : Nat) : Nat := (d.spk s).layout
/-- R97: P of a layout in ticks. -/
def Layout.p (l : Layout) : Nat := 2 ^ l.period
/-- Writes an object. -/
def Dev.setObj (d : Dev) (o : Nat) (x : Obj) : Dev := { d with trj := { d.trj with obj := tput {} d.trj.obj o x } }
/-- R80: routing word `w`. -/
def Dev.routeWord (d : Dev) (w : Nat) : W32 := tget (if w = 0 then 0xFFFFFFFF else 0) d.trj.route w
/-- Table 3.8: adds to a counter, by its place in offset order. -/
def Dev.trjCount (d : Dev) (i n : Nat) : Dev := { d with trj := { d.trj with ctr := bump d.trj.ctr i n } }

/-- R90: endpoints are written for the outputs of a layout that acts or starts. -/
def Dev.layLive (d : Dev) (l : Nat) : Bool :=
  match (d.unit 1 l).st with
  | .starting | .running | .stopping => true
  | _ => false

/-! ## Knots (R81 to R84) -/

/-- R86: bit JUMP. -/
def KRec.jump (r : KRec) : Bool := r.flags % 2 == 1
/-- Table 3.4: TYPE. -/
def KRec.typ (r : KRec) : Nat := r.flags / 4 % 4
/-- Table 3.4: LAST. -/
def KRec.last (r : KRec) : Bool := r.flags / 16 % 2 == 1

/-- R85, R86: the segment from `a` to `b` holds. -/
def isHold (a b : KRec) : Bool := b.typ == 2 || b.jump || a.last
/-- R86: the segment ends in a jump. -/
def isJump (a b : KRec) : Bool := (b.typ == 2 || b.jump) && a.pos != b.pos

/-- Index of the last knot whose effective time is at or before `t`. -/
def lastLe (t : Nat) : List Knot → Option Nat
  | [] => none
  | k :: r => if k.eff ≤ t then some (match lastLe t r with
      | some i => i + 1
      | none => 0) else none

/-- Index of the last knot whose effective time is before `t`. -/
def lastLt (t : Nat) (q : List Knot) : Option Nat := if t = 0 then none else lastLe (t - 1) q

/-- A knot by index. -/
def knotAt (q : List Knot) (i : Nat) : Knot := q.getD i {}

/-- Applies `f` to each component of two vectors. -/
def V3.zip (f : Int → Int → Int) (a b : V3) : V3 := { x := f a.x b.x, y := f a.y b.y, z := f a.z b.z }

/-- R88: vel(a, b). -/
def velAB (a b : Knot) : V3 :=
  V3.zip (fun p q => satI 32 (rne ((q - p) * (65536 * 10 ^ 9)) (b.eff - a.eff))) a.r.pos b.r.pos

/-- R88: the velocity knot `i` takes when first needed. -/
def estimate (q : List Knot) (i : Nat) : V3 :=
  let k := knotAt q i
  let more := decide (i + 1 < q.length)
  if 0 < i ∧ ¬ isHold (knotAt q (i - 1)).r k.r then velAB (knotAt q (i - 1)) (if more then knotAt q (i + 1) else k)
  else if more then velAB k (knotAt q (i + 1)) else {}

/-- R88: fixes the velocity of knot `i`. -/
def fixVel (q : List Knot) (i : Nat) : List Knot :=
  match (knotAt q i).vel with
  | some _ => q
  | none => if i < q.length then setAt q i { knotAt q i with vel := some (estimate q i) } else q

/-- R89: position, velocity and knot gain at `t` in the segment from `a` to `b`. -/
def segAt (a b : Knot) (t : Nat) : V3 × V3 × Int :=
  if isHold a.r b.r then (a.r.pos, {}, a.r.gain)
  else
    let h := b.eff - a.eff
    let u := rne (((t - a.eff : Nat) : Int) * 2 ^ 32) h
    let g := rne (a.r.gain * 2 ^ 32 + u * (b.r.gain - a.r.gain)) (2 ^ 32)
    if b.r.typ = 1 then
      (V3.zip (fun p q => satI 32 (rne (p * 2 ^ 32 + u * (q - p)) (2 ^ 32))) a.r.pos b.r.pos,
       V3.zip (fun p q => satI 32 (rne ((q - p) * (65536 * 10 ^ 9)) h)) a.r.pos b.r.pos, g)
    else
      let u2 := rne (u * u) (2 ^ 32)
      let u3 := rne (u2 * u) (2 ^ 32)
      let tan := fun (v : Int) => satI 32 (rne ((h : Int) * v) (65536 * 10 ^ 9))
      let pos := fun (pa pb va vb : Int) => satI 32 (rne ((2 * u3 - 3 * u2 + 2 ^ 32) * pa + (-2 * u3 + 3 * u2) * pb
        + (u3 - 2 * u2 + u) * tan va + (u3 - u2) * tan vb) (2 ^ 32))
      let s := 6 * u2 - 6 * u
      let vel := fun (pa pb va vb : Int) => satI 32 (rne ((s * pa - s * pb + (3 * u2 - 4 * u + 2 ^ 32) * tan va
        + (3 * u2 - 2 * u) * tan vb) * 10 ^ 9) (65536 * h))
      let va := a.vel.getD {}
      let vb := b.vel.getD {}
      let pa := a.r.pos
      let pb := b.r.pos
      ({ x := pos pa.x pb.x va.x vb.x, y := pos pa.y pb.y va.y vb.y, z := pos pa.z pb.z va.z vb.z },
       { x := vel pa.x pb.x va.x vb.x, y := vel pa.y pb.y va.y vb.y, z := vel pa.z pb.z va.z vb.z }, g)

/-- R89, Example 3.2: the first knot of the segment an instant is evaluated in: the end of a segment belongs to it, but for a
hold. None: the object is held at its first or last knot. -/
def segOf (q : List Knot) (t : Nat) : Option Nat :=
  match lastLe t q with
  | none => none
  | some i =>
    if (knotAt q i).eff = t ∧ 0 < i ∧ ¬ isHold (knotAt q (i - 1)).r (knotAt q i).r then some (i - 1)
    else if i + 1 < q.length then some i else none

/-- R84, R85, R88, R89: position, velocity and knot gain at `t`, and the queue with the velocities now fixed. -/
def evalAt (q : List Knot) (t : Nat) : (V3 × V3 × Int) × List Knot :=
  match segOf q t with
  | some i =>
    let q := fixVel (fixVel q i) (i + 1)
    (segAt (knotAt q i) (knotAt q (i + 1)) t, q)
  | none =>
    let k := knotAt q ((lastLe t q).getD 0)
    ((k.r.pos, {}, k.r.gain), q)

/-- R87: the knot that sets EXTENT, PRIORITY and LAYMASK_HI at an instant. -/
def knotIn (q : List Knot) (t : Nat) : KRec := (knotAt q ((lastLe t q).getD 0)).r

/-- R85: placed in the block that ends at `t1`. -/
def placedAt (q : List Knot) (t1 : Nat) : Bool :=
  match lastLt t1 q with
  | some i => !(knotAt q i).r.last
  | none => false

/-- What applying knots counts: LATE, DUP, REPLACED. -/
structure KCount where
  late : Nat := 0
  dup : Nat := 0
  repl : Nat := 0
  deriving DecidableEq, Repr

/-- R84: the synthetic anchor at the frontier, from the trajectory in force. -/
def synthAt (q : List Knot) (a : Knot) (f : Nat) : Knot :=
  let v := (evalAt q f).1
  { r := { a.r with flags := if a.r.last then 16 else 0, gain := v.2.2, time := f / 65536, pos := v.1, vel := v.2.1 },
    eff := f, synth := true, vel := some v.2.1 }

/-- R83, R84: applies a knot at frontier `f`; `f1` is the boundary one tick after it. -/
def knotApply (r : KRec) (f f1 : Nat) (q : List Knot) (c : KCount) : List Knot × KCount :=
  let ai := lastLe f q
  let fromA := q.drop (ai.getD 0)
  if fromA.any (fun k => !k.synth && k.r == r) then (q, { c with dup := c.dup + 1 })
  else
    let tk := r.time * 65536
    let late := decide (tk < f)
    let e := if late then f1 else tk
    let c := if late then { c with late := c.late + 1 } else c
    let n := match ai with
      | some i => i + 1
      | none => 0
    let tail := q.drop n
    let keep := tail.filter (fun k => decide (k.eff < tk))
    let c := { c with repl := c.repl + (tail.length - keep.length) }
    let kn : Knot := { r := r, eff := e, synth := false, vel := if r.flags / 2 % 2 = 1 then some r.vel else none }
    match ai with
    | none => (keep ++ [kn], c)
    | some i =>
      let a := knotAt q i
      if a.eff = e then (q.take i ++ [kn] ++ keep, { c with repl := c.repl + 1 })
      else
        let q' := q.take n ++ keep ++ [kn]
        if a.eff < f ∧ (knotAt q' n != knotAt q n ∨ q.length ≤ n) then (setAt q' i (synthAt q a f), c) else (q', c)

/-- R82: knots queued, anchor included. -/
def qDepth (q : List Knot) (f : Nat) : Nat := q.length - (lastLe f q).getD 0

/-- R82: knots earlier than the one before the frontier leave the queue. -/
def qPrune (q : List Knot) (f : Nat) : List Knot := q.drop ((lastLt f q).getD 0)

/-! ## Geometry (R76, R91, R92, R96) -/

/-- R76: a position in a layout's frame. -/
def scalePos (scale : Int) (p : V3) : V3 :=
  let f := fun (v : Int) => satI 32 (rne (v * scale) (2 ^ 28))
  { x := f p.x, y := f p.y, z := f p.z }

/-- R76: an extent in a layout's frame. -/
def scaleExt (scale : Int) (e : Nat) : Nat := min 65535 (rne ((e : Int) * scale) (2 ^ 28)).toNat

/-- Square of a length. -/
def V3.sq (v : V3) : Nat := (v.x * v.x + v.y * v.y + v.z * v.z).toNat

/-- R91: R of a path. -/
def distR (p : V3) (s : Speaker) : Nat := min 0x7FFFFFFF (isqrtR (V3.zip (· - ·) p s.pos).sq)

/-- R91: the loudspeaker faces away from the object. -/
def sigmaPos (p : V3) (s : Speaker) : Bool :=
  let v := V3.zip (· - ·) p s.pos
  decide (v.x * s.face.x + v.y * s.face.y + v.z * s.face.z < 0)

/-- R91: D_geo of a path, Q16.16 samples. -/
def dGeo (rate : Nat) (l : Layout) (p : V3) (s : Speaker) : Nat := rneN (distR p s * frOf rate * 65536) l.speed

/-- R92, Table 3.5: the raw delay before its clamps. -/
def rawDelay (rate : Nat) (l : Layout) (p : V3) (s : Speaker) (k : Nat) : Int :=
  match l.mode with
  | 0 => k
  | 1 => (s.align : Int) + k
  | 2 => (dGeo rate l p s : Int) - l.refDelay + k
  | _ => (if sigmaPos p s then (dGeo rate l p s : Int) else -(dGeo rate l p s : Int)) - l.refDelay + k

/-- R92: the clamped delay, and whether it was clamped. -/
def pathDelay (rate : Nat) (l : Layout) (p : V3) (s : Speaker) (k : Nat) : Nat × Nat :=
  let v := rawDelay rate l p s k
  let hi := maxDelay rate * 65536
  if v < 0 then (0, 1) else if (hi : Int) < v then (hi, 1) else (v.toNat, 0)

/-- R96: attenuation A of a path. -/
def attOf (l : Layout) (p : V3) (s : Speaker) : Int :=
  let r := if l.mode < 2 then isqrtR p.sq else distR p s
  let rc := max r l.minDist
  match l.att with
  | 0 => one28
  | 1 => min l.attMax (isqrtR (rneN (l.refDist * 2 ^ 56) rc) : Nat)
  | _ => min l.attMax (rneN (l.refDist * 2 ^ 28) rc : Nat)

/-! ## Endpoints of a block (R86, R90, R93) -/

/-- Indices of the jump knots in the block from `t0` to `t1`. -/
def jumpsIn (q : List Knot) (t0 t1 : Nat) : List Nat :=
  (rangeFrom 1 (q.length - 1)).filter (fun i =>
    let k := knotAt q i
    decide (t0 ≤ k.eff) && decide (k.eff < t1) && isJump (knotAt q (i - 1)).r k.r)

/-- R86: the position delays use at `t` in the block from `t0` to `t1`: a jump takes effect at the block's end. -/
def delayPos (q : List Knot) (t0 t1 t : Nat) : V3 :=
  match (jumpsIn q t0 (t1 + 1)).find? (fun i => decide ((knotAt q i).eff ≤ t)) with
  | some i => (knotAt q (i - 1)).r.pos
  | none => (evalAt q t).1.1

/-- R90: what TRJ evaluates of object `o` for block `m`. -/
def trjEval (o m : Nat) (d : Dev) : Dev :=
  let x := d.obj o
  if x.queue.isEmpty then (if x.ev = {} ∧ x.jumps = [] then d else d.setObj o { x with ev := {}, jumps := x.jumps.filter (fun b => decide (m ≤ b + 2)) })
  else
    let t0 := boundT d.rate m
    let t1 := boundT d.rate (m + 1)
    let tm := sampleT d.rate (16 * m + 8)
    let q := (evalAt x.queue tm).2
    let e := evalAt q t1
    let q := e.2
    let js := jumpsIn q t0 t1
    let jumps := x.jumps.filter (fun b => decide (m ≤ b + 2)) ++ (if js.isEmpty then [] else [m])
    let k := knotIn q t1
    let lay := (knotAt q ((lastLt t1 q).getD 0)).r.lay
    let ev : ObjEval := {
      valid := true, mid := delayPos q t0 t1 tm, pos := e.1.1, vel := e.1.2.1, gain := e.1.2.2, factor := mul28 x.gain e.1.2.2
      placed := placedAt q t1, prio := k.prio, lay := k.lay, route := d.routeWord lay, ext := k.ext
      mute := !js.isEmpty || jumps.contains (m - 1) }
    (d.setObj o { x with queue := q, jumps := jumps, ev := ev }).trjCount 9 js.length

/-- 07 R184: the slot 16L + t that holds an object. -/
def Dev.slotOf (d : Dev) (o : Nat) : Option Nat :=
  let n := slotsPerLane d.rate
  let i := 16 * (o / n) + o % n
  if d.slotObj i = some o then some i else (d.rnd.map.find? (fun e => e.2 == o)).map Prod.fst

/-- R93: writes the delay endpoints of object `o` to output `s` for block `m`; `free_` suspends the slew limit. -/
def trjPath (o i m s : Nat) (free_ : Bool) (d : Dev) : Dev :=
  let l := d.layout (d.layOf s)
  let x := d.obj o
  let t1 := boundT d.rate (m + 1)
  let sp := d.spk s
  let k := d.foldOf o
  let a := pathDelay d.rate l (scalePos l.scale x.ev.mid) sp k
  let b := pathDelay d.rate l (scalePos l.scale (delayPos x.queue (boundT d.rate m) t1 t1)) sp k
  let key := 512 * i + s
  let e := tget {} d.rnd.path key
  let lim := if l.slew = 0 then 0x80000 else min l.slew 0x80000
  let past := !free_ && (decide (e.d1 + lim < b.1) || decide (b.1 + lim < e.d1))
  let d1n := if past then (if e.d1 < b.1 then e.d1 + lim else e.d1 - lim) else b.1
  let dmid := if past then rneN (e.d1 + d1n) 2 else a.1
  let d := { d with rnd := { d.rnd with path := tput {} d.rnd.path key { e with dmidn := dmid, d1n := d1n } } }
  let d := if a.2 + b.2 = 0 then d else d.trjCount 5 (a.2 + b.2)
  if past then d.trjCount 4 1 else d

/-- 07 R191: the block is known to take a cold rotation at slot `i`: its endpoints are written without the limit. -/
def Dev.unlimited (d : Dev) (i m : Nat) : Bool :=
  (d.unit 0 0).startBlk == some m
  || d.rnd.attachAt.any (fun a => a.2.1 == i / 16 && a.2.2 == some m && (d.lane (i / 16)).pathBad)

/-- Outputs whose layout acts or starts. -/
def Dev.liveOutputs (d : Dev) : List Nat := (rangeFrom 0 512).filter (fun s => d.layLive (d.layOf s))

/-- R101: RENDER acts or starts. -/
def Dev.rendering (d : Dev) : Bool :=
  match (d.unit 0 0).st with
  | .stopped => false
  | .retired => d.acting 0 0
  | _ => true

/-- R90: TRJ's endpoints of block `m`; then the frontier passes over each queue. With RENDER stopped only the latter. -/
def trjBlock (m : Nat) (d : Dev) : Dev :=
  let os := d.trj.obj.map Prod.fst
  let d := if !d.rendering || d.chRet 1164 then d
    else
      let d := forRun (fun o d => trjEval o m d) os d
      let outs := if (rangeFrom 0 32).any d.layLive then d.liveOutputs else []
      let d := forRun (fun o d =>
        let x := d.obj o
        match d.slotOf o with
        | some i => if x.ev.valid then forRun (fun s d => trjPath o i m s (x.jumps.contains (m - 1) || d.unlimited i m) d) outs d else d
        | none => d) os d
      { d with trj := { d.trj with block := some m } }
  let f := boundT d.rate (m + 1)
  forRun (fun o d => let x := d.obj o
    if x.queue.length < 2 then d else d.setObj o { x with queue := qPrune x.queue f }) os d

/-- TRJ_DEADLINE (R95, 01 Table 1.7): the endpoints of the block being written are not complete: every path keeps its delay. -/
def trjDeadline (d : Dev) : Dev :=
  if !d.rendering then d
  else
    let d := d.trjCount 6 1
    let hold := fun (e : PathE) => { e with dmidn := e.d1, d1n := e.d1 }
    let d := { d with
      rnd := { d.rnd with path := (d.rnd.path.map (fun (x : Nat × PathE) => (x.1, hold x.2))).filter (fun (x : Nat × PathE) => x.2 != ({} : PathE)) }
      trj := { d.trj with late := true, missed := true } }
    d.strike 1164 0 0

/-- TRJ_DEADLINE. -/
def execTrjDeadline (s : State) : Host.Outcome State Fault Refusal := run true trjDeadline s

/-! ## Records (Table 3.3) -/

/-- Table 3.3: reads a record of 48 bytes. -/
def recOf (p : Bytes) : KRec := {
  obj := u16 p 0, flags := u16 p 2, gain := s32 p 4, time := u64 p 8
  pos := { x := s32 p 16, y := s32 p 20, z := s32 p 24 }, vel := { x := s32 p 28, y := s32 p 32, z := s32 p 36 }
  ext := u16 p 40, lay := u8 p 42, prio := u8 p 43 }

/-- R81: the record is invalid. -/
def recBad (rate : Nat) (p : Bytes) : Bool :=
  let r := recOf p
  decide (nObj rate ≤ r.obj) || r.typ == 3 || decide (32 ≤ r.flags) || decide (7 < r.prio) || rsv p 44 4

/-- The bytes of a record. -/
def KRec.bytes (r : KRec) : Bytes :=
  le 2 r.obj ++ le 2 r.flags ++ leI 4 r.gain ++ le 8 r.time ++ leI 4 r.pos.x ++ leI 4 r.pos.y ++ leI 4 r.pos.z
  ++ leI 4 r.vel.x ++ leI 4 r.vel.y ++ leI 4 r.vel.z ++ le 2 r.ext ++ le 1 r.lay ++ le 1 r.prio ++ zb 4

/-- R83: applies one record to its object at the frontier of tick `vt`; none where the queue would exceed 8 knots. -/
def recApply (vt : Nat) (r : KRec) (x : Dev × KCount) : Option (Dev × KCount) :=
  let f := boundT x.1.rate (vt + 3)
  let o := x.1.obj r.obj
  let y := knotApply r f (boundT x.1.rate (vt + 4)) o.queue x.2
  if 8 < qDepth y.1 f then none else some (x.1.setObj r.obj { o with queue := y.1 }, y.2)

/-- R105: applies records in order. -/
def recsApply (vt : Nat) : List KRec → Dev × KCount → Option (Dev × KCount)
  | [], x => some x
  | r :: rs, x => match recApply vt r x with
    | none => none
    | some y => recsApply vt rs y

/-- R83: counts what applying knots did. -/
def Dev.knotCount (d : Dev) (c : KCount) : Dev := ((d.trjCount 0 c.late).trjCount 1 c.dup).trjCount 2 c.repl

/-- R102: a record of a trajectory stream. -/
def streamRecord (p : Bytes) (d : Dev) : Dev :=
  if d.standby then d
  else if recBad d.rate p then d.trjCount 7 1
  else match recApply d.tim.tick (recOf p) (d, {}) with
    | none => d.trjCount 3 1
    | some (d, c) =>
      let d := d.knotCount c
      if d.pair.st == .active then { d with pair := { d.pair with items := d.pair.items ++ [(1, p)] } } else d

/-! ## Commands (Table 3.10) -/

/-- Table 3.1: the bytes of a layout's settings. -/
def Layout.bytes (l : Layout) (k : Nat) : Bytes :=
  le 1 k ++ le 1 l.mode ++ le 1 l.period ++ le 1 l.phase ++ le 2 l.law ++ le 1 l.att ++ zb 1 ++ leI 4 l.scale ++ leI 4 l.refDelay
  ++ le 4 l.speed ++ le 4 l.slew ++ le 4 l.refDist ++ le 4 l.minDist ++ leI 4 l.attMax ++ zb 4

/-- 06 R159: two layouts of one group agree. -/
def groupEq (a b : Layout) : Bool := a.law == b.law && a.period == b.period && a.phase == b.phase && a.scale == b.scale

/-- 06 R159: layouts that lead layout `k`'s group or belong to it, under given leads. -/
def groupMembers (lead : Nat → Nat) (k : Nat) : List Nat := (rangeFrom 0 32).filter (fun j => lead j == lead k)

/-- 06 R159: a layout would differ from a layout of its group that is not STOPPED. -/
def Dev.groupClash (d : Dev) (lead : Nat → Nat) (k : Nat) (x : Layout) : Bool :=
  (groupMembers lead k).any (fun j => j != k && !d.stopped 1 j && !groupEq x (d.layout j))

/-- 0x0700 LAYOUT_CONFIG. -/
def cmdLayoutConfig : Cmd := cmdA 0x0700 fun _ p d =>
  let k := u8 p 0
  let x : Layout := { d.layout k with
    mode := u8 p 1, period := u8 p 2, phase := u8 p 3, law := u16 p 4, att := u8 p 6, scale := s32 p 8, refDelay := s32 p 12
    speed := u32 p 16, slew := u32 p 20, refDist := u32 p 24, minDist := u32 p 28, attMax := s32 p 32 }
  let bad := decide (31 < k) || decide (3 < x.mode) || decide (3 < x.period) || decide (2 ^ x.period ≤ x.phase) || decide (2 < x.att)
    || rsv p 7 1 || decide (x.scale < 1) || decide (x.speed < 100 * 65536) || decide (1000 * 65536 < x.speed) || decide (0x80000 < x.slew)
    || x.refDist == 0 || x.minDist == 0 || decide (x.attMax < 1) || rsv p 36 4
  checks [(p.length != 40, 0x101), (bad, 0x102), (!d.stopped 1 k || d.groupClash d.leadOf k x, 0x103)] d
    (ok { d with trj := { d.trj with lay := tput {} d.trj.lay k x } })

/-- 0x0701 LAYOUT_GET. -/
def cmdLayoutGet : Cmd := cmdL 0x0701 fun _ p d =>
  let k := u8 p 0
  checks [(p.length != 4, 0x101), (decide (31 < k) || rsv p 1 3, 0x102)] d
    (okData ((d.layout k).bytes k ++ le 1 (d.unit 1 k).st.code ++ zb 3 ++ le 4 (d.layout k).jobs.toNat) d)

/-- Table 3.2: reads a loudspeaker entry. -/
def spkOf (p : Bytes) : Speaker := {
  pos := { x := s32 p 0, y := s32 p 4, z := s32 p 8 }, face := { x := s16 p 12, y := s16 p 14, z := s16 p 16 }
  layout := u8 p 18, align := u32 p 20, trim := s32 p 24 }

/-- Table 3.2: the bytes of a loudspeaker entry. -/
def Speaker.bytes (s : Speaker) : Bytes :=
  leI 4 s.pos.x ++ leI 4 s.pos.y ++ leI 4 s.pos.z ++ leI 2 s.face.x ++ leI 2 s.face.y ++ leI 2 s.face.z ++ le 1 s.layout ++ zb 1
  ++ le 4 s.align ++ leI 4 s.trim ++ zb 4

/-- 0x0702 SPEAKER_SET. -/
def cmdSpeakerSet : Cmd := cmdA 0x0702 fun _ p d =>
  let f := u16 p 0
  let n := u16 p 2
  let ent := fun (i : Nat) => (p.drop (8 + 32 * i)).take 32
  let badE := fun (i : Nat) => decide (31 < (spkOf (ent i)).layout) || rsv (ent i) 19 1 || rsv (ent i) 28 4
  let one := fun (i : Nat) => if d.stopped 1 (d.layOf (f + i)) && d.stopped 1 (spkOf (ent i)).layout then none else some 0x103
  match firstErr [(p.length != 8 + 32 * n, 0x101), (n == 0 || decide (512 < f + n) || rsv p 4 4 || (rangeFrom 0 n).any badE, 0x102)] with
  | some e => no e d
  | none => match firstFail one 0 (rangeFrom 0 n) with
    | some (_, e) => no e d
    | none => ok { d with trj := { d.trj with spk := forRun (fun i t => tput {} t (f + i) (spkOf (ent i))) (rangeFrom 0 n) d.trj.spk } }

/-- 0x0703 SPEAKER_GET. -/
def cmdSpeakerGet : Cmd := cmdL 0x0703 fun _ p d =>
  let f := u16 p 0
  let n := u16 p 2
  checks [(p.length != 4, 0x101), (n == 0 || decide (512 < f + n), 0x102)] d
    (okData ((rangeFrom f n).flatMap (fun s => (d.spk s).bytes)) d)

/-- 0x0704 ROUTE_SET. -/
def cmdRouteSet : Cmd := { cmdA 0x0704 (fun c p d =>
  let f := u16 p 0
  let n := u16 p 2
  checks [(p.length != 8 + 4 * n, 0x101), (n == 0 || decide (256 < f + n) || rsv p 4 4, 0x102)] d
    (ok (forRun (fun i d => d.setItem c (4 * (f + i) + 1) (c.blk.getD (c.vt + 3)) (fun d => { d with trj := { d.trj with
      route := tput (if f + i = 0 then 0xFFFFFFFF else 0) d.trj.route (f + i) (BitVec.ofNat 32 (u32 p (8 + 4 * i))) } })) (rangeFrom 0 n) d))) with
  batch := true, timed := true }

/-- 0x0705 TRJ_CONFIG. -/
def cmdTrjConfig : Cmd := cmdA 0x0705 fun _ p d =>
  checks [(p.length != 4, 0x101), (decide (1 < u32 p 0), 0x102), (!d.stopped 0 0, 0x103)] d
    (ok { d with trj := { d.trj with fold := u32 p 0 == 1 } })

/-- 0x0710 KNOT_PUSH (R105). A batch's knots are validated at its lead boundary (R82). -/
def cmdKnotPush : Cmd := { cmdA 0x0710 (fun c p d =>
  let n := u32 p 0
  let recs := (rangeFrom 0 n).map (fun i => (p.drop (8 + 48 * i)).take 48)
  match firstErr [(p.length != 8 + 48 * n, 0x101), (n == 0 || decide (1024 < n) || rsv p 4 4 || recs.any (recBad d.rate), 0x102)] with
  | some e => no e d
  | none =>
    match recsApply (match c.blk with
      | some j => j - 3
      | none => c.vt) (recs.map recOf) (d, {}) with
    | none => no 0x106 (d.trjCount 3 n)
    | some (d', k) => okData (words [k.late, k.dup, k.repl]) (d'.knotCount k)) with batch := true }

/-- 0x0711 OBJ_GAIN_SET. -/
def cmdObjGainSet : Cmd := { cmdA 0x0711 (fun c p d =>
  let o := u16 p 0
  let x := d.obj o
  let g := s32 p 4
  checks [(p.length != 8, 0x101), (decide (nObj d.rate ≤ o) || rsv p 2 2, 0x102)] d
    (ok (d.setItem c (4 * o) (c.blk.getD (c.vt + 3)) (fun d => d.setObj o { x with
      gain := g, gainVal := if c.blk.isSome ∧ c.slot.isNone then x.gainVal else g })))) with batch := true, timed := true }

/-- 0x0712 OBJ_CLEAR. -/
def cmdObjClear : Cmd := { cmdA 0x0712 (fun _ p d =>
  let o := u16 p 0
  let n := u16 p 2
  checks [(p.length != 4, 0x101), (n == 0 || decide (nObj d.rate < o + n), 0x102)] d
    (ok (forRun (fun i d => d.setObj i { d.obj i with queue := [] }) (rangeFrom o n) d))) with batch := true, timed := true }

/-- 0x0713 OBJ_STATE_GET (R106). -/
def cmdObjStateGet : Cmd := cmdL 0x0713 fun _ p d =>
  let o := u16 p 0
  let x := d.obj o
  let e := x.ev
  let f := boundT d.rate (d.tim.tick + 3)
  let dep := qDepth x.queue f
  let hold := !x.queue.isEmpty && dep == 1 && (lastLe f x.queue).isSome
  let syn := match x.queue.drop ((lastLe f x.queue).getD 0) with
    | k :: _ => k.synth
    | [] => false
  let tv := match d.trj.block with
    | some m => if e.valid then
        let t := boundT d.rate (m + 1)
        timeValue (t / 65536) (t % 65536) d.tim.quality.code
      else timeValue 0 0 3
    | none => timeValue 0 0 3
  checks [(p.length != 4, 0x101), (decide (nObj d.rate ≤ o) || rsv p 2 2, 0x102)] d
    (okData (tv ++ leI 4 e.pos.x ++ leI 4 e.pos.y ++ leI 4 e.pos.z ++ leI 4 e.vel.x ++ leI 4 e.vel.y ++ leI 4 e.vel.z ++ leI 4 e.gain
      ++ leI 4 x.gainVal ++ le 1 dep ++ le 1 (b01 e.placed + 2 * b01 hold + 4 * b01 syn) ++ le 1 e.prio ++ le 1 e.lay ++ le 4 e.route.toNat
      ++ le 2 e.ext ++ zb 6) d)

/-- 0x0720 TRJ_STATS_GET. -/
def cmdTrjStatsGet : Cmd := cmdL 0x0720 fun _ p d =>
  checks [(p.length != 0, 0x101)] d (okData (words ((rangeFrom 0 10).map (fun i => (tget 0 d.trj.ctr i).toNat))) d)

/-- LAYOUT_CONFIG. -/
def execLayoutConfig (r : AcpReq) (s : State) : Host.Outcome State Fault Refusal := run true (acpTake cmdLayoutConfig r) s
/-- LAYOUT_GET. -/
def execLayoutGet (r : AcpReq) (s : State) : Host.Outcome State Fault Refusal := run true (acpTake cmdLayoutGet r) s
/-- SPEAKER_SET. -/
def execSpeakerSet (r : AcpReq) (s : State) : Host.Outcome State Fault Refusal := run true (acpTake cmdSpeakerSet r) s
/-- SPEAKER_GET. -/
def execSpeakerGet (r : AcpReq) (s : State) : Host.Outcome State Fault Refusal := run true (acpTake cmdSpeakerGet r) s
/-- ROUTE_SET. -/
def execRouteSet (r : AcpReq) (s : State) : Host.Outcome State Fault Refusal := run true (acpTake cmdRouteSet r) s
/-- TRJ_CONFIG. -/
def execTrjConfig (r : AcpReq) (s : State) : Host.Outcome State Fault Refusal := run true (acpTake cmdTrjConfig r) s
/-- KNOT_PUSH. -/
def execKnotPush (r : AcpReq) (s : State) : Host.Outcome State Fault Refusal := run true (acpTake cmdKnotPush r) s
/-- OBJ_GAIN_SET. -/
def execObjGainSet (r : AcpReq) (s : State) : Host.Outcome State Fault Refusal := run true (acpTake cmdObjGainSet r) s
/-- OBJ_CLEAR. -/
def execObjClear (r : AcpReq) (s : State) : Host.Outcome State Fault Refusal := run true (acpTake cmdObjClear r) s
/-- OBJ_STATE_GET. -/
def execObjStateGet (r : AcpReq) (s : State) : Host.Outcome State Fault Refusal := run true (acpTake cmdObjStateGet r) s
/-- TRJ_STATS_GET. -/
def execTrjStatsGet (r : AcpReq) (s : State) : Host.Outcome State Fault Refusal := run true (acpTake cmdTrjStatsGet r) s

end Sys2Proof.Machine
end

