-- ==== Sys2Proof/Machine/LawJobs.lean ====
section
/-! DEFINITION. Law jobs: bindings, issue, scheduling, dispatch, collection and programs (06), with the commands 0x08xx. -/

namespace Sys2Proof.Machine

/-! ## Enabled engines and decisions (R169, R170) -/

/-- R169: the engine is enabled. -/
def LawEng.enabled (x : LawEng) : Bool := x.runEn && x.st != .retired
/-- R169: N_EN. -/
def Dev.nEn (d : Dev) : Nat := ((rangeFrom 0 8).filter (fun e => (d.eng e).enabled)).length
/-- R169: the policy is AFFINITY. -/
def Dev.affinity (d : Dev) : Bool := decide (5 ≤ d.nEn)

/-- R169: the oldest job of the highest level among those of a queue in issue order. -/
def oldestHigh (p : Job → Bool) : List Job → Option Job
  | [] => none
  | j :: r => match oldestHigh p r with
    | none => if p j then some j else none
    | some k => if p j && decide (k.prio ≤ j.prio) then some j else some k

/-- R170: the affinity entry of a job. -/
def Dev.affOf (d : Dev) (j : Job) : Option Nat := tget none d.sch.aff (affKey j.obj j.lead)

/-- R170: the job is free. -/
def Dev.jobFree (d : Dev) (j : Job) : Bool :=
  match d.affOf j with
  | none => true
  | some e => !(d.eng e).enabled

/-- R169, R170: what a decision for engine `e` takes, with its reason (Table 6.4). -/
def Dev.schedPick (d : Dev) (e : Nat) : Option (Job × Nat) :=
  let q := d.sch.queue
  if !d.affinity then (oldestHigh (fun _ => true) q).map (fun j => (j, 0))
  else match oldestHigh (fun j => j.waited || d.sch.affWait == 0) q with
    | some j => some (j, 2)
    | none => match oldestHigh (fun j => d.affOf j == some e) q with
      | some j => some (j, 1)
      | none => (oldestHigh d.jobFree q).map (fun j => (j, 3))

/-- Table 6.3: the descriptor's 64 bytes. -/
def Job.desc (j : Job) : Bytes :=
  le 2 j.obj ++ le 1 j.lead ++ le 1 j.prio ++ le 2 j.law ++ le 2 j.nOut ++ le 4 j.laymask.toNat ++ le 4 j.param ++ le 8 j.block
  ++ le 8 (j.eval / 65536) ++ leI 4 j.pos.x ++ leI 4 j.pos.y ++ leI 4 j.pos.z ++ leI 4 j.vel.x ++ leI 4 j.vel.y ++ leI 4 j.vel.z
  ++ le 2 j.ext ++ le 2 (j.eval % 65536) ++ le 4 j.paramLen

/-- R164: the frame bank with a descriptor written and the gain words 0; its job-local words stay. -/
def frameFor (b : Bytes) (f : Tbl W32) : Tbl W32 :=
  forRun (fun i f => tput 0 f i (BitVec.ofNat 32 (u32 b (4 * i)))) (rangeFrom 0 16) (f.filter (fun w => decide (528 ≤ w.1)))

/-- SCHEDULER_DECISION (R169 to R171): at `cycle` scheduler cycles past the tick's boundary. -/
def decision (e cycle : Nat) (d : Dev) : Dev :=
  let x := d.eng e
  if !x.enabled || x.disabling || x.slot.isSome then d
  else match d.schedPick e with
    | none => d
    | some (j, r) =>
      let q := d.sch.queue.filter (fun k => k.order != j.order)
      let d := { d with sch := { d.sch with
        queue := q
        affine := if r = 1 then d.sch.affine + 1 else d.sch.affine
        waited := if r = 2 then d.sch.waited + 1 else d.sch.waited } }
      (d.setEng e { x with slot := some j, frameS := frameFor j.desc x.frameS }).trace {
        tickLo := d.tim.tick % 2 ^ 32, cycle := cycle, obj := j.obj, layout := j.lead, engPri := e + 8 * j.prio, kind := 0, reason := r
        qdepth := q.length }

/-- AFF_WAIT_REACHED (R170): a queued job's age reaches AFF_WAIT, and every engine with an empty slot decides. -/
def affWaitReached (order cycle : Nat) (d : Dev) : Dev :=
  if d.sch.queue.any (fun j => j.order == order) then
    let d := { d with sch := { d.sch with queue := d.sch.queue.map (fun j => if j.order = order then { j with waited := true } else j) } }
    forRun (fun e d => decision e cycle d) (rangeFrom 0 8) d
  else d

/-! ## Dispatch and collection (R163, R166, 05 R128, R152) -/

/-- R172: the windows of the firmware library as those of a program (assumption log 21). -/
def libProg (law : Nat) : Prog := {
  codeBase := 0, codeLimit := 4095, entry := Config.libEntry law % 4096, xLimit := 0x3FFF, yBase := 0, yLimit := 0x3FFF, scb := 0x0000FFFF }

/-- R178: the program of a job. -/
def Dev.jobProg (d : Dev) (law : Nat) : Prog := if law < 0x100 then libProg law else (d.prog law).getD {}

/-- Table 5.15: BASE and LIMIT as a window register holds them. -/
def windowWord (b l : Nat) : W32 := BitVec.ofNat 32 (b + l * 65536)

/-- 05 R128, R152, R178: a job starts on an engine: registers, entry and windows. -/
def LawEng.start (x : LawEng) (j : Job) (p : Prog) : LawEng := { x with
  st := .job, inHandler := false, pc := p.entry, pd := [], p := [], m := [], acc := [], accS := [], lc := 0, ls := 0, le := 0, rrb := 0
  sr := 0x1F40, ictl := 0, epc := 0, ecause := 0, esr := 0, cyc := 0, flight := [], issued := 0, slots := 0, target := none
  cached := false, lastRcp := none, resumed := false
  protCode := windowWord p.codeBase p.codeLimit, protX := windowWord 0 p.xLimit, protY := windowWord p.yBase p.yLimit
  protScb := p.scb, protBw := p.bw, budget := p.budget, run := some j }

/-- JOB_DISPATCH: the slot's job starts on an idle engine, and its bank becomes visible (R163). -/
def jobDispatch (e : Nat) (d : Dev) : Dev :=
  let x := d.eng e
  match x.slot with
  | none => d
  | some j =>
    if x.st != .idle || !x.enabled then d
    else d.setEng e { x.start j (d.jobProg j.law) with slot := none, frame := x.frameS, frameS := x.frame }

/-- R165: the outputs of a group in order of rank. -/
def Dev.ranks (d : Dev) (mask : W32) : List Nat := (rangeFrom 0 512).filter (fun s => mask.getLsbD (d.layOf s))

/-- R165, R166: gain words of a bank, by rank, become results of their paths for block `j`. -/
def putResults (f : Tbl W32) (o j : Nat) : Nat → List Nat → Tbl (Option (Nat × Int)) → Tbl (Option (Nat × Int))
  | _, [], t => t
  | i, s :: r, t => putResults f o j (i + 1) r (tput none t (512 * o + s) (some (j, (tget 0 f (16 + i)).toInt)))

/-- JOB_COLLECTION_DONE (R166, R170): the job is complete by its deadline. -/
def collectionDone (e : Nat) (d : Dev) : Dev :=
  let x := d.eng e
  match x.coll with
  | none => d
  | some j =>
    let k := affKey j.obj j.lead
    let s := d.sch
    let d := { d with sch := { s with
      done := s.done + 1
      aff := tput none s.aff k (some e)
      result := putResults x.frameC j.obj j.block 0 ((d.ranks j.laymask).take j.nOut) s.result
      periodN := if tget none s.periodN k == some (j.block, 3) then tput none s.periodN k (some (j.block, 2)) else s.periodN } }
    d.setEng e { x with coll := none }

/-- Jobs named by `p` leave an engine: the slot's and the collector's are dropped, the running one is aborted. -/
def dropOn (p : Job → Bool) (coll strike : Bool) (e : Nat) (d : Dev) : Dev :=
  let x := d.eng e
  let hit : Option Job → Bool := fun j => match j with
    | some k => k.test.isNone && p k
    | none => false
  let d := if hit x.slot then (match x.slot with
      | some j => (d.setEng e { x with slot := none }).missJob j
      | none => d) else d
  let y := d.eng e
  let d := if coll && hit y.coll then (match y.coll with
      | some j => (d.setEng e { y with coll := none }).missJob j
      | none => d) else d
  if hit (d.eng e).run then d.lawAbort e 10 (d.eng e).pc none strike else d

/-- R168: jobs named by `p` leave the scheduler and the engines; the number that left queue and slots, and that ran. -/
def Dev.discard (d : Dev) (p : Job → Bool) (coll strike : Bool) : Dev × Nat × Nat :=
  let gone := d.sch.queue.filter p
  let slots := ((rangeFrom 0 8).filter (fun e => match (d.eng e).slot with
    | some j => p j
    | none => false)).length
  let runs := ((rangeFrom 0 8).filter (fun e => match (d.eng e).run with
    | some j => j.test.isNone && p j
    | none => false)).length
  let d := { d with sch := { d.sch with queue := d.sch.queue.filter (fun j => !p j) } }
  let d := gone.foldl (fun d j => d.missJob j) d
  (forRun (fun e d => dropOn p coll strike e d) (rangeFrom 0 8) d, gone.length + slots, runs)

/-- LAW_JOB_DEADLINE (01 R29, R168): T_{j-1} comes: every job for a block up to j that is not complete is missed. -/
def jobDeadline (d : Dev) : Dev :=
  let k := d.tim.tick + 1
  let r := d.discard (fun j => decide (j.block ≤ k + 1)) true true
  if r.2.1 = 0 then r.1 else r.1.traceJobs 1 r.2.1 k 0

/-- R168: a step of device time discards every job; one DISCARD entry. -/
def Dev.discardAll (d : Dev) : Dev :=
  let c := d.cycleIn d.tim.tick
  let r := d.discard (fun _ => true) false false
  if r.2.1 + r.2.2 = 0 then r.1 else r.1.traceJobs 1 (r.2.1 + r.2.2) d.tim.tick c

/-! ## Issue (03 R97, 06 R159 to R161) -/

/-- R159: layouts of a lead's group. -/
def Dev.group (d : Dev) (l : Nat) : List Nat := (rangeFrom 0 32).filter (fun k => d.leadOf k == l)
/-- R164: LAYMASK of a group. -/
def Dev.groupMask (d : Dev) (l : Nat) : W32 := BitVec.ofNat 32 ((d.group l).map (fun k => 2 ^ k)).sum

/-- R97, R159: the job of object `o` for lead `l` and block `j`, if the object is placed and routed at T_{j+P}; with the object's
queue, whose velocities the evaluation fixes. -/
def Dev.jobOf (d : Dev) (l o j : Nat) : Option Job × List Knot :=
  let y := d.layout l
  let t := boundT d.rate (j + y.p)
  let q := (d.obj o).queue
  let mask := d.groupMask l
  let lay := (knotAt q ((lastLt t q).getD 0)).r.lay
  if q.isEmpty || !placedAt q t || (d.routeWord lay &&& mask) == 0 then (none, q)
  else
    let e := evalAt q t
    let k := knotIn q t
    let b := d.bind l
    (some { obj := o, lead := l, prio := k.prio, law := y.law, nOut := (d.ranks mask).length, laymask := mask, param := b.param
            paramLen := b.len, block := j, eval := t, pos := scalePos y.scale e.1.1, vel := scalePos y.scale e.1.2.1
            ext := scaleExt y.scale k.ext }, e.2)

/-- R97, R161, R168: issues the job of object `o`, where there is one; a full queue misses it. -/
def issueOne (l j o : Nat) (d : Dev × Nat) : Dev × Nat :=
  let r := d.1.jobOf l o j
  match r.1 with
  | none => d
  | some job =>
    let x := d.1.obj o
    let d1 := (d.1.setObj o { x with queue := r.2 }).trjCount 8 1
    let s := d1.sch
    let y := d1.layout l
    let d1 := { d1 with trj := { d1.trj with lay := tput {} d1.trj.lay l { y with jobs := y.jobs + 1 } } }
    let full := decide (4096 ≤ s.queue.length)
    let q := if full then s.queue else s.queue ++ [{ job with order := s.nextOrder }]
    let d1 := { d1 with sch := { s with
      queue := q, nextOrder := s.nextOrder + 1, qMax := max s.qMax q.length, issued := s.issued + 1
      full := if full then s.full + 1 else s.full, periodN := tput none s.periodN (affKey o l) (some (j, 3)) } }
    if full then (d1.missJob job, d.2 + 1) else (d1, d.2)

/-- R97, R160: issues a lead's jobs for block `j`, of the objects `p` names; JOBS_ISSUED of the layout restarts at the first half. -/
def issueFor (l j : Nat) (restart : Bool) (p : Nat → Bool) (d : Dev × Nat) : Dev × Nat :=
  let y := d.1.layout l
  let d0 := if restart then { d.1 with trj := { d.1.trj with lay := tput {} d.1.trj.lay l { y with jobs := 0 } } } else d.1
  forRun (fun o d => issueOne l j o d) ((d0.trj.obj.map Prod.fst).filter p) (d0, d.2)

/-- R97, R159, R160: what a lead layout issues at T_k. -/
def issueLead (k l : Nat) (d : Dev × Nat) : Dev × Nat :=
  let y := d.1.layout l
  let live := (d.1.group l).any (fun g => (d.1.unit 1 g).st == .starting || (d.1.unit 1 g).st == .running)
  if d.1.leadOf l != l || y.law == 0 || !live then d
  else
    let half := nObj d.1.rate / 2
    let split := (d.1.bind l).split && decide (2 ≤ y.p)
    let begins := fun (j : Nat) => (j + y.p - y.phase) % y.p == 0
    let j1 := k + 1 + y.p
    let j2 := k + 1 + y.p / 2
    let d := if begins j1 then issueFor l j1 true (fun o => !split || decide (o < half)) d else d
    if split && begins j2 then issueFor l j2 false (fun o => decide (half ≤ o)) d else d

/-- R97: TRJ issues the law jobs of T_k, `k` the tick now begun; one FULL entry for the jobs that found the queue full. -/
def issueJobs (d : Dev) : Dev :=
  if d.chRet 1164 || !d.rendering then d
  else
    let r := forRun (fun l d => issueLead d.1.tim.tick l d) (rangeFrom 0 32) (d, 0)
    if r.2 = 0 then r.1 else r.1.traceJobs 2 r.2 r.1.tim.tick 0

/-! ## Law programs (R176 to R178) -/

/-- Table 6.7: the header. -/
def progOf (p : Bytes) : Prog := {
  version := u16 p 6, codeBase := u16 p 8, codeLimit := u16 p 10, entry := u16 p 12, xLimit := u16 p 16, yBase := u16 p 18
  yLimit := u16 p 20, scb := BitVec.ofNat 32 (u32 p 24), bw := BitVec.ofNat 32 (u32 p 28), wcet := BitVec.ofNat 32 (u32 p 32)
  budget := BitVec.ofNat 32 (u32 p 36), crc := BitVec.ofNat 32 (u32 p 56), xAddr := u16 p 44, xWords := u32 p 48 / 4
  yAddr := u16 p 46, yWords := u32 p 52 / 4 }

/-- Table 6.8 check 3: the offset of the first field of the header outside its limits. -/
def headerBad (p : Bytes) (g : Prog) : Option Nat :=
  let id := u16 p 4
  firstErr [
    (decide (id < 0x100) || decide (0x13F < id), 4), (decide (g.codeBase < 4096) || decide (16383 < g.codeBase), 8),
    (decide (g.codeLimit < g.codeBase) || decide (16383 < g.codeLimit), 10),
    (decide (g.entry < g.codeBase) || decide (g.codeLimit < g.entry), 12), (rsv p 14 2, 14),
    (decide (g.xLimit < 0x400) || decide (0x3BFF < g.xLimit), 16), (decide (0x3BFF < g.yBase), 18),
    (decide (g.yLimit < g.yBase) || decide (0x3BFF < g.yLimit), 20), (rsv p 22 2, 22),
    (u32 p 40 != g.codeLimit - g.codeBase + 1, 40), (decide (g.xAddr < 0x400), 44),
    (decide (0 < g.yWords) && (decide (g.yAddr < g.yBase) || decide (g.yLimit < g.yAddr)), 46),
    (u32 p 48 % 4 != 0 || (decide (0 < g.xWords) && decide (g.xLimit < g.xAddr + g.xWords - 1)), 48),
    (u32 p 52 % 4 != 0 || (decide (0 < g.yWords) && decide (g.yLimit < g.yAddr + g.yWords - 1)), 52), (rsv p 60 4, 60)]

/-- Table 6.8 check 4: the program overlaps another one. -/
def progOverlap (a b : Prog) : Bool :=
  overlaps a.codeBase (a.codeLimit - a.codeBase + 1) b.codeBase (b.codeLimit - b.codeBase + 1)
  || (decide (0 < a.xWords) && decide (0 < b.xWords) && overlaps a.xAddr a.xWords b.xAddr b.xWords)
  || (decide (0 < a.yWords) && decide (0 < b.yWords) && overlaps a.yAddr a.yWords b.yAddr b.yWords)

/-- The bundles of an image. -/
def imgBundles (p : Bytes) : List (BitVec 64) := (chunks 8 (u32 p 40) (p.drop 64)).map (fun b => BitVec.ofNat 64 (leNat b))

/-- R142: LS and LE of a LOOP bundle. -/
def loopOf : Option Bundle → Option (Nat × Nat)
  | some (.ctl (.loop _ ls le_)) => some (ls.toNat, le_.toNat)
  | _ => none

/-- Table 6.8 check 5: bundle `i` of a program is malformed or stands where R141 or R142 forbid. -/
def bundleBad (base : Nat) (bs : List (Option Bundle)) (i : Nat) : Bool :=
  match bs.getD i none with
  | none => true
  | some b =>
    let slotted := fun (k : Nat) => decide (k ≤ i) && (match bs.getD (i - k) none with
      | some c => hasSlots c
      | none => false)
    !bundleOk b || (slotBarred b && (slotted 1 || slotted 2))
    || (hasSlots b && bs.any (fun c => match loopOf c with
        | some l => decide (l.2 ≤ base + i + 2) && decide (base + i ≤ l.2)
        | none => false))
    || (match loopOf (some b) with
        | some l => !(decide (base + i + 1 ≤ l.1) && decide (l.1 ≤ l.2) && decide (base + i + 3 ≤ l.2))
        | none => false)

/-- Table 6.8 check 6: a target of the bundle lies outside the code window. -/
def targetBad (g : Prog) (b : Option Bundle) : Bool :=
  let out := fun (t : Nat) => decide (t < g.codeBase) || decide (g.codeLimit < t)
  match b with
  | some (.ctl (.br _ t)) => out t.toNat
  | some (.ctl (.call _ t)) => out t.toNat
  | some (.ctl (.loop _ ls le_)) => out ls.toNat || out le_.toNat
  | _ => false

/-- R177, Table 6.8: the first failing check of an image: its CHECK, OFFSET and status. -/
def Dev.imageBad (d : Dev) (p : Bytes) : Option (Nat × Nat × Nat) :=
  let g := progOf p
  let id := u16 p 4
  if p.length < 64 ∨ u32 p 0 ≠ 0x4C571064 ∨ p.length ≠ 64 + 8 * u32 p 40 + u32 p 48 + u32 p 52 then some (1, 0, 0x101)
  else if crc32 (p.drop 64) ≠ u32 p 56 then some (2, 56, 0x102)
  else match headerBad p g with
    | some o => some (3, o, 0x102)
    | none =>
      if (d.sch.prog).any (fun e => e.1 != id && (match e.2 with
          | some h => progOverlap g h
          | none => false)) then some (4, 0, 0x106)
      else
        let bs := (imgBundles p).map decodeBundle
        match (rangeFrom 0 bs.length).find? (bundleBad g.codeBase bs) with
        | some i => some (5, 64 + 8 * i, 0x102)
        | none => match (rangeFrom 0 bs.length).find? (fun i => targetBad g (bs.getD i none)) with
          | some i => some (6, 64 + 8 * i, 0x102)
          | none => none

/-- Writes a list of words from index `a` up. -/
def putWords : List W32 → Nat → Tbl W32 → Tbl W32
  | [], _, t => t
  | w :: r, a, t => putWords r (a + 1) (tput 0 t a w)

/-- Writes a list of bundles from bundle `a` up. -/
def putBundles : List (BitVec 64) → Nat → Tbl (BitVec 64) → Tbl (BitVec 64)
  | [], _, t => t
  | w :: r, a, t => putBundles r (a + 1) (tput 0 t a w)

/-- R178: an image is written into an engine. -/
def LawEng.loadImage (x : LawEng) (p : Bytes) : LawEng :=
  let g := progOf p
  let words := fun (o n : Nat) => (chunks 4 n (p.drop o)).map (fun b => BitVec.ofNat 32 (leNat b))
  let xo := 64 + 8 * u32 p 40
  { x with
    prog := putBundles (imgBundles p) g.codeBase x.prog
    x := putWords (words xo g.xWords) g.xAddr x.x
    y := putWords (words (xo + 4 * g.xWords) g.yWords) g.yAddr x.y }

/-- R178: a layout that runs a LAW_ID is not STOPPED. -/
def Dev.lawBusy (d : Dev) (id : Nat) : Bool := d.busyLayouts.any (fun l => (d.layout l).law == id)

/-- 0x0802 LAW_PROG_LOAD: the response awaits LAW_PROG_LOAD_DONE. -/
def cmdLawProgLoad : Cmd := cmdA 0x0802 fun _ p d =>
  let id := u16 p 4
  let fail := fun (c : Nat × Nat × Nat) => noWith c.2.2 (le 1 c.1 ++ zb 3 ++ le 4 c.2.1) d
  match d.imageBad p with
  | some c => if c.1 = 4 ∧ d.lawBusy id then noWith 0x103 (zb 8) d else fail c
  | none =>
    if d.lawBusy id then noWith 0x103 (zb 8) d
    else
      let d := { d with sch := { d.sch with prog := tput none d.sch.prog id (some (progOf p)) } }
      let d := forRun (fun e d => let x := d.eng e
        if x.st == .retired then d else d.setEng e (x.loadImage p)) (rangeFrom 0 8) d
      later (0x0802, id) (zb 8) d

/-- LAW_PROG_LOAD_DONE (R178). -/
def progLoadDone (id : Nat) (d : Dev) : Dev := if d.awaits 0x0802 id then d.finish 0x0802 id 0 (zb 8) else d

/-- 0x0803 LAW_PROG_UNLOAD. -/
def cmdLawProgUnload : Cmd := cmdA 0x0803 fun _ p d =>
  let id := u16 p 0
  checks [(p.length != 4, 0x101), ((d.prog id).isNone || rsv p 2 2, 0x102), (d.lawBusy id, 0x103)] d
    (ok { d with sch := { d.sch with prog := tdel d.sch.prog id } })

/-- 0x0804 LAW_PROG_LIST: entry i is LAW_ID 0x0100 + i. -/
def cmdLawProgList : Cmd := cmdL 0x0804 fun _ p d =>
  let ent := fun i => match d.prog (0x100 + i) with
    | some g => le 2 (0x100 + i) ++ le 2 g.version ++ le 2 g.codeBase ++ le 2 g.codeLimit ++ le 4 g.crc.toNat ++ le 4 g.wcet.toNat
    | none => zb 16
  checks [(p.length != 0, 0x101)] d (okData ((rangeFrom 0 64).flatMap ent) d)

/-! ## Bindings and tables (R158, R159, R182) -/

/-- Table 6.1: the bytes of a binding. -/
def Bind.bytes (b : Bind) (k : Nat) : Bytes :=
  le 1 k ++ le 1 (b.lead.getD k) ++ le 1 (b01 b.split) ++ zb 1 ++ le 4 b.param ++ le 4 b.len ++ zb 4

/-- 0x0800 LAW_BIND. -/
def cmdLawBind : Cmd := cmdA 0x0800 fun _ p d =>
  let k := u8 p 0
  let l := u8 p 1
  let lead := fun j => if j = k then l else d.leadOf j
  let bad := decide (31 < k) || decide (31 < l) || decide (1 < u8 p 2) || rsv p 3 1 || u32 p 4 % 4 != 0 || u32 p 8 % 4 != 0 || rsv p 12 4
    || (l != k && d.leadOf l != l) || (l != d.leadOf k && (rangeFrom 0 32).any (fun j => j != k && d.leadOf j == k))
  checks [(p.length != 16, 0x101), (bad, 0x102), (!d.stopped 1 k || d.groupClash lead k (d.layout k), 0x103)] d
    (ok { d with sch := { d.sch with
      bind := tput {} d.sch.bind k { lead := if l = k then none else some l, split := u8 p 2 == 1, param := u32 p 4, len := u32 p 8 }
      aff := d.sch.aff.filter (fun e => e.1 % 32 != k) } })

/-- 0x0801 LAW_BIND_GET. -/
def cmdLawBindGet : Cmd := cmdL 0x0801 fun _ p d =>
  let k := u8 p 0
  checks [(p.length != 4, 0x101), (decide (31 < k) || rsv p 1 3, 0x102)] d (okData ((d.bind k).bytes k) d)

/-- R182: the law-address range lies wholly in scratch banks owned by the law engines. -/
def Dev.lawRegion (d : Dev) (a n : Nat) : Bool :=
  decide (0x100000 ≤ a) && decide (a + n ≤ 0x500000)
  && (rangeFrom ((a - 0x100000) / 0x40000) ((a + n - 1 - 0x100000) / 0x40000 + 1 - (a - 0x100000) / 0x40000)).all d.lawBank

/-- Writes words to scratch from word index `w` up. -/
def putScr : List W32 → Nat → Dev → Dev
  | [], _, d => d
  | v :: r, w, d => putScr r (w + 1) ((d.testYield (w / 65536)).setScrWord w v)

/-- 0x0810 LAW_TABLE_LOAD. -/
def cmdLawTableLoad : Cmd := cmdA 0x0810 fun _ p d =>
  let a := u32 p 0
  let n := u32 p 4
  let hit := fun (l : Nat) => let t := d.tableOf (d.leadOf l)
    let u := d.tableOf l
    (decide (0 < t.2) && overlaps a n t.1 t.2) || (decide (0 < u.2) && overlaps a n u.1 u.2)
  checks [(decide (p.length < 8) || p.length != 8 + n, 0x101), (a % 4 != 0 || n == 0 || n % 4 != 0, 0x102),
          (!d.lawRegion a n || d.busyLayouts.any hit, 0x103)] d
    (ok (putScr ((chunks 4 (n / 4) (p.drop 8)).map (fun b => BitVec.ofNat 32 (leNat b))) ((a - 0x100000) / 4) d))

/-! ## The scheduler's commands -/

/-- R171: TRACE_CLEAR. -/
def traceClear (d : Dev) : Dev := { d with sch := { d.sch with trace := [], traceWr := 0, traceWrapped := false, traceStop := false } }

/-- 0x0820 SCH_CONFIG. -/
def cmdSchConfig : Cmd := cmdL 0x0820 fun _ p d =>
  let d1 := { d with sch := { d.sch with affWait := u16 p 0, traceMode := u8 p 2 } }
  checks [(p.length != 4, 0x101), (decide (3 < u8 p 2) || decide (1 < u8 p 3), 0x102)] d (ok (if u8 p 3 = 1 then traceClear d1 else d1))

/-- 0x0821 SCH_STATUS_GET: reads SCH_QDEPTH_MAX as an RC access. -/
def cmdSchStatusGet : Cmd := cmdL 0x0821 fun _ p d =>
  let s := d.sch
  checks [(p.length != 0, 0x101)] d (okData (le 1 d.nEn ++ le 1 (b01 d.affinity) ++ le 2 s.queue.length ++ le 2 s.qMax ++ zb 2
      ++ words [s.issued.toNat, s.done.toNat, s.full.toNat, s.miss.toNat, s.affine.toNat, s.waited.toNat])
    { d with sch := { s with qMax := 0 } })

/-- Table 6.4: the bytes of a trace entry. -/
def TraceEnt.bytes (t : TraceEnt) : Bytes :=
  le 4 t.tickLo ++ le 4 t.cycle ++ le 2 t.obj ++ le 1 t.layout ++ le 1 t.engPri ++ le 1 t.kind ++ le 1 t.reason ++ le 2 t.qdepth

/-- 0x0822 SCH_TRACE_READ. -/
def cmdSchTraceRead : Cmd := cmdL 0x0822 fun _ p d =>
  let n := u16 p 2
  checks [(p.length != 4, 0x101), (n == 0 || decide (2048 < n), 0x102)] d
    (okData (le 2 d.sch.traceWr ++ le 2 (b01 d.sch.traceWrapped)
      ++ (rangeFrom (u16 p 0) n).flatMap (fun i => (tget {} d.sch.trace (i % 2048)).bytes)) d)

/-! ## Engines, test jobs and debug (R179 to R181) -/

/-- 0x0830 LAW_ENGINE_SET. -/
def cmdLawEngineSet : Cmd := cmdL 0x0830 fun _ p d =>
  let e := u8 p 0
  let x := d.eng e
  let off := u8 p 1 == 0
  let last := off && x.runEn && !(rangeFrom 0 8).any (fun k => k != e && (d.eng k).enabled && !(d.eng k).disabling) && d.busyLayouts.length != 0
  checks [(p.length != 4, 0x101), (decide (7 < e) || decide (1 < u8 p 1) || rsv p 2 2, 0x102), (x.st == .retired, 0x109), (last, 0x103)] d
    (if !off then ok ((d.setEng e { x with runEn := true, disabling := false }).finish 0x0830 e 0 [])
     else if !x.runEn then ok d
     else
      let d := match x.slot with
        | some j => let q := insJob j d.sch.queue
          { d with sch := { d.sch with queue := q, qMax := max d.sch.qMax q.length } }
        | none => d
      if x.run.isNone && x.coll.isNone then ok (d.setEng e { x with slot := none, runEn := false, disabling := false })
      else later (0x0830, e) [] (d.setEng e { x with slot := none, disabling := true }))

/-- LAW_ENGINE_DISABLE_DONE (R179): the running job of a disabled engine has ended. -/
def engineDisableDone (e : Nat) (d : Dev) : Dev :=
  let x := d.eng e
  if x.disabling && x.run.isNone && x.coll.isNone then (d.setEng e { x with runEn := false, disabling := false }).finish 0x0830 e 0 [] else d

/-- Table 6.3: the job a descriptor spells. -/
def jobOfDesc (b : Bytes) (maxCyc : Nat) : Job := {
  obj := u16 b 0, lead := u8 b 2, prio := u8 b 3, law := u16 b 4, nOut := u16 b 6, laymask := BitVec.ofNat 32 (u32 b 8), param := u32 b 12
  paramLen := u32 b 60, block := u64 b 16, eval := u64 b 24 * 65536 + u16 b 58
  pos := { x := s32 b 32, y := s32 b 36, z := s32 b 40 }, vel := { x := s32 b 44, y := s32 b 48, z := s32 b 52 }, ext := u16 b 56
  test := some maxCyc }

/-- 0x0831 LAW_TEST_RUN: the response awaits the end of the job. -/
def cmdLawTestRun : Cmd := cmdL 0x0831 fun _ p d =>
  let e := u8 p 0
  let x := d.eng e
  let b := p.drop 8
  let j := jobOfDesc b (u32 p 4)
  let law := decide (1 ≤ j.law ∧ j.law ≤ 6) || (d.prog j.law).isSome
  checks [(p.length != 72, 0x101), (decide (7 < e) || rsv p 1 3 || j.nOut == 0 || decide (512 < j.nOut) || !law, 0x102),
          (x.st == .retired, 0x109), (x.runEn || x.st != .idle, 0x103)] d
    (later (0x0831, e) [] (d.setEng e { x.start j (d.jobProg j.law) with frame := frameFor b x.frame }))

/-- 05 5.1: the bundle at an address of program memory. -/
def LawEng.bundleAt (x : LawEng) (k : Nat) : BitVec 64 := if k < 4096 then Config.libBundle k else tget 0 x.prog k

/-- Table 5.15: the word of the memory window at word index `w`. -/
def LawEng.winRead (x : LawEng) (w : Nat) : Nat :=
  match x.winsel with
  | 0 => (if w < 1024 then tget 0 x.frame w else tget 0 x.x w).toNat
  | 1 => (tget 0 x.y w).toNat
  | k => let b := (x.bundleAt ((k - 2) * 8192 + w / 2)).toNat
    if w % 2 = 0 then b % 2 ^ 32 else b / 2 ^ 32

/-- Table 5.15: writes the word of the memory window at word index `w`; the library's bundles stay (R172). -/
def LawEng.winWrite (x : LawEng) (w : Nat) (v : W32) : LawEng :=
  match x.winsel with
  | 0 => if w < 1024 then { x with frame := tput 0 x.frame w v } else { x with x := tput 0 x.x w v }
  | 1 => { x with y := tput 0 x.y w v }
  | k =>
    let i := (k - 2) * 8192 + w / 2
    let b := (tget 0 x.prog i).toNat
    let n := if w % 2 = 0 then b / 2 ^ 32 * 2 ^ 32 + v.toNat else v.toNat * 2 ^ 32 + b % 2 ^ 32
    if i < 4096 then x else { x with prog := tput 0 x.prog i (BitVec.ofNat 64 n) }

/-- Table 5.15: the code of STATE. -/
def LState.code : LState → Nat
  | .idle => 0
  | .job => 1
  | .handler => 2
  | .halted => 3
  | .retired => 4

/-- Table 5.15: LAW_STATUS. -/
def LawEng.status (x : LawEng) : Nat := x.st.code + 8 * b01 x.slot.isSome

/-- Table 5.15: a register of a law engine, by its offset; none where no register stands. -/
def LawEng.reg (x : LawEng) (o : Nat) : Option Nat :=
  let dbg := fun (v : Nat) => some (if x.st == .halted then v else 0)
  let part := fun (a k : Nat) => let u := (tget (0 : Int) x.acc a % (2 ^ 72 : Int)).toNat
    if k = 0 then u % 2 ^ 32 else if k = 1 then u / 2 ^ 32 % 2 ^ 32 else u / 2 ^ 64 % 256
  if 0x10000 ≤ o ∧ o < 0x20000 then some (x.winRead ((o - 0x10000) / 4))
  else if 0x80 ≤ o ∧ o < 0x90 then some (tget 0 x.bp ((o - 0x80) / 4)).toNat
  else if 0x90 ≤ o ∧ o < 0xA0 then some (if o % 8 = 0 then tget 0 x.wpAddr ((o - 0x90) / 8) else tget 0 x.wpCtrl ((o - 0x90) / 8)).toNat
  else if 0x100 ≤ o ∧ o < 0x180 then dbg (tget 0 x.pd ((o - 0x100) / 4)).toNat
  else if 0x180 ≤ o ∧ o < 0x1A0 then dbg (tget 0 x.p ((o - 0x180) / 4)).toNat
  else if 0x1A0 ≤ o ∧ o < 0x1C0 then dbg (tget 0 x.m ((o - 0x1A0) / 4)).toNat
  else if 0x1C0 ≤ o ∧ o < 0x200 ∧ o % 16 < 12 then dbg (part ((o - 0x1C0) / 16) (o % 16 / 4))
  else match o with
    | 0x00 => some (b01 x.runEn + 2 * b01 x.dbg)
    | 0x04 => some x.status
    | 0x08 => some x.pc
    | 0x0C => some x.epc
    | 0x10 => some x.ecause
    | 0x14 => some x.faultAddr.toNat
    | 0x18 => some x.faultPc
    | 0x20 => some x.protCode.toNat
    | 0x24 => some x.protX.toNat
    | 0x28 => some x.protY.toNat
    | 0x2C => some x.protScb.toNat
    | 0x30 => some x.protBw.toNat
    | 0x34 => some x.budget.toNat
    | 0x38 => some x.cyc.toNat
    | 0x40 => some x.winsel
    | 0x50 => some (x.busy % 2 ^ 32)
    | 0x54 => some (x.busy / 2 ^ 32)
    | 0x58 => some x.faults.toNat
    | 0x5C => some x.aovJobs.toNat
    | 0x60 => some x.eccCorr.toNat
    | 0x64 => some x.eccUncorr.toNat
    | 0x200 => dbg x.lc
    | 0x204 => dbg x.ls
    | 0x208 => dbg x.le
    | 0x20C => dbg x.rrb
    | 0x210 => dbg x.sr.toNat
    | 0x214 => dbg x.ictl.toNat
    | 0x218 => dbg x.esr.toNat
    | _ => none

/-- R155, R156: a write of the register at an offset would be ignored. -/
def LawEng.writeIgnored (x : LawEng) (o : Nat) (v : W32) : Bool :=
  if o = 0 then (v.getLsbD 2 || v.getLsbD 3 || v.getLsbD 4) && !LawEng.dbg { x with dbgEn := v.getLsbD 1, runEn := v.getLsbD 0 }
  else if 0x80 ≤ o ∧ o < 0xA0 then Config.debugLocked || x.runEn
  else if 0x100 ≤ o ∧ o < 0x21C then x.st != .halted
  else false

/-- Table 5.15: writes a register of engine `e` by its offset. -/
def lawRegWrite (e o : Nat) (v : W32) (d : Dev) : Dev :=
  let x := d.eng e
  let win := v &&& 0x3FFF3FFF
  let n := v.toNat
  if x.writeIgnored o v then d
  else if o = 0 then
    let d := d.setEng e { x with runEn := v.getLsbD 0 && x.st != .retired, dbgEn := v.getLsbD 1 }
    let d := if v.getLsbD 2 then haltReq e d else d
    let d := if v.getLsbD 3 then lawStep e d else d
    let d := if v.getLsbD 4 then lawResume e d else d
    if v.getLsbD 5 then lawDoorbell e d else d
  else
    let y : LawEng :=
      if 0x10000 ≤ o ∧ o < 0x20000 then x.winWrite ((o - 0x10000) / 4) v
      else if 0x80 ≤ o ∧ o < 0x90 then { x with bp := tput 0 x.bp ((o - 0x80) / 4) (v &&& 0x80003FFF) }
      else if 0x90 ≤ o ∧ o < 0xA0 then
        (if o % 8 = 0 then { x with wpAddr := tput 0 x.wpAddr ((o - 0x90) / 8) v } else { x with wpCtrl := tput 0 x.wpCtrl ((o - 0x90) / 8) (v &&& 3) })
      else if 0x100 ≤ o ∧ o < 0x180 then { x with pd := tput 0 x.pd ((o - 0x100) / 4) v }
      else if 0x180 ≤ o ∧ o < 0x1A0 then { x with p := tput 0 x.p ((o - 0x180) / 4) v }
      else if 0x1A0 ≤ o ∧ o < 0x1C0 then { x with m := tput 0 x.m ((o - 0x1A0) / 4) v }
      else if 0x1C0 ≤ o ∧ o < 0x200 ∧ o % 16 < 12 then
        let a := (o - 0x1C0) / 16
        let w := accPart (tget 0 x.acc a) (o % 16 / 4 + 1) n
        { x with acc := tput 0 x.acc a w, accS := tput 0 x.accS a w }
      else match o with
        | 0x20 => { x with protCode := win }
        | 0x24 => { x with protX := win }
        | 0x28 => { x with protY := win }
        | 0x2C => { x with protScb := v }
        | 0x30 => { x with protBw := v }
        | 0x34 => { x with budget := v }
        | 0x40 => { x with winsel := n % 4 }
        | 0x200 => { x with lc := n % 65536 }
        | 0x204 => { x with ls := n % 16384, cached := false }
        | 0x208 => { x with le := n % 16384, cached := false }
        | 0x20C => { x with rrb := n % 16 }
        | 0x210 => { x with sr := srWrite 0 0xFFFF (BitVec.ofNat 16 n) }
        | 0x214 => { x with ictl := ictlWrite x.ictl v }
        | 0x218 => { x with esr := srWrite 0 0xFFFF (BitVec.ofNat 16 n) }
        | _ => x
    d.setEng e y

/-- 0x0832 LAW_DEBUG. -/
def cmdLawDebug : Cmd := cmdL 0x0832 fun _ p d =>
  let e := u8 p 0
  let o := u8 p 1
  let off := u32 p 4
  let v := BitVec.ofNat 32 (u32 p 8)
  let x := d.eng e
  let noReg := decide (o < 2) && (off % 4 != 0 || (x.reg off).isNone)
  let ign := (o == 1 && x.writeIgnored off v) || (decide (2 ≤ o) && !x.dbg)
  let val := match o with
    | 0 => (x.reg off).getD 0
    | 1 => v.toNat
    | _ => 0
  checks [(p.length != 12, 0x101), (decide (7 < e) || decide (4 < o) || rsv p 2 2 || noReg, 0x102), (x.st == .retired, 0x109),
          (x.runEn || ign, 0x103)] d
    (okData (le 4 val) (match o with
      | 0 => d
      | 1 => lawRegWrite e off v d
      | 2 => haltReq e d
      | 3 => lawStep e d
      | _ => lawResume e d))

/-- 0x0833 LAW_STATS_GET. -/
def cmdLawStatsGet : Cmd := cmdL 0x0833 fun _ p d =>
  let e := u8 p 0
  let x := d.eng e
  checks [(p.length != 4, 0x101), (decide (7 < e) || rsv p 1 3, 0x102)] d
    (okData (le 4 x.st.code ++ le 8 x.busy ++ words [x.faults.toNat, x.aovJobs.toNat, x.eccCorr.toNat, x.eccUncorr.toNat]) d)

/-! ## Meanings -/

/-- SCHEDULER_DECISION. -/
def execSchedulerDecision (e cycle : Nat) (s : State) : Host.Outcome State Fault Refusal := run (decide (e < 8)) (decision e cycle) s
/-- AFF_WAIT_REACHED. -/
def execAffWaitReached (order cycle : Nat) (s : State) : Host.Outcome State Fault Refusal := run true (affWaitReached order cycle) s
/-- JOB_DISPATCH. -/
def execJobDispatch (e : Nat) (s : State) : Host.Outcome State Fault Refusal := run (decide (e < 8)) (jobDispatch e) s
/-- JOB_COLLECTION_DONE. -/
def execJobCollectionDone (e : Nat) (s : State) : Host.Outcome State Fault Refusal := run (decide (e < 8)) (collectionDone e) s
/-- LAW_JOB_DEADLINE. -/
def execLawJobDeadline (s : State) : Host.Outcome State Fault Refusal := run true jobDeadline s
/-- LAW_PROG_LOAD_DONE. -/
def execLawProgLoadDone (law : Nat) (s : State) : Host.Outcome State Fault Refusal := run true (progLoadDone law) s
/-- LAW_ENGINE_DISABLE_DONE. -/
def execLawEngineDisableDone (e : Nat) (s : State) : Host.Outcome State Fault Refusal := run (decide (e < 8)) (engineDisableDone e) s
/-- TRACE_CLEAR. -/
def execTraceClear (s : State) : Host.Outcome State Fault Refusal := run true traceClear s
/-- LAW_BIND. -/
def execLawBind (r : AcpReq) (s : State) : Host.Outcome State Fault Refusal := run true (acpTake cmdLawBind r) s
/-- LAW_BIND_GET. -/
def execLawBindGet (r : AcpReq) (s : State) : Host.Outcome State Fault Refusal := run true (acpTake cmdLawBindGet r) s
/-- LAW_PROG_LOAD. -/
def execLawProgLoad (r : AcpReq) (s : State) : Host.Outcome State Fault Refusal := run true (acpTake cmdLawProgLoad r) s
/-- LAW_PROG_UNLOAD. -/
def execLawProgUnload (r : AcpReq) (s : State) : Host.Outcome State Fault Refusal := run true (acpTake cmdLawProgUnload r) s
/-- LAW_PROG_LIST. -/
def execLawProgList (r : AcpReq) (s : State) : Host.Outcome State Fault Refusal := run true (acpTake cmdLawProgList r) s
/-- LAW_TABLE_LOAD. -/
def execLawTableLoad (r : AcpReq) (s : State) : Host.Outcome State Fault Refusal := run true (acpTake cmdLawTableLoad r) s
/-- SCH_CONFIG. -/
def execSchConfig (r : AcpReq) (s : State) : Host.Outcome State Fault Refusal := run true (acpTake cmdSchConfig r) s
/-- SCH_STATUS_GET. -/
def execSchStatusGet (r : AcpReq) (s : State) : Host.Outcome State Fault Refusal := run true (acpTake cmdSchStatusGet r) s
/-- SCH_TRACE_READ. -/
def execSchTraceRead (r : AcpReq) (s : State) : Host.Outcome State Fault Refusal := run true (acpTake cmdSchTraceRead r) s
/-- LAW_ENGINE_SET. -/
def execLawEngineSet (r : AcpReq) (s : State) : Host.Outcome State Fault Refusal := run true (acpTake cmdLawEngineSet r) s
/-- LAW_TEST_RUN. -/
def execLawTestRun (r : AcpReq) (s : State) : Host.Outcome State Fault Refusal := run true (acpTake cmdLawTestRun r) s
/-- LAW_DEBUG. -/
def execLawDebug (r : AcpReq) (s : State) : Host.Outcome State Fault Refusal := run true (acpTake cmdLawDebug r) s
/-- LAW_STATS_GET. -/
def execLawStatsGet (r : AcpReq) (s : State) : Host.Outcome State Fault Refusal := run true (acpTake cmdLawStatsGet r) s

end Sys2Proof.Machine
end

