-- ==== Sys2Proof/Machine/Render.lean ====
section
/-! DEFINITION. The gain combiner (03 R98, R99), the path entries, the interpolator, the summing ring and lane migration (07), with the
commands 0x09xx. -/

namespace Sys2Proof.Machine

/-! ## The gain combiner (03 R98, R99) -/

/-- R34, R98: a layout is RUNNING throughout block `m`. -/
def FUnit.full (u : FUnit) (m : Nat) : Bool :=
  (match u.startBlk with
   | some j => decide (j ≤ m)
   | none => false)
  && (match u.stopBlk with
   | some b => decide (m < b)
   | none => true)

/-- R98: J of a path of object `x` to layout `lay` in block `m`. -/
def Dev.pathOn (d : Dev) (x : Obj) (lay m : Nat) : Bool :=
  x.ev.placed && x.ev.route.getLsbD lay && (d.unit 1 lay).full m && !x.ev.mute

/-- R98: O, A and TRIM applied to a law gain. -/
def Dev.pathGain (d : Dev) (x : Obj) (s : Nat) (g : Int) : Int :=
  let l := d.layout (d.layOf s)
  mul28 (mul28 (mul28 g x.ev.factor) (attOf l (scalePos l.scale x.ev.pos) (d.spk s))) (d.spk s).trim

/-- The outcome recorded for block `j`: 0 where the entry is for another block. -/
def outcomeAt (e : Option (Nat × Nat)) (j : Nat) : Nat :=
  match e with
  | some (b, c) => if b = j then c else 0
  | none => 0

/-- Table 3.7: the period's outcome from that of its job and of the period before: 0 none, 1 missed, 2 done, 4 missed with no
result since a period with none. -/
def outcomeOf (new old : Nat) : Nat :=
  match new with
  | 0 => 0
  | 2 => 2
  | _ => if old = 0 ∨ old = 4 then 4 else 1

/-- Table 3.7: the tick in which the jobs of a lead's period at block `j` were issued, for object `o`. -/
def Dev.issueTick (d : Dev) (l o j : Nat) : Nat :=
  let p := (d.layout l).p
  if (d.bind l).split ∧ 2 ≤ p ∧ nObj d.rate / 2 ≤ o then j - 1 - p / 2 else j - 1 - p

/-- Table 3.7: the period's gains serve a layout whose start was validated before its issue. -/
def Dev.periodUsable (d : Dev) (l o j lay : Nat) : Bool := decide ((d.unit 1 lay).startVal < d.issueTick l o j)

/-- Outputs that belong to a lead's group. -/
def Dev.groupOuts (d : Dev) (l : Nat) : List Nat := (rangeFrom 0 512).filter (fun s => d.leadOf (d.layOf s) == l)

/-- R98, Table 3.7: a path's G_new and G_prev as the period of outcome `c` at block `j` begins; `old` is the outcome before. -/
def promotePath (l o j c old : Nat) (s : Nat) (d : Dev) : Dev :=
  let k := 512 * o + s
  let q := d.sch
  let g := tget 0 q.gNew k
  let r : Tbl (Option (Nat × Int)) := tdel q.result k
  match c with
  | 0 => { d with sch := { q with gNew := tdel q.gNew k, gPrev := tdel q.gPrev k, result := r } }
  | 2 =>
    let n := match tget none q.result k with
      | some (b, v) => if b = j then v else g
      | none => g
    let first := old == 0 || old == 4 || !d.periodUsable l o (j - (d.layout l).p) (d.layOf s)
    { d with sch := { q with gNew := tput 0 q.gNew k n, gPrev := tput 0 q.gPrev k (if first then n else g), result := r } }
  | _ => { d with sch := { q with result := r } }

/-- R97, R99: a lead's period begins at block `j` for object `o`. -/
def promote (l j : Nat) (outs : List Nat) (o : Nat) (d : Dev) : Dev :=
  let k := affKey o l
  let old := outcomeAt (tget none d.sch.period k) (j - (d.layout l).p)
  let c := outcomeOf (outcomeAt (tget none d.sch.periodN k) j) old
  let d := forRun (promotePath l o j c old) outs d
  { d with sch := { d.sch with period := tput none d.sch.period k (some (j, c)), periodN := tdel d.sch.periodN k } }

/-- R98: writes G1_NEXT of one path for block `m`, place `i` of a period of outcome `c` at block `j`. -/
def combinePath (l o slot m i j c s : Nat) (d : Dev) : Dev :=
  let x := d.obj o
  let lay := d.layOf s
  let key := 512 * slot + s
  let e := tget {} d.rnd.path key
  let k := 512 * o + s
  let v :=
    if !d.pathOn x lay m || c == 0 || !d.periodUsable l o j lay then 0
    else if d.trj.late || c != 2 then e.g1
    else
      let gp := tget 0 d.sch.gPrev k
      d.pathGain x s (gp + rne ((tget 0 d.sch.gNew k - gp) * (i + 1 : Nat)) (d.layout l).p)
  { d with rnd := { d.rnd with path := tput {} d.rnd.path key { e with g1n := v } } }

/-- R98, R99: the combiner's work of one lead layout for block `m`. -/
def combineLead (m l : Nat) (d : Dev) : Dev :=
  let y := d.layout l
  let os := ((d.sch.period.map Prod.fst ++ d.sch.periodN.map Prod.fst).filter (fun k => k % 32 == l)).map (· / 32) |>.eraseDups
  if d.leadOf l != l || os.isEmpty then d
  else
    let i := (m + y.p - y.phase) % y.p
    let j := m - i
    let outs := d.groupOuts l
    let d := if i = 0 then forRun (promote l j outs) os d else d
    let d := forRun (fun o d =>
      let c := outcomeAt (tget none d.sch.period (affKey o l)) j
      match d.slotOf o with
      | some slot => forRun (combinePath l o slot m i j c) outs d
      | none => d) os d
    { d with sch := { d.sch with period := d.sch.period.filter (fun e => e.1 % 32 != l || outcomeAt e.2 j != 0) } }

/-- R98: the combiner writes G1_NEXT of every path for block `m`. -/
def combine (m : Nat) (d : Dev) : Dev := if d.rendering then forRun (combineLead m) (rangeFrom 0 32) d else d

/-! ## Rotation (R191) -/

/-- Table 7.4: the rotation kinds. -/
inductive Rot where
  | cold | resume | stop | holdDelay | normal
  deriving DecidableEq, Repr

/-- Table 7.4: one rotation. -/
def PathE.rotate (e : PathE) : Rot → PathE
  | .cold => { e with g0 := 0, g1 := e.g1n, d0 := e.d1n, dmid := e.d1n, d1 := e.d1n }
  | .resume => { e with g0 := 0, g1 := e.g1n, d0 := e.d1, dmid := e.dmidn, d1 := e.d1n }
  | .stop => { e with g0 := e.g1, g1 := 0, d0 := e.d1, dmid := e.dmidn, d1 := e.d1n }
  | .holdDelay => { e with g0 := e.g1, g1 := e.g1n, d0 := e.d1, dmid := e.d1, d1 := e.d1 }
  | .normal => { e with g0 := e.g1, g1 := e.g1n, d0 := e.d1, dmid := e.dmidn, d1 := e.d1n }

/-- R34, R514: RENDER renders block `m`. -/
def FUnit.emits (u : FUnit) (m : Nat) : Bool :=
  (match u.startBlk with
   | some j => decide (j ≤ m)
   | none => false)
  && (match u.stopBlk with
   | some b => decide (m ≤ b)
   | none => true)
  && (match u.retBlk with
   | some b => decide (m ≤ b)
   | none => true)

/-- Table 7.4: the rotation of entry `key` for block `m`. -/
def Dev.rotKind (d : Dev) (m key : Nat) : Rot :=
  let u := d.unit 0 0
  let l := key / 8192
  let att := d.rnd.attachAt.find? (fun a => a.2.1 == l && a.2.2 == some m)
  let own := (d.lane l).pathBad
  if u.startBlk == some m || (att.isSome && own) || d.rnd.coldAll || d.rnd.cold.contains key then .cold
  else if att.isSome then .resume
  else if u.stopBlk == some m || d.rnd.shedding.any (fun x => x.1 == l && x.2 == m) then .stop
  else if d.trj.late then .holdDelay
  else .normal

/-- R191: every entry rotates for block `m`. -/
def rotate (m : Nat) (d : Dev) : Dev :=
  if !(d.unit 0 0).emits m then { d with trj := { d.trj with late := false } }
  else
    let bad := d.rnd.cold.length
    { d with
      rnd := { d.rnd with
        path := (d.rnd.path.map (fun (x : Nat × PathE) => (x.1, x.2.rotate (d.rotKind m x.1)))).filter (fun (x : Nat × PathE) => x.2 != ({} : PathE))
        block := some m, cold := [], coldAll := false, pathUncorr := d.rnd.pathUncorr + BitVec.ofNat 32 bad
        shedding := d.rnd.shedding.filter (fun x => decide (m < x.2)) }
      trj := { d.trj with late := false } }

/-! ## The interpolator (R195, R196) -/

/-- R195: the series of I0 in units of 2^-120: `t` is term k - 1, and x^2 / 4 = num / den. -/
def besselGo (num den : Int) : Nat → Nat → Int → Int
  | 0, _, t => t
  | n + 1, k, t => t + besselGo num den n (k + 1) (t * num / (den * (k * k : Nat)))

/-- R195: v_j of phase `p` up to a factor common to the taps: sin(pi t_j) differs between them in sign alone. -/
def winRaw (p : Nat) (j : Int) : Int :=
  let t := 1024 * j - p
  let b := besselGo (25 * (12288 * 12288 - t * t)) (12288 * 12288) 64 1 (2 ^ 120)
  (if j % 2 = 0 then -b else b) * 1024 / t

/-- The taps' places, j from -11 to 12. -/
def taps24 : List Int := (rangeFrom 0 24).map (fun i => (i : Int) - 11)

/-- R195: the coefficient set h_p, from j = -11 up. -/
def coefSet (p : Nat) : List Int :=
  if p = 0 then taps24.map (fun j => if j = 0 then 2 ^ 30 else 0)
  else if 1024 ≤ p then taps24.map (fun j => if j = 1 then 2 ^ 30 else 0)
  else
    let v := taps24.map (winRaw p)
    let h := v.map (fun x => rne (2 ^ 30 * x) (sumI v).toNat)
    let i := if p ≤ 512 then 11 else 12
    setAt h i (h.getD i 0 + 2 ^ 30 - sumI h)

/-- R196: the coefficients at stored phase `p` and sub-phase `a`. -/
def coefAt (p a : Nat) : List Int :=
  let h := coefSet p
  if a = 0 then h else (h.zip (coefSet (p + 1))).map (fun x => x.1 + rne (a * (x.2 - x.1)) 64)

/-- The sum of products of two lists. -/
def dotL : List Int → List Int → Int
  | a :: r, b :: s => a * b + dotL r s
  | _, _ => 0

/-- R192: the gain of a path at sample `s`. -/
def PathE.gain (e : PathE) (s : Nat) : Int := rne (16 * e.g0 + s * (e.g1 - e.g0)) 16

/-- R193: the delay before its clamp. -/
def PathE.delayRaw (e : PathE) (s : Nat) : Int :=
  let d0 : Int := e.d0
  let dm : Int := e.dmid
  let d1 : Int := e.d1
  rne (128 * d0 + 8 * s * (4 * dm - 3 * d0 - d1) + s * s * (d0 - 2 * dm + d1)) 128

/-- R193: the delay of a path at sample `s`, and 1 where the clamp changes it. -/
def PathE.delay (e : PathE) (rate s : Nat) : Nat × Nat :=
  let v := e.delayRaw s
  let hi : Int := (maxDelay rate * 65536 : Nat)
  let c := min (max v 0) hi
  (c.toNat, b01 (c != v))

/-- R185, R187: x[k] of slot `i`, which holds object `o`, as the lanes read it in the tick in progress. -/
def Dev.xAt (d : Dev) (i o : Nat) (k : Int) : Int :=
  let t := 16 * (d.tim.tick - 1)
  let n := k.toNat
  if k < 0 ∨ t + 16 ≤ n then 0
  else if t ≤ n then (tget [] d.flt.cond o).getD (n - t) 0
  else (tget [] d.rnd.line i).getD (t - 1 - n) 0

/-- R194, R196: y of a path at sample `s` of block `m`, and 1 where it saturates. -/
def Dev.pathSample (d : Dev) (e : PathE) (i o m s : Nat) : Int × Nat :=
  let q : Int := (16 * ((m : Int) - 3) + s) * 65536 - ((e.delay d.rate s).1 : Int)
  let x0 := q / 65536
  let phi := (q % 65536).toNat
  if phi = 0 then (d.xAt i o x0, 0)
  else
    let r := rne (dotL (coefAt (phi / 64) (phi % 64)) (taps24.map (fun j => d.xAt i o (x0 + j)))) (2 ^ 30)
    (satI 32 r, b01 (satI 32 r != r))

/-! ## Lanes and the ring (R197 to R199, R205) -/

/-- R183, R205: the physical lane that hands over logical lane `l`'s terms of block `m`. -/
def Dev.laneFor (d : Dev) (l m : Nat) : Option Nat :=
  match d.server l with
  | some p => some p
  | none => (rangeFrom 0 68).find? (fun p => match (d.lane p).lastBlk with
      | some (k, b) => k == l && decide (m ≤ b)
      | none => false)

/-- R199: outputs a standby renders. -/
def Dev.guarded (d : Dev) (s : Nat) : Bool := d.out.gs.any (fun g => g.2.en && g.2.out == s)

/-- R199, 16 R420: the device renders output `s` in block `m`. -/
def Dev.renders (d : Dev) (s m : Nat) : Bool :=
  !d.standby || d.guarded s || (match d.pair.fullFrom with
    | some b => decide (b ≤ m)
    | none => false)

/-- What the ring carries while it visits the paths: sums by output, RND_DCLAMP and RND_INTERP_SAT. -/
structure RingAcc where
  sums : Tbl (List Int)
  clamp : Nat
  sat : Nat

/-- R197: one path's terms of block `m` join its output's sums. -/
def ringPath (d : Dev) (m : Nat) (x : Nat × PathE) (a : RingAcc) : RingAcc :=
  let i := x.1 / 512
  let s := x.1 % 512
  let late := match d.laneFor (i / 16) m with
    | some p => (d.lane p).lateNow
    | none => true
  match d.slotObj i with
  | none => a
  | some o =>
    if late || d.rnd.mute.contains x.1 || !d.renders s m then a
    else
      let ys := (rangeFrom 0 16).map (fun n => d.pathSample x.2 i o m n)
      let gs := (rangeFrom 0 16).map (fun n => x.2.gain n)
      let ts := (gs.zip ys).map (fun g => g.1 * g.2.1)
      let old := tget [] a.sums s
      let new := if old.isEmpty then ts else (old.zip ts).map (fun p => p.1 + p.2)
      { sums := tput [] a.sums s new
        clamp := a.clamp + ((rangeFrom 0 16).map (fun n => (x.2.delay d.rate n).2)).sum
        sat := a.sat + (ys.map Prod.snd).sum }

/-- R198: the ring's sums of block `m` in units of 2^-59, 16 for each output with a term, and the counters it moves. A retirement
of RENDER scales its block (R514). -/
def Dev.ring (d : Dev) (m : Nat) : Tbl (List Int) × Dev :=
  let u := d.unit 0 0
  if !u.emits m then ([], d)
  else
    let a := d.rnd.path.foldl (fun a x => ringPath d m x a) { sums := [], clamp := 0, sat := 0 }
    let d := { d with rnd := { d.rnd with
      dclamp := d.rnd.dclamp + BitVec.ofNat 32 a.clamp, isat := d.rnd.isat + BitVec.ofNat 32 a.sat } }
    let sums := if u.retBlk = some m ∧ u.stopBlk ≠ some m then
        a.sums.map (fun (x : Nat × List Int) => (x.1, ((rangeFrom 0 16).zip x.2).map (fun y => rne (y.2 * (16 - (y.1 : Int))) 16)))
      else a.sums
    (sums, d)

/-! ## Delay lines (R185 to R187) -/

/-- R186: words of a slot's delay line. -/
def lineLen (rate : Nat) : Nat := maxDelay rate + 64

/-- R187: the conditioned block becomes part of every occupied slot's line. -/
def pushLines (d : Dev) : Dev :=
  if !d.rendering then d
  else
    let go := fun (i : Nat) (d : Dev) =>
      match d.slotObj i with
      | none => d
      | some o =>
        let x := (tget [] d.flt.cond o ++ List.replicate 16 0).take 16
        let old := tget [] d.rnd.line i
        if x.all (· == 0) && old.all (· == 0) then { d with rnd := { d.rnd with line := tdel d.rnd.line i } }
        else { d with rnd := { d.rnd with line := tput [] d.rnd.line i ((x.reverse ++ old).take (lineLen d.rate)) } }
    let occupied := (d.rnd.line.map Prod.fst ++ (d.flt.cond.map Prod.fst).filterMap d.slotOf).eraseDups
    forRun go occupied d

/-- R185, R205: lines cleared at T_k for block k + 1: all when RENDER starts, those of a lane attached with its own delay
memory. -/
def clearLines (k : Nat) (d : Dev) : Dev :=
  if (d.unit 0 0).startBlk = some (k + 1) then { d with rnd := { d.rnd with line := [], pathFree := none } }
  else
    let own := (d.rnd.attachAt.filter (fun a => a.2.2 == some (k + 1) && (d.lane a.2.1).delayBad)).map (fun a => a.2.1)
    if own.isEmpty then d else { d with rnd := { d.rnd with line := d.rnd.line.filter (fun x => !own.contains (x.1 / 16)) } }

/-! ## Migration and attach (R203 to R206) -/

/-- R203: physical lane `q` serves logical lane `l`, with its own memory where the home lane's is marked bad. -/
def Dev.serve (d : Dev) (q l : Nat) : Dev :=
  let h := d.lane l
  d.setLane q { d.lane q with st := .working, logical := some l, ownDelay := h.delayBad && q != l, ownPath := h.pathBad && q != l }

/-- R204, R205: the lane switch moves for takeover block `b`. -/
def takeover (b : Nat) (d : Dev) : Dev :=
  let d := d.rnd.attachAt.foldl (fun d a => if a.2.2 = some b then d.serve a.1 a.2.1 else d) d
  match d.rnd.mig with
  | none => d
  | some m =>
    if m.done || m.block != some b then d
    else
      let old := d.lane m.old
      let d := d.setLane m.old { old with st := if m.replan = 1 then .replanning else .idle, logical := none, ownDelay := false, ownPath := false }
      let d := d.serve m.new m.logical
      { d with rnd := { d.rnd with mig := some { m with done := true } } }

/-- LANE_TAKEOVER: T_{B-1} comes. -/
def laneTakeover (d : Dev) : Dev := takeover (d.tim.tick + 2) d

/-- R204, R206: begins a migration of logical lane `l` from lane `a` to lane `b`. -/
def beginMigration (l a b replan : Nat) (d : Dev) : Dev :=
  let d := d.testing b
  { d with rnd := { d.rnd with mig := some { logical := l, new := b, old := a, replan := replan, block := none, done := false } } }

/-- 17 R448: island `j`'s plan is applied. -/
def replanDone (j : Nat) (d : Dev) : Dev :=
  let x : Island := tget {} d.hlt.isl j
  match x.plan with
  | none => d
  | some (t, c, n) =>
    let h := d.hlt
    let d := { d with hlt := { h with replans := h.replans + 1, isl := tput {} h.isl j { x with plan := none, deferred := false, slewing := false } } }
    d.raise 0x8F03 j (le 1 j ++ le 1 t ++ le 1 x.trim ++ zb 1 ++ le 2 c ++ le 2 n)

/-- 17 R448: lane `p` is re-clocked as its plan says. -/
def reclock (p : Nat) (d : Dev) : Dev :=
  let x : Island := tget {} d.hlt.isl p
  match x.plan with
  | none => d
  | some (_, _, n) => d.setLane p { d.lane p with clock := n }

/-- Table 7.6: at T_k a migration whose takeover block `k` begins to be emitted is complete. -/
def migrationEnd (k : Nat) (d : Dev) : Dev :=
  match d.rnd.mig with
  | none => d
  | some m =>
    match m.done, m.block with
    | true, some b =>
      if k < b then d
      else
        let d := { d with rnd := { d.rnd with mig := none, migrations := d.rnd.migrations + 1 } }
        let p := le 1 m.old ++ le 1 m.new ++ zb 6 ++ le 8 b
        let d := (d.raise 0x8900 m.logical p).finish 0x0903 0 0 p
        match m.replan with
        | 1 => beginMigration m.logical m.new m.old 2 (reclock m.old d)
        | 2 => replanDone m.new d
        | _ => d
    | _, _ => d

/-- LANE_SELF_TEST_DONE (R203 to R205). -/
def selfTestDone (p : Nat) (pass : Bool) (d : Dev) : Dev :=
  if (d.lane p).st != .testing then d
  else if !pass then d.retire p 2
  else
    let n := d.tim.tick
    let d := match d.rnd.mig with
      | some m =>
        if m.new = p ∧ m.block.isNone ∧ ¬ m.done then
          { d with rnd := { d.rnd with mig := some { m with block := some (if d.now16 ≤ boundT d.rate n then n + 3 else n + 4) } } }
        else d
      | none => d
    { d with rnd := { d.rnd with attachAt := d.rnd.attachAt.map (fun a => if a.1 = p ∧ a.2.2.isNone then (a.1, a.2.1, some (n + 2)) else a) } }

/-- R191, R205: a lane attached with its own path memory in the tick in progress: its endpoints of the takeover block are written
without the limit. -/
def freeEndpoints (d : Dev) : Dev :=
  let m := d.tim.tick + 2
  let ls := (d.rnd.attachAt.filter (fun a => a.2.2 == some m && (d.lane a.2.1).pathBad)).map (fun a => a.2.1)
  if ls.isEmpty || !d.rendering then d
  else
    let ctr := d.trj.ctr
    let outs := d.liveOutputs
    let d := forRun (fun l d => forRun (fun i d => match d.slotObj i with
      | some o => if (d.obj o).ev.valid then forRun (fun s d => trjPath o i m s true d) outs d else d
      | none => d) (rangeFrom (16 * l) 16) d) ls d
    { d with trj := { d.trj with ctr := ctr } }

/-- LANE_TAKEOVER. -/
def execLaneTakeover (s : State) : Host.Outcome State Fault Refusal := run true laneTakeover s
/-- LANE_SELF_TEST_DONE. -/
def execLaneSelfTestDone (lane : Nat) (pass : Bool) (s : State) : Host.Outcome State Fault Refusal :=
  run (decide (lane < 68)) (fun d => freeEndpoints (selfTestDone lane pass d)) s

/-! ## Late lanes, redo and memory errors (01 Table 1.7, R200, R201, 17 R434) -/

/-- 01 Table 1.7: lane `p` is late for the block in render. -/
def Dev.laneLate (d : Dev) (p : Nat) : Dev :=
  let x := d.lane p
  let d := d.setLane p { x with lateNow := true, late := x.late + 1 }
  { d with rnd := { d.rnd with missed := true } }

/-- RND_DEADLINE: the deadline passes and lane `p` has not handed over its terms. -/
def rndDeadline (p : Nat) (d : Dev) : Dev :=
  let x := d.lane p
  if x.logical.isNone || x.lateNow || !(d.unit 0 0).emits (d.tim.tick + 1) then d
  else (d.laneLate p).strike p 0 0

/-- RND_DEADLINE. -/
def execRndDeadline (lane : Nat) (s : State) : Host.Outcome State Fault Refusal := run (decide (lane < 68)) (rndDeadline lane) s

/-- R186, R201: a delay word of slot `i` at position `pos` of its ring is rewritten as zero. -/
def zeroDelay (i pos : Nat) (d : Dev) : Dev :=
  let ld := lineLen d.rate
  let t := 16 * (d.tim.tick - 1)
  let back := (t + 15 + ld - pos) % ld
  if back < 16 then
    match d.slotObj i with
    | some o => { d with flt := { d.flt with cond := tmod [] d.flt.cond o (fun v => setAt v (15 - back) 0) } }
    | none => d
  else { d with rnd := { d.rnd with line := tmod [] d.rnd.line i (fun v => setAt v (back - 16) 0) } }

/-- R186: slot and ring position of a delay word: the SRAM's words, then those of the edge store. -/
def delayWord (rate addr : Nat) : Nat × Nat :=
  let m := maxDelay rate
  let n := slotsPerLane rate
  if addr < n * m then (addr / m, addr % m) else ((addr - n * m) / 64, m + (addr - n * m) % 64)

/-- R201: an uncorrectable error in a word of lane `p`; a second one in the same word within 2 s is a hard memory error (17 R434). -/
def laneUncorr (p : Nat) (path : Bool) (addr : Nat) (d : Dev) : Dev :=
  let x := d.lane p
  let d := d.setLane p { x with eccUncorr := x.eccUncorr + 1, bad := (b01 path, addr, d.tim.now) :: (x.bad.filter (fun b => !(b.1 == b01 path && b.2.1 == addr))) }
  let d := match x.logical with
    | none => d
    | some l =>
      if path then
        let key := 8192 * l + addr / 8
        { d with rnd := { d.rnd with mute := d.rnd.mute ++ [key], cold := if d.rnd.cold.contains key then d.rnd.cold else d.rnd.cold ++ [key] } }
      else let w := delayWord d.rate addr
        zeroDelay (16 * l + w.1) w.2 d
  let d := d.strike p 0 addr
  if x.bad.any (fun b => b.1 == b01 path && b.2.1 == addr && decide (d.tim.now ≤ b.2.2 + 2 * 10 ^ 9 * 2 ^ 40)) then
    let h := match x.logical with
      | some l => if (if path then x.ownPath else x.ownDelay) then p else l
      | none => p
    let y := d.lane h
    (d.setLane h (if path then { y with pathBad := true } else { y with delayBad := true })).retire p 5
  else d

/-- R201: an error found in a word of lane `p`. -/
def laneEcc (p : Nat) (path : Bool) (addr : Nat) (double : Bool) (d : Dev) : Dev :=
  let x := d.lane p
  if x.st == .retired then d
  else if double then laneUncorr p path addr d
  else d.setLane p { x with eccCorr := x.eccCorr + 1 }

/-- R200, R201: a fault a lane meets while it renders the next block. -/
def laneFault (f : LaneFault) (d : Dev) : Dev :=
  match f with
  | .redo p n =>
    let x := d.lane p
    if x.logical.isNone || !d.rnd.check || n == 0 then d
    else
      let d := d.setLane p { x with redo := x.redo + BitVec.ofNat 32 n, budgetOver := if 2048 < n then x.budgetOver + 1 else x.budgetOver }
      let d := if 2048 < n then d.laneLate p else d
      d.strike p 0 n
  | .stuck p => if (d.lane p).logical.isNone || !d.rnd.check then d else d.retire p 3
  | .ecc p path addr double => laneEcc p path addr double d
  | .cnv _ _ _ => d

/-- R201: words of a lane's memory. -/
def laneWords (path : Bool) : Nat := if path then 65536 else 262144 + 1024

/-- MEMORY_SCRUB (R201). -/
def memoryScrub (p : Nat) (path : Bool) (addr : Nat) (err : EccErr) (d : Dev) : Dev :=
  if !d.rnd.scrub then d
  else match err with
    | .none => d
    | .single => laneEcc p path addr false d
    | .double => laneEcc p path addr true d

/-- MEMORY_SCRUB. -/
def execMemoryScrub (lane : Nat) (path : Bool) (addr : Nat) (err : EccErr) (s : State) : Host.Outcome State Fault Refusal :=
  run (decide (lane < 68) && decide (addr < laneWords path)) (memoryScrub lane path addr err) s

/-! ## Commands (Table 7.10) -/

/-- R184: the object or 0xFFFF of slot `i`. -/
def Dev.mapWord (d : Dev) (i : Nat) : Nat := (d.slotObj i).getD 0xFFFF

/-- Table 7.1: the default of slot `i`. -/
def mapDflt (rate i : Nat) : Nat := if i % 16 < slotsPerLane rate then slotsPerLane rate * (i / 16) + i % 16 else 0xFFFF

/-- 0x0900 RND_LANE_MAP_SET. -/
def cmdRndLaneMapSet : Cmd := cmdA 0x0900 fun _ p d =>
  let f := u8 p 0
  let n := u8 p 1
  let new := fun i => if 16 * f ≤ i ∧ i < 16 * (f + n) then u16 p (4 + 2 * (i - 16 * f)) else d.mapWord i
  let all := ((rangeFrom 0 1024).map (fun i => (i, new i))).filter (fun x => x.2 != 0xFFFF)
  let bad := n == 0 || decide (64 < f + n) || rsv p 2 2 || all.any (fun x => decide (nObj d.rate ≤ x.2) || decide (slotsPerLane d.rate ≤ x.1 % 16))
    || (all.map Prod.snd).eraseDups.length != all.length
  let moved := (rangeFrom (16 * f) (16 * n)).filter (fun i => new i != d.mapWord i)
  checks [(decide (p.length < 4) || p.length != 4 + 32 * n, 0x101), (bad, 0x102), (d.retired 0 0, 0x109), (!d.stopped 0 0, 0x103)] d
    (ok { d with rnd := { d.rnd with
      map := forRun (fun i t => tput (mapDflt d.rate i) t i (new i)) (rangeFrom (16 * f) (16 * n)) d.rnd.map
      path := d.rnd.path.filter (fun e => !moved.contains (e.1 / 512)) } })

/-- 0x0901 RND_LANE_MAP_GET. -/
def cmdRndLaneMapGet : Cmd := cmdL 0x0901 fun _ p d =>
  let f := u8 p 0
  let n := u8 p 1
  checks [(p.length != 4, 0x101), (n == 0 || decide (64 < f + n) || rsv p 2 2, 0x102)] d
    (okData ((rangeFrom (16 * f) (16 * n)).flatMap (fun i => le 2 (d.mapWord i))) d)

/-- Table 7.9: the code of STATE. -/
def LaneSt.code : LaneSt → Nat
  | .idle => 0
  | .working => 1
  | .testing => 2
  | .replanning => 3
  | .retired => 4

/-- 0x0902 RND_LANE_STATUS. -/
def cmdRndLaneStatus : Cmd := cmdL 0x0902 fun _ p d =>
  let ent := fun q => let x := d.lane q
    le 1 x.st.code ++ le 1 (x.logical.getD 255) ++ le 1 (b01 x.ownDelay + 2 * b01 x.ownPath + 4 * b01 x.delayBad + 8 * b01 x.pathBad) ++ zb 1
    ++ le 2 x.clock ++ le 2 (if x.logical.isSome && d.rendering then Config.laneLoadPct q d.tim.tick else 0) ++ le 4 x.redo.toNat ++ le 4 x.late.toNat
  checks [(p.length != 0, 0x101)] d (okData ((rangeFrom 0 68).flatMap ent) d)

/-- 0x0903 RND_MIGRATE: the response awaits the end of the migration. -/
def cmdRndMigrate : Cmd := cmdL 0x0903 fun _ p d =>
  let l := u8 p 0
  let back := u8 p 1 == 1
  let srv := d.server l
  let st := if back then srv.isNone || srv == some l || (d.lane l).logical.isSome else srv != some l
  checks [(p.length != 4, 0x101), (decide (63 < l) || decide (1 < u8 p 1) || rsv p 2 2, 0x102), (back && (d.lane l).st == .retired, 0x109), (st, 0x103),
          (d.rnd.mig.isSome, 0x104), (!back && d.freeReserves.isEmpty, 0x106)] d
    (later (0x0903, 0) [] (beginMigration l (srv.getD 0) (if back then l else d.freeReserves.headD 0) 0 d))

/-- Table 7.3: the bytes of an entry. -/
def PathE.bytes (e : PathE) : Bytes :=
  leI 4 e.g0 ++ leI 4 e.g1 ++ le 4 e.d0 ++ le 4 e.dmid ++ le 4 e.d1 ++ leI 4 e.g1n ++ le 4 e.dmidn ++ le 4 e.d1n

/-- 0x0904 RND_PATH_GET (R210). -/
def cmdRndPathGet : Cmd := cmdL 0x0904 fun _ p d =>
  let o := u16 p 0
  let f := u16 p 2
  let n := u16 p 4
  let ent := fun s => match d.slotOf o, d.rnd.block with
    | some i, some _ => match d.rnd.pathFree with
      | some z => words ((rangeFrom 0 8).map (fun w => (Config.freeWord (z + 8 * (512 * i + s) + w))))
      | none => (tget {} d.rnd.path (512 * i + s)).bytes
    | _, _ => zb 32
  checks [(p.length != 8, 0x101), (decide (nObj d.rate ≤ o) || n == 0 || decide (512 < f + n) || rsv p 6 2, 0x102)] d
    (okData (le 8 (d.rnd.block.getD 0) ++ (rangeFrom f n).flatMap ent) d)

/-- 0x0905 RND_COEF_GET. -/
def cmdRndCoefGet : Cmd := cmdL 0x0905 fun _ p d =>
  let f := u16 p 0
  let n := u16 p 2
  checks [(p.length != 4, 0x101), (n == 0 || decide (1024 < f + n), 0x102)] d
    (okData ((rangeFrom f n).flatMap (fun k => (coefSet k).flatMap (leI 4))) d)

/-- 0x0906 RND_STATS_GET. -/
def cmdRndStatsGet : Cmd := cmdL 0x0906 fun _ p d =>
  let r := d.rnd
  checks [(p.length != 0, 0x101)] d (okData (words [r.dclamp.toNat, r.isat.toNat, r.pathUncorr.toNat, r.migrations.toNat, r.migDeferred.toNat]
    ++ le 1 d.freeReserves.length ++ zb 3 ++ le 2 d.hlt.objectsShed ++ zb 6) d)

/-- RND_LANE_MAP_SET. -/
def execRndLaneMapSet (r : AcpReq) (s : State) : Host.Outcome State Fault Refusal := run true (acpTake cmdRndLaneMapSet r) s
/-- RND_LANE_MAP_GET. -/
def execRndLaneMapGet (r : AcpReq) (s : State) : Host.Outcome State Fault Refusal := run true (acpTake cmdRndLaneMapGet r) s
/-- RND_LANE_STATUS. -/
def execRndLaneStatus (r : AcpReq) (s : State) : Host.Outcome State Fault Refusal := run true (acpTake cmdRndLaneStatus r) s
/-- RND_MIGRATE. -/
def execRndMigrate (r : AcpReq) (s : State) : Host.Outcome State Fault Refusal := run true (acpTake cmdRndMigrate r) s
/-- RND_PATH_GET. -/
def execRndPathGet (r : AcpReq) (s : State) : Host.Outcome State Fault Refusal := run true (acpTake cmdRndPathGet r) s
/-- RND_COEF_GET. -/
def execRndCoefGet (r : AcpReq) (s : State) : Host.Outcome State Fault Refusal := run true (acpTake cmdRndCoefGet r) s
/-- RND_STATS_GET. -/
def execRndStatsGet (r : AcpReq) (s : State) : Host.Outcome State Fault Refusal := run true (acpTake cmdRndStatsGet r) s

end Sys2Proof.Machine
end

