-- ==== Sys2Proof/Machine/Conv.lean ====
section
/-! DEFINITION. Room correction (08): tiers, banks, switches, service of tier 2, and the commands 0x0Axx. -/

namespace Sys2Proof.Machine

/-! ## Transforms (R215, R216, R218) -/

/-- Pi in units of 2^-120. -/
def piFix : Int := 4175892906503776358826876457663557747

/-- A Taylor series in units of 2^-120: `t` is the term before, `k` the last factor of its factorial, `x2` the square. -/
def taylor (x2 : Int) : Nat → Nat → Int → Int
  | 0, _, _ => 0
  | n + 1, k, t =>
    let u := -(t * x2 / 2 ^ 120) / ((k + 1) * (k + 2) : Nat)
    u + taylor x2 n (k + 2) u

/-- Table 8.2: entry `m`. -/
def twiddle (m : Nat) : Int × Int :=
  let x := piFix * m / 1024
  let x2 := x * x / 2 ^ 120
  (rne (2 ^ 120 + taylor x2 40 0 (2 ^ 120)) (2 ^ 90), rne (x + taylor x2 40 1 x) (2 ^ 90))

/-- Table 8.2. -/
def twTable : List (Int × Int) := (rangeFrom 0 1024).map twiddle

/-- Elements at even places. -/
def evens {α : Type} : List α → List α
  | [] => []
  | [a] => [a]
  | a :: _ :: r => a :: evens r

/-- Elements at odd places. -/
def odds {α : Type} : List α → List α
  | [] => []
  | [_] => []
  | _ :: b :: r => b :: odds r

/-- R215: a twiddle times a value, rounded; `inv` for the inverse. -/
def twMul (inv : Bool) (w c : Int × Int) : Int × Int :=
  if inv then (rne (w.1 * c.1 - w.2 * c.2) (2 ^ 30), rne (w.1 * c.2 + w.2 * c.1) (2 ^ 30))
  else (rne (w.1 * c.1 + w.2 * c.2) (2 ^ 30), rne (w.1 * c.2 - w.2 * c.1) (2 ^ 30))

/-- R215: FFT of 2^st values: the stage over the transforms of the even and odd places is the in-place procedure's stage `st`. -/
def fft (inv : Bool) : Nat → List (Int × Int) → List (Int × Int)
  | 0, x => x
  | st + 1, x =>
    let e := fft inv st (evens x)
    let o := fft inv st (odds x)
    let t := ((rangeFrom 0 (2 ^ st)).zip o).map (fun c => twMul inv (twTable.getD (c.1 * 2 ^ (10 - st)) (0, 0)) c.2)
    (e.zip t).map (fun c => (c.1.1 + c.2.1, c.1.2 + c.2.2)) ++ (e.zip t).map (fun c => (c.1.1 - c.2.1, c.1.2 - c.2.2))

/-- R215: a packed stored spectrum of a real frame of 2^st values, rounded by 2^e. -/
def spectrum (st e : Nat) (x : List Int) : List Int :=
  let v := fft false st (x.map (fun a => (a, 0)))
  let q := fun (a : Int) => satI 32 (rne a (2 ^ e))
  let n := 2 ^ st
  q (v.getD 0 (0, 0)).1 :: q (v.getD (n / 2) (0, 0)).1 :: ((v.drop 1).take (n / 2 - 1)).flatMap (fun c => [q c.1, q c.2])

/-- R215: values 0 to N / 2 of a packed spectrum. -/
def unpack (n : Nat) (w : List Int) : List (Int × Int) :=
  (w.getD 0 0, 0) :: (rangeFrom 1 (n / 2 - 1)).map (fun k => (w.getD (2 * k) 0, w.getD (2 * k + 1) 0)) ++ [(w.getD 1 0, 0)]

/-- The exact complex product, added. -/
def mulAcc (s : List (Int × Int)) (x h : List (Int × Int)) : List (Int × Int) :=
  (s.zip (x.zip h)).map (fun c => (c.1.1 + (c.2.1.1 * c.2.2.1 - c.2.1.2 * c.2.2.2), c.1.2 + (c.2.1.1 * c.2.2.2 + c.2.1.2 * c.2.2.1)))

/-- R216: the inverse of a sum of products and its last P values, rounded by 2^r. -/
def tierOut (st r : Nat) (s : List (Int × Int)) : List Int :=
  let n := 2 ^ st
  let full := s ++ (((s.drop 1).take (n / 2 - 1)).reverse.map (fun c => (c.1, -c.2)))
  ((fft true st full).drop (n / 2)).map (fun c => rne c.1 (2 ^ r))

/-! ## Banks -/

/-- The output `s` of CNV. -/
def Dev.cnvo (d : Dev) (s : Nat) : CnvOut := tget {} d.cnv.out s
/-- Writes output `s` of CNV. -/
def Dev.setCnvo (d : Dev) (s : Nat) (o : CnvOut) : Dev := { d with cnv := { d.cnv with out := tput {} d.cnv.out s o } }
/-- Writes a bank of an output. -/
def CnvOut.setBank (o : CnvOut) (b : Bool) (x : Bank) : CnvOut := if b then { o with b := x } else { o with a := x }
/-- The code of a bank. -/
def bankNo (b : Bool) : Nat := b01 b
/-- R225: tap `k`; an EMPTY bank is the unit filter. -/
def Bank.tap (b : Bank) (k : Nat) : Int := if b.st = .empty then (if k = 0 then 2 ^ 30 else 0) else tget 0 b.h k
/-- Table 8.9: counts in a CNV counter by its place. -/
def Dev.cnvCount (d : Dev) (i n : Nat) : Dev := { d with cnv := { d.cnv with ctr := bump d.cnv.ctr i n } }

/-- R232: a fade runs in tick `k`. -/
def CnvOut.fading (o : CnvOut) (k : Nat) : Bool :=
  match o.fade with
  | some (j, f) => decide (k < j + f)
  | none => false

/-- R226: a bank is busy in tick `k`. -/
def CnvOut.busy (o : CnvOut) (k : Nat) (b : Bool) : Bool :=
  o.sel == bankNo b || o.fading k || (match o.queued with
    | some q => q.bank == bankNo b
    | none => false)

/-- R231: a queued target that becomes INCOMPLETE is dropped. -/
def Dev.dropQueued (d : Dev) (s : Nat) (b : Bool) : Dev :=
  let o := d.cnvo s
  match o.queued with
  | some q => if q.bank = bankNo b then
      ((d.setCnvo s { o with queued := none }).cnvCount 5 1).raise 0x8A03 255 (le 2 s ++ le 1 (bankNo b) ++ zb 1) else d
  | none => d

/-- R224, R236: a bank becomes INCOMPLETE. -/
def Dev.bankIncomplete (d : Dev) (s : Nat) (b lost : Bool) : Dev :=
  let o := d.cnvo s
  let x := o.bank b
  (d.setCnvo s (o.setBank b { x with st := .incomplete, t2Lost := x.t2Lost || lost, committing := none })).dropQueued s b

/-! ## Frames (R215, R216, R220, R237) -/

/-- z[n] of an output, where `top` is the index after the newest sample. -/
def CnvOut.zAt (o : CnvOut) (top : Nat) (n : Int) : Int :=
  if n < 0 ∨ (top : Int) ≤ n then 0 else o.z.getD (top - 1 - n.toNat) 0

/-- The words of a list named by `dead` read zero. -/
def killWords (dead : List Nat) (w : List Int) : List Int := dead.foldl (fun w i => setAt w i 0) w

/-- R216: result of output frame `f` of a tier for a bank: P values. `t2` names the tier. -/
def tierFrame (t2 : Bool) (rate top f : Nat) (o : CnvOut) (b : Bank) : List Int :=
  let st := if t2 then 11 else 8
  let n := 2 ^ st
  let p := n / 2
  let parts := if t2 ∧ 2 ≤ rate then 6 else 14
  let add := fun (q : Nat) (s : List (Int × Int)) =>
    let h := (rangeFrom (2 * p + p * q) p).map b.tap
    if h.all (· == 0) then s
    else
      let g : Int := (f : Int) - 2 - q
      let u := (rangeFrom 0 n).map (fun i => o.zAt top (p * g - p + i))
      let dead := if t2 then [] else (o.deadH.filter (fun w => decide ((w.1 : Int) = g))).map Prod.snd
      let deadC := (b.dead.filter (fun w => w.1 == (if t2 then 2 else 1) && w.2.1 == q)).map (fun w => w.2.2)
      let x := killWords dead (spectrum st (if t2 then 15 else 12) u)
      let hq := killWords deadC (spectrum st (if t2 then 10 else 7) (h ++ List.replicate p 0))
      mulAcc s (unpack n x) (unpack n hq)
  tierOut st (if t2 then 16 else 19) (forRun add (rangeFrom 0 parts) (List.replicate (p + 1) (0, 0)))

/-- R228: the bank's frames are computed. -/
def Bank.live (b : Bank) : Bool := b.st == .ready || b.st == .incomplete

/-- R220: tier-1 frames of output frame `f` for one output. -/
def t1Frame (f s : Nat) (d : Dev) : Dev :=
  let o := d.cnvo s
  let y := [false, true].foldl (fun t k => let b := o.bank k
    tput [] t (bankNo k) (if b.live && decide (256 < b.taps) then tierFrame false d.rate (128 * f) f o b else [])) []
  d.setCnvo s { o with y1 := y, deadH := o.deadH.filter (fun w => decide (f < w.1 + 16)) }

/-- R220, R234, R237: tier-2 frames of output frame `f` for one output; `inFade` scales the first frame after a return. -/
def t2Frame (f : Nat) (inFade : Bool) (s : Nat) (d : Dev) : Dev :=
  let o := d.cnvo s
  let y := [false, true].foldl (fun t k => let b := o.bank k
    let v := if b.live && d.needsT2 b && !b.t2Lost && d.cnv.frameOk && o.t2Late != some f then tierFrame true d.rate (1024 * f) f o b else []
    let v := if inFade then ((rangeFrom 1 1024).zip v).map (fun c => rne (c.2 * (c.1 : Int)) 1024) else v
    tput [] t (bankNo k) v) []
  d.setCnvo s { o with y2 := y }

/-- R237: frames between the oldest history frame an output frame reads and itself. -/
def t2Depth (rate : Nat) : Nat := if rate < 2 then 15 else 7

/-- R220, R234, R237: at T_{64f-1} the window of frame `f` closes and the next one opens. -/
def t2Close (f : Nat) (d : Dev) : Dev :=
  let c := d.cnv
  let gate := match c.t2From with
    | some g => decide (g + t2Depth d.rate ≤ f)
    | none => !c.t2Wait
  let first := gate && c.t2From.isSome
  let d := { d with cnv := { c with frameOk := c.t2In && !c.t2Bad && gate, t2From := if first then none else c.t2From } }
  let d := forRun (t2Frame f first) (d.cnv.out.map Prod.fst) d
  let c := d.cnv
  { d with cnv := { c with
    t2Bad := !c.t2In
    t2From := if c.t2In && c.t2Wait then some (f - 1) else c.t2From
    t2Wait := c.t2Wait && !c.t2In } }

/-- CNV_T2_FRAME_DEADLINE (R220): the frame whose window closes at the coming boundary is not complete. -/
def t2Miss (s f : Nat) (d : Dev) : Dev :=
  let o := d.cnvo s
  if d.tim.tick + 2 = 64 * f ∧ d.cnv.t2In ∧ o.t2Late ≠ some f ∧ [false, true].any (fun k => (o.bank k).live && d.needsT2 (o.bank k)) then
    (d.setCnvo s { o with t2Late := some f }).cnvCount 0 64
  else d

/-- CNV_T2_FRAME_DEADLINE. -/
def execCnvT2FrameDeadline (out frame : Nat) (s : State) : Host.Outcome State Fault Refusal := run (decide (out < 512)) (t2Miss out frame) s

/-! ## The tick (R231, R234, R239) -/

/-- R239: a start at block `j` clears every history and result. -/
def cnvStart (j : Nat) (d : Dev) : Dev :=
  let warm := fun (b : Bank) => { b with warm := 0 }
  let clr := fun (x : Nat × CnvOut) => (x.1, { x.2 with z := [], deadH := [], y1 := [], y2 := [], t2Late := none, a := warm x.2.a, b := warm x.2.b })
  { d with cnv := { d.cnv with
    out := (d.cnv.out.map clr).filter (fun (x : Nat × CnvOut) => x.2 != ({} : CnvOut))
    startN := 16 * j, t2From := none, t2Wait := false, frameOk := d.cnv.t2In, t2Bad := !d.cnv.t2In } }

/-- R239: a stop ends every fade and applies every queued request. -/
def cnvStop (d : Dev) : Dev :=
  let end_ := fun (x : Nat × CnvOut) => (x.1, { x.2 with fade := none, queued := none, sel := match x.2.queued with
    | some q => q.bank
    | none => x.2.sel })
  { d with cnv := { d.cnv with out := (d.cnv.out.map end_).filter (fun (x : Nat × CnvOut) => x.2 != ({} : CnvOut)) } }

/-- R231, R232: at T_k a fade that has ended is over, and a request queued for block `m` begins. -/
def cnvSwap (k m s : Nat) (d : Dev) : Dev :=
  let o := d.cnvo s
  let o := match o.fade with
    | some (j, f) => if j + f ≤ k then { o with fade := none } else o
    | none => o
  match o.queued with
  | some q =>
    if q.block ≤ m then
      if q.bank = o.sel then d.setCnvo s { o with queued := none }
      else (d.setCnvo s { o with queued := none, sel := q.bank, fade := some (m, q.fade) }).cnvCount 4 1
    else d.setCnvo s o
  | none => d.setCnvo s o

/-- R234: DEGRADED of an output. -/
def cnvFlag (s : Nat) (d : Dev) : Dev :=
  let o := d.cnvo s
  d.setCnvo s { o with degraded := o.used.any (fun k => d.needsT2 (o.bank k) && (!d.cnv.frameOk || (o.bank k).t2Lost)) }

/-- CNV at T_k, for block k + 1. -/
def cnvTick (k : Nat) (d : Dev) : Dev :=
  let m := k + 1
  let u := d.unit 2 0
  let d := if u.startBlk = some m then cnvStart m d else d
  let os := d.cnv.out.map Prod.fst
  if !u.emits m then d
  else
    let d := forRun (cnvSwap k m) os d
    let d := if m % 8 = 0 then forRun (t1Frame (m / 8)) os d else d
    let d := if m % 64 = 0 then t2Close (m / 64) d else d
    forRun cnvFlag os d

/-- R214: the taps of T0. -/
def Bank.head (b : Bank) : Tbl Int := if b.st = .empty then [(0, 2 ^ 30)] else b.h.filter (fun x => decide (x.1 < 256))

/-- R217: Y[n] of a bank at sample `n`. -/
def bankY (o : CnvOut) (b : Bool) (n : Nat) : Int :=
  let y0 := sumI ((o.bank b).head.map (fun x => x.2 * o.zAt (n + 1) (n - x.1)))
  rne y0 (2 ^ 30) + (tget [] o.y1 (bankNo b)).getD (n % 128) 0 + (tget [] o.y2 (bankNo b)).getD (n % 1024) 0

/-- R217, R232, R239: y of an output at sample `i` of block `m`, and 1 where it saturates. -/
def cnvY (o : CnvOut) (u : FUnit) (m i : Nat) : Int × Nat :=
  let n := 16 * m + i
  let sel := o.sel == 1
  let v := match o.fade with
    | some (j, f) =>
      if j ≤ m ∧ m < j + f then
        let c : Int := (16 * (m - j) + i + 1 : Nat)
        rne ((16 * f - c) * bankY o (!sel) n + c * bankY o sel n) (16 * f)
      else bankY o sel n
    | none => bankY o sel n
  let y := satI 36 v
  (if u.factor m i = 256 then y else rne (y * u.factor m i) 256, b01 (y != v))

/-- R211: CNV takes the 16 values z of output `s` in block `m` and returns y. -/
def cnvBlock (s m : Nat) (z : List Int) (d : Dev) : List Int × Dev :=
  let u := d.unit 2 0
  if !u.emits m then (List.replicate 16 0, d)
  else
    let o := d.cnvo s
    let push := fun (x : Int) (o : CnvOut) => if x = 0 ∧ o.z.isEmpty then o else { o with z := (x :: o.z).take 17424 }
    let r := z.zipIdx.foldl (fun (a : List Int × Nat × CnvOut) x =>
      let o := push x.1 a.2.2
      let y := cnvY o u m x.2
      (a.1 ++ [y.1], a.2.1 + y.2, o)) (([] : List Int), 0, o)
    let d := d.setCnvo s r.2.2
    (r.1, if r.2.1 = 0 then d else d.cnvCount 1 r.2.1)

/-- 17 Table 17.1: trim-delay word `i` of an output reads as zero. -/
def trimEcc (s i : Nat) (d : Dev) : Dev :=
  let o : OutCh := tget {} d.out.ch s
  { d with out := { d.out with ch := tput {} d.out.ch s { o with hist := setAt o.hist i 0 } } }

/-- R224: an error in a word of an output's on-chip memory. -/
def cnvEcc (s : Nat) (w : CnvWord) (double : Bool) (d : Dev) : Dev :=
  if let .trim i := w then (if double then trimEcc s i d else d)
  else if !double then d.cnvCount 2 1
  else
    let d := d.cnvCount 3 1
    let o := d.cnvo s
    let kill := fun (b : Bool) (x : Nat × Nat × Nat) =>
      let k := o.bank b
      if k.st = .empty then d
      else ((d.setCnvo s (o.setBank b { k with dead := k.dead ++ [x], h := if x.1 = 0 then tdel k.h x.2.2 else k.h })).bankIncomplete s b false).raise
        0x8A02 255 (le 2 s ++ le 1 (bankNo b) ++ zb 1)
    match w with
    | .tap b k => kill b (0, 0, k)
    | .coef b q i => kill b (1, q, i)
    | .hist g i => d.setCnvo s { o with deadH := o.deadH ++ [(g, i)] }
    | .trim _ => d

/-! ## Tier-2 service (R222, R223, R233, R236) -/

/-- 13 Table 13.1: U in MiB. -/
def usableMiB (density : Nat) (ranks2 : Bool) : Nat :=
  let u := match density with
    | 0 => 3584
    | 1 => 5376
    | 2 => 7168
    | 3 => 10752
    | _ => 14336
  if ranks2 then 2 * u else u

/-- R222: a region lies inside U. -/
def Dev.regionIn (d : Dev) (base : Nat) : Bool := decide (base + 168 ≤ usableMiB d.drc.density d.drc.ranks2)

/-- R233: what DRC and the region give tier 2. -/
def Dev.t2Allowed (d : Dev) : Bool := d.drc.cond == .inService && (d.unit 9 0).st == .running && d.regionIn d.cnv.t2Base

/-- R233, R236: tier 2 follows DRC: it goes out of service, or its verification begins. -/
def Dev.t2Check (d : Dev) : Dev :=
  if !d.t2Allowed then d.t2Out
  else if d.cnv.t2In || d.cnv.verifying then d
  else { d with cnv := { d.cnv with verifying := true } }

/-- CNV_VERIFY_DONE (R236): `failed` names the banks whose area failed its CRC. -/
def verifyDone (failed : List (Nat × Nat)) (d : Dev) : Dev :=
  if !d.cnv.verifying then d
  else
    let d := failed.foldl (fun d x =>
      let b := x.2 == 1
      let k := (d.cnvo x.1).bank b
      if x.1 < 512 ∧ k.st = .ready ∧ 2048 < k.taps then
        ((d.bankIncomplete x.1 b true).cnvCount 7 1).raise 0x8A01 255 (le 2 x.1 ++ le 1 (bankNo b) ++ zb 1)
      else d) d
    let d := { d with cnv := { d.cnv with verifying := false, t2In := true, t2Wait := true, t2From := none } }
    d.raiseSev 0x8A00 0 1 (le 1 0 ++ zb 1 ++ le 2 d.degCount)

/-- CNV_VERIFY_DONE. -/
def execCnvVerifyDone (failed : List (Nat × Nat)) (s : State) : Host.Outcome State Fault Refusal := run true (verifyDone failed) s

/-! ## Uploads (R227, R229) -/

/-- R228: the warm block of a bank READY in tick `c`. -/
def warmBlock (c : Nat) (t2 : Bool) : Nat :=
  let w1 := 8 * (ceilDiv (c + 2) 8 + 1)
  if t2 then max w1 (64 * (ceilDiv (c + 2) 64 + 1)) else w1

/-- R229: table `e`. -/
def Dev.preeqOf (d : Dev) (e : Nat) : List Int := tget [2 ^ 30] d.cnv.preeq e

/-- R229: the folded taps, before they are cut to TAPS_MAX: tap `k`. -/
def foldTap (e : List Int) (b : Bank) (k : Nat) : Int :=
  satI 32 (rne (sumI (e.zipIdx.map (fun x => if x.2 ≤ k ∧ k - x.2 < b.want then x.1 * tget 0 b.h (k - x.2) else 0))) (2 ^ 30))

/-- R229: TAPS and TRUNCATED of a bank to be committed. -/
def Dev.folded (d : Dev) (b : Bank) : Nat × Nat :=
  let n := if b.preeq = 255 then b.want else b.want + (d.preeqOf b.preeq).length - 1
  (min n (tapsMax d.rate), n - tapsMax d.rate)

/-- R229: the bank with its taps folded. -/
def Dev.foldBank (d : Dev) (b : Bank) : Bank :=
  let n := d.folded b
  let h := if b.preeq = 255 then b.h else forRun (fun k t => tput 0 t k (foldTap (d.preeqOf b.preeq) b k)) (rangeFrom 0 n.1) []
  { b with h := h, taps := n.1, committing := some n.2 }

/-- Key of a commit that awaits BANK_READY. -/
def commitKey (s : Nat) (b : Bool) : Nat × Nat := (0x0A12, 2 * s + bankNo b)

/-- BANK_READY (R227, R228, R237). -/
def bankReady (s : Nat) (b : Bool) (d : Dev) : Dev :=
  let o := d.cnvo s
  let k := o.bank b
  match k.committing with
  | none => d
  | some trunc =>
    if d.needsT2 k && !d.cnv.t2In then
      let d := (d.bankIncomplete s b true).raise 0x8A01 255 (le 2 s ++ le 1 (bankNo b) ++ zb 1)
      d.finish 0x0A12 (2 * s + bankNo b) 0x103 []
    else
      let w := warmBlock d.tim.tick (d.needsT2 k)
      let d := d.setCnvo s (o.setBank b { k with st := .ready, committing := none, warm := w })
      d.finish 0x0A12 (2 * s + bankNo b) 0 (le 4 k.taps ++ le 4 trunc ++ le 8 w)

/-- BANK_READY. -/
def execBankReady (out bank : Nat) (s : State) : Host.Outcome State Fault Refusal :=
  run (decide (out < 512) && decide (bank < 2)) (bankReady out (bank == 1)) s

/-- An upload is abandoned: a commit that awaits its bank fails. -/
def Dev.abandon (d : Dev) (s : Nat) (b : Bool) : Dev := d.finish 0x0A12 (2 * s + bankNo b) 0x10C []

/-! ## Commands (Table 8.12) -/

/-- 0x0A00 CNV_CONFIG. -/
def cmdCnvConfig : Cmd := cmdA 0x0A00 fun _ p d =>
  let base := u16 p 2
  checks [(p.length != 8, 0x101), (decide (1 < u8 p 0) || rsv p 1 1 || rsv p 4 4 || (!d.standby && !d.regionIn base), 0x102),
          (d.retired 2 0, 0x109), (!d.stopped 2 0, 0x103)] d
    (ok (Dev.t2Check { d with cnv := { d.cnv with t2En := u8 p 0 == 1, t2Base := base } }))

/-- Table 8.9: CNV_STATUS. -/
def Dev.cnvStatus (d : Dev) : Nat :=
  let t := if !d.cnv.t2En then 3 else if d.cnv.t2In then 0 else if d.cnv.verifying then 1 else 2
  (d.unit 2 0).st.code + fld t 3 + fld (d.cnv.out.filter (fun o => o.2.degraded)).length 16

/-- Table 8.9: counter `i`, 8 CNV_LOAD. -/
def Dev.cnvCtr (d : Dev) (i : Nat) : Nat :=
  if i = 8 then (if (d.unit 2 0).emits d.tim.tick then Config.cnvLoad d.tim.tick % 2 ^ 32 else 0) else (tget 0 d.cnv.ctr i).toNat

/-- 0x0A01 CNV_STATUS_GET. -/
def cmdCnvStatusGet : Cmd := cmdL 0x0A01 fun _ p d =>
  checks [(p.length != 0, 0x101)] d (okData (words (d.cnvStatus :: (rangeFrom 0 9).map d.cnvCtr)) d)

/-- 0x0A10 CNV_COEF_BEGIN. -/
def cmdCnvCoefBegin : Cmd := cmdA 0x0A10 fun _ p d =>
  let s := u16 p 0
  let b := u8 p 2 == 1
  let e := u8 p 3
  let n := u32 p 4
  let o := d.cnvo s
  let bad := decide (511 < s) || decide (1 < u8 p 2) || (decide (7 < e) && e != 255) || n == 0 || decide (tapsMax d.rate < n) || rsv p 12 4
  let x : Bank := { st := .loading, taps := n, want := n, crc := u32 p 8, preeq := e }
  checks [(p.length != 16, 0x101), (bad, 0x102), (d.retired 2 0, 0x109), (o.busy d.tim.tick b, 0x10B)] d
    (ok ((d.setCnvo s ({ o with y1 := tdel o.y1 (bankNo b), y2 := tdel o.y2 (bankNo b) }.setBank b x)).abandon s b))

/-- The taps a CNV_COEF_WRITE or CNV_PREEQ_SET carries. -/
def tapsOf (p : Bytes) (o n : Nat) : List Int := (rangeFrom 0 n).map (fun i => s32 p (o + 4 * i))

/-- 0x0A11 CNV_COEF_WRITE. -/
def cmdCnvCoefWrite : Cmd := cmdA 0x0A11 fun _ p d =>
  let s := u16 p 0
  let b := u8 p 2 == 1
  let f := u32 p 4
  let n := u32 p 8
  let o := d.cnvo s
  let x := o.bank b
  let v := tapsOf p 12 n
  let next := f == x.next && decide (f + n ≤ x.want)
  let same := decide (f + n ≤ x.next) && (v.zipIdx.all (fun c => tget 0 x.h (f + c.2) == c.1))
  checks [(decide (p.length < 12) || p.length != 12 + 4 * n, 0x101), (decide (511 < s) || decide (1 < u8 p 2) || rsv p 3 1 || n == 0, 0x102),
          (d.retired 2 0, 0x109), (o.busy d.tim.tick b, 0x10B), (x.st != .loading || x.committing.isSome, 0x103), (!next && !same, 0x102),
          (next && decide (2048 < f + n) && !d.cnv.t2In && !d.standby, 0x103)] d
    (ok (if next then
      d.setCnvo s (o.setBank b { x with h := v.zipIdx.foldl (fun t c => tput 0 t (f + c.2) c.1) x.h, next := f + n }) else d))

/-- R227: the CRC-32 of a bank's taps. -/
def Bank.tapCrc (b : Bank) : Nat := crc32 ((rangeFrom 0 b.want).flatMap (fun k => leI 4 (tget 0 b.h k)))

/-- 0x0A12 CNV_COEF_COMMIT: a CRC failure leaves the bank INCOMPLETE; the response awaits BANK_READY. On a standby without tier 2
the bank is left INCOMPLETE (R237). -/
def cmdCnvCoefCommit : Cmd := cmdA 0x0A12 fun _ p d =>
  let s := u16 p 0
  let b := u8 p 2 == 1
  let o := d.cnvo s
  let x := o.bank b
  let t2 := decide (2048 < (d.folded x).1) && !d.cnv.t2In
  let crcBad := x.st == .loading && x.committing.isNone && x.next == x.want && x.tapCrc != x.crc && !o.busy d.tim.tick b
  match firstErr [(p.length != 4, 0x101), (decide (511 < s) || decide (1 < u8 p 2) || rsv p 3 1, 0x102), (d.retired 2 0, 0x109),
          (o.busy d.tim.tick b, 0x10B), (x.st != .loading, 0x103), (x.committing.isNone && x.next != x.want, 0x10C), (crcBad, 0x102),
          (x.committing.isNone && t2 && !d.standby, 0x103)] with
  | some e => if e = 0x102 ∧ crcBad ∧ p.length = 4 ∧ s ≤ 511 ∧ u8 p 2 ≤ 1 ∧ ¬ rsv p 3 1 ∧ ¬ d.retired 2 0 then
      no e (d.bankIncomplete s b false) else no e d
  | none =>
    if x.committing.isSome then later (commitKey s b) [] d
    else if t2 then ok ((d.bankIncomplete s b true).raise 0x8A01 255 (le 2 s ++ le 1 (bankNo b) ++ zb 1))
    else later (commitKey s b) [] (d.setCnvo s (o.setBank b (d.foldBank x)))

/-- 0x0A13 CNV_COEF_CLEAR. -/
def cmdCnvCoefClear : Cmd := cmdA 0x0A13 fun _ p d =>
  let s := u16 p 0
  let b := u8 p 2 == 1
  let o := d.cnvo s
  checks [(p.length != 4, 0x101), (decide (511 < s) || decide (1 < u8 p 2) || rsv p 3 1, 0x102), (d.retired 2 0, 0x109),
          (o.busy d.tim.tick b, 0x10B)] d
    (ok ((d.setCnvo s ({ o with y1 := tdel o.y1 (bankNo b), y2 := tdel o.y2 (bankNo b) }.setBank b {})).abandon s b))

/-- R231: what a request does to an output: 0 NOOP, 1 started, 2 queued behind a fade, with its start block. -/
def CnvOut.request (o : CnvOut) (tick bank j : Nat) (runs : Bool) : Nat × Nat :=
  if !runs then (if bank = o.sel then (0, j) else (1, j))
  else if bank = o.sel ∧ (o.fading tick ∨ o.queued.isNone) then (0, j)
  else match o.fade with
    | some (f0, f) => if j < f0 + f then (2, f0 + f) else (1, j)
    | none => (1, j)

/-- R231: the status that refuses a request of one output. -/
def Dev.switchErr (d : Dev) (bank j : Nat) (runs : Bool) (s : Nat) : Option Nat :=
  let o := d.cnvo s
  let b := o.bank (bank == 1)
  let r := o.request d.tim.tick bank j runs
  if r.1 = 0 then none
  else if runs ∧ b.st = .ready ∧ r.2 < b.warm then some 0x104
  else if b.st = .loading ∨ b.st = .incomplete then some 0x10C
  else none

/-- R230, R231: applies a request to one output. -/
def switchOne (bank j fade : Nat) (runs : Bool) (s : Nat) (d : Dev) : Dev :=
  let o := d.cnvo s
  let r := o.request d.tim.tick bank j runs
  if !runs then d.setCnvo s { o with sel := bank, fade := none, queued := none }
  else if r.1 = 0 then d
  else d.setCnvo s { o with queued := some { bank := bank, block := r.2, fade := fade } }

/-- 0x0A20 CNV_SWITCH. -/
def cmdCnvSwitch : Cmd := { cmdA 0x0A20 (fun c p d =>
  let f := u16 p 0
  let n := u16 p 2
  let bank := u8 p 4
  let fade := u16 p 6
  let cancel := u8 p 5 == 1
  let u := (d.unit 2 0).st
  let runs := u == .running || u == .starting
  let j := c.blk.getD (c.vt + 2)
  let os := rangeFrom f n
  let bad := n == 0 || decide (512 < f + n) || decide (1 < bank) || decide (1 < u8 p 5) || fade == 0 || decide (1024 < fade)
  let err := if cancel then none else (firstFail (d.switchErr bank j runs) 0 os).map Prod.snd
  let count := fun k => (os.filter (fun s => ((d.cnvo s).request d.tim.tick bank j runs).1 == k)).length
  checks [(p.length != 8, 0x101), (bad, 0x102), (d.retired 2 0, 0x109), (err.isSome, err.getD 0)] d
    (if cancel then
      let hit := os.filter (fun s => (d.cnvo s).queued.isSome)
      okData (zb 6 ++ le 2 hit.length) (forRun (fun s d => d.setCnvo s { d.cnvo s with queued := none }) hit d)
    else okData (le 2 (count 1) ++ le 2 (count 2) ++ le 2 (count 0) ++ zb 2) (forRun (switchOne bank j fade runs) os d))) with
  batch := true, timed := true }

/-- Table 8.11: CNV_OUTs_STATE. -/
def Dev.cnvOutState (d : Dev) (s : Nat) : Nat :=
  let o := d.cnvo s
  let code := fun (b : Bank) => match b.st with
    | .empty => 0
    | .loading => 1
    | .incomplete => 2
    | .ready => 3
  let left := match o.fade with
    | some (j, f) => if d.tim.tick < j + f then min f (j + f - d.tim.tick) else 0
    | none => 0
  let run := o.fading d.tim.tick
  o.sel + fld (b01 run) 2 + fld (b01 (o.used.any (fun k => d.needsT2 (o.bank k)))) 4 + fld (b01 o.degraded) 5
  + fld (b01 o.queued.isSome) 6 + fld (match o.queued with
    | some q => q.bank
    | none => 0) 7 + fld (code o.a) 8 + fld (code o.b) 12 + fld left 16

/-- 0x0A21 CNV_OUT_STATUS. -/
def cmdCnvOutStatus : Cmd := cmdL 0x0A21 fun _ p d =>
  let f := u16 p 0
  let n := u16 p 2
  let ent := fun s => let o := d.cnvo s
    le 4 (d.cnvOutState s) ++ le 2 o.a.taps ++ le 2 o.b.taps ++ le 8 (match o.queued with
      | some q => q.block
      | none => 0) ++ le 4 o.a.crc ++ le 4 o.b.crc
  checks [(p.length != 4, 0x101), (n == 0 || decide (512 < f + n), 0x102)] d (okData ((rangeFrom f n).flatMap ent) d)

/-- 0x0A30 CNV_PREEQ_SET. -/
def cmdCnvPreeqSet : Cmd := cmdA 0x0A30 fun _ p d =>
  let e := u8 p 0
  let n := u16 p 2
  checks [(decide (p.length < 4) || p.length != 4 + 4 * n, 0x101), (decide (7 < e) || rsv p 1 1 || n == 0 || decide (256 < n), 0x102)] d
    (ok { d with cnv := { d.cnv with preeq := tput [2 ^ 30] d.cnv.preeq e (tapsOf p 4 n) } })

/-- 0x0A31 CNV_TWIDDLE_GET. -/
def cmdCnvTwiddleGet : Cmd := cmdL 0x0A31 fun _ p d =>
  let f := u16 p 0
  let n := u16 p 2
  checks [(p.length != 4, 0x101), (n == 0 || decide (1024 < f + n), 0x102)] d
    (okData ((rangeFrom f n).flatMap (fun m => leI 4 (twiddle m).1 ++ leI 4 (twiddle m).2)) d)

/-- CNV_CONFIG. -/
def execCnvConfig (r : AcpReq) (s : State) : Host.Outcome State Fault Refusal := run true (acpTake cmdCnvConfig r) s
/-- CNV_STATUS_GET. -/
def execCnvStatusGet (r : AcpReq) (s : State) : Host.Outcome State Fault Refusal := run true (acpTake cmdCnvStatusGet r) s
/-- CNV_COEF_BEGIN. -/
def execCnvCoefBegin (r : AcpReq) (s : State) : Host.Outcome State Fault Refusal := run true (acpTake cmdCnvCoefBegin r) s
/-- CNV_COEF_WRITE. -/
def execCnvCoefWrite (r : AcpReq) (s : State) : Host.Outcome State Fault Refusal := run true (acpTake cmdCnvCoefWrite r) s
/-- CNV_COEF_COMMIT. -/
def execCnvCoefCommit (r : AcpReq) (s : State) : Host.Outcome State Fault Refusal := run true (acpTake cmdCnvCoefCommit r) s
/-- CNV_COEF_CLEAR. -/
def execCnvCoefClear (r : AcpReq) (s : State) : Host.Outcome State Fault Refusal := run true (acpTake cmdCnvCoefClear r) s
/-- CNV_SWITCH. -/
def execCnvSwitch (r : AcpReq) (s : State) : Host.Outcome State Fault Refusal := run true (acpTake cmdCnvSwitch r) s
/-- CNV_OUT_STATUS. -/
def execCnvOutStatus (r : AcpReq) (s : State) : Host.Outcome State Fault Refusal := run true (acpTake cmdCnvOutStatus r) s
/-- CNV_PREEQ_SET. -/
def execCnvPreeqSet (r : AcpReq) (s : State) : Host.Outcome State Fault Refusal := run true (acpTake cmdCnvPreeqSet r) s
/-- CNV_TWIDDLE_GET. -/
def execCnvTwiddleGet (r : AcpReq) (s : State) : Host.Outcome State Fault Refusal := run true (acpTake cmdCnvTwiddleGet r) s

end Sys2Proof.Machine
end

