-- ==== Sys2Proof/Machine/Output.lean ====
section
/-! DEFINITION. The output stage (09): the chain of one block, guarded CRCs and meters, with the commands 0x0Bxx. -/

namespace Sys2Proof.Machine

/-- Output `s`. -/
def Dev.outCh (d : Dev) (s : Nat) : OutCh := tget {} d.out.ch s
/-- Writes output `s`. -/
def Dev.setOut (d : Dev) (s : Nat) (o : OutCh) : Dev := { d with out := { d.out with ch := tput {} d.out.ch s o } }

/-! ## Live settings (01 R32, R36) -/

/-- 01 R32: the setting in force for block `m`. -/
def Live.val {α : Type} (x : Live α) (m : Nat) : α := if m < x.at_ then x.cur else x.nxt

/-- 01 R32: a setting that applies from block `m` on. -/
def Live.set {α : Type} (x : Live α) (v : α) (m : Nat) : Live α :=
  if m < x.at_ then { x with cur := v } else if m = x.at_ then { x with nxt := v } else { cur := x.nxt, nxt := v, at_ := m }

/-- 01 R36, R242, R248: the first block of a setting named for block `b`: one stored while the layout stops or is stopped waits
for its next start. -/
def Dev.liveBlk (d : Dev) (s b : Nat) : Nat :=
  let u := d.unit 1 (d.layOf s)
  match u.st with
  | .stopped => 0
  | .stopping => match u.stopBlk with
    | some x => max b (x + 1)
    | none => b
  | _ => b

/-! ## The chain (Table 9.1) -/

/-- R242: z' of a ring value `P` in units of 2^-59 under gain `g`, with the samples it saturates. -/
def trimSample (neg : Bool) (g P : Int) : Int × Nat :=
  let a := rne (P * g) (2 ^ 56)
  let z := satI 36 a
  if neg then (satI 36 (-z), b01 (z != a) + b01 (satI 36 (-z) != -z)) else (z, b01 (z != a))

/-- R244: r[n]. -/
def limR (ceil : Nat) (y : Int) : Nat := if y.natAbs ≤ ceil then 2 ^ 31 else ceil * 2 ^ 31 / y.natAbs

/-- R244: t of a sample whose required gains from itself on are the list. -/
def limT : Nat → List Nat → Nat → Nat
  | 0, _, t => t
  | _, [], t => t
  | f + 1, r :: rs, t => limT f rs (min t (r + (8 - f) * (2 ^ 31 - r) / 9))

/-- R244: the limiter over the rest of a block: outputs with their gains. -/
def limGo (release : Nat) : List Int → List Nat → Nat → List (Int × Nat)
  | y :: ys, r :: rs, g =>
    let g := min (limT 9 (r :: rs) (2 ^ 31)) (min (g + release) (2 ^ 31))
    (rne (y * g) (2 ^ 31), g) :: limGo release ys rs g
  | _, _, _ => []

/-- R247: C(k). -/
def pilotC (k : Nat) : Int := if k % 2048 < 1024 then (twiddle (k % 2048)).1 else -(twiddle (k % 2048 - 1024)).1

/-- R247: the pilot value at instant `t`, 2^-16 ns. -/
def pilotAt (freq amp t : Nat) : Int :=
  let th := rneN (freq * t) (10 ^ 9) % 2 ^ 32
  let i := th / 2 ^ 21
  let c := pilotC i + rne ((th % 2 ^ 21 : Nat) * (pilotC (i + 1) - pilotC i)) (2 ^ 21)
  rne (amp * c) (2 ^ 30)

/-- R248: M moves one sample towards its target. -/
def muteStep (m target k : Nat) : Nat :=
  let st := 2 ^ (20 - k)
  if m < target then min target (m + st) else if target + st < m then m - st else target

/-- R248: M of the 16 samples of a block. -/
def muteRamp (target k : Nat) : Nat → Nat → List Nat
  | 0, _ => []
  | n + 1, m =>
    let m := muteStep m target k
    m :: muteRamp target k n m

/-- R251: the generator's z at sample index `n`. -/
def ditherZ (seed n : Nat) : Nat :=
  let z := (seed + n * 0x9E3779B97F4A7C15) % 2 ^ 64
  let z := ((z ^^^ (z / 2 ^ 30)) * 0xBF58476D1CE4E5B9) % 2 ^ 64
  let z := ((z ^^^ (z / 2 ^ 27)) * 0x94D049BB133111EB) % 2 ^ 64
  z ^^^ (z / 2 ^ 31)

/-- R251: d. -/
def ditherD (seed n width : Nat) : Int :=
  let z := ditherZ seed n
  ((z / 2 ^ 32 : Nat) - (z % 2 ^ 32 : Nat) : Int) / 2 ^ width

/-- R251: one sample: its word, e1, e2 and whether the clamp was reached. -/
def ditherOne (mode width seed n : Nat) (x e1 e2 : Int) : Int × Int × Int × Nat :=
  if width = 32 then (x, e1, e2, 0)
  else
    let lsb := 2 ^ (32 - width)
    let d := if mode = 0 then 0 else ditherD seed n width
    let w := if mode = 2 then x + d - 2 * e1 + e2 else x + d
    let q := lsb * rne w lsb
    let o := min (max q (-(2 ^ 31))) (2 ^ 31 - (lsb : Int))
    if mode = 2 then (o, q - w, e1, b01 (o != q)) else (o, e1, e2, b01 (o != q))

/-- R251: a block from sample index `n`: words, e1, e2 and clamps. -/
def ditherGo (mode width seed : Nat) : Nat → List Int → Int → Int → List Int × Int × Int × Nat
  | _, [], e1, e2 => ([], e1, e2, 0)
  | n, x :: r, e1, e2 =>
    let a := ditherOne mode width seed n x e1 e2
    let b := ditherGo mode width seed (n + 1) r a.2.1 a.2.2.1
    (a.1 :: b.1, b.2.1, b.2.2.1, a.2.2.2 + b.2.2.2)

/-- R251: SEED of output `s`. -/
def OutCh.seedOf (o : OutCh) (s : Nat) : Nat := o.seed.getD (s * 2 ^ 32)

/-- R250: the output is live in block `m`. -/
def Dev.outLive (d : Dev) (s m : Nat) : Bool :=
  (d.unit 1 (d.layOf s)).emits m && (d.unit 0 0).emits m && (d.unit 2 0).emits m && (match (d.outCh s).retBlk with
    | some b => decide (m ≤ b)
    | none => true)

/-- R250: numerator over 2^24 of the pilot's scale. -/
def Dev.pilotScale (d : Dev) (s m i : Nat) : Nat :=
  (d.unit 1 (d.layOf s)).factor m i * (d.unit 0 0).factor m i * (d.unit 2 0).factor m i

/-- 16 R420: numerator over 16 of the fade-in of a takeover. -/
def Dev.takeFactor (d : Dev) (s m i : Nat) : Nat :=
  match d.pair.fadeIn with
  | some (b, all) => if m = b ∧ (all ∨ ¬ d.guarded s) then i else 16
  | none => 16

/-! ## Meters (R257) -/

/-- R257: the greatest `n` of `lo` to `lo + 2^f - 1` at or below 256 x 10 log10(num / den), rounded. -/
def dbGo (a b : Nat) : Nat → Int → Int
  | 0, lo => lo
  | f + 1, lo =>
    let n := lo + 2 ^ f
    let e := 2 * n - 1
    if (if 0 ≤ e then b * 10 ^ e.toNat ≤ a else b ≤ a * 10 ^ (-e).toNat) then dbGo a b f n else dbGo a b f lo

/-- R257: round(256 x 10 log10(num / den)), not below -32,768. -/
def dbOf (num den : Nat) : Int := if num = 0 ∨ den = 0 then -32768 else dbGo (num ^ 5120) (den ^ 5120) 17 (-32768)

/-- R257: start of the window that holds block `m`. -/
def OutCh.window (o : OutCh) (m : Nat) : Nat := m / o.mN * o.mN

/-- R257: the taps of one block reach the meter. -/
def OutCh.meter (o : OutCh) (m : Nat) (live : Bool) (x : List Int) (g : Nat) : OutCh :=
  let w := o.window m
  if w < o.mFrom then o
  else
    let o := if o.mStart = some w then o else { o with mStart := some w, mMax := 0, mSum := 0, mCnt := 0, mGain := 2 ^ 31 }
    { o with
      mMax := max o.mMax (maxN (x.map Int.natAbs)), mSum := o.mSum + (x.map (fun v => v.natAbs * v.natAbs)).sum
      mCnt := o.mCnt + b01 live, mGain := min o.mGain g }

/-- METER_WINDOW_END (R257): the window of the block last handed over has ended. The gain reduction of a gain of 0 is free. -/
def meterEnd (s : Nat) (d : Dev) : Dev :=
  let o := d.outCh s
  match d.out.block with
  | none => d
  | some b =>
    let w := o.window b
    if (b + 1) % o.mN ≠ 0 ∨ w < o.mFrom then d
    else
      let o := if o.mStart = some w then o else { o with mMax := 0, mSum := 0, mCnt := 0, mGain := 2 ^ 31 }
      let n := o.mN * (if o.mTap = 2 ∧ (d.outRoute s).engine ≠ 15 then 8 else 16)
      let g := if o.mGain = 0 then d.draw else (0, d)
      let gr := if o.mGain = 0 then Config.freeWord g.1 % 65536 else (dbOf (2 ^ 62) (o.mGain * o.mGain)).toNat
      g.2.setOut s { o with
        mStart := none, mMax := 0, mSum := 0, mCnt := 0, mGain := 2 ^ 31, mBlock := w
        peak := dbOf (o.mMax * o.mMax) (2 ^ 62), rms := dbOf o.mSum (n * 2 ^ 62), gr := gr, valid := o.mCnt == o.mN }

/-- METER_WINDOW_END. -/
def execMeterWindowEnd (out : Nat) (s : State) : Host.Outcome State Fault Refusal := run (decide (out < 512)) (meterEnd out) s

/-! ## One block of one output -/

/-- R258: a start of the layout clears the output's histories; stored settings apply without a ramp. -/
def OutCh.clear (o : OutCh) (m : Nat) : OutCh := { o with
  hist := [], gPrev := 2 ^ 31, e1 := 0, e2 := 0, trimWas := o.trim.val m, m := if (o.mute.val m).1 then 0 else 2 ^ 24 }

/-- R243: the trim delay of one block: z, and the history after it, newest first. -/
def trimDelay (n : Nat) (hist z : List Int) : List Int × List Int :=
  let l := z.reverse ++ hist
  let at_ := fun (i : Nat) => l.getD (15 - i + n) 0
  let h := l.take n
  ((rangeFrom 0 16).map at_, if h.all (· == 0) then [] else h)

/-- Table 9.1, stages 1 to 10 of output `s` in block `m`; `sums` is its ring block. -/
def outOne (m : Nat) (sums : Tbl (List Int)) (s : Nat) (d : Dev) : Dev :=
  let o := d.outCh s
  let o := if (d.unit 1 (d.layOf s)).startBlk = some m then o.clear m else o
  let live := d.outLive s m
  let g1 := o.trim.val m
  let zs := ((fitTo 16 (tget [] sums s)).zipIdx).map (fun p => trimSample o.polarity (rne (16 * o.trimWas + p.2 * (g1 - o.trimWas)) 16) p.1)
  let c1 := (zs.map Prod.snd).sum
  let td := trimDelay o.delay o.hist (zs.map Prod.fst)
  let cv := cnvBlock s m td.1 d
  let d := cv.2
  let lim : List (Int × Nat) := if o.limEn then limGo o.release cv.1 (cv.1.map (limR o.ceil)) o.gPrev else cv.1.map (fun y => (y, 2 ^ 31))
  let q := lim.map (fun (y : Int × Nat) => satI 32 y.1)
  let c2 := (lim.map (fun (y : Int × Nat) => b01 (satI 32 y.1 != y.1))).sum
  let pil := fun (x : Int) (i : Nat) =>
    if o.pilotEn && live then
      satI 32 (x + rne (pilotAt o.pfreq o.pamp (sampleT d.rate (16 * m + i)) * d.pilotScale s m i) (2 ^ 24)) else x
  let tgt := match o.retBlk with
    | some b => if b ≤ m then (true, 0) else o.mute.val m
    | none => o.mute.val m
  let ms := muteRamp (if tgt.1 then 0 else 2 ^ 24) tgt.2 16 o.m
  let x8 := (q.zip ms).zipIdx.map (fun p => rne (pil p.1.1 p.2 * p.1.2 * d.takeFactor s m p.2) (2 ^ 28))
  let down := (d.outRoute s).engine != 15
  let x9 := if down then downConv s m x8 d else (x8, d)
  let d := x9.2
  let di := if live then ditherGo o.dither o.width (o.seedOf s) ((if down then 8 else 16) * m) x9.1 o.e1 o.e2
    else (x9.1.map (fun _ => 0), o.e1, o.e2, 0)
  let o := { o with
    hist := td.2, trimWas := g1, m := ms.getD 15 o.m, e1 := di.2.1, e2 := di.2.2.1, word := di.1, tap := x8
    gPrev := if o.limEn then (lim.getD 15 (0, o.gPrev)).2 else o.gPrev
    clip := o.clip + BitVec.ofNat 32 (c1 + c2 + di.2.2.2)
    limited := o.limited + BitVec.ofNat 32 (lim.filter (fun (y : Int × Nat) => decide (y.2 < 2 ^ 31))).length }
  let tap := match o.mTap with
    | 0 => td.1
    | 1 => q
    | _ => di.1
  d.setOut s (o.meter m live tap ((lim.map Prod.snd).foldl min (2 ^ 31)))

/-- R255: the bytes a guarded CRC runs over. -/
def guardBytes (m s : Nat) (w : List Int) : Bytes := le 8 m ++ le 2 s ++ le 2 w.length ++ w.flatMap (leI 4)

/-- R250, R255: the stage 10 words of output `s`; zeros where its layout does not act. -/
def Dev.outWord (d : Dev) (s : Nat) : List Int :=
  let w := (d.outCh s).word
  if w.isEmpty then List.replicate (if (d.outRoute s).engine = 15 then 16 else 8) 0 else w

/-- R255: slot `k` takes the CRC of block `m`. -/
def guardOne (m k : Nat) (d : Dev) : Dev :=
  let g : Guard := tget {} d.out.gs k
  if g.en then
    { d with out := { d.out with gs := tput {} d.out.gs k { g with block := m, crc := BitVec.ofNat 32 (crc32 (guardBytes m g.out (d.outWord g.out))) } } }
  else d

/-- 16 R422: a standby keeps the words of guarded outputs for its last 16 blocks. -/
def keepWords (d : Dev) : Dev :=
  let gs := (d.out.gs.filter (fun g => g.2.en)).map (fun g => g.2.out)
  if !d.standby then { d with pair := { d.pair with words := [] } }
  else
    let put := fun (s : Nat) (t : Tbl (List Int)) =>
      let w := d.outWord s
      tput [] t s ((w ++ tget [] d.pair.words s).take (16 * w.length))
    { d with pair := { d.pair with words := forRun put gs [] } }

/-- R119, R122: the taps of block `m` reach the detectors that read an output. -/
def feedOutTones (m : Nat) (d : Dev) : Dev :=
  forRun (fun t d =>
    let q := d.tone t
    if q.enable ∧ q.srcKind = 2 then toneFeed t m (fitTo 16 (d.outCh q.src).tap) (d.outLive q.src m) d else d) (d.flt.td.map Prod.fst) d

/-- The chain of block `m` for every output whose layout acts, with guarded CRCs. -/
def outBlock (m : Nat) (d : Dev) : Dev :=
  let r := d.ring m
  let d := r.2
  let outs := (rangeFrom 0 512).filter (fun s => (d.unit 1 (d.layOf s)).emits m)
  let idle := fun (x : Nat × OutCh) => (x.1, if outs.contains x.1 then x.2 else { x.2 with word := [], tap := [] })
  let d := { d with out := { d.out with ch := (d.out.ch.map idle).filter (fun (x : Nat × OutCh) => x.2 != ({} : OutCh)), block := some m } }
  let d := forRun (outOne m r.1) outs d
  let d := forRun (guardOne m) (d.out.gs.map Prod.fst) d
  keepWords (feedOutTones m d)

/-! ## Commands (Table 9.4) -/

/-- Table 9.5: reads an entry. -/
def outEntry (o : OutCh) (p : Bytes) : OutCh := { o with
  polarity := u8 p 0 % 2 == 1, limEn := u8 p 0 / 2 % 2 == 1, pilotEn := u8 p 0 / 4 % 2 == 1, dither := u8 p 1, width := u8 p 2
  delay := u16 p 4, ceil := u32 p 8, release := u32 p 12, pfreq := u32 p 16, pamp := u32 p 20, seed := some (u64 p 24), hist := [] }

/-- Table 9.5: the entry is out of range. PILOT_FREQ is judged with PILOT_EN set. -/
def entryBad (rate : Nat) (p : Bytes) : Bool :=
  let o := outEntry {} p
  decide (7 < u8 p 0) || decide (2 < o.dither) || decide (o.width < 16) || decide (32 < o.width) || rsv p 3 1 || decide (4096 < o.delay)
  || rsv p 6 2 || o.ceil == 0 || decide (0x7FFFFFFF < o.ceil) || o.release == 0 || decide (2 ^ 31 < o.release) || decide (0x7FFFFFFF < o.pamp)
  || (o.pilotEn && (decide (o.pfreq < 10 * 65536) || decide (frOf rate * 65536 * 45 < o.pfreq * 100)))

/-- R388: a run of outputs is out of range. -/
def outRun (f n : Nat) : Bool := n == 0 || decide (512 < f + n)

/-- R243: trim-delay samples allocated. -/
def Dev.poolUsed (d : Dev) : Nat := (d.out.ch.map (fun (x : Nat × OutCh) => x.2.delay)).sum

/-- 0x0B00 OUT_CONFIG. -/
def cmdOutConfig : Cmd := cmdA 0x0B00 fun _ p d =>
  let f := u16 p 0
  let n := u16 p 2
  let ent := fun (i : Nat) => (p.drop (4 + 32 * i)).take 32
  let one := fun (i : Nat) => if !d.stopped 1 (d.layOf (f + i)) || (u8 (ent i) 1 == 2 && d.guarded (f + i)) then some 0x103 else none
  let put := fun (i : Nat) (d : Dev) =>
    let o := outEntry (d.outCh (f + i)) (ent i)
    d.setOut (f + i) (if o.seed = some ((f + i) * 2 ^ 32) then { o with seed := none } else o)
  let d' := forRun put (rangeFrom 0 n) d
  match firstErr [(p.length != 4 + 32 * n, 0x101), (outRun f n || (rangeFrom 0 n).any (fun i => entryBad d.rate (ent i)), 0x102)] with
  | some e => no e d
  | none => match firstFail one 0 (rangeFrom 0 n) with
    | some (_, e) => no e d
    | none => if 131072 < d'.poolUsed then no 0x106 d else ok d'

/-- Table 9.5: the bytes of an entry. -/
def OutCh.bytes (o : OutCh) (s : Nat) : Bytes :=
  le 1 (b01 o.polarity + 2 * b01 o.limEn + 4 * b01 o.pilotEn) ++ le 1 o.dither ++ le 1 o.width ++ zb 1 ++ le 2 o.delay ++ zb 2
  ++ words [o.ceil, o.release, o.pfreq, o.pamp] ++ le 8 (o.seedOf s)

/-- 0x0B01 OUT_CONFIG_GET. -/
def cmdOutConfigGet : Cmd := cmdL 0x0B01 fun _ p d =>
  checks [(p.length != 4, 0x101), (outRun (u16 p 0) (u16 p 2), 0x102)] d
    (okData ((rangeFrom (u16 p 0) (u16 p 2)).flatMap (fun s => (d.outCh s).bytes s)) d)

/-- R249: retired outputs of a run. -/
def Dev.skipped (d : Dev) (f n : Nat) : Nat := ((rangeFrom f n).filter (fun s => d.chRet (68 + s))).length

/-- R32, R249: applies a live setting to each output of a run that is not retired. -/
def liveRun (c : Ctx) (kind f n : Nat) (set : Nat → Nat → OutCh → OutCh) (d : Dev) : Dev :=
  let b := c.blk.getD (c.vt + 2)
  forRun (fun i d => if d.chRet (68 + f + i) then d
    else d.setItem c (4 * (f + i) + kind) b (fun d => d.setOut (f + i) (set i (d.liveBlk (f + i) b) (d.outCh (f + i))))) (rangeFrom 0 n) d

/-- 0x0B02 OUT_TRIM_SET. -/
def cmdOutTrimSet : Cmd := { cmdA 0x0B02 (fun c p d =>
  let f := u16 p 0
  let n := u16 p 2
  checks [(p.length != 4 + 4 * n, 0x101), (outRun f n, 0x102)] d
    (okData (le 2 (d.skipped f n) ++ zb 2) (liveRun c 2 f n (fun i b o => { o with trim := o.trim.set (s32 p (4 + 4 * i)) b }) d))) with
  batch := true, timed := true }

/-- 0x0B03 OUT_MUTE_SET: MUTE 1 mutes. -/
def cmdOutMuteSet : Cmd := { cmdA 0x0B03 (fun c p d =>
  let f := u16 p 0
  let n := u16 p 2
  checks [(p.length != 8, 0x101), (outRun f n || decide (1 < u8 p 4) || decide (10 < u8 p 5) || rsv p 6 2, 0x102)] d
    (okData (le 2 (d.skipped f n) ++ zb 2) (liveRun c 3 f n (fun _ b o => { o with mute := o.mute.set (u8 p 4 == 1, u8 p 5) b }) d))) with
  batch := true, timed := true }

/-- R253: identifiers of a kind of destination, and channels of each. -/
def destOf (kind : Nat) : Nat × Nat :=
  match kind with
  | 0 => (256, 64)
  | 1 => (40, 32)
  | 2 => (8, 64)
  | _ => (0, 0)

/-- R254: the function unit of a destination. -/
def Dev.destUnit (d : Dev) (kind id : Nat) : FUnit :=
  match kind with
  | 0 => d.unit 6 id
  | 1 => d.unit 7 (id / 4)
  | _ => d.unit 8 id

/-- R253: the map of a kind of destination. -/
def Out.map (o : Out) (kind : Nat) : Tbl Nat :=
  match kind with
  | 0 => o.tx
  | 1 => o.tdm
  | _ => o.madi
/-- Writes the map of a kind of destination. -/
def Out.setMap (o : Out) (kind : Nat) (t : Tbl Nat) : Out :=
  match kind with
  | 0 => { o with tx := t }
  | 1 => { o with tdm := t }
  | _ => { o with madi := t }

/-- 0x0B10 OUT_MAP_SET. -/
def cmdOutMapSet : Cmd := cmdA 0x0B10 fun _ p d =>
  let k := u8 p 0
  let id := u16 p 2
  let f := u16 p 4
  let n := u16 p 6
  let src := fun (i : Nat) => u16 p (8 + 2 * i)
  let bad := decide (2 < k) || rsv p 1 1 || decide ((destOf k).1 ≤ id) || n == 0 || decide ((destOf k).2 < f + n)
    || (rangeFrom 0 n).any (fun i => decide (511 < src i) && src i != 0xFFFF)
  let w := (destOf k).2
  checks [(p.length != 8 + 2 * n, 0x101), (bad, 0x102), ((d.destUnit k id).st == .retired, 0x109), ((d.destUnit k id).st != .stopped, 0x103)] d
    (ok { d with out := d.out.setMap k (forRun (fun i t => tput 0xFFFF t (w * id + f + i) (src i)) (rangeFrom 0 n) (d.out.map k)) })

/-- 0x0B11 OUT_MAP_GET. -/
def cmdOutMapGet : Cmd := cmdL 0x0B11 fun _ p d =>
  let k := u8 p 0
  let id := u16 p 2
  let w := (destOf k).2
  checks [(p.length != 4, 0x101), (decide (2 < k) || rsv p 1 1 || decide ((destOf k).1 ≤ id), 0x102)] d
    (okData ((rangeFrom (w * id) w).flatMap (fun i => le 2 (tget 0xFFFF (d.out.map k) i))) d)

/-- 0x0B20 GUARD_SET. -/
def cmdGuardSet : Cmd := cmdA 0x0B20 fun _ p d =>
  let k := u8 p 0
  let en := u8 p 1 == 1
  let o := u16 p 2
  let g : Guard := tget {} d.out.gs k
  let twice := en && d.out.gs.any (fun x => x.1 != k && x.2.en && x.2.out == o)
  checks [(p.length != 4, 0x101), (decide (31 < k) || decide (1 < u8 p 1) || decide (511 < o) || twice, 0x102),
          (!d.stopped 1 (d.layOf g.out) || !d.stopped 1 (d.layOf o) || (d.outCh o).dither == 2, 0x103)] d
    (ok { d with out := { d.out with gs := tput {} d.out.gs k { g with out := o, en := en } } })

/-- 0x0B21 GUARD_GET. -/
def cmdGuardGet : Cmd := cmdL 0x0B21 fun _ p d =>
  let ent := fun (k : Nat) => let g : Guard := tget {} d.out.gs k
    le 2 g.out ++ le 1 (b01 g.en) ++ zb 1 ++ le 4 g.crc.toNat ++ le 8 g.block
  checks [(p.length != 0, 0x101)] d (okData ((rangeFrom 0 32).flatMap ent) d)

/-- 0x0B30 OUT_METER_CONFIG. -/
def cmdOutMeterConfig : Cmd := cmdL 0x0B30 fun _ p d =>
  let f := u16 p 0
  let n := u16 p 2
  let go := fun (s : Nat) (d : Dev) => d.setOut s { d.outCh s with mN := u16 p 4, mTap := u8 p 6, mStart := none, mFrom := d.tim.tick + 1 }
  checks [(p.length != 8, 0x101), (outRun f n || u16 p 4 == 0 || decide (2 < u8 p 6) || rsv p 7 1, 0x102)] d (ok (forRun go (rangeFrom f n) d))

/-- 0x0B31 OUT_METER_READ. -/
def cmdOutMeterRead : Cmd := cmdL 0x0B31 fun _ p d =>
  let ent := fun (s : Nat) =>
    let o := d.outCh s
    le 8 o.mBlock ++ leI 2 o.peak ++ leI 2 o.rms ++ le 2 o.gr ++ le 2 (b01 o.valid + 2 * b01 (o.mute.val (d.tim.tick + 1)).1 + 4 * b01 (d.chRet (68 + s)))
    ++ le 4 o.clip.toNat ++ le 4 o.limited.toNat
  checks [(p.length != 4, 0x101), (outRun (u16 p 0) (u16 p 2), 0x102)] d (okData ((rangeFrom (u16 p 0) (u16 p 2)).flatMap ent) d)

/-- OUT_CONFIG. -/
def execOutConfig (r : AcpReq) (s : State) : Host.Outcome State Fault Refusal := run true (acpTake cmdOutConfig r) s
/-- OUT_CONFIG_GET. -/
def execOutConfigGet (r : AcpReq) (s : State) : Host.Outcome State Fault Refusal := run true (acpTake cmdOutConfigGet r) s
/-- OUT_TRIM_SET. -/
def execOutTrimSet (r : AcpReq) (s : State) : Host.Outcome State Fault Refusal := run true (acpTake cmdOutTrimSet r) s
/-- OUT_MUTE_SET. -/
def execOutMuteSet (r : AcpReq) (s : State) : Host.Outcome State Fault Refusal := run true (acpTake cmdOutMuteSet r) s
/-- OUT_MAP_SET. -/
def execOutMapSet (r : AcpReq) (s : State) : Host.Outcome State Fault Refusal := run true (acpTake cmdOutMapSet r) s
/-- OUT_MAP_GET. -/
def execOutMapGet (r : AcpReq) (s : State) : Host.Outcome State Fault Refusal := run true (acpTake cmdOutMapGet r) s
/-- GUARD_SET. -/
def execGuardSet (r : AcpReq) (s : State) : Host.Outcome State Fault Refusal := run true (acpTake cmdGuardSet r) s
/-- GUARD_GET. -/
def execGuardGet (r : AcpReq) (s : State) : Host.Outcome State Fault Refusal := run true (acpTake cmdGuardGet r) s
/-- OUT_METER_CONFIG. -/
def execOutMeterConfig (r : AcpReq) (s : State) : Host.Outcome State Fault Refusal := run true (acpTake cmdOutMeterConfig r) s
/-- OUT_METER_READ. -/
def execOutMeterRead (r : AcpReq) (s : State) : Host.Outcome State Fault Refusal := run true (acpTake cmdOutMeterRead r) s

end Sys2Proof.Machine
end

