-- ==== Sys2Proof/Machine/Net.lean ====
section
/-! DEFINITION. The Ethernet ports (10): frames in and out, their counters and time-stamps, links and wake filters, with
the commands 0x03xx. -/

namespace Sys2Proof.Machine

/-- The port `p`. -/
def Dev.port (d : Dev) (p : Nat) : Port := tget {} d.net.port p
/-- Writes port `p`. -/
def Dev.setPort (d : Dev) (p : Nat) (x : Port) : Dev := { d with net := { d.net with port := tput {} d.net.port p x } }
/-- 10 R262: the port's MAC address, its first octet highest. -/
def Dev.macOf (d : Dev) (p : Nat) : Nat := (d.port p).mac.getD (if d.store.cal then Config.factoryMac p % 2 ^ 48 else 0)
/-- The port is RUNNING. -/
def Dev.portUp (d : Dev) (p : Nat) : Bool := (d.unit 4 p).st == .running
/-- The port can send: RUNNING with a link. -/
def Dev.canSend (d : Dev) (p : Nat) : Bool := d.portUp p && (d.port p).link

/-! ## Counters (R277, R278) -/

/-- R277, R278: adds to counter `c` of port `p`. -/
def Dev.netCount (d : Dev) (p c n : Nat) : Dev :=
  let x := d.port p
  let v := tget 0 x.ctr c
  let w := v + BitVec.ofNat 40 n
  let d := d.setPort p { x with ctr := tput 0 x.ctr c w, half := if !v.msb && w.msb then x.half ||| BitVec.ofNat 40 (2 ^ c) else x.half }
  if !v.msb && w.msb then d.raise 0x8303 p (le 1 c ++ zb 3) else d

/-- Table 10.5: offset of the size bin of a frame of `n` bytes from counter 5 or 29. -/
def sizeBin (n : Nat) : Nat :=
  if n ≤ 64 then 0 else if n ≤ 127 then 1 else if n ≤ 255 then 2 else if n ≤ 511 then 3 else if n ≤ 1023 then 4 else if n ≤ 1518 then 5 else 6

/-- Table 10.5: a frame of `n` bytes to `dst` in the counters from `base` on: 0 received, 24 sent. -/
def Dev.netFrame (d : Dev) (p base dst n : Nat) : Dev :=
  let cast := if dst = 2 ^ 48 - 1 then 4 else if dst / 2 ^ 40 % 2 = 1 then 3 else 2
  (((d.netCount p base n).netCount p (base + 1) 1).netCount p (base + cast) 1).netCount p (base + 5 + sizeBin n) 1

/-! ## Octets of a frame -/

/-- The value of a string in network byte order. -/
def beVal : Bytes → Nat → Nat
  | [], a => a
  | b :: r, a => beVal r (256 * a + b.toNat)
/-- `n` octets in network byte order at offset `o`. -/
def beN (n : Nat) (f : Bytes) (o : Nat) : Nat := beVal ((f.drop o).take n) 0
/-- `n` octets of `v` in network byte order. -/
def be (n v : Nat) : Bytes := (le n v).reverse

/-- RFC 1071: the sum of 16-bit words. -/
def sum16 : Bytes → Nat
  | a :: b :: r => 256 * a.toNat + b.toNat + sum16 r
  | [a] => 256 * a.toNat
  | [] => 0
/-- RFC 1071: the checksum of a string. -/
def inetSum (b : Bytes) : Nat :=
  let s := sum16 b
  let s := s % 65536 + s / 65536
  65535 - (s % 65536 + s / 65536)

/-- An IPv4 packet, DF set and identification 0 (11 R299); `opts` are header options. -/
def ipv4Of (tos ttl proto src dst : Nat) (opts data : Bytes) : Bytes :=
  let h := fun (c : Nat) => [BitVec.ofNat 8 (0x45 + opts.length / 4), BitVec.ofNat 8 tos] ++ be 2 (20 + opts.length + data.length)
    ++ be 2 0 ++ be 2 0x4000 ++ be 1 ttl ++ be 1 proto ++ be 2 c ++ be 4 src ++ be 4 dst ++ opts
  h (inetSum (h 0)) ++ data

/-- The MAC address of an IPv4 group. -/
def groupMac (ip : Nat) : Nat := 0x01005E000000 + ip % 2 ^ 23
/-- 224.0.0.0/4. -/
def isGroup (ip : Nat) : Bool := ip / 2 ^ 28 == 14

/-- An Ethernet frame before its FCS, untagged. -/
def ethOf (dst src typ : Nat) (data : Bytes) : Bytes := be 6 dst ++ be 6 src ++ be 2 typ ++ data

/-- A UDP datagram with checksum 0. -/
def udpOf (sport dport : Nat) (data : Bytes) : Bytes := be 2 sport ++ be 2 dport ++ be 2 (8 + data.length) ++ be 2 0 ++ data

/-! ## Transmit (R268 to R274) -/

/-- 02 Table 2.4: C_rx and C_tx of a line interface, 2^-16 ns. -/
def tscOf (mode : Nat) : Int × Int :=
  match mode with
  | 1 => (3355443, 2516582)
  | 2 => (7969178, 6186598)
  | _ => (19922944, 15466496)

/-- 02 R57: a signed table word. -/
def trimOf (t : Tbl W32) (p : Nat) : Int := (tget 0 t p).toInt

/-- 02 R57: a capture on receive, corrected. -/
def Dev.rxStamp (d : Dev) (p : Nat) (capture : Int) : Int := capture - (tscOf (d.port p).mode).1 - trimOf d.tim.tscRx p
/-- 02 R57: a capture on transmit, corrected. -/
def Dev.txStamp (d : Dev) (p : Nat) (capture : Int) : Int := capture + (tscOf (d.port p).mode).2 + trimOf d.tim.tscTx p

/-- R273, R274: the time-stamp `t` of a marked frame whose PTP message begins at `o` of the untagged frame: the frame as it
leaves, and the device. -/
def stampFrame (p o t : Nat) (f : Bytes) (d : Dev) : Bytes × Dev :=
  let x := d.port p
  let typ := beN 1 f o % 16
  if typ = 0 ∧ beN 1 f (o + 6) / 2 % 2 = 0 then
    let s := t / 65536
    (f.take (o - 2) ++ be 2 0 ++ (f.drop o).take 8 ++ be 8 (t % 65536) ++ (f.drop (o + 16)).take 18
      ++ be 6 (s / 10 ^ 9) ++ be 4 (s % 10 ^ 9) ++ f.drop (o + 44), d)
  else if x.tsf.length < 64 then
    (f, d.setPort p { x with tsf := x.tsf ++ [{ time := t, msg := typ, domain := beN 1 f (o + 4), seq := beN 2 f (o + 30) }] })
  else
    let id := (f.drop (o + 20)).take 12 ++ be 1 typ ++ zb 3
    let d := d.setPort p { x with lostId := id, tsLost := true, tsOvr := x.tsOvr || x.tsLost }
    let d := d.netCount p 38 1
    let s := d.tim.ptpS
    let gone := match s.delayReq with
      | some (q, _) => s.slavePort == p && (q == beN 2 f (o + 30) || x.tsLost)
      | none => false
    let d := if gone then { d with tim := { d.tim with ptpS := { s with delayReq := none } } } else d
    (f, if x.tsLost then d.raise 0x8302 p id else d)

/-- R268: the octets a port adds for its tag. -/
def Port.tagLen (x : Port) : Nat := if x.tagged then 4 else 0

/-- R268: PCP of a queue. -/
def Port.pcp (x : Port) (q : Nat) : Nat :=
  match q with
  | 0 => x.pcp0
  | 1 => x.pcp1
  | _ => x.pcp2

/-- R268, R269, R273: a frame handed to queue `q` of port `p`, untagged and before its FCS; a marked frame holds a PTP message
over UDP and IPv4. A port that cannot send sends nothing. -/
def sendFrame (p q : Nat) (f : Bytes) (mark : Bool) (d : Dev) : Dev :=
  let x := d.port p
  if !d.canSend p then d
  else if x.maxfrm - 4 < f.length + x.tagLen then (d.setPort p { x with reject := true }).netCount p 36 1
  else
    let o := 14 + 4 * (beN 1 f 14 % 16) + 8
    let r := if mark then stampFrame p o (d.txStamp p d.now16).toNat f d else (f, d)
    let f := if x.tagged then r.1.take 12 ++ be 2 0x8100 ++ be 2 (x.pcp q * 8192 + x.vid) ++ r.1.drop 12 else r.1
    let f := f ++ zb (60 - f.length)
    let d := r.2
    let pre := x.preSt == 2 && !(x.express.testBit q)
    let d := d.setPort p { d.port p with sent := f, reject := false, sending := if pre then some (f.length, false) else none }
    d.netFrame p 24 (beN 6 f 0) (f.length + 4)

/-- R271: an express frame becomes ready when `n` octets of the current fragment have been sent. -/
def expressPreempt (p n : Nat) (d : Dev) : Dev :=
  let x := d.port p
  match x.sending with
  | none => d
  | some (left, cut) =>
    let b := max n (64 * (1 + x.fragUse) - 4)
    if left < b + 60 then d
    else
      let d := d.setPort p { x with sending := some (left - b, true) }
      if cut then d else d.netCount p 37 1

/-! ## Receive (R264 to R267) -/

/-- 11 R290: a leg's filter takes a datagram received on port `p`. -/
def Dev.legTakes (d : Dev) (l : RxLeg) (p src dst udp : Nat) : Bool :=
  l.port == p && l.dstUdp == udp && (if l.dstIp = 0 then dst == (d.port p).ipv4.toNat else dst == l.dstIp) && (l.srcIp == 0 || l.srcIp == src)

/-- 11 R290: the stream is enabled: its unit is neither STOPPED nor RETIRED. -/
def Dev.rxOn (d : Dev) (r : Nat) : Bool := !d.stopped 5 r && !d.retired 5 r

/-- 11 R290: the enabled receive stream and leg (true is B) that take a datagram. -/
def Dev.rxMatch (d : Dev) (p src dst udp : Nat) : Option (Nat × Bool) :=
  d.str.rx.findSome? (fun (x : Nat × RxStr) =>
    if !d.rxOn x.1 then none
    else if d.legTakes x.2.legA p src dst udp then some (x.1, false)
    else if d.legTakes x.2.legB p src dst udp then some (x.1, true) else none)

/-- R262: the groups the port has joined: those of enabled receive streams, of PTP, and of all systems. -/
def Dev.joined (d : Dev) (p : Nat) : List Nat :=
  let of := fun (l : RxLeg) => if l.port = p ∧ isGroup l.dstIp then [l.dstIp] else []
  (d.str.rx.filter (fun (x : Nat × RxStr) => d.rxOn x.1)).flatMap (fun x => of x.2.legA ++ of x.2.legB)
  ++ (if d.tim.ptp.mode ≠ 0 ∧ d.tim.ptp.portMask.testBit p then [0xE0000181] else []) ++ [0xE0000001]

/-- Table 10.2: the counter of the first check a frame fails. -/
def rxCheck (x : Port) (f : RxFrame) : Option Nat :=
  firstErr [(f.overrun, 18), (decide (f.bytes.length + 4 < 64), 12), (decide (x.maxfrm < f.bytes.length + 4), 13), (f.badAsm, 19),
    (f.badCode, 15), (f.badFcs, 14)]

/-- R266: the frame without its tag, or none where the port drops it. -/
def untag (x : Port) (b : Bytes) : Option Bytes :=
  let t := beN 2 b 12
  let bare := !x.tagged || x.acceptUnt
  if t = 0x88A8 then none
  else if t = 0x8100 then
    let vid := beN 2 b 14 % 4096
    let inner := beN 2 b 16
    if inner = 0x8100 ∨ inner = 0x88A8 then none
    else if (if vid = 0 then bare else x.tagged && vid == x.vid) then some (b.take 12 ++ b.drop 16) else none
  else if bare then some b else none

/-- The IPv4 packet of an untagged frame is whole: version 4, no fragment, header checksum right. -/
def ipGood (b : Bytes) : Bool :=
  let h := beN 1 b 14
  beN 2 b 12 == 0x0800 && h / 16 == 4 && decide (5 ≤ h % 16) && beN 2 b 20 % 0x4000 == 0 && inetSum ((b.drop 14).take (4 * (h % 16))) == 0
/-- Offset of the IPv4 payload. -/
def ipData (b : Bytes) : Nat := 14 + 4 * (beN 1 b 14 % 16)

/-- Table 10.3: the consumer of a good frame received on port `p`, already untagged: 4 the time unit, 5 the stream engine, 6 firmware, 7 none. -/
def Dev.classOf (d : Dev) (p : Nat) (b : Bytes) : Nat :=
  let o := ipData b
  let udp := ipGood b && beN 1 b 23 == 17
  let own := beN 4 b 30 == (d.port p).ipv4.toNat && (d.port p).ipv4 != 0
  if udp && (beN 2 b (o + 2) == 319 || beN 2 b (o + 2) == 320) then 4
  else if udp && (d.rxMatch p (beN 4 b 26) (beN 4 b 30) (beN 2 b (o + 2))).isSome then 5
  else if beN 2 b 12 == 0x0806 || (ipGood b && beN 1 b 23 == 1 && beN 1 b o == 8 && own) || (ipGood b && beN 1 b 23 == 2 && beN 1 b o == 0x11) then 6
  else 7

/-- R262: the report of the groups joined, IGMPv3, or IGMPv2 to a querier of that version, all but that of all systems. -/
def Dev.igmpReport (d : Dev) (p : Nat) (v2 : Bool) : Dev :=
  let gs := ((d.joined p).filter (· != 0xE0000001)).eraseDups
  let x := d.port p
  let ra : Bytes := [0x94, 0x04, 0, 0]
  let send := fun (dst : Nat) (m : Bytes) (d : Dev) =>
    let m := m.take 2 ++ be 2 (inetSum m) ++ m.drop 4
    sendFrame p 2 (ethOf (groupMac dst) (d.macOf p) 0x0800 (ipv4Of 0xC0 1 2 x.ipv4.toNat dst ra m)) false d
  if x.ipv4 = 0 ∨ gs.isEmpty then d
  else if v2 then gs.foldl (fun d g => send g (be 2 0x1600 ++ be 2 0 ++ be 4 g) d) d
  else send 0xE0000016 (be 2 0x2200 ++ be 4 0 ++ be 2 gs.length ++ gs.flatMap (fun g => be 4 0x04000000 ++ be 4 g)) d

/-- R262: firmware answers an ARP request, an ICMP echo request or an IGMP query. -/
def hostReply (p : Nat) (b : Bytes) (d : Dev) : Dev :=
  let x := d.port p
  let o := ipData b
  let mac := d.macOf p
  if x.ipv4 = 0 then d
  else if beN 2 b 12 = 0x0806 then
    if beN 2 b 20 = 1 ∧ beN 4 b 38 = x.ipv4.toNat then
      sendFrame p 2 (ethOf (beN 6 b 22) mac 0x0806 ((b.drop 14).take 6 ++ be 2 2 ++ be 6 mac ++ be 4 x.ipv4.toNat ++ (b.drop 22).take 10)) false d
    else d
  else if beN 1 b 23 = 1 then
    let m := (b.drop o).take (beN 2 b 16 - 4 * (beN 1 b 14 % 16))
    let m := be 2 0 ++ be 2 0 ++ m.drop 4
    sendFrame p 2 (ethOf (beN 6 b 6) mac 0x0800 (ipv4Of 0 64 1 x.ipv4.toNat (beN 4 b 26) [] (m.take 2 ++ be 2 (inetSum m) ++ m.drop 4))) false d
  else d.igmpReport p (decide (beN 2 b 16 < 4 * (beN 1 b 14 % 16) + 12))

/-- R267: a good frame goes to its consumer. -/
def classify (p : Nat) (f : RxFrame) (d : Dev) : Dev :=
  let x := d.port p
  if beN 2 f.bytes 12 = 0x8808 then d.netCount p 21 1
  else match untag x f.bytes with
    | none => d.netCount p 16 1
    | some b =>
      let dst := beN 6 b 0
      let own := dst == d.macOf p && x.ipv4 != 0
      if !(own || dst == 2 ^ 48 - 1 || (d.joined p).any (fun g => groupMac g == dst)) then d.netCount p 17 1
      else
        let c := d.classOf p b
        if c = 7 then d.netCount p 17 1
        else
          let d := d.setPort p { x with taken := some (c, b, d.rxStamp p f.at_) }
          if c = 6 then hostReply p b d else d

/-- FRAME_RECEIVE (R265). -/
def frameReceive (p : Nat) (f : RxFrame) (d : Dev) : Dev :=
  let x := d.port p
  if !d.portUp p then d
  else
    let d := if f.frags = 0 then d else d.netCount p 20 f.frags
    match rxCheck x f with
    | some 18 =>
      let d := d.netCount p 18 1
      if x.overTick = some d.tim.tick then d
      else (d.setPort p { d.port p with overTick := some d.tim.tick }).strike (1092 + p) 0 0
    | some c =>
      let d := d.netCount p c 1
      if c = 14 ∨ c = 15 then d.setPort p { d.port p with errSec := (d.port p).errSec + 1 } else d
    | none => classify p f (d.netFrame p 0 (beN 6 f.bytes 0) (f.bytes.length + 4))

/-! ## The port as a function unit, and its link (R261, R270, R280) -/

/-- PORT_SERDES_LOCK. -/
def serdesLock (p : Nat) (d : Dev) : Dev :=
  let u := d.unit 4 p
  if u.st == .starting then
    (d.setUnit 4 p { u with st := .running }).setPort p { d.port p with wasUp := false, downAt := none, errSec := 0 }
  else d

/-- PORT_START_TIMEOUT. -/
def startTimeout (p : Nat) (d : Dev) : Dev := if (d.unit 4 p).st == .starting then d.retire (1092 + p) 2 else d

/-- PORT_STOP_DONE: the frame in progress has left. -/
def portStopDone (p : Nat) (d : Dev) : Dev :=
  let u := d.unit 4 p
  let x := d.port p
  if u.st == .stopping then
    let d := d.setUnit 4 p { u with st := .stopped }
    let d := d.setPort p { x with link := false, signal := false, anDone := false, preSt := 0, sending := none, downAt := none, linkChg := x.linkChg || x.link }
    if x.link then d.raise 0x8300 p (le 1 0 ++ le 1 x.mode ++ zb 2) else d
  else d

/-- LINK_CHANGE of a RUNNING port; a link-down is counted and adds a strike. -/
def linkChange (p : Nat) (up an : Bool) (d : Dev) : Dev :=
  let x := d.port p
  if !d.portUp p || x.link == up then d
  else
    let y : Port := { x with link := up, signal := up, anDone := up && an, linkChg := true, wasUp := x.wasUp || up, downAt := if up then none else some d.tim.now }
    let y : Port := if !up then { y with preSt := 0, sending := none }
      else if x.preEn && x.verifyDis then { y with preSt := 2, fragUse := max x.addFrag x.fragPartner }
      else { y with preSt := b01 x.preEn }
    let d := (d.setPort p y).raise 0x8300 p (le 1 (b01 up) ++ le 1 x.mode ++ zb 2)
    if up then d.igmpReport p false else (d.netCount p 39 1).strike (1092 + p) 0x8300 0

/-- PREEMPT_VERIFY (R270): the partner responded, with its addFragSize, or three attempts failed. -/
def preemptVerify (p : Nat) (good : Bool) (frag : Nat) (d : Dev) : Dev :=
  let x := d.port p
  if x.preSt ≠ 1 ∨ ¬ d.portUp p then d
  else
    let y : Port := if good then { x with preSt := 2, fragPartner := frag, fragUse := max x.addFrag frag } else { x with preSt := 3 }
    (d.setPort p y).raise 0x8301 p (le 1 y.preSt ++ le 1 y.fragUse ++ zb 2)

/-- FCS_LIMIT_SECOND (R280): a second of device time ends. -/
def fcsSecond (p : Nat) (d : Dev) : Dev :=
  let x := d.port p
  let d := d.setPort p { x with errSec := 0 }
  if x.fcsLimit != 0 && decide (x.fcsLimit.toNat < x.errSec) && d.portUp p then d.strike (1092 + p) 0 x.errSec else d

/-- LINK_ABSENT_10S (R280). -/
def linkAbsent (p : Nat) (d : Dev) : Dev :=
  let x := d.port p
  if d.portUp p && !x.link && x.wasUp then d.retire (1092 + p) 4 else d

/-- NET_TSF_POP (R273). -/
def tsfPop (p : Nat) (d : Dev) : Dev := d.setPort p { d.port p with tsf := (d.port p).tsf.drop 1 }

/-! ## Wake filters (R275) -/

/-- R275: CRC-16, polynomial 0x1021: `n` steps. -/
def crc16Bit (c : Nat) : Nat → Nat
  | 0 => c
  | n + 1 => crc16Bit (if 32768 ≤ c then (2 * c % 65536) ^^^ 0x1021 else 2 * c) n
/-- R275: CRC-16 over a byte string. -/
def crc16 (b : Bytes) : Nat := b.foldl (fun c x => crc16Bit (c ^^^ (256 * x.toNat)) 8) 0xFFFF

/-- R275: filter `f` of port `p` matches a frame as received, before its FCS. -/
def Dev.wakeHit (d : Dev) (p f : Nat) (b : Bytes) : Bool :=
  let w : WakeF := tget {} (d.port p).wf f
  let ix := (rangeFrom 0 128).filter w.mask.testBit
  w.mask != 0 && (!w.dest || beN 6 b 0 == d.macOf p) && ix.all (fun i => decide (w.offset + i < b.length))
    && crc16 (ix.map (fun i => b.getD (w.offset + i) 0)) == w.check

/-- R275: the first filter of port `p` that a frame matches. -/
def Dev.wakeFilter (d : Dev) (p : Nat) (b : Bytes) : Option Nat :=
  if (rxCheck (d.port p) { bytes := b, badAsm := false, badCode := false, badFcs := false, overrun := false, frags := 0, at_ := 0 }).isSome then none
  else (rangeFrom 0 8).find? (fun f => d.wakeHit p f b)

/-! ## Commands (Table 10.11) -/

/-- Table 10.10: the bytes of a port's configuration. -/
def Dev.portBytes (d : Dev) (p : Nat) : Bytes :=
  let x := d.port p
  le 1 p ++ le 1 x.mode ++ le 1 (b01 x.an + 2 * b01 x.tagged + 4 * b01 x.acceptUnt) ++ zb 1 ++ le 2 x.vid ++ le 1 x.pcp0 ++ le 1 x.pcp1 ++ le 1 x.pcp2
  ++ zb 1 ++ le 2 x.maxfrm ++ be 6 (d.macOf p) ++ zb 2 ++ le 4 x.ipv4.toNat ++ le 1 x.plen ++ zb 3 ++ le 4 x.gateway.toNat ++ le 4 x.fcsLimit.toNat ++ zb 4

/-- Table 10.9: NET_STATUS. -/
def Port.status (x : Port) : Nat :=
  b01 x.link + 2 * b01 x.signal + 4 * b01 x.anDone + 8 * b01 x.tsLost + 16 * b01 x.tsOvr + 32 * b01 x.linkChg

/-- Table 10.7: NET_LINK_DOWN_MS. -/
def Dev.linkDownMs (d : Dev) (p : Nat) : Nat :=
  match (d.port p).downAt with
  | some t => min 0xFFFFFFFF ((d.tim.now - t) / (10 ^ 6 * 2 ^ 40))
  | none => 0

/-- 0x0300 NET_PORT_CONFIG. -/
def cmdNetPortConfig : Cmd := cmdL 0x0300 fun _ b d =>
  let p := u8 b 0
  let fl := u8 b 2
  let tagged := fl / 2 % 2 == 1
  let vid := u16 b 4
  let bad := decide (15 < p) || decide (4 < u8 b 1) || decide (7 < fl) || rsv b 3 1 || (if tagged then vid == 0 || decide (4094 < vid) else vid != 0)
    || decide (7 < u8 b 6) || decide (7 < u8 b 7) || decide (7 < u8 b 8) || rsv b 9 1 || decide (u16 b 10 < 1518) || decide (9216 < u16 b 10)
    || u8 b 12 % 2 == 1 || rsv b 18 2 || decide (32 < u8 b 24) || rsv b 25 3 || rsv b 36 4
  checks [(b.length != 40, 0x101), (bad, 0x102), (d.retired 4 p, 0x109), (!d.stopped 4 p, 0x103)] d
    (ok (d.setPort p { d.port p with
      mode := u8 b 1, an := fl % 2 == 1, tagged := tagged, acceptUnt := fl / 4 % 2 == 1, vid := vid, pcp0 := u8 b 6, pcp1 := u8 b 7, pcp2 := u8 b 8
      maxfrm := u16 b 10, mac := some (beN 6 b 12), ipv4 := BitVec.ofNat 32 (u32 b 20), plen := u8 b 24, gateway := BitVec.ofNat 32 (u32 b 28)
      fcsLimit := BitVec.ofNat 32 (u32 b 32) }))

/-- 0x0301 NET_PORT_GET. -/
def cmdNetPortGet : Cmd := cmdL 0x0301 fun _ b d =>
  let p := u8 b 0
  checks [(b.length != 4, 0x101), (decide (15 < p) || rsv b 1 3, 0x102)] d
    (okData (d.portBytes p ++ le 1 (d.unit 4 p).st.code ++ zb 3 ++ le 4 (d.port p).status) d)

/-- 0x0302 NET_LINK_STATUS. -/
def cmdNetLinkStatus : Cmd := cmdL 0x0302 fun _ b d =>
  let ent := fun (p : Nat) =>
    let x := d.port p
    le 1 (d.unit 4 p).st.code ++ le 1 (b01 x.link + 2 * b01 x.signal + 4 * b01 x.anDone) ++ le 1 x.mode ++ le 1 x.preSt ++ le 4 (d.linkDownMs p)
  checks [(b.length != 0, 0x101)] d (okData ((rangeFrom 0 16).flatMap ent) d)

/-- 0x0303 NET_PREEMPT_CONFIG. -/
def cmdNetPreemptConfig : Cmd := cmdL 0x0303 fun _ b d =>
  let p := u8 b 0
  let bad := decide (15 < p) || decide (1 < u8 b 1) || decide (7 < u8 b 2) || decide (3 < u8 b 3) || decide (1 < u8 b 4) || rsv b 5 3
  checks [(b.length != 8, 0x101), (bad, 0x102), (d.retired 4 p, 0x109), (!d.stopped 4 p, 0x103)] d
    (ok (d.setPort p { d.port p with preEn := u8 b 1 == 1, express := u8 b 2, addFrag := u8 b 3, verifyDis := u8 b 4 == 1 }))

/-- 0x0310 NET_STATS_GET. -/
def cmdNetStatsGet : Cmd := cmdL 0x0310 fun _ b d =>
  let x := d.port (u8 b 0)
  let t := if u8 b 1 = 1 then x.shd else x.ctr
  checks [(b.length != 4, 0x101), (decide (15 < u8 b 0) || decide (1 < u8 b 1) || rsv b 2 2, 0x102)] d
    (okData (le 4 d.tim.snapSeq.toNat ++ zb 4 ++ le 8 x.half.toNat ++ (rangeFrom 0 40).flatMap (fun c => le 8 (tget 0 t c).toNat)) d)

/-- 0x0311 NET_HALF_CLEAR. -/
def cmdNetHalfClear : Cmd := cmdL 0x0311 fun _ b d =>
  let x := d.port (u8 b 0)
  checks [(b.length != 16, 0x101), (decide (15 < u8 b 0) || rsv b 1 7 || decide (2 ^ 40 ≤ u64 b 8), 0x102)] d
    (ok (d.setPort (u8 b 0) { x with half := x.half &&& ~~~(BitVec.ofNat 40 (u64 b 8)) }))

/-- 0x0320 NET_WAKE_FILTER_SET. -/
def cmdNetWakeFilterSet : Cmd := cmdL 0x0320 fun _ b d =>
  let p := u8 b 0
  let bad := decide (15 < p) || decide (7 < u8 b 1) || decide (1 < u8 b 2) || rsv b 3 1 || decide (9088 < u16 b 4)
  checks [(b.length != 24, 0x101), (bad, 0x102), (d.retired 4 p, 0x109)] d
    (ok (d.setPort p { d.port p with
      wf := tput {} (d.port p).wf (u8 b 1) { mask := uN 16 b 8, offset := u16 b 4, check := u16 b 6, dest := u8 b 2 == 1 } }))

/-- 0x0321 NET_WAKE_PORT_SET. -/
def cmdNetWakePortSet : Cmd := cmdL 0x0321 fun _ b d =>
  let p := u8 b 0
  let none_ := p == 255
  let bad := (!none_ && (decide (15 < p) || ((d.port p).mode != 3 && (d.port p).mode != 4))) || decide (1 < u8 b 1) || rsv b 2 2
  checks [(b.length != 4, 0x101), (bad, 0x102), (!none_ && d.retired 4 p, 0x109)] d
    (ok { d with net := { d.net with wakePort := if none_ then 31 else p, linkWake := u8 b 1 == 1 } })

/-- 0x0322 NET_WAKE_GET. -/
def cmdNetWakeGet : Cmd := cmdL 0x0322 fun _ b d =>
  let ent := fun (f : Nat) =>
    let w : WakeF := tget {} (d.port (u8 b 0)).wf f
    zb 2 ++ le 1 (b01 w.dest) ++ zb 1 ++ le 2 w.offset ++ le 2 w.check ++ le 16 w.mask
  checks [(b.length != 4, 0x101), (decide (15 < u8 b 0) || rsv b 1 3, 0x102)] d
    (okData (le 1 (if d.net.wakePort = 31 then 255 else d.net.wakePort) ++ le 1 (b01 d.net.linkWake) ++ zb 2 ++ (rangeFrom 0 8).flatMap ent) d)

/-- FRAME_RECEIVE. -/
def execFrameReceive (port : Nat) (f : RxFrame) (s : State) : Host.Outcome State Fault Refusal :=
  run (decide (port < 16) && decide (14 ≤ f.bytes.length)) (frameReceive port f) s
/-- FRAME_TRANSMIT: a frame of at least 14 bytes is handed to queue `q`; a marked one holds a PTP message over UDP and IPv4. -/
def execFrameTransmit (port q : Nat) (f : Bytes) (mark : Bool) (s : State) : Host.Outcome State Fault Refusal :=
  run (decide (port < 16) && decide (q < 3) && decide (14 ≤ f.length)) (sendFrame port q f mark) s
/-- EXPRESS_PREEMPT. -/
def execExpressPreempt (port octets : Nat) (s : State) : Host.Outcome State Fault Refusal := run (decide (port < 16)) (expressPreempt port octets) s
/-- PORT_SERDES_LOCK. -/
def execPortSerdesLock (port : Nat) (s : State) : Host.Outcome State Fault Refusal := run (decide (port < 16)) (serdesLock port) s
/-- PORT_START_TIMEOUT. -/
def execPortStartTimeout (port : Nat) (s : State) : Host.Outcome State Fault Refusal := run (decide (port < 16)) (startTimeout port) s
/-- PORT_STOP_DONE. -/
def execPortStopDone (port : Nat) (s : State) : Host.Outcome State Fault Refusal := run (decide (port < 16)) (portStopDone port) s
/-- PREEMPT_VERIFY. -/
def execPreemptVerify (port : Nat) (ok : Bool) (frag : Nat) (s : State) : Host.Outcome State Fault Refusal :=
  run (decide (port < 16) && decide (frag < 4)) (preemptVerify port ok frag) s
/-- FCS_LIMIT_SECOND. -/
def execFcsLimitSecond (port : Nat) (s : State) : Host.Outcome State Fault Refusal := run (decide (port < 16)) (fcsSecond port) s
/-- LINK_ABSENT_10S. -/
def execLinkAbsent10s (port : Nat) (s : State) : Host.Outcome State Fault Refusal := run (decide (port < 16)) (linkAbsent port) s
/-- NET_TSF_POP. -/
def execNetTsfPop (port : Nat) (s : State) : Host.Outcome State Fault Refusal := run (decide (port < 16)) (tsfPop port) s
/-- NET_PORT_CONFIG. -/
def execNetPortConfig (r : AcpReq) (s : State) : Host.Outcome State Fault Refusal := run true (acpTake cmdNetPortConfig r) s
/-- NET_PORT_GET. -/
def execNetPortGet (r : AcpReq) (s : State) : Host.Outcome State Fault Refusal := run true (acpTake cmdNetPortGet r) s
/-- NET_LINK_STATUS. -/
def execNetLinkStatus (r : AcpReq) (s : State) : Host.Outcome State Fault Refusal := run true (acpTake cmdNetLinkStatus r) s
/-- NET_PREEMPT_CONFIG. -/
def execNetPreemptConfig (r : AcpReq) (s : State) : Host.Outcome State Fault Refusal := run true (acpTake cmdNetPreemptConfig r) s
/-- NET_STATS_GET. -/
def execNetStatsGet (r : AcpReq) (s : State) : Host.Outcome State Fault Refusal := run true (acpTake cmdNetStatsGet r) s
/-- NET_HALF_CLEAR. -/
def execNetHalfClear (r : AcpReq) (s : State) : Host.Outcome State Fault Refusal := run true (acpTake cmdNetHalfClear r) s
/-- NET_WAKE_FILTER_SET. -/
def execNetWakeFilterSet (r : AcpReq) (s : State) : Host.Outcome State Fault Refusal := run true (acpTake cmdNetWakeFilterSet r) s
/-- NET_WAKE_PORT_SET. -/
def execNetWakePortSet (r : AcpReq) (s : State) : Host.Outcome State Fault Refusal := run true (acpTake cmdNetWakePortSet r) s
/-- NET_WAKE_GET. -/
def execNetWakeGet (r : AcpReq) (s : State) : Host.Outcome State Fault Refusal := run true (acpTake cmdNetWakeGet r) s

end Sys2Proof.Machine
end

