-- ==== Sys2Proof/Machine/Time.lean ====
section
/-! DEFINITION. The time unit (02): the counter and its servo, network time, media clocks, PPS and trigger pins, snapshots, with
the commands 0x0200 to 0x0207. -/

namespace Sys2Proof.Machine

/-! ## Steps (R48, R69) -/

/-- R48: every audio unit is STOPPED or RETIRED. -/
def Dev.audioStopped (d : Dev) : Bool :=
  d.units.all (fun (x : Nat × FUnit) => !kindAudio (x.1 / 4096) || x.2.st == .stopped || x.2.st == .retired)

/-- The trigger slot `m`. -/
def Dev.slot (d : Dev) (m : Nat) : Slot := tget {} d.tim.slots m
/-- Writes trigger slot `m`. -/
def Dev.setSlot (d : Dev) (m : Nat) (x : Slot) : Dev := { d with tim := { d.tim with slots := tput {} d.tim.slots m x } }
/-- R66: the action applies to an output block. -/
def audioAction (a : Nat) : Bool := decide (1 ≤ a) && decide (a ≤ 4)
/-- R66: block j of an audio action. -/
def Slot.block (x : Slot) (rate : Nat) : Nat := blockAt rate x.time
/-- R68: the instant of the next firing of a slot, by its trigger time and period. -/
def Slot.fireT (x : Slot) (rate : Nat) : Nat := if x.period = 0 then x.time else x.time + sampleT rate (16 * x.firings * x.period)
/-- R69: the next firing of an armed slot. -/
def Slot.nextT (x : Slot) (rate : Nat) : Nat :=
  if audioAction x.action then boundT rate (if x.leadBegun then x.block rate else x.block rate - 2) else x.fireT rate

/-- R69, R70: EV_TRIG_FAILED. -/
def Dev.trigFailed (d : Dev) (m st idx : Nat) : Dev := d.raise 0x8211 m (le 1 m ++ le 1 (d.slot m).action ++ le 2 st ++ le 4 idx)

/-- R69: nothing of a control cycle whose lead has begun applies. -/
def Dev.undoCycle (d : Dev) (m : Nat) : Dev :=
  match tget none d.undo m with
  | none => d
  | some u =>
    let d := forRun (fun (o : Nat) d => d.setObj o (tget {} u.obj o)) (u.obj.map Prod.fst) d
    let d := forRun (fun (s : Nat) d => d.setOut s (tget {} u.out s)) (u.out.map Prod.fst) d
    let d := forRun (fun (s : Nat) d => d.setCnvo s (tget {} u.cnv s)) (u.cnv.map Prod.fst) d
    let put := fun (w : Nat) (t : Tbl W32) => tput (if w = 0 then 0xFFFFFFFF else 0) t w (tget 0 u.route w)
    { d with trj := { d.trj with route := forRun put (u.route.map Prod.fst) d.trj.route }, undo := tdel d.undo m }

/-- R69: a slot under a step that has moved device time from `old` (2^-16 ns). -/
def stepSlot (old m : Nat) (d : Dev) : Dev :=
  let x := d.slot m
  let t := d.now16
  if !x.armed then d
  else if old < t ∧ x.nextT d.rate < t then
    ((d.undoCycle m).setSlot m { x with armed := false, skipped := true, leadBegun := false, firings := 0 }).trigFailed m 0x107 0xFFFFFFFF
  else if t < old ∧ x.leadBegun then (d.undoCycle m).setSlot m { x with leadBegun := false }
  else d

/-- What a step of the tick index leaves of settings and windows that named blocks: settings are in force, windows and
detector blocks begin anew, and work that awaits a block awaits it as many ticks ahead as before. -/
def Dev.rebase (d : Dev) (k : Nat) : Dev :=
  let n := d.tim.tick
  let mv := fun (b : Nat) => n + (b - k)
  let och := fun (x : Nat × OutCh) => (x.1, { x.2 with
    trim := { x.2.trim with at_ := 0 }, mute := { x.2.mute with at_ := 0 }, mStart := none, mFrom := 0
    retBlk := x.2.retBlk.map (fun _ => 0), m := if x.2.retBlk.isSome then 0 else x.2.m })
  let td := fun (x : Nat × Tone) => (x.1, { x.2 with start := none, cfgBlk := 0, buf := [], bad := false })
  let obj := fun (x : Nat × Obj) => (x.1, { x.2 with jumps := [] })
  let cvo := fun (x : Nat × CnvOut) => (x.1, { x.2 with queued := match x.2.queued with
    | some q => some { q with block := 0 }
    | none => none })
  let fu := fun (x : Nat × FUnit) => (x.1, { x.2 with startBlk := none, stopBlk := none, retBlk := none })
  let ch := fun (x : Nat × Chan) => (x.1, { x.2 with lastTick := if x.2.lastTick = some k then some n else none })
  { d with
    hlt := { d.hlt with ch := (d.hlt.ch.map ch).filter (fun (x : Nat × Chan) => x.2 != ({} : Chan)) }
    units := (d.units.map fu).filter (fun (x : Nat × FUnit) => x.2 != ({} : FUnit))
    out := { d.out with ch := (d.out.ch.map och).filter (fun (x : Nat × OutCh) => x.2 != ({} : OutCh)), block := none, dest := [] }
    flt := { d.flt with
      td := (d.flt.td.map td).filter (fun (x : Nat × Tone) => x.2 != ({} : Tone))
      grp := d.flt.grp.map (fun (x : Nat × Group) => (x.1, { x.2 with fadeBlk := none })), late := [], inBlk := [], cond := [] }
    trj := { d.trj with block := none, obj := (d.trj.obj.map obj).filter (fun (x : Nat × Obj) => x.2 != ({} : Obj)) }
    rnd := { d.rnd with
      lane := d.rnd.lane.map (fun (x : Nat × Lane) => (x.1, { x.2 with lastBlk := none, lateNow := false })), shedding := [], block := none
      attachAt := d.rnd.attachAt.map (fun (x : Nat × Nat × Option Nat) => (x.1, x.2.1, x.2.2.map mv))
      mig := d.rnd.mig.map (fun (m : Migration) => { m with block := m.block.map mv }) }
    sch := { d.sch with result := [], period := [], periodN := [] }
    cnv := { d.cnv with out := d.cnv.out.map cvo }
    hst := { d.hst with lastSet := [] } }

/-- R48, R69, 06 R168, 14 R374: device time becomes `new` (2^-40 ns) at once. -/
def Dev.stepTo (d : Dev) (new : Nat) : Dev :=
  let old := d.now16
  let k := d.tim.tick
  let d := d.discardAll
  let shift := fun (t : Nat) => new - (d.tim.now - t)
  let d := { d with
    pwr := { d.pwr with idleAt := shift d.pwr.idleAt, upAt := shift d.pwr.upAt }
    tim := { d.tim with now := new, uSince := shift d.tim.uSince } }
  let d := { d with tim := { d.tim with tick := tickOf d.rate d.now16 } }
  let d := d.rebase k
  let d := forRun (stepSlot old) (d.tim.slots.map Prod.fst) d
  let t := d.now16
  if old < t then d.dropTimed (fun x => decide (boundT d.rate (x.block - Sys2Proof.Machine.leadOf x.op) < t)) 2 else d

/-! ## QUALITY and uncertainty (R50 to R54) -/

/-- R50, R61: QUALITY moves; PPS_OUT falls where its gate closes. -/
def Dev.setQuality (d : Dev) (q : Quality) : Dev :=
  { d with tim := { d.tim with
      quality := q, qualSet := q.code, ppsOut := d.tim.ppsOut && (!d.tim.ppsGate || q == .locked || q == .holdover) } }

/-- R53: U_now, none where it is unknown. -/
def Dev.uNow (d : Dev) : Option Nat :=
  match d.tim.quality with
  | .locked => some 0
  | .invalid => none
  | _ => d.tim.uBase.map (fun u => u + ceilDiv (d.tim.ptp.holdDrift * (d.tim.now - d.tim.uSince)) (10 ^ 7 * 2 ^ 40))

/-- R50, R53: holdover entered from locked without a loss of lock. -/
def Dev.relock (d : Dev) : Dev :=
  if d.tim.quality == .locked then
    let d := d.setQuality .holdover
    { d with tim := { d.tim with uBase := some 1000, uSince := d.tim.now, lockRun := 0, lockEst := [] } }
  else d

/-! ## Increment and servo (R46 to R52) -/

/-- R47: TIM_INC takes a value; a clamped write sets INC_CLAMP and is an event of the servo's channel. -/
def Dev.setInc (d : Dev) (v : Nat) : Dev :=
  let w := max 0x01FFBE76C8B4 (min 0x02004189374C v)
  let d := { d with tim := { d.tim with inc := w, incClamp := d.tim.incClamp || w != v } }
  if w = v then d else d.strike 1173 0 0

/-- TIM_INC_COMMIT. -/
def incCommit (hi : W32) (d : Dev) : Dev := d.setInc (hi.toNat % 65536 * 2 ^ 32 + d.tim.incLo.toNat)

/-- TIM_STEP_GO. -/
def stepGo (v : W32) (d : Dev) : Dev :=
  if !d.audioStopped then { d with tim := { d.tim with stepRefused := true } }
  else
    let ns := wrapI 64 (d.tim.stepHi.toNat * 2 ^ 32 + d.tim.stepLo.toNat)
    let t := (d.tim.now : Int) + (ns * 65536 + (v.toNat % 65536 : Nat)) * 2 ^ 24
    d.stepTo (t % (2 ^ 48 * 10 ^ 9 * 2 ^ 40 : Int)).toNat

/-- 0.4.4: a signed Q24.8 nanosecond field of a value in 2^-16 ns. -/
def q248 (x : Int) : Int :=
  let r := rne x 256
  if -(2 ^ 31) ≤ r ∧ r < 2 ^ 31 then r else wrapI 32 (Config.outOfRange x)

/-- R51: spread of the estimates of the run. -/
def estSpread (l : List Int) : Int :=
  match l with
  | [] => 0
  | a :: r => r.foldl max a - r.foldl min a

/-- R48 to R52, 17 R439: the servo takes a measurement: the offset from its master in 2^-16 ns. Its estimate, and how it corrects, are the
servo's own; the lock rule, the limits of its correction and the check of 17 R439 are the spec's. -/
def measure (off : Int) (d : Dev) : Dev :=
  let n := d.draw
  let d := n.2
  let est := Config.servoEst n.1
  let us : Int := 1000 * 65536
  let t := d.tim
  let run := if -(200 * 65536) ≤ off ∧ off ≤ 200 * 65536 then t.lockRun + 1 else 0
  let ests := (est :: t.lockEst).take 8
  let big := t.quality == .locked && (decide (us < off) || decide (off < -us))
  let bad := if big then d.hlt.servoBad + 1 else 0
  let d := { d with tim := { t with offset := off, freqEst := est, lockRun := run, lockEst := ests }, hlt := { d.hlt with servoBad := bad % 8 } }
  let d := if bad = 8 then d.strike 1173 0x8200 0 else d
  if d.chRet 1173 then d
  else
    let d := if 8 ≤ run ∧ estSpread ests < 1000 then d.setQuality .locked else d
    if !d.tim.servoEn then d
    else if d.audioStopped && Config.servoStep n.1 then d.stepTo ((d.tim.now : Int) - off * 2 ^ 24).toNat
    else
      let base : Int := 2 ^ 41 + rne (est * 2 ^ 41) (10 ^ 10)
      let slew := rne (d.tim.ptp.slewMax * 2 ^ 41) (10 ^ 6)
      let v : Int := Config.servoInc n.1
      d.setInc (if d.audioStopped then v else max (base - slew) (min (base + slew) v)).toNat

/-- SERVO_CHECK (17 R439): `dt` ns and `dr` counts have passed. -/
def servoCheck (dt dr : Int) (d : Dev) : Dev :=
  let e := dt * 10 ^ 6 - dr * 30517578125
  if 0 < dr ∧ 250 * dr * 30517578125 < (e.natAbs : Int) * 10 ^ 6 then d.strike 1173 0 0 else d

/-- OFFSET_LARGE_REPORT (R49). -/
def offsetLarge (d : Dev) : Dev :=
  if d.tim.servoEn && !d.audioStopped && decide (1000 * 65536 < d.tim.offset.natAbs) then d.raise 0x8200 0 (leI 8 (rne d.tim.offset 65536)) else d

/-! ## Network time (R55, R56) -/

/-- R56: the clockClass advertised. -/
def Dev.ownClass (d : Dev) : Nat := if d.tim.quality == .locked then d.tim.ptp.clockClass else 248

/-- R55: the device's own data set, as the best-master algorithm compares it. -/
def Dev.ownRank (d : Dev) : List Nat :=
  [d.tim.ptp.priority1, d.ownClass, Config.clockQual 0, Config.clockQual 1, d.tim.ptp.priority2, Config.clockQual 2]

/-- R55: a data set is better than another. -/
def better : List Nat → List Nat → Bool
  | a :: x, b :: y => decide (a < b) || (a == b && better x y)
  | _, _ => false

/-- R55, R56: the device is master on port `p`. -/
def Dev.isMaster (d : Dev) (p : Nat) : Bool :=
  let c := d.tim.ptp
  let s := d.tim.ptpS.slavePort
  c.portMask.testBit p && (if c.mode = 3 then s != p else c.mode == 2 && s == 255)

/-- A PTP time-stamp of ten octets. -/
def ptpTime (t : Nat) : Bytes := be 6 (t / 65536 / 10 ^ 9) ++ be 4 (t / 65536 % 10 ^ 9)

/-- R55, R56: a PTP message over UDP and IPv4 to the primary group, DSCP 46, TTL 1. -/
def ptpFrame (p kind seq flags corr log : Nat) (body : Bytes) (d : Dev) : Bytes :=
  let ctl := match kind with
    | 0 => 0
    | 1 => 1
    | 8 => 2
    | 9 => 3
    | _ => 5
  let m := be 1 kind ++ be 1 2 ++ be 2 (34 + body.length) ++ be 1 d.tim.ptp.domain ++ be 1 0 ++ be 2 flags ++ be 8 corr ++ be 4 0
    ++ be 8 (Config.clockQual 2) ++ be 2 (p + 1) ++ be 2 seq ++ be 1 ctl ++ be 1 log ++ body
  let u := if kind < 8 then 319 else 320
  ethOf 0x01005E000181 (d.macOf p) 0x0800 (ipv4Of 0xB8 1 17 (d.port p).ipv4.toNat 0xE0000181 [] (udpOf u u m))

/-- A signed octet. -/
def octet (x : Int) : Nat := (x % 256).toNat

/-- PTP_MESSAGE_TX: an interval expires: Sync (0), Delay_Req (1) or Announce (11). -/
def ptpTx (p kind : Nat) (d : Dev) : Dev :=
  let c := d.tim.ptp
  let s := d.tim.ptpS
  let q := s.txSeq
  let next := fun (d : Dev) => { d with tim := { d.tim with ptpS := { d.tim.ptpS with txSeq := (q + 1) % 65536 } } }
  if c.mode = 0 ∨ ¬ c.portMask.testBit p ∨ ¬ d.canSend p ∨ (d.port p).ipv4 = 0 then d
  else
    let t := d.txStamp p d.now16
    match kind with
    | 0 =>
      if !d.isMaster p then d
      else
        let f := ptpFrame p 0 q (if c.oneStep = 1 then 0 else 0x0200) 0 (octet c.logSync) (ptpTime 0) d
        let d := next (sendFrame p 0 f true d)
        if c.oneStep = 1 then d else sendFrame p 0 (ptpFrame p 8 q 0 (t.toNat % 65536) (octet c.logSync) (ptpTime t.toNat) d) false d
    | 1 =>
      if s.slavePort ≠ p then d
      else
        let d := next { d with tim := { d.tim with ptpS := { s with delayReq := some (q, t) } } }
        sendFrame p 0 (ptpFrame p 1 q 0 0 127 (ptpTime 0) d) true d
    | _ =>
      if !d.isMaster p then d
      else
        let lock := d.tim.quality == .locked
        let body := ptpTime 0 ++ be 2 0 ++ be 1 0 ++ be 1 c.priority1 ++ be 1 d.ownClass ++ be 1 (Config.clockQual 0) ++ be 2 (Config.clockQual 1)
          ++ be 1 c.priority2 ++ be 8 (Config.clockQual 2) ++ be 2 0 ++ be 1 (if lock then 0x40 else 0xA0)
        next (sendFrame p 0 (ptpFrame p 11 q 0x0008 0 (octet c.logAnnounce) body d) false d)

/-- R55: a Sync is complete: its origin and its receive time. -/
def syncDone (t1 t2 : Int) (d : Dev) : Dev :=
  let d := { d with tim := { d.tim with ptpS := { d.tim.ptpS with syncWait := none, syncT12 := some (t1, t2) } } }
  if d.tim.ptpS.havePd then measure (t2 - t1 - d.tim.pathDelay) d else d

/-- R55: an Announce takes part in the best-master algorithm. -/
def announceRx (p : Nat) (m : PtpMsg) (d : Dev) : Dev :=
  let s := d.tim.ptpS
  let same := s.slavePort == p && s.masterId == m.src
  if d.tim.ptp.mode ≠ 1 ∧ better d.ownRank m.rank then if same then d.dropMaster.loseLock else d
  else if same then { d with tim := { d.tim with ptpS := { s with masterRank := m.rank, masterClass := m.rank.getD 1 0 } } }
  else if s.slavePort = 255 ∨ better m.rank s.masterRank then
    let d := d.dropMaster
    { d with tim := { d.tim with ptpS := { d.tim.ptpS with masterId := m.src, slavePort := p, portState := 9, masterRank := m.rank, masterClass := m.rank.getD 1 0 } } }
  else d

/-- PTP_MESSAGE_RX (R55). -/
def ptpRx (p : Nat) (m : PtpMsg) (d : Dev) : Dev :=
  let c := d.tim.ptp
  let s := d.tim.ptpS
  let rx := d.rxStamp p m.rx
  let master := s.slavePort == p && s.masterId == m.src
  if !d.portUp p then d
  else if c.mode = 0 ∨ ¬ c.portMask.testBit p ∨ m.domain ≠ c.domain ∨ ¬ [0, 1, 8, 9, 11].contains m.kind then d.netCount p 22 1
  else match m.kind with
    | 0 =>
      if !master then d
      else if m.twoStep then { d with tim := { d.tim with ptpS := { s with syncWait := some (m.seq, rx - m.corr) } } }
      else syncDone (m.ts + m.corr) rx d
    | 8 =>
      match s.syncWait with
      | some (q, t2) => if master && q == m.seq then syncDone (m.ts + m.corr) t2 d else d
      | none => d
    | 1 =>
      if d.isMaster p && (d.port p).ipv4 != 0 then
        sendFrame p 0 (ptpFrame p 9 m.seq 0 (rx.toNat % 65536) (octet c.logDelayReq) (ptpTime rx.toNat ++ be 8 m.src ++ be 2 1) d) false d
      else d
    | 9 =>
      match s.delayReq, s.syncT12 with
      | some (q, t3), some (t1, t2) =>
        if master && q == m.seq then
          { d with tim := { d.tim with pathDelay := rne (t2 - t1 + (m.ts - m.corr - t3)) 2, ptpS := { s with delayReq := none, havePd := true } } }
        else d
      | _, _ => d
    | _ => announceRx p m d

/-- MASTER_LOST (R50): no Sync for 8 intervals, or the announce timeout. -/
def masterLost (d : Dev) : Dev := if d.tim.ptpS.slavePort = 255 then d else d.dropMaster.loseLock

/-! ## PPS, media clocks and trigger pins (R60 to R63) -/

/-- One second in 2^-16 ns. -/
def second : Nat := 10 ^ 9 * 65536

/-- PPS_IN_EDGE (R62). -/
def ppsEdge (t : Nat) (d : Dev) : Dev :=
  let d := d.advance t
  let off : Int := (t : Int) - second * rne t second
  let q := q248 off
  if d.tim.ppsMode = 0 then d
  else
    let d := { d with tim := { d.tim with ppsSeen := true, ppsIn := BitVec.ofInt 32 q } }
    if d.tim.ppsMode = 2 then measure off d
    else if d.tim.ppsLimit * 256 < off.natAbs then d.raise 0x8201 0 (leI 4 q ++ zb 4) else d

/-- PPS_IN_MISSING (R50). -/
def ppsMissing (d : Dev) : Dev := if d.tim.ppsMode = 2 then d.loseLock else d

/-- PPS_OUT_SECOND (R61): the next whole second comes. -/
def ppsSecond (d : Dev) : Dev :=
  let d := d.advance (ceilDiv d.now16 second * second)
  { d with tim := { d.tim with ppsOut := !d.tim.ppsGate || d.tim.quality == .locked || d.tim.quality == .holdover } }

/-- PPS_WIDTH_END (R61). -/
def ppsEnd (d : Dev) : Dev := { d with tim := { d.tim with ppsOut := false } }

/-- R63: a pulse begins on a pin at `t`; one under way is extended. -/
def trigPulse (pin t : Nat) (d : Dev) : Dev :=
  let w := max 1 (tget (true, 0) d.tim.tout pin).2 * 8 * 65536
  { d with tim := { d.tim with toutPulse := tput 0 d.tim.toutPulse pin (max (tget 0 d.tim.toutPulse pin) (t + w)) } }

/-- TRIG_OUT_PULSE_END (R63). -/
def pulseEnd (pin : Nat) (d : Dev) : Dev :=
  let e := tget 0 d.tim.toutPulse pin
  if e = 0 then d
  else
    let d := d.advance e
    let tout := match tget none d.tim.toutNext pin with
      | some c => tput (true, 0) d.tim.tout pin c
      | none => d.tim.tout
    { d with tim := { d.tim with toutPulse := tdel d.tim.toutPulse pin, tout := tout, toutNext := tdel d.tim.toutNext pin } }

/-- R63: level of TRIG_OUTn. -/
def Dev.toutLevel (d : Dev) (pin : Nat) : Bool :=
  let c := tget (true, 0) d.tim.tout pin
  if tget 0 d.tim.toutPulse pin = 0 then !c.1 else c.1

/-- MCLK_SWITCH (R60). -/
def mclkSwitch (n : Nat) (d : Dev) : Dev := { d with tim := { d.tim with mclkSwitching := tdel d.tim.mclkSwitching n } }

/-! ## Snapshots (R71) -/

/-- R71: the shadows take the counters, and the sequence number advances. -/
def snapBegin (d : Dev) : Dev :=
  { d with
    tim := { d.tim with snapBusy := true, snapSeq := d.tim.snapSeq + 1 }
    net := { d.net with port := d.net.port.map (fun (x : Nat × Port) => (x.1, { x.2 with shd := x.2.ctr })) }
    str := { d.str with
      rx := d.str.rx.map (fun (x : Nat × RxStr) => (x.1, { x.2 with shd := x.2.ctr }))
      tx := d.str.tx.map (fun (x : Nat × TxStr) => (x.1, { x.2 with shd := x.2.ctr })) }
    sap := {
      tc := d.sap.tc.map (fun (x : Nat × Tdm) => (x.1, { x.2 with shd := x.2.ctr }))
      madi := d.sap.madi.map (fun (x : Nat × Madi) => (x.1, { x.2 with shd := x.2.ctr })) }
    hlt := { d.hlt with ch := d.hlt.ch.map (fun (x : Nat × Chan) => (x.1, { x.2 with shadow := x.2.strikes })) } }

/-- R71: a snapshot fires: at once, or when the copy that runs has ended. -/
def snapshot (d : Dev) : Dev := if d.tim.snapBusy then { d with tim := { d.tim with snapQueued := d.tim.snapQueued + 1 } } else snapBegin d

/-- SNAPSHOT_COPY_DONE. -/
def snapDone (d : Dev) : Dev :=
  if !d.tim.snapBusy then d
  else
    let n := d.tim.snapQueued
    let d := { d with tim := { d.tim with snapBusy := false, snapQueued := n - 1 } }
    if n = 0 then d else snapBegin d

/-! ## Commands (Table 2.11) -/

/-- 0x0200 TIME_GET. -/
def cmdTimeGet : Cmd := cmdL 0x0200 fun _ b d =>
  let s := d.tim.ptpS
  let pd := rne d.tim.pathDelay 256
  checks [(b.length != 0, 0x101)] d
    (okData (timeValue d.nowNs d.nowFrac d.tim.quality.code ++ le 8 (tickOf d.rate d.now16) ++ le 8 (d.uNow.getD (2 ^ 64 - 1)) ++ leI 4 (q248 d.tim.offset)
      ++ le 4 (if 0 ≤ pd ∧ pd < 2 ^ 32 then pd.toNat else Config.outOfRange d.tim.pathDelay) ++ be 8 s.masterId ++ le 1 s.slavePort
      ++ le 1 s.portState ++ le 1 s.masterClass ++ zb 5) d)

/-- 0x0201 PTP_CONFIG. -/
def cmdPtpConfig : Cmd := cmdL 0x0201 fun _ b d =>
  let mask := u16 b 4
  let bits := ((rangeFrom 0 16).filter mask.testBit).length
  let mode := u8 b 2
  let bad := decide (1 < u8 b 0) || decide (127 < u8 b 1) || decide (3 < mode) || decide (1 < u8 b 3)
    || ((mode == 1 || mode == 2) && bits != 1) || (mode == 3 && bits == 0)
    || decide (s8 b 8 < -7) || decide (0 < s8 b 8) || decide (s8 b 9 < -3) || decide (1 < s8 b 9) || decide (s8 b 10 < -7) || decide (5 < s8 b 10)
    || decide (u8 b 11 < 2) || decide (10 < u8 b 11) || decide (u16 b 12 < 1) || decide (500 < u16 b 12) || u8 b 15 == 0
  let gone := (rangeFrom 0 16).any (fun p => mask.testBit p && d.retired 4 p)
  checks [(b.length != 16, 0x101), (bad, 0x102), (gone, 0x109), (mode != 0 && d.tim.ppsMode == 2, 0x103)] d
    (let d := d.relock.dropMaster
     ok { d with tim := { d.tim with
        ptp := { profile := u8 b 0, domain := u8 b 1, mode := mode, oneStep := u8 b 3, portMask := mask, priority1 := u8 b 6, priority2 := u8 b 7
                 logSync := s8 b 8, logAnnounce := s8 b 9, logDelayReq := s8 b 10, announceTimeout := u8 b 11, slewMax := u16 b 12
                 clockClass := u8 b 14, holdDrift := u8 b 15 }
        servoEn := (mode != 0 || d.tim.ppsMode == 2) && !d.chRet 1173 } })

/-- R48: a step the host asked for is refused; where R48 forbids it, STEP_REFUSED sets. -/
def stepNo (d : Dev) : Rep := no 0x103 (if d.audioStopped then d else { d with tim := { d.tim with stepRefused := true } })

/-- 0x0202 TIME_STEP. -/
def cmdTimeStep : Cmd := cmdL 0x0202 fun _ b d =>
  let t := (d.tim.now : Int) + (s64 b 0 * 65536 + (u16 b 8 : Nat)) * 2 ^ 24
  checks [(b.length != 16, 0x101), (rsv b 10 6 || decide (t < 0) || decide (2 ^ 104 ≤ t), 0x102)] d
    (if !d.audioStopped || d.tim.ptp.mode != 0 then stepNo d else ok (d.stepTo t.toNat))

/-- 0x0203 TIME_SET. -/
def cmdTimeSet : Cmd := cmdL 0x0203 fun _ b d =>
  checks [(b.length != 16, 0x101), (rsv b 11 5, 0x102)] d
    (if !d.audioStopped || d.tim.ptp.mode != 0 || (d.tim.ppsMode == 2 && d.tim.quality == .locked) then stepNo d
     else
       let d := (d.stepTo ((u64 b 0 * 65536 + u16 b 8) * 2 ^ 24)).setQuality .holdover
       ok { d with tim := { d.tim with uBase := none, lockRun := 0, lockEst := [] } })

/-- 0x0204 TSC_SET. -/
def cmdTscSet : Cmd := cmdL 0x0204 fun _ b d =>
  let p := u8 b 0
  checks [(b.length != 12, 0x101), (decide (15 < p) || rsv b 1 3, 0x102), (d.retired 4 p, 0x109)] d
    (ok { d with tim := { d.tim with tscRx := tput 0 d.tim.tscRx p (BitVec.ofNat 32 (u32 b 4)), tscTx := tput 0 d.tim.tscTx p (BitVec.ofNat 32 (u32 b 8)) } })

/-- 0x0205 MCLK_CONFIG. -/
def cmdMclkConfig : Cmd := cmdL 0x0205 fun _ b d =>
  let n := u8 b 0
  let w : W32 := BitVec.ofNat 32 (u8 b 3 + 4 * u8 b 2 + 8 * u8 b 1)
  let sw := u8 b 1 == 1 && (w != tget 0 d.tim.mclk n || tget false d.tim.mclkSwitching n)
  checks [(b.length != 4, 0x101), (decide (3 < n) || decide (1 < u8 b 1) || decide (1 < u8 b 2) || decide (3 < u8 b 3), 0x102)] d
    (ok { d with tim := { d.tim with mclk := tput 0 d.tim.mclk n w, mclkSwitching := tput false d.tim.mclkSwitching n sw } })

/-- 0x0206 PPS_CONFIG. -/
def cmdPpsConfig : Cmd := cmdL 0x0206 fun _ b d =>
  let mode := u8 b 0
  let bad := decide (2 < mode) || decide (1 < u8 b 1) || rsv b 2 2 || decide (u32 b 4 < 1) || decide (500000 < u32 b 4)
  checks [(b.length != 12, 0x101), (bad, 0x102), (mode == 2 && d.tim.ptp.mode != 0, 0x103)] d
    (let d := { d with tim := { d.tim with
        ppsMode := mode, ppsGate := u8 b 1 == 1, ppsWidth := u32 b 4, ppsLimit := s32 b 8, servoEn := (mode == 2 || d.tim.ptp.mode != 0) && !d.chRet 1173 } }
     ok (d.setQuality d.tim.quality))

/-- 0x0207 TRIG_OUT_CONFIG. -/
def cmdTrigOutConfig : Cmd := cmdL 0x0207 fun _ b d =>
  let n := u8 b 0
  let w := u32 b 4
  let c := (u8 b 1 == 1, w / 8)
  checks [(b.length != 8, 0x101), (decide (7 < n) || decide (1 < u8 b 1) || rsv b 2 2 || w % 8 != 0 || decide (w < 8) || decide (10 ^ 9 < w), 0x102)] d
    (ok (if tget 0 d.tim.toutPulse n = 0 then { d with tim := { d.tim with tout := tput (true, 0) d.tim.tout n c } }
         else { d with tim := { d.tim with toutNext := tput none d.tim.toutNext n (some c) } }))

/-- TIM_INC_COMMIT. -/
def execTimIncCommit (hi : W32) (s : State) : Host.Outcome State Fault Refusal := run true (incCommit hi) s
/-- TIM_STEP_GO. -/
def execTimStepGo (v : W32) (s : State) : Host.Outcome State Fault Refusal := run true (stepGo v) s
/-- SNAP_NOW. -/
def execSnapNow (s : State) : Host.Outcome State Fault Refusal := run true snapshot s
/-- SNAPSHOT_COPY_DONE. -/
def execSnapshotCopyDone (s : State) : Host.Outcome State Fault Refusal := run true snapDone s
/-- PTP_MESSAGE_RX. -/
def execPtpMessageRx (port : Nat) (msg : PtpMsg) (s : State) : Host.Outcome State Fault Refusal := run (decide (port < 16)) (ptpRx port msg) s
/-- PTP_MESSAGE_TX. -/
def execPtpMessageTx (port kind : Nat) (s : State) : Host.Outcome State Fault Refusal :=
  run (decide (port < 16) && [0, 1, 11].contains kind) (ptpTx port kind) s
/-- MASTER_LOST. -/
def execMasterLost (s : State) : Host.Outcome State Fault Refusal := run true masterLost s
/-- PPS_IN_EDGE. -/
def execPpsInEdge (at_ : Nat) (s : State) : Host.Outcome State Fault Refusal := run true (ppsEdge at_) s
/-- PPS_IN_MISSING. -/
def execPpsInMissing (s : State) : Host.Outcome State Fault Refusal := run true ppsMissing s
/-- PPS_OUT_SECOND. -/
def execPpsOutSecond (s : State) : Host.Outcome State Fault Refusal := run true ppsSecond s
/-- PPS_WIDTH_END. -/
def execPpsWidthEnd (s : State) : Host.Outcome State Fault Refusal := run true ppsEnd s
/-- TRIG_OUT_PULSE_END. -/
def execTrigOutPulseEnd (pin : Nat) (s : State) : Host.Outcome State Fault Refusal := run (decide (pin < 8)) (pulseEnd pin) s
/-- MCLK_SWITCH. -/
def execMclkSwitch (n : Nat) (s : State) : Host.Outcome State Fault Refusal := run (decide (n < 4)) (mclkSwitch n) s
/-- OFFSET_LARGE_REPORT. -/
def execOffsetLargeReport (s : State) : Host.Outcome State Fault Refusal := run true offsetLarge s
/-- SERVO_CHECK. -/
def execServoCheck (dTime dRtc : Int) (s : State) : Host.Outcome State Fault Refusal := run true (servoCheck dTime dRtc) s
/-- STRIKE_LEAK. -/
def execStrikeLeak (ch : Nat) (s : State) : Host.Outcome State Fault Refusal := run (decide (ch < 1176)) (fun d => d.leak ch) s
/-- REF_IN_LOSS (20 R497). -/
def execRefInLoss (s : State) : Host.Outcome State Fault Refusal := run true (fun d => { d with tim := { d.tim with refIn := false } }) s
/-- REF_IN_RETURN (20 R497). -/
def execRefInReturn (s : State) : Host.Outcome State Fault Refusal := run true (fun d => { d with tim := { d.tim with refIn := true } }) s
/-- TIME_GET. -/
def execTimeGet (r : AcpReq) (s : State) : Host.Outcome State Fault Refusal := run true (acpTake cmdTimeGet r) s
/-- PTP_CONFIG. -/
def execPtpConfig (r : AcpReq) (s : State) : Host.Outcome State Fault Refusal := run true (acpTake cmdPtpConfig r) s
/-- TIME_STEP. -/
def execTimeStep (r : AcpReq) (s : State) : Host.Outcome State Fault Refusal := run true (acpTake cmdTimeStep r) s
/-- TIME_SET. -/
def execTimeSet (r : AcpReq) (s : State) : Host.Outcome State Fault Refusal := run true (acpTake cmdTimeSet r) s
/-- TSC_SET. -/
def execTscSet (r : AcpReq) (s : State) : Host.Outcome State Fault Refusal := run true (acpTake cmdTscSet r) s
/-- MCLK_CONFIG. -/
def execMclkConfig (r : AcpReq) (s : State) : Host.Outcome State Fault Refusal := run true (acpTake cmdMclkConfig r) s
/-- PPS_CONFIG. -/
def execPpsConfig (r : AcpReq) (s : State) : Host.Outcome State Fault Refusal := run true (acpTake cmdPpsConfig r) s
/-- TRIG_OUT_CONFIG. -/
def execTrigOutConfig (r : AcpReq) (s : State) : Host.Outcome State Fault Refusal := run true (acpTake cmdTrigOutConfig r) s

end Sys2Proof.Machine
end

