-- ==== Sys2Proof/Machine/Stream.lean ====
section
/-! DEFINITION. Audio streams, TDM clusters and MADI ports (11): packets and frames in and out, the capture of an input block, with
the commands 0x04xx and 0x05xx. -/

namespace Sys2Proof.Machine

/-- Receive stream `r`. -/
def Dev.rx (d : Dev) (r : Nat) : RxStr := tget {} d.str.rx r
/-- Writes receive stream `r`. -/
def Dev.setRx (d : Dev) (r : Nat) (x : RxStr) : Dev := { d with str := { d.str with rx := tput {} d.str.rx r x } }
/-- Transmit stream `t`. -/
def Dev.tx (d : Dev) (t : Nat) : TxStr := tget {} d.str.tx t
/-- Writes transmit stream `t`. -/
def Dev.setTx (d : Dev) (t : Nat) (x : TxStr) : Dev := { d with str := { d.str with tx := tput {} d.str.tx t x } }
/-- Cluster TCm. -/
def Dev.tc (d : Dev) (m : Nat) : Tdm := tget {} d.sap.tc m
/-- Writes cluster TCm. -/
def Dev.setTc (d : Dev) (m : Nat) (x : Tdm) : Dev := { d with sap := { d.sap with tc := tput {} d.sap.tc m x } }
/-- MADI port `p`. -/
def Dev.madi (d : Dev) (p : Nat) : Madi := tget {} d.sap.madi p
/-- Writes MADI port `p`. -/
def Dev.setMadi (d : Dev) (p : Nat) (x : Madi) : Dev := { d with sap := { d.sap with madi := tput {} d.sap.madi p x } }
/-- The unit is neither STOPPED nor RETIRED. -/
def Dev.unitOn (d : Dev) (k i : Nat) : Bool := !d.stopped k i && !d.retired k i

/-- Table 11.3: S. -/
def ptimeS (ptime rate : Nat) : Nat :=
  let b := match ptime with
    | 0 => 6
    | 1 => 12
    | 2 => 16
    | 3 => 48
    | _ => 192
  if rate < 2 then b else if rate < 4 then 2 * b else 4 * b

/-- R287: W. -/
def wordBytes (fmt : Nat) : Nat :=
  match fmt with
  | 0 => 2
  | 1 => 3
  | _ => 4

/-- R287: P of a receive stream. -/
def RxStr.payloadLen (x : RxStr) : Nat := if x.payload = 3 then 1440 else ptimeS x.ptime x.rate * x.chans * wordBytes x.payload
/-- R287: P of a transmit stream. -/
def TxStr.payloadLen (x : TxStr) : Nat := ptimeS x.ptime x.rate * x.chans * wordBytes x.format

/-- The greatest instant unit: 2^-16 ns in a second. -/
def secN : Nat := 65536000000000

/-- R283: floor of an instant times Fs. -/
def floorIdx (fs t : Nat) : Nat := t * fs / secN

/-- R283: first sample index with an instant at or after T_m. -/
def firstIdx (rate fs m : Nat) : Nat := ceilDiv (16 * m * fs) (frOf rate)

/-- R23: the block that holds sample index `q` at rate Fs. -/
def blockOfIdx (rate fs : Nat) (q : Nat) : Nat := q * frOf rate / (16 * fs)

/-- Table 1.6: samples of a block at Fs where Fs is Fr, Fr/2 or Fr/4, else 0. -/
def perBlock (rate fs : Nat) : Nat :=
  let fr := frOf rate
  if fs = fr then 16 else if 2 * fs = fr then 8 else if 4 * fs = fr then 4 else 0

/-- R299, R311: adds to a receive stream's counter. -/
def RxStr.count (x : RxStr) (c n : Nat) : RxStr := { x with ctr := bump x.ctr c n }

/-! ## AES3 words (R289, R307) -/

/-- R289: bit `i` of the fixed channel-status block: professional, linear PCM, no emphasis, the rate, 24-bit words. -/
def csBit (rate i : Nat) : Bool :=
  let b0 := 5 + (match rate with
    | 0 => 64
    | 1 => 128
    | _ => 0)
  let b4 := match rate with
    | 2 => 0x50
    | 3 => 0x10
    | 4 => 0x58
    | 5 => 0x18
    | _ => 0
  if i < 8 then b0.testBit i else if 16 ≤ i ∧ i < 24 then (0x2C).testBit (i - 16) else if 32 ≤ i ∧ i < 40 then b4.testBit (i - 32) else false

/-- The parity of a word's bits. -/
def oddBits (w : Nat) : Bool := ((rangeFrom 0 32).filter w.testBit).length % 2 == 1

/-- R289: the flag byte of sample `n` with 24 audio bits `a`: block start, parity, channel status, user 0, validity 0. -/
def am824Flags (rate n a : Nat) : Nat :=
  let c := csBit rate (n % 192)
  32 * b01 (n % 192 == 0) + 8 * b01 (oddBits a != c) + 4 * b01 c

/-- R307: the subframe of sample `n` with 24 audio bits `a`, first subframe of the frame or not. -/
def madiSub (rate n a : Nat) (first : Bool) : Nat :=
  let c := csBit rate (n % 192)
  b01 first + 2 + 8 * b01 (n % 192 == 0) + 16 * a + 2 ^ 30 * b01 c + 2 ^ 31 * b01 (oddBits a != c)

/-- R307: the sample of a received subframe: zero where it is inactive or its parity is wrong. -/
def madiSample (w : Nat) : Int :=
  if !w.testBit 1 || oddBits (w / 16 % 2 ^ 28) then 0 else wrapI 32 (w / 16 % 2 ^ 24 * 256)

/-! ## Receive streams (R290 to R295) -/

/-- R288: the samples of a payload, one list of channels for each sample instant; AM824 words keep their flag byte. -/
def rtpWords (fmt chans : Nat) : Nat → Bytes → List (List Nat)
  | 0, _ => []
  | n + 1, b =>
    let w := wordBytes fmt
    (rangeFrom 0 chans).map (fun c => beN w b (c * w)) :: rtpWords fmt chans n (b.drop (chans * w))

/-- R289: one AM824 word under a channel's status: the sample, the status, and whether a block is found non-PCM. -/
def am824In (st : Nat × Bool) (w : Nat) : Int × (Nat × Bool) × Nat :=
  let f := w / 2 ^ 24
  let pos := if f.testBit 5 then 0 else st.1
  let non := if pos = 1 then f.testBit 2 else st.2
  (if non then 0 else wrapI 32 (w % 2 ^ 24 * 256), (min 192 (pos + 1), non), b01 (pos == 1 && f.testBit 2))

/-- R288, R289: the Q1.31 samples of a packet, with the channels' status and the non-PCM blocks found. -/
def rtpSamples (fmt : Nat) : List (List Nat) → List (Nat × Bool) → List (List Int) × List (Nat × Bool) × Nat
  | [], cs => ([], cs, 0)
  | row :: r, cs =>
    if fmt = 2 then
      let one := (row.zipIdx).map (fun (p : Nat × Nat) => am824In (cs.getD p.2 (192, false)) p.1)
      let rest := rtpSamples fmt r (one.map (fun y => y.2.1))
      (one.map (fun y => y.1) :: rest.1, rest.2.1, (one.map (fun y => y.2.2)).sum + rest.2.2)
    else
      let rest := rtpSamples fmt r cs
      (row.map (fun w => wrapI 32 (if fmt = 0 then w * 65536 else w * 256)) :: rest.1, rest.2.1, rest.2.2)

/-- Table 11.2: the RTP payload of a datagram: CSRC lists and extensions skipped, padding removed. -/
def rtpPayload (b : Bytes) : Option Bytes :=
  let f := beN 1 b 0
  let h := 12 + 4 * (f % 16)
  let h := if f.testBit 4 then h + 4 + 4 * beN 2 b (h + 2) else h
  let pad := if f.testBit 5 then beN 1 b (b.length - 1) else 0
  if b.length < 12 ∨ f / 64 ≠ 2 ∨ b.length < h + pad then none else some ((b.take (b.length - pad)).drop h)

/-- R290: the header checks of a packet: its payload. -/
def RxStr.accept (x : RxStr) (b : Bytes) : Option Bytes :=
  match rtpPayload b with
  | none => none
  | some p =>
    if x.pt ≠ 0 ∧ beN 1 b 1 % 128 ≠ x.pt then none
    else if x.payload = 3 then if p.length % 48 = 0 ∧ 48 ≤ p.length ∧ p.length ≤ 1440 then some p else none
    else if p.length = x.payloadLen then some p else none

/-- R290, R292, R294: sequence tracking: the stream, and whether the packet is new. -/
def RxStr.track (x : RxStr) (legB : Bool) (seq ssrc : Nat) : RxStr × Bool :=
  let chg := x.seen && x.ssrc != BitVec.ofNat 32 ssrc
  let x := if chg then { x.count 10 1 with seqs := [], topA := none, topB := none } else x
  let top := match x.topA, x.topB with
    | some a, some b => some (max a b)
    | some a, none => some a
    | none, b => b
  let ext := match top with
    | none => 65536 + seq
    | some t => (t + (seq + 65536 + 32768 - t % 65536) % 65536) - 32768
  let leg := if legB then x.topB else x.topA
  let lost := match leg with
    | some t => ext - t - 1
    | none => 0
  let x := x.count (2 + b01 legB) lost
  let now := match leg with
    | some t => max t ext
    | none => ext
  let x := { x with seen := true, ssrc := BitVec.ofNat 32 ssrc, topA := if legB then x.topA else some now, topB := if legB then some now else x.topB }
  if x.seqs.contains ext then (x.count 4 1, false)
  else ({ x with seqs := (ext :: x.seqs).filter (fun s => decide (max ext (top.getD 0) < s + 32768)) }, true)

/-- R291: N. -/
def rtpIndex (fs ta ts off : Nat) : Int :=
  let f : Int := floorIdx fs ta
  f + (((ts : Int) - off - f + 2 ^ 31) % 2 ^ 32) - 2 ^ 31

/-- R291, R292: the samples of a new packet enter the jitter buffer. -/
def RxStr.store (x : RxStr) (rate tick ta : Nat) (n : Int) (rows : List (List Int)) : RxStr :=
  let fs := ioRate x.rate
  let q := n + x.link
  let edge := fun (q : Int) => boundT rate (blockOfIdx rate fs q.toNat + 1)
  if ((ta * fs : Nat) : Int) < (n - 2 * ptimeS x.ptime x.rate) * secN then x.count 6 1
  else
    let m : Int := (edge q : Int) - ta
    let old := x.margins.filter (fun (y : Nat × Int) => decide (ta < y.1 + secN) && decide (y.2 < m))
    let rows := (rows.zipIdx).map (fun (r : List Int × Nat) => (q + r.2, r.1))
    let late := rows.any (fun (r : Int × List Int) => decide (r.1 < 0) || decide (edge r.1 ≤ ta))
    let keep := rows.filter (fun (r : Int × List Int) => decide (0 ≤ r.1) && decide (ta < edge r.1) && decide (tick ≤ blockOfIdx rate fs r.1.toNat))
    let x := if late then x.count 5 1 else x
    { x with margins := old ++ [(ta, m)], buf := keep.foldl (fun t (r : Int × List Int) => tput [] t r.1.toNat r.2) x.buf }

/-- RTP_PACKET_RX (R290 to R295), and the checks a trajectory packet shares: the payload of an accepted packet. -/
def rtpTake (p : Nat) (a : RtpIn) (traj : Bool) (d : Dev) : Option (Nat × Bytes) × Dev :=
  match d.rxMatch p a.srcIp a.dstIp a.dstUdp with
  | none => (none, d)
  | some (r, legB) =>
    let x := d.rx r
    if (x.payload == 3) != traj then (none, d)
    else
      let x := x.count (b01 legB) 1
      let x := if legB then { x with lastB := some (a.at_ * 2 ^ 24) } else { x with lastA := some (a.at_ * 2 ^ 24) }
      match x.accept a.data with
      | none => (none, d.setRx r (x.count 7 1))
      | some b =>
        let t := x.track legB (beN 2 a.data 2) (beN 4 a.data 8)
        (if t.2 then some (r, b) else none, d.setRx r t.1)

/-- RTP_PACKET_RX. -/
def rtpRx (p : Nat) (a : RtpIn) (d : Dev) : Dev :=
  let o := rtpTake p a false d
  let d := o.2
  match o.1 with
  | none => d
  | some (r, b) =>
    let x := d.rx r
    let s := rtpSamples x.payload (rtpWords x.payload x.chans (ptimeS x.ptime x.rate) b) x.cs
    let x := { x with cs := if x.payload = 2 then s.2.1 else x.cs }.count 11 s.2.2
    if x.timing = 1 then d.setRx r { x with async := x.async ++ s.1 }
    else d.setRx r (x.store d.rate d.tim.tick a.at_ (rtpIndex (ioRate x.rate) a.at_ (beN 4 a.data 4) x.tsOff) s.1)

/-- TRAJECTORY_PACKET_RX (R301). -/
def trajRx (p : Nat) (a : RtpIn) (d : Dev) : Dev :=
  let o := rtpTake p a true d
  match o.1 with
  | none => o.2
  | some (_, b) => (chunks 48 (b.length / 48) b).foldl (fun d r => streamRecord r d) o.2

/-- R293: one sample instant of a stream: present or missing. -/
def RxStr.next (x : RxStr) (row : Option (List Int)) : List Int × RxStr :=
  match row with
  | some v =>
    let a := min 16 (x.after + 1)
    let y := if x.conceal = 1 ∧ a < 16 then v.map (fun s => rne (s * a) 16) else v
    (y, { x with last := v, gap := 0, after := a })
  | none =>
    let j := x.gap + 1
    let y := if x.conceal = 1 ∧ j ≤ 16 then x.last.map (fun s => rne (s * (16 - (j : Int))) 16) else []
    (y, { x.count 9 1 with gap := j, after := 0 })

/-- R292, R293: the samples of one block: instants from index `q` on, `n` of them. -/
def RxStr.take (x : RxStr) : Nat → Nat → List (List Int) × RxStr
  | _, 0 => ([], x)
  | q, n + 1 =>
    let r := tget [] x.buf q
    let y := x.next (if r = [] then none else some r)
    let z := RxStr.take y.2 (q + 1) n
    (y.1 :: z.1, z.2)

/-! ## Received frames of serial ports (R304, R305, R308) -/

/-- R305: k and e (in 2^-16 frame) of a frame at `t` under LAG. -/
def frameNo (fs t : Nat) (lag : Int) : Int × Int :=
  let x : Int := (t * fs * 256 : Nat) - lag * secN
  let k := rne x (256 * secN)
  (k, rne ((x - k * (256 * secN : Nat)) * 256) secN)

/-- R305: the frame slips. -/
def slipped (fs t : Nat) (lag : Int) (k : Int) : Bool :=
  decide (375 * 256 * secN < 1000 * ((((t * fs * 256 : Nat) : Int) - lag * secN - k * (256 * secN : Nat)).natAbs))

/-- R305, R310: each lane of a cluster that is not retired takes a strike. -/
def Dev.strikeLanes (d : Dev) (c src : Nat) : Dev := forRun (fun i d => d.strike (1108 + 4 * c + i) src 0) (rangeFrom 0 4) d

/-- R302: a received word of `w` bits as a Q1.31 sample. -/
def slotSample (w : Nat) (v : Int) : Int := wrapI 32 (v * 2 ^ (32 - w))

/-- TDM_FRAME_SYNC (R305): a follower's frame at `t`, with the words of its input slots, lane x 32 + slot. -/
def tdmSync (c t : Nat) (w : List Int) (d : Dev) : Dev :=
  let x := d.tc c
  if x.role = 0 ∨ ¬ d.unitOn 7 c then d
  else
    let quiet := 0 < x.mute
    let x := { x with clk := true, wasClk := true, ctr := bump x.ctr 0 1, mute := x.mute - 1 }
    let smp := if quiet then [] else w.map (slotSample x.wordBits)
    if x.role = 2 then d.setTc c { x with async := x.async ++ [smp] }
    else
      let fs := ioRate x.rate
      let k := frameNo fs t x.lag
      let slip := slipped fs t x.lag k.1
      let served := match x.lastK with
        | some l => decide (k.1 ≤ l)
        | none => false
      let n := perBlock d.rate fs
      let word := fun (i : Nat) =>
        if served || n == 0 || k.1 < 0 || blockOfIdx d.rate fs k.1.toNat != d.tim.tick then 0
        else (tget [] d.out.emit (2 ^ 20 + 128 * c + i)).getD (k.1.toNat % n) 0
      let x := { x with
        phase := k.2, outF := (rangeFrom 0 128).map word, ctr := if slip then bump x.ctr 1 1 else x.ctr
        lastK := if served then x.lastK else some k.1
        frames := if served ∨ k.1 < 0 ∨ smp = [] then x.frames else tput [] x.frames k.1.toNat smp }
      if slip then (d.setTc c x).strikeLanes c 0 else d.setTc c x

/-- TDM_CLOCK_LOSS (R305, R310). -/
def tdmLoss (c : Nat) (d : Dev) : Dev :=
  let x := d.tc c
  if x.role = 0 ∨ ¬ d.unitOn 7 c ∨ ¬ x.clk then d
  else (d.setTc c { x with clk := false, mute := 8, ctr := bump x.ctr 2 1 }).strikeLanes c 0

/-- TDM_CLOCK_ABSENT_10S (R310). -/
def tdmAbsent (c : Nat) (d : Dev) : Dev :=
  let x := d.tc c
  if x.role = 0 ∨ ¬ d.unitOn 7 c ∨ x.clk ∨ ¬ x.wasClk then d
  else forRun (fun i d => d.retire (1108 + 4 * c + i) 4) (rangeFrom 0 4) d

/-- Table 11.6: frames a second. -/
def Madi.frameRate (x : Madi) : Nat := if x.mode < 2 then ioRate x.rate else ioRate x.rate / 2
/-- Table 11.6: channels. -/
def Madi.chans (x : Madi) : Nat :=
  match x.mode with
  | 0 => 56
  | 1 => 64
  | 2 => 28
  | _ => 32

/-- MADI_FRAME_RX (R307, R308): a frame at `t`, its subframes, and its invalid 4B5B symbols. -/
def madiRx (p t : Nat) (w : List Nat) (errs : Nat) (d : Dev) : Dev :=
  let x := d.madi p
  if !x.rxEn || !d.unitOn 8 p then d
  else
    let bad := decide (0 < errs)
    let quiet := decide (0 < x.mute)
    let x := { x with
      signal := true, wasSig := true, lock := true, mute := if bad then x.mute else x.mute - 1
      ctr := bump (bump x.ctr 0 1) 1 (b01 bad) }
    let smp := if bad || quiet then [] else w.map madiSample
    if x.role = 1 then d.setMadi p { x with async := x.async ++ [smp] }
    else
      let k := frameNo x.frameRate t x.lag
      let served := match x.lastK with
        | some l => decide (k.1 ≤ l)
        | none => false
      d.setMadi p { x with
        phase := k.2, ctr := if slipped x.frameRate t x.lag k.1 then bump x.ctr 3 1 else x.ctr
        lastK := if served then x.lastK else some k.1
        frames := if served ∨ k.1 < 0 ∨ smp = [] then x.frames else tput [] x.frames k.1.toNat smp }

/-- MADI_SYNC_LOSS (R308, R310). -/
def madiLoss (p : Nat) (d : Dev) : Dev :=
  let x := d.madi p
  if !x.rxEn || !d.unitOn 8 p || !x.lock then d
  else (d.setMadi p { x with lock := false, signal := false, mute := 8, ctr := bump x.ctr 2 1 }).strike (1148 + p) 0 0

/-- MADI_CODE_ERR_SECOND (R310). -/
def madiCodeErr (p n : Nat) (d : Dev) : Dev := if d.unitOn 8 p && decide (100 < n) then d.strike (1148 + p) 0 n else d

/-- MADI_SIGNAL_ABSENT_10S (R310). -/
def madiAbsent (p : Nat) (d : Dev) : Dev :=
  let x := d.madi p
  if d.unitOn 8 p && !x.signal && x.wasSig then d.retire (1148 + p) 4 else d

/-! ## Capture of an input block (R23, R284, R292, R296, R306) -/

/-- R34, R296: a sample at place `i` of `n` in block `k` under a source unit's fade. -/
def FUnit.scaleIn (u : FUnit) (k i n : Nat) (x : Int) : Int := rne (x * u.factor k (i * 16 / n)) 256

/-- R292: block `k` of a receive stream: samples of each instant, and the stream without them. -/
def RxStr.block (x : RxStr) (rate k : Nat) : List (List Int) × RxStr :=
  let fs := ioRate x.rate
  let a := firstIdx rate fs k
  let b := firstIdx rate fs (k + 1)
  let y := x.take a (b - a)
  (y.1, { y.2 with buf := y.2.buf.filter (fun (e : Nat × List Int) => decide (b ≤ e.1)) })

/-- R304, R305: the samples of a slot or channel in block `k`, from the frames received; `f` reads a frame's sample. -/
def frameBlock (frames : Tbl (List Int)) (rate fs k : Nat) (at_ : Nat → Nat × Nat) : List Int :=
  (rangeFrom (firstIdx rate fs k) (firstIdx rate fs (k + 1) - firstIdx rate fs k)).map (fun q =>
    let f := at_ q
    (tget [] frames f.1).getD f.2 0)

/-- R284: one mapped channel of block `k`. `rxs` holds the blocks of receive streams and `tdm` the words of master clusters. -/
def chanIn (k : Nat) (rxs : Tbl (List (List Int))) (tdm : Tbl (List Int)) (d : Dev) (c : Nat) : List Int :=
  let m : Nat × Nat × Nat := tget (0, 0, 0) d.str.inmap c
  let id := m.2.1
  let ch := m.2.2
  let r := d.inRoute c
  let grp := (d.groupOf r.engine r.slot).map (fun g => d.grp r.engine g)
  let viaAsrc := fun (kind sid : Nat) => r.engine != 15 && (d.fe r.engine).kind == 2 && (match grp with
    | some g => g.srcKind == kind && g.srcId == sid
    | none => false)
  let fade := fun (u : FUnit) (l : List Int) => (l.zipIdx).map (fun (p : Int × Nat) => u.scaleIn k p.2 l.length p.1)
  match m.1 with
  | 1 =>
    let x := d.rx id
    if x.chans ≤ ch ∨ x.payload = 3 then []
    else if x.timing = 1 then if viaAsrc 1 id then fade (d.unit 5 id) (x.async.map (fun r => r.getD ch 0)) else []
    else fade (d.unit 5 id) ((tget [] rxs id).map (fun r => r.getD ch 0))
  | 2 =>
    let t := id / 4
    let x := d.tc t
    if x.dir.testBit (id % 4) || decide (x.slots ≤ ch) || d.chRet (1108 + id) then []
    else if x.role = 2 then if viaAsrc 2 t then fade (d.unit 7 t) (x.async.map (fun r => r.getD (32 * (id % 4) + ch) 0)) else []
    else if x.role = 1 then fade (d.unit 7 t) (frameBlock x.frames d.rate (ioRate x.rate) k (fun q => (q, 32 * (id % 4) + ch)))
    else fade (d.unit 7 t) ((fitTo (perBlock d.rate (ioRate x.rate)) (tget [] tdm (32 * id + ch))).map (slotSample x.wordBits))
  | 3 =>
    let x := d.madi id
    if x.chans ≤ ch ∨ ¬ x.rxEn then []
    else if x.role = 1 then if viaAsrc 3 id then
        fade (d.unit 8 id) (x.async.flatMap (fun r => if x.mode < 2 then [r.getD ch 0] else [r.getD (2 * ch) 0, r.getD (2 * ch + 1) 0])) else []
    else fade (d.unit 8 id) (frameBlock x.frames d.rate (ioRate x.rate) k (fun q => if x.mode < 2 then (q, ch) else (q / 2, 2 * ch + q % 2)))
  | _ => []

/-- R284: rate in Hz of a channel's source unit, where it has one that acts. -/
def Dev.srcRate (d : Dev) (c : Nat) : Option Nat :=
  let m : Nat × Nat × Nat := tget (0, 0, 0) d.str.inmap c
  match m.1 with
  | 1 => if d.acting 5 m.2.1 && (d.rx m.2.1).timing == 0 then some (ioRate (d.rx m.2.1).rate) else none
  | 2 => if d.acting 7 (m.2.1 / 4) && (d.tc (m.2.1 / 4)).role != 2 then some (ioRate (d.tc (m.2.1 / 4)).rate) else none
  | 3 => if d.acting 8 m.2.1 && (d.madi m.2.1).role == 0 then some (ioRate (d.madi m.2.1).rate) else none
  | _ => none

/-- R292: takes block `k` from the jitter buffer of one receive stream. -/
def rxBlock (k : Nat) (a : Dev × Tbl (List (List Int))) (r : Nat) : Dev × Tbl (List (List Int)) :=
  let x := a.1.rx r
  let u := a.1.unit 5 r
  let live := match u.startBlk with
    | some j => decide (j ≤ k)
    | none => false
  if !a.1.acting 5 r || !live || x.timing == 1 || x.payload == 3 then a
  else
    let y := x.block a.1.rate k
    (a.1.setRx r y.2, tput [] a.2 r y.1)

/-- Table 1.5: at T_k+1, input block `k` is captured. -/
def capture (k : Nat) (tdm : Tbl (List Int)) (d : Dev) : Dev :=
  let a := (d.str.rx.map Prod.fst).foldl (rxBlock k) (d, [])
  let d := a.1
  let put := fun (t : Tbl (List Int)) (c : Nat) =>
    let v := chanIn k a.2 tdm d c
    tput [] t c (if v.all (· == 0) then [] else v)
  let blk := (d.str.inmap.map Prod.fst).foldl put []
  let old := fun (fs : Nat) (f : Tbl (List Int)) => f.filter (fun (e : Nat × List Int) => decide (firstIdx d.rate fs (k + 1) ≤ e.1 + 1))
  let tcs := d.sap.tc.map (fun (x : Nat × Tdm) => (x.1, { x.2 with
    async := [], frames := old (ioRate x.2.rate) x.2.frames
    ctr := if x.2.role = 0 ∧ (d.unit 7 x.1).st = .running then bump x.2.ctr 0 (perBlock d.rate (ioRate x.2.rate)) else x.2.ctr }))
  { d with
    flt := { d.flt with inBlk := blk }
    str := { d.str with rx := (d.str.rx.map (fun (x : Nat × RxStr) => (x.1, { x.2 with async := [] }))).filter (fun (x : Nat × RxStr) => x.2 != ({} : RxStr)) }
    sap := { tc := tcs, madi := d.sap.madi.map (fun (x : Nat × Madi) => (x.1, { x.2 with async := [], frames := old x.2.frameRate x.2.frames })) } }

/-- R113: source samples have come for an ASRC group in the tick that ended. -/
def Dev.grpFresh (d : Dev) (e g : Nat) : Bool :=
  let x := d.grp e g
  match x.srcKind with
  | 1 => !(d.rx x.srcId).async.isEmpty
  | 2 => !(d.tc x.srcId).async.isEmpty
  | 3 => !(d.madi x.srcId).async.isEmpty
  | _ => false

/-! ## Transmitters (R253, R288, R297 to R300) -/

/-- R288, R300, R302: the top `w` bits of a destination word under a fade of `f`/256. -/
def destWord (w f : Nat) (x : Int) : Int := if f = 256 then x / 2 ^ (32 - w) else rne (x * f) (256 * 2 ^ (32 - w))

/-- R108, R253: the words of output `o` for a destination at Fs: zero where the rates differ. -/
def Dev.wordsFor (d : Dev) (o fs : Nat) : List Int :=
  let n := perBlock d.rate fs
  let w := if o < 512 then d.outWord o else []
  if w.length = n then w else List.replicate n 0

/-- R297: the words of block `m` join a transmit stream. -/
def txFeed (m t : Nat) (d : Dev) : Dev :=
  let x := d.tx t
  let u := d.unit 6 t
  if !d.serves 6 t m then d
  else
    let fs := ioRate x.rate
    let a := firstIdx d.rate fs m
    let n := firstIdx d.rate fs (m + 1) - a
    let bits := if x.format = 0 then 16 else 24
    let cols := (rangeFrom 0 x.chans).map (fun c => d.wordsFor (tget 0xFFFF d.out.tx (64 * t + c)) fs)
    let row := fun (i : Nat) => cols.map (fun l => destWord bits (u.factor m (i * 16 / max n 1)) (l.getD i 0))
    let lo := firstIdx d.rate fs (m - 17)
    d.setTx t { x with fifo := (forRun (fun i f => tput [] f (a + i) (row i)) (rangeFrom 0 n) x.fifo).filter (fun (e : Nat × List Int) => decide (lo ≤ e.1)) }

/-- R288, R289: a word of sample `n` on the wire. -/
def wireWord (fmt rate n : Nat) (v : Int) : Bytes :=
  match fmt with
  | 0 => be 2 (v % 65536).toNat
  | 1 => be 3 (v % 2 ^ 24).toNat
  | _ =>
    let a := (v % 2 ^ 24).toNat
    be 1 (am824Flags rate n a) ++ be 3 a

/-- R297, R299: the RTP packet `p` of a transmit stream. -/
def TxStr.packet (x : TxStr) (p : Nat) : Bytes :=
  let s := ptimeS x.ptime x.rate
  let body := (rangeFrom (p * s) s).flatMap (fun n => (rangeFrom 0 x.chans).flatMap (fun c => wireWord x.format x.rate n ((tget [] x.fifo n).getD c 0)))
  be 1 0x80 ++ be 1 x.pt ++ be 2 ((x.seqBase + p) % 65536) ++ be 4 ((p * s + x.tsOff) % 2 ^ 32) ++ be 4 x.ssrc ++ body

/-- R299: a packet leaves by one leg (0 A, 1 B). -/
def txLeg (t leg : Nat) (pkt : Bytes) (d : Dev) : Dev :=
  let x := d.tx t
  let l := if leg = 0 then x.legA else x.legB
  if l.port = 255 then d
  else
    let q := d.port l.port
    if !d.canSend l.port || q.ipv4 == 0 then d.setTx t { x with ctr := bump x.ctr (2 + leg) 1 }
    else
      let mac := if isGroup l.dstIp then groupMac l.dstIp else l.dstMac
      let f := ethOf mac (d.macOf l.port) 0x0800 (ipv4Of (4 * x.dscp) x.ttl 17 q.ipv4.toNat l.dstIp [] (udpOf l.srcUdp l.dstUdp pkt))
      let d := sendFrame l.port 1 f false d
      if (d.port l.port).reject then d else d.setTx t { x with ctr := bump x.ctr leg 1 }

/-- R298: packets of a stream whose last sample lies before index `e`, in order of leg and packet index. -/
def txSend (t p n : Nat) (d : Dev) : Dev :=
  let ps := (rangeFrom p n).map (fun i => (d.tx t).packet i)
  let d := ps.foldl (fun d k => txLeg t 0 k d) d
  ps.foldl (fun d k => txLeg t 1 k d) d

/-- Table 16.1: the device emits its outputs now. -/
def Dev.emitsNow (d : Dev) : Bool :=
  match d.pair.st with
  | .off | .active => true
  | .solo => d.pair.soloOn
  | _ => false

/-- R298, R300: at T_b+1 a stream's packets that end in block `b` fall due; a device that does not emit passes over them. -/
def txDue (b t : Nat) (d : Dev) : Dev :=
  let x := d.tx t
  let u := d.unit 6 t
  let s := ptimeS x.ptime x.rate
  let live := match u.startBlk with
    | some j => decide (j ≤ b)
    | none => false
  match x.nextP with
  | none => d
  | some p =>
    if !live || !(u.st == .running || u.st == .stopping || u.st == .stopped) then d
    else
      let n := firstIdx d.rate (ioRate x.rate) (b + 1) / s - p
      let d := if d.emitsNow then txSend t p n d else d
      d.setTx t { d.tx t with nextP := some (p + n) }

/-- 16 R422: each channel of the stream carries a guarded output or nothing. -/
def Dev.guardedTx (d : Dev) (t : Nat) : Bool :=
  (rangeFrom 0 (d.tx t).chans).all (fun c =>
    let o := tget 0xFFFF d.out.tx (64 * t + c)
    o == 0xFFFF || d.guarded o)

/-- 16 R422: the backlog of a guarded stream: packets whose samples lie in blocks `lo` to `hi`. -/
def txBacklog (lo hi t : Nat) (d : Dev) : Dev :=
  let x := d.tx t
  let s := ptimeS x.ptime x.rate
  if d.guardedTx t && (d.unit 6 t).st == .running then
    let lo := match (d.unit 6 t).startBlk with
      | some j => max lo j
      | none => lo
    let a := ceilDiv (firstIdx d.rate (ioRate x.rate) lo) s
    txSend t a (firstIdx d.rate (ioRate x.rate) (hi + 1) / s - a) d
  else d

/-- R253, R300, R302, R307: the words of block `m` for a TDM slot (kind 1) or a MADI channel (kind 2) fed by output `o`. -/
def Dev.destOut (d : Dev) (m kind key o : Nat) : List Int :=
  if kind = 1 then
    let c := key / 128
    let x := d.tc c
    let u := d.unit 7 c
    if !x.dir.testBit (key / 32 % 4) || decide (x.slots ≤ key % 32) || !d.serves 7 c m || d.chRet (1108 + key / 32) then []
    else
      let w := d.wordsFor o (ioRate x.rate)
      (w.zipIdx).map (fun (p : Int × Nat) => destWord x.wordBits (u.factor m (p.2 * 16 / w.length)) p.1)
  else
    let x := d.madi (key / 64)
    let u := d.unit 8 (key / 64)
    if !x.txEn || decide (x.chans ≤ key % 64) || !d.serves 8 (key / 64) m then []
    else
      let fs := ioRate x.rate
      let w := d.wordsFor o fs
      (w.zipIdx).map (fun (p : Int × Nat) =>
        let n := firstIdx d.rate fs m + p.2
        madiSub x.rate n (destWord 24 (u.factor m (p.2 * 16 / w.length)) p.1 % 2 ^ 24).toNat (key % 64 == 0 && (decide (x.mode < 2) || n % 2 == 0)))

/-- R253: block `m` goes to its destinations. -/
def handDest (m : Nat) (d : Dev) : Dev :=
  let d := forRun (txFeed m) (d.str.tx.map Prod.fst) d
  let put := fun (kind : Nat) (t : Tbl (List Int)) (e : Nat × Nat) => tput [] t (kind * 2 ^ 20 + e.1) (d.destOut m kind e.1 e.2)
  { d with out := { d.out with dest := d.out.madi.foldl (put 2) (d.out.tdm.foldl (put 1) []) } }

/-! ## Rate mismatch (04 R108) -/

/-- R108: a DIRECT channel whose source runs at another rate. -/
def Dev.inMismatch (d : Dev) (c : Nat) : Bool :=
  (d.inRoute c).engine == 15 && (match d.srcRate c with
    | some fs => fs != frOf d.rate
    | none => false)

/-- R254: rate of a destination unit in Hz. -/
def Dev.destRate (d : Dev) (kind id : Nat) : Nat :=
  match kind with
  | 0 => ioRate (d.tx id).rate
  | 1 => ioRate (d.tc (id / 4)).rate
  | _ => ioRate (d.madi id).rate

/-- R108: the DIRECT outputs of a destination unit that runs at another rate, one for each channel. -/
def Dev.outMismatch (d : Dev) (kind : Nat) : List Nat :=
  let w := (destOf kind).2
  ((d.out.map kind).filter (fun (e : Nat × Nat) =>
    (d.destUnit kind (e.1 / w)).st == .running && (d.outRoute e.2).engine == 15 && d.destRate kind (e.1 / w) != frOf d.rate)).map Prod.fst

/-- R108: FLT_RATE_MISMATCH of one tick. -/
def countMismatch (d : Dev) : Dev :=
  let i := ((d.str.inmap.map Prod.fst).filter d.inMismatch).length
  let outs := ((rangeFrom 0 3).flatMap (fun k => (d.outMismatch k).map (fun e => tget 0xFFFF (d.out.map k) e))).eraseDups
  { d with flt := { d.flt with mismatch := d.flt.mismatch + BitVec.ofNat 32 (i + outs.length) } }

/-- R108: EV_FLT_RATE_MISMATCH as a source or destination unit starts. -/
def evMismatch (kind id : Nat) (d : Dev) : Dev :=
  let ev := fun (side n : Nat) (d : Dev) => if n = 0 then d else d.raise 0x8600 0 (le 1 side ++ le 1 kind ++ le 2 id ++ le 2 n ++ zb 2)
  let srcKind := match kind with
    | 5 => 1
    | 7 => 2
    | 8 => 3
    | _ => 0
  let mine := fun (m : Nat × Nat × Nat) => m.1 == srcKind && (if srcKind = 2 then m.2.1 / 4 else m.2.1) == id
  let ins := (d.str.inmap.filter (fun (e : Nat × Nat × Nat × Nat) => mine e.2 && d.inMismatch e.1)).length
  let dk := match kind with
    | 6 => some 0
    | 7 => some 1
    | 8 => some 2
    | _ => none
  let outs := match dk with
    | none => 0
    | some k => ((d.outMismatch k).filter (fun e => (if k = 1 then e / 128 else e / (destOf k).2) == id)).length
  ev 1 outs (ev 0 ins d)

/-! ## Starting media units (R290, R297, R305, R310) -/

/-- What a start of a stream, cluster or MADI port for block `j` resets. -/
def mediaStart (kind i j : Nat) (d : Dev) : Dev :=
  match kind with
  | 5 =>
    let x := d.rx i
    d.setRx i { x with seen := false, seqs := [], topA := none, topB := none, margins := [], buf := [], last := [], gap := 0, after := 16, cs := [], async := [] }
  | 6 =>
    let x := d.tx i
    d.setTx i { x with nextP := some (ceilDiv (firstIdx d.rate (ioRate x.rate) j) (ptimeS x.ptime x.rate)), fifo := [] }
  | 7 => d.setTc i { d.tc i with wasClk := false, clk := false, mute := 0, lastK := none, frames := [], outF := [], async := [] }
  | 8 => d.setMadi i { d.madi i with wasSig := false, signal := false, lock := false, mute := 0, lastK := none, frames := [], async := [] }
  | _ => d

/-! ## Commands (Table 11.11) -/

/-- Table 11.12: one leg's bytes. -/
def RxLeg.bytes (l : RxLeg) : Bytes := le 1 l.port ++ zb 1 ++ le 2 l.dstUdp ++ le 4 l.dstIp ++ le 4 l.srcIp ++ zb 4
/-- Table 11.12: a leg as a request gives it. -/
def rxLegOf (p : Bytes) (o : Nat) : RxLeg := { port := u8 p o, dstUdp := u16 p (o + 2), dstIp := u32 p (o + 4), srcIp := u32 p (o + 8) }
/-- Table 11.12: a stream's settings. -/
def RxStr.bytes (x : RxStr) (r : Nat) : Bytes :=
  le 1 r ++ le 1 x.payload ++ le 1 x.rate ++ le 1 x.ptime ++ le 1 x.chans ++ le 1 x.timing ++ le 1 x.conceal ++ le 1 x.pt ++ le 2 x.link ++ zb 2
  ++ le 4 x.tsOff ++ x.legA.bytes ++ x.legB.bytes
/-- A port field: ETH0 to ETH15, or off. -/
def portOk (p : Nat) : Bool := decide (p < 16) || p == 255
/-- R287: the frame is too long for a leg's port. -/
def Dev.tooLong (d : Dev) (port payload : Nat) : Bool := port != 255 && decide ((d.port port).maxfrm < 58 + (d.port port).tagLen + payload)
/-- 10 R281: a leg names a RETIRED port. -/
def Dev.portGone (d : Dev) (port : Nat) : Bool := port != 255 && d.retired 4 port

/-- 0x0400 STREAM_RX_CONFIG. -/
def cmdStreamRxConfig : Cmd := cmdA 0x0400 fun _ p d =>
  let r := u8 p 0
  let x := d.rx r
  let y : RxStr := { x with
    payload := u8 p 1, rate := u8 p 2, ptime := u8 p 3, chans := u8 p 4, timing := u8 p 5, conceal := u8 p 6, pt := u8 p 7, link := u16 p 8
    tsOff := u32 p 12, legA := rxLegOf p 16, legB := rxLegOf p 32 }
  let traj := y.payload == 3
  let s := ptimeS y.ptime y.rate
  let form := if traj then y.rate != 0 || y.ptime != 0 || y.chans != 0 || y.timing != 0 || y.conceal != 0 || y.link != 0
    else decide (5 < y.rate) || decide (4 < y.ptime) || y.chans == 0 || decide (64 < y.chans) || decide (1 < y.timing) || decide (1 < y.conceal)
      || decide (y.link < s) || decide (16384 < y.link)
  let others := d.str.rx.flatMap (fun (z : Nat × RxStr) => if z.1 = r then [] else [z.2.legA, z.2.legB])
  let twin := fun (l : RxLeg) (ls : List RxLeg) => l.port != 255 && ls.contains l
  let bad := decide (3 < y.payload) || form || (y.pt != 0 && (decide (y.pt < 96) || decide (127 < y.pt))) || rsv p 10 2 || rsv p 17 1 || rsv p 28 4
    || rsv p 33 1 || rsv p 44 4 || !portOk y.legA.port || !portOk y.legB.port
    || d.tooLong y.legA.port y.payloadLen || d.tooLong y.legB.port y.payloadLen || twin y.legA (y.legB :: others) || twin y.legB others
  let pool := if traj then 0 else y.chans * (y.link + 2 * s)
  let used := (d.str.rx.map (fun (z : Nat × RxStr) => if z.1 = r then 0 else z.2.pool)).sum
  checks [(p.length != 48, 0x101), (bad, 0x102), (d.retired 5 r || d.portGone y.legA.port || d.portGone y.legB.port, 0x109), (!d.stopped 5 r, 0x103),
    (decide (786432 < used + pool), 0x106)] d (ok (d.setRx r { y with pool := pool }))

/-- Table 11.9: MARGIN now, Q24.8 microseconds. -/
def Dev.rxMargin (d : Dev) (r : Nat) : Int :=
  match ((d.rx r).margins.filter (fun (y : Nat × Int) => decide (d.now16 < y.1 + secN))).map Prod.snd with
  | [] => 0
  | a :: l => rne (l.foldl min a) 256000

/-- 0x0401 STREAM_RX_GET. -/
def cmdStreamRxGet : Cmd := cmdL 0x0401 fun _ p d =>
  let r := u8 p 0
  checks [(p.length != 4, 0x101), (rsv p 1 3, 0x102)] d
    (okData ((d.rx r).bytes r ++ le 1 (d.unit 5 r).st.code ++ zb 3 ++ le 4 (d.rx r).ssrc.toNat ++ leI 4 (d.rxMargin r)) d)

/-- Table 11.13: one leg's bytes. -/
def TxLeg.bytes (l : TxLeg) : Bytes := le 1 l.port ++ zb 1 ++ le 2 l.dstUdp ++ le 2 l.srcUdp ++ zb 2 ++ le 4 l.dstIp ++ be 6 l.dstMac ++ zb 6
/-- Table 11.13: a leg as a request gives it. -/
def txLegOf (p : Bytes) (o : Nat) : TxLeg :=
  { port := u8 p o, dstUdp := u16 p (o + 2), srcUdp := u16 p (o + 4), dstIp := u32 p (o + 8), dstMac := beN 6 p (o + 12) }
/-- Table 11.13: a stream's settings. -/
def TxStr.bytes (x : TxStr) (t : Nat) : Bytes :=
  le 1 t ++ le 1 x.format ++ le 1 x.rate ++ le 1 x.ptime ++ le 1 x.chans ++ le 1 x.dscp ++ le 1 x.ttl ++ le 1 x.pt ++ le 4 x.ssrc ++ le 2 x.seqBase
  ++ zb 2 ++ le 4 x.tsOff ++ zb 4 ++ x.legA.bytes ++ x.legB.bytes

/-- 0x0402 STREAM_TX_CONFIG. -/
def cmdStreamTxConfig : Cmd := cmdA 0x0402 fun _ p d =>
  let t := u8 p 0
  let y : TxStr := { d.tx t with
    format := u8 p 1, rate := u8 p 2, ptime := u8 p 3, chans := u8 p 4, dscp := u8 p 5, ttl := u8 p 6, pt := u8 p 7, ssrc := u32 p 8, seqBase := u16 p 12
    tsOff := u32 p 16, legA := txLegOf p 24, legB := txLegOf p 48, nextP := none, fifo := [] }
  let bad := decide (2 < y.format) || decide (5 < y.rate) || decide (3 < y.ptime) || y.chans == 0 || decide (64 < y.chans) || decide (63 < y.dscp)
    || y.ttl == 0 || decide (y.pt < 96) || decide (127 < y.pt) || rsv p 14 2 || rsv p 20 4 || rsv p 25 1 || rsv p 30 2 || rsv p 42 6 || rsv p 49 1
    || rsv p 54 2 || rsv p 66 6 || !portOk y.legA.port || !portOk y.legB.port || d.tooLong y.legA.port y.payloadLen || d.tooLong y.legB.port y.payloadLen
  checks [(p.length != 72, 0x101), (bad, 0x102), (d.retired 6 t || d.portGone y.legA.port || d.portGone y.legB.port, 0x109), (!d.stopped 6 t, 0x103)] d
    (ok (d.setTx t y))

/-- Table 11.9: NEXT_SEQ. -/
def TxStr.nextSeq (x : TxStr) : Nat := (x.seqBase + x.nextP.getD 0) % 65536

/-- 0x0403 STREAM_TX_GET. -/
def cmdStreamTxGet : Cmd := cmdL 0x0403 fun _ p d =>
  let t := u8 p 0
  checks [(p.length != 4, 0x101), (rsv p 1 3, 0x102)] d
    (okData ((d.tx t).bytes t ++ le 1 (d.unit 6 t).st.code ++ zb 3 ++ le 2 (d.tx t).nextSeq ++ zb 2) d)

/-- R284: an input map entry. -/
def inEntry (p : Bytes) (i : Nat) : Nat × Nat × Nat :=
  let o := 4 + 4 * i
  if u8 p o = 0 then (0, 0, 0) else (u8 p o, u8 p (o + 1), u8 p (o + 2))
/-- R284: the entry names no source there is. -/
def inEntryBad (p : Bytes) (i : Nat) : Bool :=
  let o := 4 + 4 * i
  rsv p (o + 3) 1 || (match u8 p o with
    | 0 => false
    | 1 => decide (63 < u8 p (o + 2))
    | 2 => decide (39 < u8 p (o + 1)) || decide (31 < u8 p (o + 2))
    | 3 => decide (7 < u8 p (o + 1)) || decide (63 < u8 p (o + 2))
    | _ => true)
/-- R284: the source unit of an entry. -/
def inUnit (m : Nat × Nat × Nat) : Option (Nat × Nat) :=
  match m.1 with
  | 1 => some (5, m.2.1)
  | 2 => some (7, m.2.1 / 4)
  | 3 => some (8, m.2.1)
  | _ => none

/-- 0x0404 INPUT_MAP_SET. -/
def cmdInputMapSet : Cmd := cmdA 0x0404 fun _ p d =>
  let f := u16 p 0
  let n := u16 p 2
  let ix := rangeFrom 0 n
  let units := (ix.map (inEntry p) ++ ix.map (fun i => tget (0, 0, 0) d.str.inmap (f + i))).filterMap inUnit
  checks [(p.length != 4 + 4 * n, 0x101), (n == 0 || decide (1088 < f + n) || ix.any (inEntryBad p), 0x102),
    (units.any (fun u => d.retired u.1 u.2), 0x109), (units.any (fun u => !d.stopped u.1 u.2), 0x103)] d
    (ok { d with str := { d.str with inmap := forRun (fun i t => tput (0, 0, 0) t (f + i) (inEntry p i)) ix d.str.inmap } })

/-- 0x0405 INPUT_MAP_GET. -/
def cmdInputMapGet : Cmd := cmdL 0x0405 fun _ p d =>
  let f := u16 p 0
  let n := u16 p 2
  let ent := fun (c : Nat) => let m : Nat × Nat × Nat := tget (0, 0, 0) d.str.inmap c
    le 1 m.1 ++ le 1 m.2.1 ++ le 1 m.2.2 ++ zb 1
  checks [(p.length != 4, 0x101), (n == 0 || decide (1088 < f + n), 0x102)] d (okData ((rangeFrom f n).flatMap ent) d)

/-- 0x0410 STREAM_STATS_GET. -/
def cmdStreamStatsGet : Cmd := cmdL 0x0410 fun _ p d =>
  let i := u8 p 1
  let sh := u8 p 2 == 1
  let t := if u8 p 0 = 0 then (if sh then (d.rx i).shd else (d.rx i).ctr) else (if sh then (d.tx i).shd else (d.tx i).ctr)
  checks [(p.length != 4, 0x101), (decide (1 < u8 p 0) || decide (1 < u8 p 2) || rsv p 3 1, 0x102)] d
    (okData (le 4 d.tim.snapSeq.toNat ++ (rangeFrom 0 12).flatMap (fun c => le 4 (tget 0 t c).toNat)) d)

/-- Table 11.14: a cluster's settings. -/
def Tdm.bytes (x : Tdm) (c : Nat) : Bytes :=
  le 1 c ++ le 1 x.role ++ le 1 x.rate ++ le 1 x.slots ++ le 1 x.slotBits ++ le 1 x.wordBits ++ le 1 x.flags ++ le 1 x.dir ++ leI 2 x.lag ++ zb 6
/-- R303: the bit clock in Hz. -/
def Tdm.bclk (x : Tdm) : Nat := x.slots * x.slotBits * ioRate x.rate
/-- A word size of R302. -/
def bitsOk (n : Nat) : Bool := n == 16 || n == 24 || n == 32

/-- 0x0500 TDM_CLUSTER_CONFIG. -/
def cmdTdmClusterConfig : Cmd := cmdA 0x0500 fun _ p d =>
  let c := u8 p 0
  let y : Tdm := { d.tc c with role := u8 p 1, rate := u8 p 2, slots := u8 p 3, slotBits := u8 p 4, wordBits := u8 p 5, flags := u8 p 6, dir := u8 p 7, lag := s16 p 8 }
  let top := if y.rate % 2 = 1 then 49152000 else 45158400
  let bad := decide (9 < c) || decide (2 < y.role) || decide (5 < y.rate) || decide (y.slots < 2) || decide (32 < y.slots) || !bitsOk y.slotBits
    || !bitsOk y.wordBits || decide (y.slotBits < y.wordBits) || decide (31 < y.flags) || decide (15 < y.dir) || decide (y.lag < -64) || decide (64 < y.lag)
    || rsv p 10 6 || decide (top < y.bclk) || (y.role == 2 && y.dir != 0)
  checks [(p.length != 16, 0x101), (bad, 0x102), (d.retired 7 c, 0x109), (!d.stopped 7 c, 0x103)] d (ok (d.setTc c y))

/-- 0x0501 TDM_CLUSTER_GET. -/
def cmdTdmClusterGet : Cmd := cmdL 0x0501 fun _ p d =>
  let c := u8 p 0
  let x := d.tc c
  checks [(p.length != 4, 0x101), (decide (9 < c) || rsv p 1 3, 0x102)] d
    (okData (x.bytes c ++ le 1 (d.unit 7 c).st.code ++ le 1 (b01 x.clk) ++ zb 2 ++ leI 4 x.phase ++ le 4 x.bclk) d)

/-- Table 11.15: a MADI port's settings. -/
def Madi.bytes (x : Madi) (m : Nat) : Bytes :=
  le 1 m ++ le 1 x.mode ++ le 1 x.rate ++ le 1 x.role ++ leI 2 x.lag ++ le 1 (b01 x.txEn) ++ le 1 (b01 x.rxEn) ++ zb 8

/-- 0x0502 MADI_CONFIG. -/
def cmdMadiConfig : Cmd := cmdA 0x0502 fun _ p d =>
  let m := u8 p 0
  let y : Madi := { d.madi m with mode := u8 p 1, rate := u8 p 2, role := u8 p 3, lag := s16 p 4, txEn := u8 p 6 == 1, rxEn := u8 p 7 == 1 }
  let rateBad := if y.mode < 2 then decide (1 < y.rate) else y.rate != 2 && y.rate != 3
  let bad := decide (7 < m) || decide (3 < y.mode) || rateBad || decide (1 < y.role) || decide (y.lag < -64) || decide (64 < y.lag) || decide (1 < u8 p 6)
    || decide (1 < u8 p 7) || rsv p 8 8
  checks [(p.length != 16, 0x101), (bad, 0x102), (d.retired 8 m, 0x109), (!d.stopped 8 m, 0x103)] d (ok (d.setMadi m y))

/-- 0x0503 MADI_GET. -/
def cmdMadiGet : Cmd := cmdL 0x0503 fun _ p d =>
  let m := u8 p 0
  let x := d.madi m
  checks [(p.length != 4, 0x101), (decide (7 < m) || rsv p 1 3, 0x102)] d
    (okData (x.bytes m ++ le 1 (d.unit 8 m).st.code ++ le 1 (b01 x.signal + 2 * b01 x.lock) ++ zb 2 ++ leI 4 x.phase) d)

/-- 0x0510 SAP_STATS_GET. -/
def cmdSapStatsGet : Cmd := cmdL 0x0510 fun _ p d =>
  let i := u8 p 1
  let sh := u8 p 2 == 1
  let t := if u8 p 0 = 0 then (if sh then (d.tc i).shd else (d.tc i).ctr) else (if sh then (d.madi i).shd else (d.madi i).ctr)
  checks [(p.length != 4, 0x101), (decide (1 < u8 p 0) || decide ((if u8 p 0 = 0 then 9 else 7) < i) || decide (1 < u8 p 2) || rsv p 3 1, 0x102)] d
    (okData (le 4 d.tim.snapSeq.toNat ++ (rangeFrom 0 4).flatMap (fun c => le 4 (tget 0 t c).toNat)) d)

/-- RTP_PACKET_RX. -/
def execRtpPacketRx (port : Nat) (p : RtpIn) (s : State) : Host.Outcome State Fault Refusal := run (decide (port < 16)) (rtpRx port p) s
/-- TRAJECTORY_PACKET_RX. -/
def execTrajectoryPacketRx (port : Nat) (p : RtpIn) (s : State) : Host.Outcome State Fault Refusal := run (decide (port < 16)) (trajRx port p) s
/-- TDM_FRAME_SYNC. -/
def execTdmFrameSync (c at_ : Nat) (words : List Int) (s : State) : Host.Outcome State Fault Refusal := run (decide (c < 10)) (tdmSync c at_ words) s
/-- TDM_CLOCK_LOSS. -/
def execTdmClockLoss (c : Nat) (s : State) : Host.Outcome State Fault Refusal := run (decide (c < 10)) (tdmLoss c) s
/-- TDM_CLOCK_ABSENT_10S. -/
def execTdmClockAbsent10s (c : Nat) (s : State) : Host.Outcome State Fault Refusal := run (decide (c < 10)) (tdmAbsent c) s
/-- MADI_FRAME_RX. -/
def execMadiFrameRx (m at_ : Nat) (words : List Nat) (codeErrs : Nat) (s : State) : Host.Outcome State Fault Refusal :=
  run (decide (m < 8)) (madiRx m at_ words codeErrs) s
/-- MADI_SYNC_LOSS. -/
def execMadiSyncLoss (m : Nat) (s : State) : Host.Outcome State Fault Refusal := run (decide (m < 8)) (madiLoss m) s
/-- MADI_CODE_ERR_SECOND. -/
def execMadiCodeErrSecond (m errs : Nat) (s : State) : Host.Outcome State Fault Refusal := run (decide (m < 8)) (madiCodeErr m errs) s
/-- MADI_SIGNAL_ABSENT_10S. -/
def execMadiSignalAbsent10s (m : Nat) (s : State) : Host.Outcome State Fault Refusal := run (decide (m < 8)) (madiAbsent m) s
/-- STREAM_RX_CONFIG. -/
def execStreamRxConfig (r : AcpReq) (s : State) : Host.Outcome State Fault Refusal := run true (acpTake cmdStreamRxConfig r) s
/-- STREAM_RX_GET. -/
def execStreamRxGet (r : AcpReq) (s : State) : Host.Outcome State Fault Refusal := run true (acpTake cmdStreamRxGet r) s
/-- STREAM_TX_CONFIG. -/
def execStreamTxConfig (r : AcpReq) (s : State) : Host.Outcome State Fault Refusal := run true (acpTake cmdStreamTxConfig r) s
/-- STREAM_TX_GET. -/
def execStreamTxGet (r : AcpReq) (s : State) : Host.Outcome State Fault Refusal := run true (acpTake cmdStreamTxGet r) s
/-- INPUT_MAP_SET. -/
def execInputMapSet (r : AcpReq) (s : State) : Host.Outcome State Fault Refusal := run true (acpTake cmdInputMapSet r) s
/-- INPUT_MAP_GET. -/
def execInputMapGet (r : AcpReq) (s : State) : Host.Outcome State Fault Refusal := run true (acpTake cmdInputMapGet r) s
/-- STREAM_STATS_GET. -/
def execStreamStatsGet (r : AcpReq) (s : State) : Host.Outcome State Fault Refusal := run true (acpTake cmdStreamStatsGet r) s
/-- TDM_CLUSTER_CONFIG. -/
def execTdmClusterConfig (r : AcpReq) (s : State) : Host.Outcome State Fault Refusal := run true (acpTake cmdTdmClusterConfig r) s
/-- TDM_CLUSTER_GET. -/
def execTdmClusterGet (r : AcpReq) (s : State) : Host.Outcome State Fault Refusal := run true (acpTake cmdTdmClusterGet r) s
/-- MADI_CONFIG. -/
def execMadiConfig (r : AcpReq) (s : State) : Host.Outcome State Fault Refusal := run true (acpTake cmdMadiConfig r) s
/-- MADI_GET. -/
def execMadiGet (r : AcpReq) (s : State) : Host.Outcome State Fault Refusal := run true (acpTake cmdMadiGet r) s
/-- SAP_STATS_GET. -/
def execSapStatsGet (r : AcpReq) (s : State) : Host.Outcome State Fault Refusal := run true (acpTake cmdSapStatsGet r) s

end Sys2Proof.Machine
end

