-- ==== Sys2Proof/Machine/Dram.lean ====
section
/-! DEFINITION. The DRAM controller (13): addresses, requests, refresh, training, drift, freeze, and the commands 0x0Dxx. -/

namespace Sys2Proof.Machine

/-! ## Addresses (R335, R337) -/

/-- R335: U in bytes. -/
def Dev.drcU (d : Dev) : Nat := usableMiB d.drc.density d.drc.ranks2 * 1048576
/-- R335: channel of a DRAM address. -/
def drcCh (a : Nat) : Nat := a / 64 % 4
/-- R335: slot of a DRAM address. -/
def drcSlot (a : Nat) : Nat := a / 256 % 28
/-- R335: bank of a DRAM address. -/
def drcBank (a : Nat) : Nat := a / 256 / 28 % 16
/-- R335: rank of a DRAM address. -/
def Dev.drcRank (d : Dev) (a : Nat) : Nat := a / 256 / 28 / 16 % (if d.drc.ranks2 then 2 else 1)
/-- R335: row of a DRAM address. -/
def Dev.drcRow (d : Dev) (a : Nat) : Nat := a / 256 / 28 / 16 / (if d.drc.ranks2 then 2 else 1)
/-- A bank of the array: 64 x channel + 16 x rank + bank. -/
def bankKey (ch rank bank : Nat) : Nat := 64 * ch + 16 * rank + bank
/-- R335: the array bank of a DRAM address. -/
def Dev.drcKey (d : Dev) (a : Nat) : Nat := bankKey (drcCh a) (d.drcRank a) (drcBank a)
/-- Table 13.5: LOC of a DRAM address. -/
def Dev.drcLoc (d : Dev) (a : Nat) : Nat :=
  drcCh a + fld (d.drcRank a) 2 + fld (drcBank a) 3 + fld (drcSlot a) 7 + fld (d.drcRow a) 12

/-- R343: a byte of DRAM. -/
def Dev.dramByte (d : Dev) (a : Nat) : Byte :=
  match tget none d.drc.mem a with
  | some b => b
  | none => Config.dramInit d.drc.gen a
/-- `n` bytes of DRAM. -/
def Dev.dramRead (d : Dev) (a n : Nat) : Bytes := (rangeFrom a n).map d.dramByte
/-- Writes bytes of DRAM. -/
def dramWrite : Tbl (Option Byte) → Nat → Bytes → Tbl (Option Byte)
  | m, _, [] => m
  | m, a, b :: r => dramWrite (tput none m a (some b)) (a + 1) r

/-! ## Requests (R338 to R340) -/

/-- R338: requests of a channel's queue. -/
def Dev.drcQ (d : Dev) (ch : Nat) : List DReq := tget [] d.drc.queue ch
/-- Table 13.6: requests in flight. -/
def Dev.drcDepth (d : Dev) : Nat := ((rangeFrom 0 4).map (fun c => min 64 (d.drcQ c).length)).sum
/-- DRC is RUNNING. -/
def Dev.drcRuns (d : Dev) : Bool := (d.unit 9 0).st == .running

/-- R338, Table 13.3: a request is queued, or returned with an error. -/
def Dev.drcSubmit (d : Dev) (r : DReq) : Dev :=
  if d.drcRuns && (d.drc.cond == .inService || d.drc.cond == .training) && decide (r.addr < d.drcU) then
    let c := drcCh r.addr
    let d := { d with drc := { d.drc with queue := tput [] d.drc.queue c (d.drcQ c ++ [r]) } }
    { d with drc := { d.drc with qMax := max d.drc.qMax d.drcDepth } }
  else d

/-- R338: requests of a list that no earlier request to the same burst precedes. -/
def drcFirst : List Nat → List DReq → List DReq
  | _, [] => []
  | seen, r :: rs => if seen.contains (r.addr / 64) then drcFirst seen rs else r :: drcFirst (r.addr / 64 :: seen) rs

/-- R339: the age of a request has reached DRC_AGE_MAX. -/
def Dev.drcAged (d : Dev) (r : DReq) : Bool := decide (r.at_ + d.drc.ageMax * 65536 ≤ d.now16)
/-- R339: a request hits an open row. -/
def Dev.drcHit (d : Dev) (r : DReq) : Bool := tget none d.drc.open_ (d.drcKey r.addr) == some (d.drcRow r.addr)

/-- R339 steps 2 to 4: the request chosen, and whether its age forced it. -/
def Dev.drcChoose (d : Dev) (ch : Nat) : Option (DReq × Bool) :=
  let q := drcFirst [] ((d.drcQ ch).take 64)
  match q.find? d.drcAged with
  | some r => some (r, true)
  | none => match q.find? d.drcHit with
    | some r => some (r, false)
    | none => q.head?.map (fun r => (r, false))

/-- R336: a write of less than a burst is a read-modify-write. -/
def DReq.partial_ (r : DReq) : Bool := r.write && r.data.length != 64
/-- R336: the request reads its burst. -/
def DReq.reads (r : DReq) : Bool := !r.write || r.partial_

/-- R336, R382: a request's effect once its burst is good. -/
def Dev.drcDo (d : Dev) (r : DReq) : Dev :=
  if r.write then { d with drc := { d.drc with mem := dramWrite d.drc.mem r.addr r.data } }
  else if r.src = 1 then
    { d with hst := { d.hst with diagBad := false, diagData := BitVec.ofNat 32 (u32 (d.dramRead r.addr 4) 0) } }
  else d

/-- R340: the row a request leaves open. -/
def Dev.drcOpen (d : Dev) (r : DReq) : Dev :=
  { d with drc := { d.drc with open_ := if d.drc.idleClose = 0 then tdel d.drc.open_ (d.drcKey r.addr)
                                        else tput none d.drc.open_ (d.drcKey r.addr) (some (d.drcRow r.addr)) } }

/-- Counter `i` of 0x040 to 0x05C. -/
def Dev.drcCount (d : Dev) (i n : Nat) : Dev := { d with drc := { d.drc with ctr := bump d.drc.ctr i n } }

/-! ## Conditions (R344), training runs and freezes -/

/-- R344: the condition changes, and tier 2 follows it (08 R233). -/
def Dev.drcCond (d : Dev) (c : Cond) : Dev := (d.setCond c).t2Check

/-- Table 13.8: a deferred command completes with COND. -/
def Dev.drcAnswer (d : Dev) (op : Nat) : Dev := if op = 0 then d else d.finish op 0 0 (le 1 d.drc.cond.code ++ zb 3)

/-- R346, R348: a training run of a set point begins; `op` awaits it. -/
def Dev.drcTrain (d : Dev) (sp op : Nat) : Dev :=
  let d := { d with drc := { d.drc with run := some { sp := sp, phase := 0, channel := 0, rank := 0, op := op }, target := [] } }
  let d := d.drcCount 2 1
  if d.drcRuns then d.drcCond .training else d

/-- R345, R346: the entries of a set point in `src` stand in `dst`. -/
def copySp (sp : Nat) (src dst : Tbl Nat) : Tbl Nat :=
  (src.filter (fun x => x.1 % 4 == sp)).foldl (fun t x => tput 0 t x.1 x.2) (dst.filter (fun x => x.1 % 4 != sp))
/-- R345, R346: the Vref codes of a set point in `src` stand in `dst`. -/
def copyVref (sp : Nat) (src dst : Tbl W32) : Tbl W32 :=
  (src.filter (fun x => x.1 % 4 == sp)).foldl (fun t x => tput 0 t x.1 x.2) (dst.filter (fun x => x.1 % 4 != sp))

/-- 19 Table 19.3: the payload of a record of kind 1, in this model's own layout (DESIGN CHOICE): the number of delays, then each delay
as DRC_DLY_SEL and value, then each Vref code as its index and word. -/
def trainPayload (dl : Tbl Nat) (vr : Tbl W32) : Bytes :=
  le 2 dl.length ++ dl.flatMap (fun (x : Nat × Nat) => le 2 x.1 ++ le 2 x.2) ++ vr.flatMap (fun (x : Nat × W32) => le 2 x.1 ++ le 4 x.2.toNat)

/-- R346 step 5: a set point's values found, its baselines, its mark in SP_TRAINED, and its record for the store (19 Table 19.3). -/
def Dev.drcPassed (d : Dev) (sp : Nat) (dly vref base : List (Nat × Nat)) : Dev :=
  let c := d.drc
  let dl := (dly.filter (fun x => x.1 % 4 == sp)).foldl (fun t x => tput 0 t (x.1 % 8192) (x.2 % 1024)) c.dly
  let vr := (vref.filter (fun x => x.1 % 4 == sp)).foldl (fun t x => tput 0 t (x.1 % 32) (BitVec.ofNat 32 x.2)) c.vref
  let j := (1, sp, trainPayload (copySp sp dl []) (copyVref sp vr []))
  { d with store := { d.store with appends := d.store.appends ++ [j] }, drc := { c with
      dly := dl, vref := vr, good := copySp sp dl c.good, goodVref := copyVref sp vr c.goodVref
      base := base.foldl (fun t x => tput 0 t (8 * sp + x.1 % 8) (x.2 % 65536)) c.base
      trained := c.trained ||| 2 ^ sp, fails := [], retries := [] } }

/-- R347: failures within the 60 s that end now. -/
def Dev.drcFails (d : Dev) : List Nat := d.drc.fails.filter (fun t => decide (d.tim.now ≤ t + 60 * 10 ^ 9 * 2 ^ 40))

/-- R347: a failed run restores the last good set; the sixth failure within 60 s retires DRC. -/
def Dev.drcFailed (d : Dev) (sp phase ch rank : Nat) : Dev :=
  let c := d.drc
  let fails := d.drcFails ++ [d.tim.now]
  let d := { d with drc := { c with
      dly := copySp sp c.good c.dly, vref := copyVref sp c.goodVref c.vref, fails := fails, retries := c.retries ++ [d.tim.now + 10 ^ 10 * 2 ^ 40] } }
  let d := d.drcCount 3 1
  let d := d.raise 0x8D01 0 (le 1 sp ++ le 1 phase ++ le 1 ch ++ le 1 rank ++ le 1 fails.length ++ zb 3)
  if 6 ≤ fails.length then d.retire 1171 6 0 else d

/-- R346: TRN_BUSY clears and TRN_DONE sets. -/
def Dev.drcRunEnd (d : Dev) : Dev := { d with drc := { d.drc with run := none, trnDone := true } }

/-- TRAINING_RUN_DONE (R346, R347). -/
def trainDone (r : TrainRes) (d : Dev) : Dev :=
  match d.drc.run with
  | none => d
  | some t =>
    if !d.drcRuns then d
    else
      let d := d.drcRunEnd
      match r with
      | .pass dly vref base => ((d.drcPassed t.sp dly vref base).drcCond .inService).drcAnswer t.op
      | .fail ph ch rk =>
        let d := (d.drcFailed t.sp ph ch rk).t2Check
        if d.drcRuns then (d.drcCond .untrained).drcAnswer t.op else d

/-- TRAINING_RUN_DONE. -/
def execTrainingRunDone (r : TrainRes) (s : State) : Host.Outcome State Fault Refusal := run true (trainDone r) s

/-- TRAINING_RETRY (R347, R348): a retry that falls due during a run is satisfied by it. -/
def trainRetry (d : Dev) : Dev :=
  match d.drc.retries with
  | [] => d
  | t :: r =>
    let d := { d with tim := { d.tim with now := max d.tim.now t }, drc := { d.drc with retries := r } }
    if d.drc.cond == .untrained && d.drc.run.isNone && d.drc.switch.isNone then d.drcTrain d.drc.sp 0 else d

/-- TRAINING_RETRY. -/
def execTrainingRetry (s : State) : Host.Outcome State Fault Refusal := run true trainRetry s

/-- R343: the set point's values with which a start's training begins. -/
def Dev.drcBegin (d : Dev) : Dev := d.drcTrain d.drc.sp 0

/-- DRC_START_DONE (R343). -/
def drcStartDone (r : DrcStart) (d : Dev) : Dev :=
  if (d.unit 9 0).st != .starting then d
  else
    let u := d.unit 9 0
    match r with
    | .trained t =>
      let sp := d.drc.sp
      let d := d.drcRunEnd.setUnit 9 0 { u with st := .running }
      match t with
      | .pass dly vref base => (d.drcPassed sp dly vref base).drcCond .inService
      | .fail ph ch rk =>
        let d := d.drcFailed sp ph ch rk
        if d.drcRuns then d.drcCond .untrained else d
    | .other rk den =>
      let d := Dev.setUnit { d with drc := { d.drc with run := none } } 9 0 { u with st := .stopped }
      d.raise 0x8D05 0 (le 1 rk ++ le 1 den ++ zb 2)
    | .failed => d.retire 1171 2 1

/-- DRC_START_DONE. -/
def execDrcStartDone (r : DrcStart) (s : State) : Host.Outcome State Fault Refusal := run true (drcStartDone r) s

/-- R343: STOPPING refuses new requests; a run or switch in progress is abandoned, and what awaits it completes. -/
def Dev.drcHalt (d : Dev) : Dev :=
  let d := { d with drc := { d.drc with run := none, switch := none, retries := [], target := [], frozenBy := 0 } }
  let d := d.drcCond .off
  ((d.drcAnswer 0x0D02).drcAnswer 0x0D03).drcAnswer 0x0D04

/-- R343: the queued requests are completed. -/
def Dev.drcDrain (d : Dev) : Dev :=
  let d := ([0, 1, 2, 3].flatMap d.drcQ).foldl Dev.drcDo d
  { d with drc := { d.drc with queue := [], open_ := [], due := [] } }

/-- DRC_STOP_DONE (R343). -/
def drcStopDone (d : Dev) : Dev :=
  let u := d.unit 9 0
  if u.st != .stopping then d else d.drcDrain.setUnit 9 0 { u with st := .stopped }

/-- DRC_STOP_DONE. -/
def execDrcStopDone (s : State) : Host.Outcome State Fault Refusal := run true drcStopDone s

/-- Table 13.5: the record's 128 bytes. -/
def Freeze.bytes (f : Freeze) : Bytes :=
  le 1 f.cause ++ le 1 f.source ++ le 1 (b01 f.write + 2 * b01 f.training) ++ le 1 f.sp ++ le 4 f.loc ++ le 8 f.addr ++ le 8 f.syndrome
  ++ le 8 f.tick ++ (f.data ++ zb 64).take 64 ++ le 8 f.check ++ le 2 f.qdepth ++ le 2 f.temp ++ le 4 f.freezes ++ zb 16

/-- The freeze record, zeros when none is held. -/
def Dev.freezeRec (d : Dev) : Bytes := (d.drc.frz.getD {}).bytes

/-- R351: the controller freezes: `f` names the command in error. -/
def Dev.freeze (d : Dev) (f : Freeze) : Dev :=
  let d := d.drcCount 1 1
  let n := (tget 0 d.drc.ctr 1).toNat
  let op := match d.drc.run with
    | some t => t.op
    | none => if d.drc.switch.isSome then 0x0D02 else 0
  let rec_ := { f with sp := d.drc.sp, training := d.drc.run.isSome, tick := d.tim.tick, qdepth := d.drcDepth, temp := d.drc.temp, freezes := n }
  let d := { d with drc := { d.drc with
      overwritten := d.drc.overwritten || d.drc.frz.isSome, frz := some rec_, frozenBy := f.cause
      queue := [], run := none, switch := none, target := [] } }
  let d := d.drcCond .frozen
  let d := d.raise 0x8D03 0 (rec_.bytes.take 16)
  (d.drcAnswer op).strike 1171 0x8D03 n

/-- R339, R341: a refresh is issued in its bank. -/
def Dev.drcRefresh (d : Dev) (key : Nat) : Dev :=
  { d with drc := { d.drc with due := d.drc.due.erase key, open_ := tdel d.drc.open_ key } }

/-- R339, R351: the chosen request is served, with what the array answers. -/
def Dev.drcServe (d : Dev) (ch : Nat) (r : DReq) (forced : Bool) (a : DrcServe) : Dev :=
  let base := r.addr / 64 * 64
  let f : Freeze := { source := if r.partial_ then 3 else r.src, write := r.write, loc := d.drcLoc base, addr := base }
  let d := if forced then d.drcCount 4 1 else d
  let done := fun (d : Dev) =>
    Dev.drcDo (Dev.drcOpen { d with drc := { d.drc with queue := tput [] d.drc.queue ch ((d.drcQ ch).erase r) } } r) r
  match a with
  | .parity => d.freeze { f with cause := 2 }
  | .uncorr syn data chk => if r.reads then (d.drcOpen r).freeze { f with cause := 1, syndrome := syn, data := data, check := chk } else done d
  | .corr => if r.reads then done (Dev.drcCount { d with drc := { d.drc with lastCorr := base } } 0 1) else done d
  | .ok => done d

/-- DRC_COMMAND_SLOT (R339): requests are served in service only; they are held while a run or a switch is in progress. -/
def drcSlotGo (ch : Nat) (a : DrcServe) (d : Dev) : Dev :=
  if !d.drcRuns then d
  else match d.drc.due.find? (fun k => k / 64 == ch) with
    | some k => match a with
      | .parity => d.freeze { cause := 2, addr := 0xFFFFFFFFFFFFFFFF, loc := ch + fld (k / 16 % 4) 2 + fld (k % 16) 3, source := 0 }
      | _ => d.drcRefresh k
    | none =>
      if d.drc.cond != .inService || d.drc.switch.isSome then d
      else match d.drcChoose ch with
        | some (r, forced) => d.drcServe ch r forced a
        | none => d

/-- DRC_COMMAND_SLOT. -/
def execDrcCommandSlot (ch : Nat) (c : DrcServe) (s : State) : Host.Outcome State Fault Refusal := run (decide (ch < 4)) (drcSlotGo ch c) s

/-- REFRESH (R341): the next bank of a rank falls due. -/
def refreshDue (ch rank : Nat) (d : Dev) : Dev :=
  if !d.drcRuns || (rank == 1 && !d.drc.ranks2) then d
  else
    let k := 2 * ch + rank
    let b := tget 0 d.drc.nextBank k
    { d with drc := { d.drc with due := d.drc.due ++ [bankKey ch rank b], nextBank := tput 0 d.drc.nextBank k ((b + 1) % 16) } }

/-- REFRESH. -/
def execRefresh (ch rank : Nat) (s : State) : Host.Outcome State Fault Refusal := run (decide (ch < 4) && decide (rank < 2)) (refreshDue ch rank) s

/-- TEMPERATURE_POLL (R342): the highest requirement reported: 0 nominal, 1 above it, 2 above 2x or the operating limit. -/
def tempPoll (level : Nat) (d : Dev) : Dev :=
  if !d.drcRuns then d
  else
    let d := if d.drc.ref2x then d.drcCount 6 16 else d
    let ep := d.drc.episode
    let d := { d with drc := { d.drc with temp := level, ref2x := level != 0, hot := d.drc.hot || decide (2 ≤ level), episode := decide (2 ≤ level) } }
    if 2 ≤ level ∧ ¬ ep then (d.raise 0x8D04 0 (le 1 level ++ zb 3)).strike 1171 0x8D04 level else d

/-- TEMPERATURE_POLL. -/
def execTemperaturePoll (level : Nat) (s : State) : Host.Outcome State Fault Refusal := run true (tempPoll level) s

/-! ## Firmware's training registers (R345, R346) -/

/-- DRC_TRN_GO (Table 13.6): a write of DRC_TRN_CTRL; GO starts a step. -/
def trnGo (v : W32) (d : Dev) : Dev :=
  let x := v.toNat
  let go := x % 2 = 1
  let run := d.drc.run.map (fun (t : TrnRun) => if go then { t with phase := bitsOf x 1 3, channel := bitsOf x 4 2, rank := bitsOf x 6 1 } else t)
  { d with drc := { d.drc with
      trnCtrl := bitsOf x 1 8, run := run, stepBusy := d.drc.stepBusy || go, stepDone := d.drc.stepDone && bitsOf x 9 1 == 0 } }

/-- DRC_TRN_GO. -/
def execDrcTrnGo (v : W32) (s : State) : Host.Outcome State Fault Refusal := run true (trnGo v) s

/-- TRAINING_STEP_DONE (R346 step 2): DRC_TRN_RESULT holds the step's result. -/
def stepDone (result : Nat) (d : Dev) : Dev :=
  if d.drc.stepBusy then { d with drc := { d.drc with stepBusy := false, stepDone := true, trnResult := result % 2 ^ 19 } } else d

/-- TRAINING_STEP_DONE. -/
def execTrainingStepDone (result : Nat) (s : State) : Host.Outcome State Fault Refusal := run true (stepDone result) s

/-- DRC_DLY_VAL_WRITE (R345). -/
def dlyWrite (v : W32) (d : Dev) : Dev := { d with drc := { d.drc with dly := tput 0 d.drc.dly d.drc.dlySel (v.toNat % 1024) } }

/-- DRC_DLY_VAL_WRITE. -/
def execDrcDlyValWrite (v : W32) (s : State) : Host.Outcome State Fault Refusal := run true (dlyWrite v) s

/-- TRAIN_HELD_TIMEOUT (R344): the oldest request held on a channel is returned with an error. -/
def heldTimeout (ch : Nat) (d : Dev) : Dev :=
  if d.drc.cond == .training then { d with drc := { d.drc with queue := tput [] d.drc.queue ch ((d.drcQ ch).drop 1) } } else d

/-- TRAIN_HELD_TIMEOUT. -/
def execTrainHeldTimeout (ch : Nat) (s : State) : Host.Outcome State Fault Refusal := run (decide (ch < 4)) (heldTimeout ch) s

/-! ## Drift (R350) -/

/-- R350: DRC_DLY_SEL of a write DQ delay: set point, channel, rank, byte. -/
def dqSel (sp ch rank byte : Nat) : Nat := sp + fld ch 2 + fld rank 4 + fld 5 5 + fld byte 8

/-- R350: one rank's measurement: the drift in taps from its baseline. -/
def Dev.driftOf (d : Dev) (x : Nat × Nat) : Int := Config.driftTaps (tget 0 d.drc.base (8 * d.drc.sp + x.1 % 8)) x.2

/-- R350: the targets a measurement gives the write DQ delays of one rank. -/
def Dev.driftAim (d : Dev) (x : Nat × Nat) : Dev :=
  [0, 1].foldl (fun d byte =>
    let sel := dqSel d.drc.sp (x.1 / 2 % 4) (x.1 % 2) byte
    let t := min 1023 (((tget 0 d.drc.good sel : Nat) : Int) + d.driftOf x).toNat
    { d with drc := { d.drc with target := tput none d.drc.target sel (some t) } }) d

/-- R350: a measurement: counts by 2 x channel + rank. Beyond DRIFT_MAX a run begins. -/
def Dev.drift (d : Dev) (counts : List (Nat × Nat)) : Dev :=
  if counts.any (fun x => decide (d.drc.driftMax < (d.driftOf x).natAbs)) then d.drcTrain d.drc.sp 0
  else counts.foldl Dev.driftAim d

/-- DRIFT_MEASURE (R350, R348): a trigger during a run is satisfied by that run. -/
def driftMeasure (counts : List (Nat × Nat)) (d : Dev) : Dev :=
  if d.drcRuns && d.drc.driftEn && d.drc.cond == .inService && d.drc.switch.isNone then d.drift counts else d

/-- DRIFT_MEASURE. -/
def execDriftMeasure (counts : List (Nat × Nat)) (s : State) : Host.Outcome State Fault Refusal := run true (driftMeasure counts) s

/-- DRIFT_TAP_STEP (R350): one tap toward the target. -/
def tapStep (sel : Nat) (d : Dev) : Dev :=
  match tget none d.drc.target sel with
  | none => d
  | some t =>
    let x := tget 0 d.drc.dly sel
    let y := if x < t then x + 1 else x - 1
    if x = t then { d with drc := { d.drc with target := tdel d.drc.target sel } }
    else
      Dev.drcCount { d with drc := { d.drc with dly := tput 0 d.drc.dly sel y, target := if y = t then tdel d.drc.target sel else d.drc.target } } 5 1

/-- DRIFT_TAP_STEP. -/
def execDriftTapStep (sel : Nat) (s : State) : Host.Outcome State Fault Refusal := run true (tapStep sel) s

/-! ## Set-point switch (R349), resume (R352) -/

/-- FREQ_SWITCH_DONE (R349). -/
def switchDone (pass : Bool) (d : Dev) : Dev :=
  match d.drc.switch with
  | none => d
  | some sp =>
    let d := Dev.drcCount { d with drc := { d.drc with switch := none, sp := sp, target := [] } } 7 1
    if pass && d.drc.trained / 2 ^ sp % 2 == 1 then (Dev.drcCond { d with drc := { d.drc with retries := [] } } .inService).drcAnswer 0x0D02
    else d.drcTrain sp 0x0D02

/-- FREQ_SWITCH_DONE. -/
def execFreqSwitchDone (ok : Bool) (s : State) : Host.Outcome State Fault Refusal := run true (switchDone ok) s

/-- R352: a resume, straight to service or through a run. -/
def Dev.drcResume (d : Dev) (retrain : Bool) (op : Nat) : Dev :=
  let d := { d with drc := { d.drc with frozenBy := 0 } }
  if retrain then d.drcTrain d.drc.sp op else (d.drcCond .inService).drcAnswer op

/-- FREEZE_AUTO_RESUME (R352). -/
def autoResume (d : Dev) : Dev :=
  if d.drcRuns && d.drc.cond == .frozen && d.drc.hold != 0 then d.drcResume (d.drc.frozenBy == 2) 0 else d

/-- FREEZE_AUTO_RESUME. -/
def execFreezeAutoResume (s : State) : Host.Outcome State Fault Refusal := run true autoResume s

/-! ## Commands (Table 13.8) -/

/-- R353: DRC is RETIRED. -/
def Dev.drcGone (d : Dev) : Bool := d.retired 9 0

/-- 0x0D00 DRC_CONFIG. -/
def cmdDrcConfig : Cmd := cmdL 0x0D00 fun _ p d =>
  let bad := u8 p 0 == 0 || decide (2 < u8 p 0) || decide (4 < u8 p 1) || decide (3 < u8 p 2) || decide (1 < u8 p 3) || decide (u16 p 4 < 16)
    || decide (u8 p 7 < 4) || decide (31 < u8 p 7) || decide (u16 p 8 < 16) || decide (1000 < u16 p 8) || rsv p 12 4
  checks [(p.length != 16, 0x101), (bad, 0x102), (d.drcGone, 0x109), (!d.stopped 9 0, 0x103)] d
    (ok { d with drc := { d.drc with
        ranks2 := u8 p 0 == 2, density := u8 p 1, sp := u8 p 2, spread := u8 p 3 == 1, ageMax := u16 p 4, idleClose := u8 p 6
        driftMax := u8 p 7, dqsosc := u16 p 8, hold := u16 p 10, capacity := usableMiB (u8 p 1) (u8 p 0 == 2) } })

/-- Table 13.7: DRC_STATUS. -/
def Dev.drcStatus (d : Dev) : Nat :=
  let c := d.drc
  (d.unit 9 0).st.code + fld c.cond.code 5 + fld (b01 c.run.isSome) 8 + fld (b01 c.trnDone) 9 + fld (b01 c.ref2x) 10 + fld (b01 c.hot) 11
  + fld c.trained 12 + fld (b01 c.overwritten) 16

/-- Table 13.8: NEXT_RETRY_MS. -/
def Dev.retryMs (d : Dev) : Nat :=
  match d.drc.retries with
  | t :: _ => max 1 (ceilDiv (t - d.tim.now) (10 ^ 6 * 2 ^ 40))
  | [] => 0

/-- 0x0D01 DRC_STATUS_GET. -/
def cmdDrcStatusGet : Cmd := cmdL 0x0D01 fun _ p d =>
  checks [(p.length != 0, 0x101)] d
    (okData (words [d.drcStatus, d.drc.capacity] ++ le 2 d.drcDepth ++ le 1 d.drcFails.length ++ zb 1 ++ le 4 d.retryMs) d)

/-- R348: a run or a switch is in progress. -/
def Dev.drcBusy (d : Dev) : Bool := d.drc.run.isSome || d.drc.switch.isSome

/-- 0x0D02 DRC_FREQ_SET: while TRN_BUSY is set it is refused with E_BUSY (R348). -/
def cmdDrcFreqSet : Cmd := cmdL 0x0D02 fun _ p d =>
  checks [(p.length != 4, 0x101), (decide (3 < u8 p 0) || rsv p 1 3, 0x102), (d.drcGone, 0x109),
          (!d.drcBusy && d.drc.cond != .inService && d.drc.cond != .untrained, 0x103), (d.drcBusy, 0x104)] d
    (later (0x0D02, 0) [] { d with drc := { d.drc with switch := some (u8 p 0) } })

/-- 0x0D03 DRC_TRAIN. -/
def cmdDrcTrain : Cmd := cmdL 0x0D03 fun _ p d =>
  checks [(p.length != 4, 0x101), ((decide (3 < u8 p 0) && u8 p 0 != 255) || rsv p 1 3, 0x102), (d.drcGone, 0x109),
          (!d.drcBusy && d.drc.cond != .inService, 0x103), (d.drcBusy, 0x104)] d
    (later (0x0D03, 0) [] (d.drcTrain (if u8 p 0 = 255 then d.drc.sp else u8 p 0) 0x0D03))

/-- 0x0D04 DRC_RESUME. -/
def cmdDrcResume : Cmd := cmdL 0x0D04 fun _ p d =>
  checks [(p.length != 4, 0x101), (decide (1 < u8 p 0) || rsv p 1 3, 0x102), (d.drcGone, 0x109), (d.drc.cond != .frozen, 0x103)] d
    (if u8 p 0 = 1 then later (0x0D04, 0) [] (d.drcResume true 0x0D04)
     else
       let d := d.drcResume false 0
       okData (le 1 d.drc.cond.code ++ zb 3) d)

/-- 0x0D05 DRC_FREEZE_GET. -/
def cmdDrcFreezeGet : Cmd := cmdL 0x0D05 fun _ p d =>
  checks [(p.length != 4, 0x101), (decide (1 < u8 p 0) || rsv p 1 3, 0x102)] d
    (okData d.freezeRec (if u8 p 0 = 1 then { d with drc := { d.drc with frz := none, overwritten := false } } else d))

/-- 0x0D06 DRC_STATS_GET. -/
def cmdDrcStatsGet : Cmd := cmdL 0x0D06 fun _ p d =>
  checks [(p.length != 0, 0x101)] d
    (okData (words ((rangeFrom 0 8).map (fun i => (tget 0 d.drc.ctr i).toNat)) ++ le 8 d.drc.lastCorr) d)

/-- DRC_CONFIG. -/
def execDrcConfig (r : AcpReq) (s : State) : Host.Outcome State Fault Refusal := run true (acpTake cmdDrcConfig r) s
/-- DRC_STATUS_GET. -/
def execDrcStatusGet (r : AcpReq) (s : State) : Host.Outcome State Fault Refusal := run true (acpTake cmdDrcStatusGet r) s
/-- DRC_FREQ_SET. -/
def execDrcFreqSet (r : AcpReq) (s : State) : Host.Outcome State Fault Refusal := run true (acpTake cmdDrcFreqSet r) s
/-- DRC_TRAIN. -/
def execDrcTrain (r : AcpReq) (s : State) : Host.Outcome State Fault Refusal := run true (acpTake cmdDrcTrain r) s
/-- DRC_RESUME. -/
def execDrcResume (r : AcpReq) (s : State) : Host.Outcome State Fault Refusal := run true (acpTake cmdDrcResume r) s
/-- DRC_FREEZE_GET. -/
def execDrcFreezeGet (r : AcpReq) (s : State) : Host.Outcome State Fault Refusal := run true (acpTake cmdDrcFreezeGet r) s
/-- DRC_STATS_GET. -/
def execDrcStatsGet (r : AcpReq) (s : State) : Host.Outcome State Fault Refusal := run true (acpTake cmdDrcStatsGet r) s

end Sys2Proof.Machine
end

