-- ==== Sys2Proof/Machine/Func.lean ====
section
/-! DEFINITION. Starting and stopping function units (01 Table 1.9, 15 R391 to R393) and the render rate (15 R394). -/

namespace Sys2Proof.Machine

/-! ## Start conditions (R391) -/

/-- 06 R162: LAW_ID names a library law or a loaded program. -/
def Dev.lawThere (d : Dev) (law : Nat) : Bool := decide (law ≤ 6) || (d.prog law).isSome

/-- 06 R159, R162: a start of layout `k` is refused. -/
def Dev.layoutBad (d : Dev) (k : Nat) : Bool :=
  let x := d.layout k
  let l := d.leadOf k
  let t := d.tableOf l
  let outs := (d.groupOuts l).length
  !groupEq x (d.layout l) || d.groupClash d.leadOf k x || !d.lawThere x.law
    || (x.law != 0 && decide (x.law ≤ 6) && (t.2 == 0 || (d.scrWord ((t.1 - 0x100000) / 4)).toNat != outs))
    || (t.2 != 0 && !d.lawRegion t.1 t.2)

/-- 11 R295: an ASRC group names receive stream `r`. -/
def Dev.rxGroup (d : Dev) (r : Nat) : Bool :=
  d.flt.grp.any (fun (g : Nat × Group) => g.2.srcKind == 1 && g.2.srcId == r && (d.fe (g.1 / 16)).kind == 2)

/-- R391: a start condition of the unit's own chapter fails. -/
def Dev.startBad (d : Dev) (kind i : Nat) : Bool :=
  match kind with
  | 1 => d.layoutBad i
  | 4 => (d.port i).mode == 0
  | 5 => ((d.rx i).legA.port == 255 && (d.rx i).legB.port == 255) || ((d.rx i).timing == 1 && !d.rxGroup i)
  | 6 => (d.tx i).legA.port == 255 && (d.tx i).legB.port == 255
  | _ => false

/-- R391: the status that refuses a start of one unit. -/
def Dev.startErr (d : Dev) (kind i : Nat) : Option Nat :=
  match (d.unit kind i).st with
  | .retired => some 0x109
  | .stopping => some 0x103
  | .stopped => if d.startBad kind i then some 0x103 else none
  | _ => none

/-- R391: the status that refuses a stop of one unit. -/
def Dev.stopErr (d : Dev) (kind i : Nat) : Option Nat := if d.retired kind i then some 0x109 else none

/-! ## Transitions (01 Table 1.9) -/

/-- Table 1.9: a start of one unit; of an audio unit at block `j`. -/
def startUnit (kind j i : Nat) (d : Dev) : Dev :=
  let u := d.unit kind i
  if u.st != .stopped then d
  else
    let d := d.setUnit kind i { u with
      st := .starting, startBlk := if kindAudio kind then some j else none, stopBlk := none, retBlk := none, startVal := d.tim.tick }
    if kind = 9 then d.drcBegin else mediaStart kind i j d

/-- Table 1.9: a stop of one audio unit at block `j`. -/
def FUnit.stop (u : FUnit) (j : Nat) : FUnit :=
  match u.st with
  | .starting =>
    if u.startBlk.any (fun b => j ≤ b) then { u with st := .stopped, startBlk := none, stopBlk := none }
    else { u with stopBlk := some (match u.stopBlk with
      | some x => min x j
      | none => j) }
  | .running => { u with st := .stopping, stopBlk := some (match u.stopBlk with
      | some x => min x j
      | none => j) }
  | _ => u

/-- Table 1.9: a stop of one unit. A port that stops receives nothing from now on (10 R261). -/
def stopUnit (kind j i : Nat) (d : Dev) : Dev :=
  let u := d.unit kind i
  if kindAudio kind then d.setUnit kind i (u.stop j)
  else
    let d := match u.st with
      | .starting => d.setUnit kind i { u with st := .stopped }
      | .running => d.setUnit kind i { u with st := .stopping }
      | _ => d
    if kind = 9 && (u.st == .starting || u.st == .running) then d.drcHalt else d

/-- R392, R393: starts (0) or stops (1) a run of units at block `j`, passing over retired ones; `slot` is 0xFF for a command. -/
def funcRun (kind first count action tag seq slot j : Nat) (d : Dev) : Dev :=
  let is := (rangeFrom first count).filter (fun i => !d.retired kind i)
  let d := forRun (if action = 0 then startUnit kind j else stopUnit kind j) is d
  { d with runs := d.runs ++ [{ kind := kind, first := first, count := count, action := action, tag := tag, seq := seq, slot := slot
                                block := if kindAudio kind then j else 0 }] }

/-! ## Commands -/

/-- R391: KIND and run lie in Table 15.6. -/
def funcRange (p : Bytes) : Bool :=
  decide (9 < u8 p 0) || rsv p 1 1 || u16 p 4 == 0 || decide (kindSize (u8 p 0) < u16 p 2 + u16 p 4) || rsv p 6 2

/-- Table 15.6: the class of FUNC_START and FUNC_STOP: A for an audio kind. -/
def funcClass (p : Bytes) (_ : Dev) : Bool := decide (u8 p 0 ≤ 9) && kindAudio (u8 p 0)

/-- Table 15.2: the response of FUNC_START and FUNC_STOP. -/
def funcRsp (idx j : Nat) : Bytes := le 2 idx ++ zb 2 ++ le 8 j

/-- FUNC_START (0) and FUNC_STOP (1), R388, R391, R392. -/
def funcBody (action : Nat) (c : Ctx) (p : Bytes) (d : Dev) : Rep :=
  let kind := u8 p 0
  let first := u16 p 2
  let count := u16 p 4
  let j := c.blk.getD (c.vt + 3)
  let all := rangeFrom first count
  let is := if c.due then all.filter (fun i => !d.retired kind i) else all
  if p.length != 8 then noWith 0x101 (funcRsp 0xFFFF 0) d
  else if funcRange p || (c.blk.isSome && !kindAudio kind) then noWith 0x102 (funcRsp 0xFFFF 0) d
  else match firstFail (if action = 0 then d.startErr kind else d.stopErr kind) 0 is with
    | some (i, e) => noWith e (funcRsp i 0) d
    | none =>
      let own := c.slot.isSome
      okData (funcRsp 0xFFFF (if kindAudio kind then j else 0))
        (funcRun kind first count action (if own then 0 else c.tag) (if own then 0 else c.seq) (c.slot.getD 255) j d)

/-- 0x0110 FUNC_START. -/
def cmdFuncStart : Cmd := { op := 0x0110, classA := funcClass, mixed := true, batch := true, timed := true, body := funcBody 0 }
/-- 0x0111 FUNC_STOP. -/
def cmdFuncStop : Cmd := { op := 0x0111, classA := funcClass, mixed := true, batch := true, timed := true, body := funcBody 1 }

/-- 0x0112 FUNC_STATE_GET. -/
def cmdFuncStateGet : Cmd := cmdL 0x0112 fun _ p d =>
  checks [(p.length != 8, 0x101), (funcRange p, 0x102)] d
    (okData (padTo 4 ((rangeFrom (u16 p 2) (u16 p 4)).flatMap (fun i => le 1 (d.unit (u8 p 0) i).st.code))) d)

/-! ## The render rate (R394, 01 R38) -/

/-- 01 Table 1.6: an I/O rate goes with a render rate; `input` admits the integer ratio 4. -/
def ioAllowed (rate fs : Nat) (input : Bool) : Bool :=
  fs == frOf rate || 2 * fs == frOf rate || (input && decide (2 ≤ rate) && 4 * fs == frOf rate)

/-- 01 R38: media units that Table 1.6 does not allow at a rate and that are not STOPPED. -/
def Dev.mediaClash (d : Dev) (rate : Nat) : Bool :=
  let on := fun (kind i : Nat) => !d.stopped kind i
  (rangeFrom 0 256).any (fun r => on 5 r && !ioAllowed rate (ioRate (d.rx r).rate) true)
    || (rangeFrom 0 256).any (fun t => on 6 t && !ioAllowed rate (ioRate (d.tx t).rate) false)
    || (rangeFrom 0 10).any (fun c => on 7 c && !ioAllowed rate (ioRate (d.tc c).rate) true)
    || (rangeFrom 0 8).any (fun m => on 8 m && !ioAllowed rate (ioRate (d.madi m).rate) true)

/-- R394: a change of rate is refused. -/
def Dev.rateBad (d : Dev) (rate : Nat) : Bool :=
  !d.stopped 0 0 || !d.stopped 2 0 || (rangeFrom 0 6).any (fun e => !d.stopped 3 e) || d.mediaClash rate
    || d.tim.slots.any (fun (x : Nat × Slot) => x.2.armed && audioAction x.2.action)

/-- The units of a device whose tick boundaries move: blocks still to come name the first block of the new rate at or after their
instant. -/
def rateUnits (old new : Nat) (t : Tbl FUnit) : Tbl FUnit :=
  let f := fun (b : Nat) => blockAt new (boundT old b)
  let g := fun (x : Nat × FUnit) => (x.1, { x.2 with
    startBlk := if x.2.st == .running || x.2.st == .stopping then some 0 else x.2.startBlk.map f
    stopBlk := x.2.stopBlk.map f, retBlk := x.2.retBlk.map f })
  (t.map g).filter (fun (x : Nat × FUnit) => x.2 != ({} : FUnit))

/-- R394: commits that await a bank fail: the bank becomes EMPTY. -/
def Dev.abandonAll (d : Dev) : Dev :=
  (d.hst.wait.filter (fun w => w.key.1 == 0x0A12)).foldl (fun d w => d.finish 0x0A12 w.key.2 0x10C []) d

/-- R394, 07 R207: a lane's counters are cleared. -/
def laneClear (x : Nat × Lane) : Nat × Lane :=
  (x.1, { x.2 with redo := 0, late := 0, budgetOver := 0, eccCorr := 0, eccUncorr := 0, lateNow := false, lastBlk := none })

/-- R394: what a change of render rate clears and restores. -/
def Dev.rateClear (d : Dev) : Dev :=
  let tout := fun (x : Nat × Slot) => (x.1, if x.2.armed ∧ x.2.period ≠ 0 then { x.2 with armed := false, firings := 0 } else x.2)
  { d with
    trj := {}, flt := {}, undo := []
    sch := { d.sch with bind := [], aff := [], gNew := [], gPrev := [], result := [], period := [], periodN := [] }
    rnd := { d.rnd with map := [], path := [], line := [], cold := [], mute := [], pathFree := none, block := none, shedding := []
                        dclamp := 0, isat := 0, pathUncorr := 0, migrations := 0, migDeferred := 0, lane := d.rnd.lane.map laneClear }
    cnv := { d.cnv with out := [], preeq := [], ctr := [], t2Wait := false, t2From := none }
    out := {}, str := { d.str with inmap := [] }
    tim := { d.tim with slots := d.tim.slots.map tout }
    hst := { d.hst with lastSet := [] } }

/-- R394: the render rate changes; the tick index counts by the new rate. -/
def rateSet (rate : Nat) (d : Dev) : Dev :=
  let old := d.rate
  let k := d.tim.tick
  let us := rateUnits old rate d.units
  let f := fun (b : Nat) => blockAt rate (boundT old b)
  let d := (d.dropTimed (fun _ => true) 1).abandonAll.rateClear
  let d := { d with rate := rate, tim := { d.tim with tick := tickOf rate d.now16 } }
  let runs := d.runs.map (fun (r : FuncRun) => if kindAudio r.kind then { r with block := f r.block } else r)
  { d.rebase k with units := us, runs := runs }

/-- 0x0120 RENDER_RATE_SET. -/
def cmdRenderRateSet : Cmd := cmdA 0x0120 fun _ p d =>
  let r := u8 p 0
  if r = d.rate ∧ p.length = 4 ∧ ¬ rsv p 1 3 then ok d
  else checks [(p.length != 4, 0x101), (decide (3 < r) || rsv p 1 3, 0x102), (d.rateBad r, 0x103)] d (ok (rateSet r d))

/-- FUNC_START. -/
def execFuncStart (r : AcpReq) (s : State) : Host.Outcome State Fault Refusal := run true (acpTake cmdFuncStart r) s
/-- FUNC_STOP. -/
def execFuncStop (r : AcpReq) (s : State) : Host.Outcome State Fault Refusal := run true (acpTake cmdFuncStop r) s
/-- FUNC_STATE_GET. -/
def execFuncStateGet (r : AcpReq) (s : State) : Host.Outcome State Fault Refusal := run true (acpTake cmdFuncStateGet r) s
/-- RENDER_RATE_SET. -/
def execRenderRateSet (r : AcpReq) (s : State) : Host.Outcome State Fault Refusal := run true (acpTake cmdRenderRateSet r) s

end Sys2Proof.Machine
end

