-- ==== Sys2Proof/Machine/Trig.lean ====
section
/-! DEFINITION. Time triggers and control cycles (02 R66 to R74). -/

namespace Sys2Proof.Machine

/-! ## Leads and firings -/

/-- Table 2.6: 10 microseconds in 2^-16 ns. -/
def lead10 : Nat := 10000 * 65536

/-- R67: the trigger time `t` of an action lies inside its lead. -/
def Dev.inLead (d : Dev) (action t : Nat) : Bool :=
  if audioAction action then decide (blockAt d.rate t ≤ d.tim.tick + 2) else decide (t ≤ d.now16 + lead10)

/-- R67: the lead of an armed slot has begun. -/
def Dev.leadOn (d : Dev) (x : Slot) : Bool :=
  x.armed && (x.leadBegun || d.inLead x.action (if audioAction x.action then x.time else x.fireT d.rate))

/-- Table 2.11: NEXT_NS. -/
def Dev.nextNs (d : Dev) (x : Slot) : Nat :=
  if !x.armed then 0 else (if audioAction x.action then boundT d.rate (x.block d.rate) else x.fireT d.rate) / 65536

/-! ## Control cycles (R70) -/

/-- 15 Table 15.9: opcodes of groups 0x01 to 0x07. -/
def opsA : List Nat :=
  [0x0100, 0x0101, 0x0102, 0x0110, 0x0111, 0x0112, 0x0120, 0x0130, 0x0140, 0x01F0] ++
  [0x0200, 0x0201, 0x0202, 0x0203, 0x0204, 0x0205, 0x0206, 0x0207, 0x0210, 0x0211, 0x0212] ++
  [0x0300, 0x0301, 0x0302, 0x0303, 0x0310, 0x0311, 0x0320, 0x0321, 0x0322] ++
  [0x0400, 0x0401, 0x0402, 0x0403, 0x0404, 0x0405, 0x0410, 0x0500, 0x0501, 0x0502, 0x0503, 0x0510] ++
  [0x0600, 0x0601, 0x0602, 0x0603, 0x0604, 0x0605, 0x0610, 0x0611, 0x0620, 0x0621] ++
  [0x0700, 0x0701, 0x0702, 0x0703, 0x0704, 0x0705, 0x0710, 0x0711, 0x0712, 0x0713, 0x0720]
/-- 15 Table 15.9: opcodes of groups 0x08 to 0x11. -/
def opsB : List Nat :=
  [0x0800, 0x0801, 0x0802, 0x0803, 0x0804, 0x0810, 0x0820, 0x0821, 0x0822, 0x0830, 0x0831, 0x0832, 0x0833] ++
  [0x0900, 0x0901, 0x0902, 0x0903, 0x0904, 0x0905, 0x0906] ++
  [0x0A00, 0x0A01, 0x0A10, 0x0A11, 0x0A12, 0x0A13, 0x0A20, 0x0A21, 0x0A30, 0x0A31] ++
  [0x0B00, 0x0B01, 0x0B02, 0x0B03, 0x0B10, 0x0B11, 0x0B20, 0x0B21, 0x0B30, 0x0B31] ++
  [0x0C00, 0x0C01, 0x0C02, 0x0C03, 0x0C10, 0x0C11, 0x0D00, 0x0D01, 0x0D02, 0x0D03, 0x0D04, 0x0D05, 0x0D06] ++
  [0x0E00, 0x0E01, 0x0E02, 0x0E03, 0x0E04, 0x0F00, 0x0F01, 0x0F02, 0x0F03, 0x0F04, 0x1000, 0x1001, 0x1002, 0x1003, 0x1004] ++
  [0x1100, 0x1102, 0x1103, 0x1104, 0x1110, 0x1111, 0x1112]
/-- 15 R399: the opcode is defined. -/
def opDefined (op : Nat) : Bool := opsA.contains op || opsB.contains op

/-- R70, 15 Table 15.9: the commands marked b. -/
def batchCmd (op : Nat) : Option Cmd :=
  match op with
  | 0x0110 => some cmdFuncStart
  | 0x0111 => some cmdFuncStop
  | 0x0704 => some cmdRouteSet
  | 0x0710 => some cmdKnotPush
  | 0x0711 => some cmdObjGainSet
  | 0x0712 => some cmdObjClear
  | 0x0A20 => some cmdCnvSwitch
  | 0x0B02 => some cmdOutTrimSet
  | 0x0B03 => some cmdOutMuteSet
  | _ => none

/-- R70: the context of a command of slot `m`'s batch for block `j`. -/
def Dev.batchCtx (d : Dev) (op m j : Nat) : Ctx :=
  { op := op, tag := 0, seq := 0, vt := d.tim.tick, blk := some j, slot := some m, ord := d.hst.ord }

/-- R70: the first command of a batch that fails its arming checks, with its status; `i` is its number. -/
def armCheck (d : Dev) (m j : Nat) : Nat → Nat → Bytes → Option (Nat × Nat)
  | 0, i, b => if b.isEmpty then none else some (i, 0x102)
  | f + 1, i, b =>
    if b.isEmpty then none
    else
      let n := u32 b 4
      if b.length < 16 ∨ b.length < 16 + n then some (i, 0x101)
      else if !opDefined (u16 b 0) then some (i, 0x100)
      else match batchCmd (u16 b 0) with
        | none => some (i, 0x102)
        | some c =>
          let st := (c.body (d.batchCtx c.op m j) ((b.drop 16).take n) d).st
          if st = 0x101 then some (i, 0x101)
          else if rsv b 3 1 ∨ rsv b 12 4 ∨ st = 0x102 then some (i, 0x102)
          else armCheck d m j f (i + 1) (b.drop ((16 + n + 3) / 4 * 4))

/-- R70: the commands of a batch checked and applied in order at the lead boundary: the device after them, or the failing
command and its status. -/
def batchRun (m j : Nat) : Nat → Nat → Bytes → Dev → Except (Nat × Nat) Dev
  | 0, _, _, d => .ok d
  | f + 1, i, b, d =>
    if b.isEmpty then .ok d
    else match batchCmd (u16 b 0) with
      | none => .error (i, 0x102)
      | some c =>
        let d := { d with hst := { d.hst with ord := d.hst.ord + 1 } }
        let p := c.body (d.batchCtx c.op m j) ((b.drop 16).take (u32 b 4)) d
        if 256 ≤ p.st then .error (i, p.st) else batchRun m j f (i + 1) (b.drop ((16 + u32 b 4 + 3) / 4 * 4)) p.dev

/-- The keys of two tables. -/
def keysOf {α : Type} (a b : Tbl α) : List Nat := ((a.map Prod.fst) ++ (b.map Prod.fst)).eraseDups

/-- R69: what a control cycle has changed, as it stood before. -/
def undoOf (a b : Dev) : Undo :=
  let ro := fun (t : Tbl W32) (w : Nat) => tget (if w = 0 then (0xFFFFFFFF : W32) else 0) t w
  { obj := ((keysOf a.trj.obj b.trj.obj).filter (fun o => a.obj o != b.obj o)).map (fun o => (o, a.obj o))
    route := ((keysOf a.trj.route b.trj.route).filter (fun w => ro a.trj.route w != ro b.trj.route w)).map (fun w => (w, ro a.trj.route w))
    out := ((keysOf a.out.ch b.out.ch).filter (fun s => a.outCh s != b.outCh s)).map (fun s => (s, a.outCh s))
    cnv := ((keysOf a.cnv.out b.cnv.out).filter (fun s => a.cnvo s != b.cnvo s)).map (fun s => (s, a.cnvo s)) }

/-- R66: the run a slot's action starts: kind and unit. -/
def Slot.run (x : Slot) : Nat × Nat :=
  match x.action with
  | 1 => (0, 0)
  | 2 => (7, x.target)
  | _ => if x.target < 256 then (5, x.target) else (6, x.target - 256)

/-- Table 15.5: the request of a run of one unit. -/
def oneUnit (k i : Nat) : Bytes := le 1 k ++ zb 1 ++ le 2 i ++ le 2 1 ++ zb 2

/-! ## The lead boundary and the firing -/

/-- TRIGGER_LEAD_BOUNDARY (R69, R70): T_{j-2} of an armed audio slot comes. -/
def trigLead (m : Nat) (d : Dev) : Dev :=
  let x := d.slot m
  if !x.armed || x.leadBegun || !audioAction x.action then d
  else
    let j := x.block d.rate
    let d := d.advance (boundT d.rate (j - 2))
    let r : Except (Nat × Nat) Dev :=
      if x.action = 4 then batchRun m j 64 0 x.batch d
      else
        let d := { d with hst := { d.hst with ord := d.hst.ord + 1 } }
        let p := funcBody 0 (d.batchCtx 0x0110 m j) (oneUnit x.run.1 x.run.2) d
        if 256 ≤ p.st then .error (0xFFFFFFFF, p.st) else .ok p.dev
    match r with
    | .error (i, st) => (d.setSlot m { x with armed := false }).trigFailed m st i
    | .ok d' =>
      let d'' := if d'.units == d.units then d' else d'.spliceAgain
      Dev.setSlot { d'' with undo := tput none d'.undo m (if x.action = 4 then some (undoOf d d') else none) } m { x with leadBegun := true }

/-- R68: a slot after a firing. -/
def Slot.fire (x : Slot) : Slot :=
  if x.period = 0 then { x with armed := false, fired := true, leadBegun := false } else { x with fired := true, firings := x.firings + 1 }

/-- TRIGGER_FIRE (R66, R68, R73): block j of an audio slot begins, or the time of another comes; in DOZE the time unit stands
still. A WAKE_ALARM of an awake device has no other effect (R72). -/
def trigFire (m : Nat) (d : Dev) : Dev :=
  let x := d.slot m
  let done := fun (v : Nat) (d : Dev) => d.raise 0x8210 m (le 1 m ++ le 1 x.action ++ zb 6 ++ le 8 v)
  if !x.armed || d.pwr.st == .doze || d.pwr.st == .hibernate then d
  else if audioAction x.action then
    if !x.leadBegun then d
    else
      let j := x.block d.rate
      let d := (d.advance (boundT d.rate j)).setSlot m x.fire
      done j { d with undo := tdel d.undo m }
  else
    let t := x.fireT d.rate
    let d := (d.advance t).setSlot m x.fire
    let d := if x.action = 5 then snapshot d else if x.action = 6 then trigPulse x.target t d else d
    done (t / 65536) d

/-- TRIGGER_LEAD_BOUNDARY. -/
def execTriggerLeadBoundary (slot : Nat) (s : State) : Host.Outcome State Fault Refusal := run (decide (slot < 32)) (trigLead slot) s
/-- TRIGGER_FIRE. -/
def execTriggerFire (slot : Nat) (s : State) : Host.Outcome State Fault Refusal := run (decide (slot < 32)) (trigFire slot) s

/-! ## Commands -/

/-- R73: the slot is armed with an action from 1 to 4. -/
def Dev.armedAudio (d : Dev) (m : Nat) : Bool := (d.slot m).armed && audioAction (d.slot m).action

/-- Table 2.6: the greatest TARGET of an action. -/
def targetMax (a : Nat) : Nat :=
  match a with
  | 2 => 9
  | 3 => 0x1FF
  | 6 => 7
  | _ => 0

/-- R67 step 2: the request is out of range. -/
def trigRange (p : Bytes) : Bool :=
  let a := u8 p 17
  decide (31 < u8 p 16) || decide (7 < a) || decide (targetMax a < u16 p 18)
    || decide ((if a = 5 ∨ a = 6 then 16777215 else 0) < u32 p 20)
    || (if a = 4 then u32 p 24 == 0 || decide (16384 < u32 p 24) else u32 p 24 != 0) || rsv p 28 4 || rsv p 11 5

/-- 0x0210 TRIGGER_SET (R67, R70, R73). -/
def cmdTriggerSet : Cmd := {
  op := 0x0210, mixed := true, batch := false, timed := false
  classA := fun p d => audioAction (u8 p 17) || d.armedAudio (u8 p 16)
  body := fun _ p d =>
    let m := u8 p 16
    let a := u8 p 17
    let t := u64 p 0 * 65536 + u16 p 8
    let j := blockAt d.rate t
    let bad := fun (st i : Nat) => noWith st (le 4 i) d
    let none_ := 0xFFFFFFFF
    if p.length != 32 + u32 p 24 then bad 0x101 none_
    else if trigRange p then bad 0x102 none_
    else if d.leadOn (d.slot m) then bad 0x104 none_
    else if a != 0 && (d.tim.quality == .invalid || d.inLead a t) then bad 0x107 none_
    else match (if a = 4 then armCheck d m j 64 0 (p.drop 32) else none) with
      | some (i, st) => bad st i
      | none =>
        let x : Slot := { d.slot m with
          time := t, action := a, armed := a != 0, target := u16 p 18, period := u32 p 20, firings := 0, leadBegun := false
          batch := p.drop 32, alarm := none }
        okData (le 4 none_) (d.setSlot m x) }

/-- 0x0211 TRIGGER_CANCEL (R67, R73). -/
def cmdTriggerCancel : Cmd := {
  op := 0x0211, mixed := true, batch := false, timed := false
  classA := fun p d => d.armedAudio (u8 p 0)
  body := fun _ p d =>
    let m := u8 p 0
    checks [(p.length != 4, 0x101), (decide (31 < m) || rsv p 1 3, 0x102), (d.leadOn (d.slot m), 0x104)] d
      (ok (d.setSlot m { d.slot m with armed := false })) }

/-- 0x0212 TRIGGER_STATUS. -/
def cmdTriggerStatus : Cmd := cmdL 0x0212 fun _ p d =>
  let ent := fun (m : Nat) =>
    let x := d.slot m
    le 1 x.action ++ le 1 (b01 x.armed + 2 * b01 x.fired + 4 * b01 x.skipped) ++ le 2 x.target ++ le 4 x.period ++ le 8 (d.nextNs x)
  checks [(p.length != 0, 0x101)] d (okData ((rangeFrom 0 32).flatMap ent) d)

/-- TRIGGER_SET. -/
def execTriggerSet (r : AcpReq) (s : State) : Host.Outcome State Fault Refusal := run true (acpTake cmdTriggerSet r) s
/-- TRIGGER_CANCEL. -/
def execTriggerCancel (r : AcpReq) (s : State) : Host.Outcome State Fault Refusal := run true (acpTake cmdTriggerCancel r) s
/-- TRIGGER_STATUS. -/
def execTriggerStatus (r : AcpReq) (s : State) : Host.Outcome State Fault Refusal := run true (acpTake cmdTriggerStatus r) s

end Sys2Proof.Machine
end

