-- ==== Sys2Proof/Machine/RegRead.lean ====
section
/-! DEFINITION. What each block register reads as (the register maps of 02 to 13 and 16 to 18), and the registers of the host's
window (14 14.2). Each function maps an offset from its block's base to the register's value now, none where no register stands. -/

namespace Sys2Proof.Machine

/-- A counter table's word. -/
def ctrW (t : Tbl W32) (i : Nat) : Option Nat := some (tget 0 t i).toNat

/-- The word at byte offset `o` of a byte string. -/
def wordAt (b : Bytes) (o : Nat) : Option Nat := some (u32 b o)

/-! ## 02 to 04 -/

/-- 02 Table 2.10: a trigger slot's register. -/
def Dev.slotReg (d : Dev) (m o : Nat) : Option Nat :=
  let x := d.slot m
  [
    (0x00, x.time / 65536 % 2 ^ 32),
    (0x04, x.time / 65536 / 2 ^ 32),
    (0x08, x.time % 65536),
    (0x0C, x.action + fld (b01 x.armed) 4 + fld (b01 x.fired) 5 + fld (b01 x.skipped) 6),
    (0x10, x.target),
    (0x14, x.period),
    (0x18, if x.armed && audioAction x.action then blockAt d.rate (x.nextT d.rate) % 2 ^ 32 else 0)].lookup o

/-- 02 Table 2.7: TIM registers. -/
def Dev.timReg (d : Dev) (o : Nat) : Option Nat :=
  let t := d.tim
  if 0x100 ≤ o ∧ o < 0x500 then d.slotReg ((o - 0x100) / 32) (o % 32)
  else if 0x600 ≤ o ∧ o < 0x680 then ctrW (if o % 8 = 0 then t.tscRx else t.tscTx) ((o - 0x600) / 8)
  else if 0x80 ≤ o ∧ o < 0x90 then ctrW t.mclk ((o - 0x80) / 4)
  else if 0xA0 ≤ o ∧ o < 0xC0 then let c := tget (true, 0) t.tout ((o - 0xA0) / 4); some (b01 c.1 + fld c.2 8)
  else [
    (0x000, t.qualSet + fld (b01 t.servoEn) 2),
    (0x004, t.quality.code + fld (b01 t.incClamp) 2 + fld (b01 t.ppsSeen) 3 + fld (b01 t.stepRefused) 4 + fld (b01 t.snapBusy) 5),
    (0x010, d.nowNs / 10 ^ 9 % 2 ^ 32),
    (0x014, d.nowNs / 10 ^ 9 / 2 ^ 32 % 65536),
    (0x018, d.nowNs % 10 ^ 9),
    (0x01C, d.nowFrac),
    (0x020, t.incLo.toNat),
    (0x024, t.inc / 2 ^ 32),
    (0x030, t.stepLo.toNat),
    (0x034, t.stepHi.toNat),
    (0x040, t.tick % 2 ^ 32),
    (0x044, t.tick / 2 ^ 32),
    (0x060, t.snapSeq.toNat),
    (0x070, t.ppsMode + fld (b01 t.ppsGate) 2 + fld t.ppsWidth 8),
    (0x074, t.ppsIn.toNat),
    (0x078, wI t.ppsLimit)].lookup o

/-- 03 Table 3.8: TRJ registers. -/
def Dev.trjReg (d : Dev) (o : Nat) : Option Nat :=
  if 0x10 ≤ o ∧ o < 0x38 then ctrW d.trj.ctr ((o - 0x10) / 4)
  else if 0x100 ≤ o ∧ o < 0x900 then
    let k := (o - 0x100) / 64
    if o % 64 < 40 then wordAt ((d.layout k).bytes k) (o % 64) else if o % 64 = 40 then some (d.layout k).jobs.toNat else none
  else if 0x1000 ≤ o ∧ o < 0x1400 then some (d.routeWord ((o - 0x1000) / 4)).toNat
  else if 0x2000 ≤ o ∧ o < 0x6000 then wordAt (d.spk ((o - 0x2000) / 32)).bytes (o % 32)
  else [
    (0x000, b01 d.trj.fold),
    (0x004, b01 d.trj.busy + 2 * b01 d.trj.missed)].lookup o

/-- 04 Table 4.7: a filter engine's registers. -/
def Dev.feReg (d : Dev) (e o : Nat) : Option Nat :=
  let x := d.fe e
  [
    (0x00, x.kind + fld x.profile 2 + fld x.align 3 + fld x.slots 4),
    (0x04, (d.unit 3 e).st.code),
    (0x08, baseGd x.kind x.profile * 65536),
    (0x0C, x.skewMax),
    (0x10, x.miss.toNat),
    (0x14, x.clip.toNat)].lookup o

/-- 04 Table 4.7: a rate group's registers. -/
def Dev.grpReg (d : Dev) (g o : Nat) : Option Nat :=
  let x : Group := tget {} d.flt.grp g
  [
    (0x00, x.st.code + fld (b01 x.rangeErr) 2),
    (0x04, wI x.dev),
    (0x08, wI x.fill),
    (0x0C, x.slips.toNat)].lookup o

/-- 04 Table 4.7: a tone detector's registers. -/
def Dev.toneReg (d : Dev) (t o : Nat) : Option Nat :=
  let x := d.tone t
  [
    (0x00, b01 x.enable + fld x.srcKind 1 + fld x.window 3 + fld x.src 16),
    (0x04, x.freq),
    (0x08, x.n),
    (0x0C, (x.level % 65536).toNat + fld x.phase 16),
    (0x10, x.block % 2 ^ 32),
    (0x14, x.block / 2 ^ 32),
    (0x18, b01 x.present + 2 * b01 x.valid),
    (0x1C, (x.thresh % 65536).toNat + fld x.hyst 16)].lookup o

/-- 04 Table 4.7: FLT registers. -/
def Dev.fltReg (d : Dev) (o : Nat) : Option Nat :=
  let route := fun (r : Route) => some (r.engine + fld r.slot 4)
  if 0x100 ≤ o ∧ o < 0x280 then d.feReg ((o - 0x100) / 64) (o % 64)
  else if 0x1000 ≤ o ∧ o < 0x2100 then route (d.inRoute ((o - 0x1000) / 4))
  else if 0x2200 ≤ o ∧ o < 0x2A00 then route (d.outRoute ((o - 0x2200) / 4))
  else if 0x3000 ≤ o ∧ o < 0x4100 then some (tget 0 d.flt.inphase ((o - 0x3000) / 4))
  else if 0x4200 ≤ o ∧ o < 0x4A00 then some (tget 0 d.flt.outphase ((o - 0x4200) / 4))
  else if 0x5000 ≤ o ∧ o < 0x5C00 then d.grpReg ((o - 0x5000) / 32) (o % 32)
  else if 0x6000 ≤ o ∧ o < 0x6800 then d.toneReg ((o - 0x6000) / 32) (o % 32)
  else [
    (0x000, d.flt.missed),
    (0x004, d.flt.mismatch.toNat)].lookup o

/-! ## 06 to 09 -/

/-- 06 Table 6.9: SCH registers. -/
def Dev.schReg (d : Dev) (o : Nat) : Option Nat :=
  let s := d.sch
  if 0x40 ≤ o ∧ o < 0x60 then some (s.queue.filter (fun j => j.prio == (o - 0x40) / 4)).length
  else if 0x80 ≤ o ∧ o < 0xA0 then some (match (d.eng ((o - 0x80) / 4)).slot with
    | some j => j.obj + fld j.lead 10 + fld j.prio 15 + fld 1 31
    | none => 0)
  else if 0x200 ≤ o ∧ o < 0x400 then wordAt ((d.bind ((o - 0x200) / 16)).bytes ((o - 0x200) / 16)) (o % 16)
  else if 0x1000 ≤ o ∧ o < 0x9000 then wordAt (tget {} s.trace ((o - 0x1000) / 16)).bytes (o % 16)
  else [
    (0x000, s.affWait + fld s.traceMode 16),
    (0x004, d.nEn + fld (b01 d.affinity) 4 + fld s.queue.length 16),
    (0x008, s.qMax),
    (0x010, s.issued.toNat),
    (0x014, s.done.toNat),
    (0x018, s.full.toNat),
    (0x01C, s.miss.toNat),
    (0x020, s.affine.toNat),
    (0x024, s.waited.toNat),
    (0x100, s.traceWr + fld (b01 s.traceWrapped) 31)].lookup o

/-- 07 Table 7.7: a physical lane's registers. -/
def Dev.laneReg (d : Dev) (p o : Nat) : Option Nat :=
  let x := d.lane p
  [
    (0x00, x.st.code + fld (x.logical.getD 127) 8 + fld (b01 x.ownDelay) 16 + fld (b01 x.ownPath) 17 + fld (b01 x.delayBad) 18 + fld (b01 x.pathBad) 19),
    (0x04, x.clock + fld x.spread 12),
    (0x08, x.redo.toNat),
    (0x0C, x.late.toNat),
    (0x10, x.budgetOver.toNat),
    (0x14, x.eccCorr.toNat),
    (0x18, x.eccUncorr.toNat),
    (0x1C, if x.logical.isSome && d.rendering then Config.laneLoad p d.tim.tick % 2 ^ 32 else 0)].lookup o

/-- 07 Table 7.7: the takeover block of the migration. -/
def Dev.migBlock (d : Dev) : Nat := (d.rnd.mig.bind (·.block)).getD 0

/-- 07 Table 7.7: RND_MIG_LANE. -/
def Dev.migLanes (d : Dev) : Nat :=
  match d.rnd.mig with
  | some m => m.logical + fld m.new 8 + fld m.old 16
  | none => 0x007F7F7F

/-- 07 Table 7.7: RND registers. -/
def Dev.rndReg (d : Dev) (o : Nat) : Option Nat :=
  let r := d.rnd
  if 0x100 ≤ o ∧ o < 0x980 then d.laneReg ((o - 0x100) / 32) (o % 32)
  else if 0x1000 ≤ o ∧ o < 0x1800 then let i := (o - 0x1000) / 2; some (d.mapWord i + fld (d.mapWord (i + 1)) 16)
  else if 0x20000 ≤ o ∧ o < 0x38000 then some (wI ((coefSet ((o - 0x20000) / 96)).getD ((o - 0x20000) % 96 / 4) 0))
  else [
    (0x000, b01 r.check + 2 * b01 r.scrub),
    (0x004, b01 r.busy + 2 * b01 r.missed + fld (b01 (r.shed.length != 0)) 2 + fld (b01 r.mig.isSome) 3 + fld d.freeReserves.length 4),
    (0x008, d.migLanes),
    (0x00C, d.migBlock % 2 ^ 32),
    (0x010, d.migBlock / 2 ^ 32),
    (0x020, r.dclamp.toNat),
    (0x024, r.isat.toNat),
    (0x028, r.pathUncorr.toNat),
    (0x02C, r.migrations.toNat),
    (0x030, r.migDeferred.toNat)].lookup o

/-- 08 Table 8.9: an output's registers. -/
def Dev.cnvOutReg (d : Dev) (s o : Nat) : Option Nat :=
  let x := d.cnvo s
  match o with
  | 0x0 => some (d.cnvOutState s)
  | 0x4 => some (x.a.taps + fld x.b.taps 16)
  | 0x8 => some (match x.queued with
    | some q => q.block % 2 ^ 32
    | none => 0)
  | _ => some (if x.a.st == .loading then x.a.next else if x.b.st == .loading then x.b.next + 65536 else 0)

/-- 08 Table 8.9: CNV registers. -/
def Dev.cnvReg (d : Dev) (o : Nat) : Option Nat :=
  if 0x10 ≤ o ∧ o < 0x34 then some (d.cnvCtr ((o - 0x10) / 4))
  else if 0x1000 ≤ o ∧ o < 0x3000 then d.cnvOutReg ((o - 0x1000) / 16) (o % 16)
  else if 0x10000 ≤ o ∧ o < 0x12000 then let w := twiddle ((o - 0x10000) / 8); some (wI (if o % 8 = 0 then w.1 else w.2))
  else if 0x20000 ≤ o ∧ o < 0x22000 then some (wI ((d.preeqOf ((o - 0x20000) / 1024)).getD ((o - 0x20000) % 1024 / 4) 0))
  else if 0x22000 ≤ o ∧ o < 0x22020 then some (d.preeqOf ((o - 0x22000) / 4)).length
  else [
    (0x000, b01 d.cnv.t2En + fld d.cnv.t2Base 16),
    (0x004, d.cnvStatus)].lookup o

/-- 09 Table 9.2: an output's registers; the trim and the mute target are those in force for the block in the output stage. -/
def Dev.outChReg (d : Dev) (s o : Nat) : Option Nat :=
  let x := d.outCh s
  let m := d.tim.tick + 1
  [
    (0x00, b01 x.polarity + fld (b01 x.limEn) 1 + fld (b01 x.pilotEn) 2 + fld (b01 (d.chRet (68 + s))) 3 + fld x.dither 4 + fld x.width 8),
    (0x04, wI (x.trim.val m)),
    (0x08, x.delay),
    (0x0C, x.ceil),
    (0x10, x.release),
    (0x14, x.pfreq),
    (0x18, x.pamp),
    (0x1C, x.seedOf s % 2 ^ 32),
    (0x20, x.seedOf s / 2 ^ 32),
    (0x24, x.m + fld (b01 (x.mute.val m).1) 25 + fld (x.mute.val m).2 26),
    (0x28, (x.peak % 65536).toNat + fld (x.rms % 65536).toNat 16),
    (0x2C, x.gr + fld (b01 x.valid) 16),
    (0x30, x.clip.toNat),
    (0x34, x.limited.toNat),
    (0x38, x.mN + fld x.mTap 16)].lookup o

/-- 09 Table 9.2: OUT registers. -/
def Dev.outReg (d : Dev) (o : Nat) : Option Nat :=
  let map := fun (t : Tbl Nat) (i : Nat) => some (tget 0xFFFF t i + fld (tget 0xFFFF t (i + 1)) 16)
  if 0x1000 ≤ o ∧ o < 0x9000 then d.outChReg ((o - 0x1000) / 64) (o % 64)
  else if 0x9000 ≤ o ∧ o < 0x9200 then
    let g : Guard := tget {} d.out.gs ((o - 0x9000) / 16)
    some (match o % 16 with
      | 0 => g.out + fld (b01 g.en) 15
      | 4 => g.block % 2 ^ 32
      | 8 => g.block / 2 ^ 32
      | _ => g.crc.toNat)
  else if 0x10000 ≤ o ∧ o < 0x18000 then map d.out.tx ((o - 0x10000) / 2)
  else if 0x18000 ≤ o ∧ o < 0x18A00 then map d.out.tdm ((o - 0x18000) / 2)
  else if 0x18A00 ≤ o ∧ o < 0x18E00 then map d.out.madi ((o - 0x18A00) / 2)
  else [
    (0x000, d.nRet 1 + fld (d.out.gs.filter (fun g => g.2.en)).length 16),
    (0x004, d.poolUsed)].lookup o

/-! ## 10 and 11 -/

/-- 10 Table 10.4: word `i` of a time-stamp entry. -/
def TsEnt.word (t : TsEnt) (i : Nat) : Nat :=
  let ns := t.time / 65536
  let sec := ns / 10 ^ 9
  if i = 0 then sec % 2 ^ 32 else if i = 1 then sec / 2 ^ 32 % 65536 + fld t.msg 16 + fld t.domain 24 else if i = 2 then ns % 10 ^ 9
  else t.time % 65536 + fld t.seq 16

/-- 10 Table 10.7: a port's registers. -/
def Dev.portReg (d : Dev) (p o : Nat) : Option Nat :=
  let x := d.port p
  let mac := d.macOf p
  let wide := fun (t : Tbl (BitVec 40)) (k : Nat) => let v := (tget 0 t (k / 8)).toNat; some (if k % 8 = 0 then v % 2 ^ 32 else v / 2 ^ 32)
  if 0x1000 ≤ o ∧ o < 0x1140 then wide x.ctr (o - 0x1000)
  else if 0x1800 ≤ o ∧ o < 0x1940 then wide x.shd (o - 0x1800)
  else if 0x400 ≤ o ∧ o < 0x500 then
    let w : WakeF := tget {} x.wf ((o - 0x400) / 32)
    if o % 32 < 16 then some (w.mask / 2 ^ (8 * (o % 32)) % 2 ^ 32)
    else if o % 32 = 16 then some (w.offset + fld (b01 w.dest) 16) else if o % 32 = 20 then some w.check else none
  else if 0x44 ≤ o ∧ o < 0x54 then some (match x.tsf with
    | t :: _ => t.word ((o - 0x44) / 4)
    | [] => 0)
  else if 0x60 ≤ o ∧ o < 0x70 then wordAt x.lostId (o - 0x60)
  else [
    (0x000, x.mode + fld (b01 x.an) 3),
    (0x004, x.status),
    (0x008, (d.unit 4 p).st.code),
    (0x00C, d.linkDownMs p),
    (0x010, mac % 2 ^ 32),
    (0x014, mac / 2 ^ 32),
    (0x018, x.vid + fld (b01 x.tagged) 12 + fld (b01 x.acceptUnt) 13),
    (0x01C, x.pcp0 + fld x.pcp1 4 + fld x.pcp2 8),
    (0x020, x.maxfrm),
    (0x024, x.ipv4.toNat),
    (0x028, x.plen),
    (0x02C, x.gateway.toNat),
    (0x030, x.express + fld x.addFrag 3 + fld (b01 x.preEn) 5 + fld (b01 x.verifyDis) 6),
    (0x034, x.preSt + fld x.fragUse 2 + fld x.fragPartner 4),
    (0x038, x.fcsLimit.toNat),
    (0x040, x.tsf.length),
    (0x080, x.half.toNat % 2 ^ 32),
    (0x084, x.half.toNat / 2 ^ 32),
    (0x088, d.tim.snapSeq.toNat)].lookup o

/-- 10 Table 10.7: NET registers. -/
def Dev.netReg (d : Dev) (o : Nat) : Option Nat :=
  if o < 0x80000 then d.portReg (o / 0x8000) (o % 0x8000)
  else if o = 0x80000 then some (d.net.wakePort + fld (b01 d.net.linkWake) 5) else none

/-- 11 Table 11.9: a packet came within the last 100 ms. -/
def Dev.legRecent (d : Dev) (t : Option Nat) : Nat :=
  match t with
  | some a => b01 (decide (d.tim.now ≤ a + 10 ^ 8 * 2 ^ 40))
  | none => 0

/-- 11 Table 11.9: a receive stream's registers. -/
def Dev.rxReg (d : Dev) (r o : Nat) : Option Nat :=
  let x := d.rx r
  if 0x10 ≤ o ∧ o < 0x40 then ctrW x.ctr ((o - 0x10) / 4)
  else if 0x40 ≤ o ∧ o < 0x70 then ctrW x.shd ((o - 0x40) / 4)
  else [
    (0x00, (d.unit 5 r).st.code + fld (d.legRecent x.lastA) 3 + fld (d.legRecent x.lastB) 4 + fld (b01 (x.gap != 0)) 5),
    (0x04, x.ssrc.toNat),
    (0x08, wI (d.rxMargin r)),
    (0x70, d.tim.snapSeq.toNat)].lookup o

/-- 11 Table 11.9: a transmit stream's registers. -/
def Dev.txReg (d : Dev) (t o : Nat) : Option Nat :=
  let x := d.tx t
  if 0x10 ≤ o ∧ o < 0x20 then ctrW x.ctr ((o - 0x10) / 4)
  else if 0x20 ≤ o ∧ o < 0x30 then ctrW x.shd ((o - 0x20) / 4)
  else [
    (0x00, (d.unit 6 t).st.code),
    (0x04, x.nextSeq),
    (0x30, d.tim.snapSeq.toNat)].lookup o

/-- Units of a kind in RUNNING. -/
def Dev.nRunning (d : Dev) (kind : Nat) : Nat := (d.units.filter (fun (u : Nat × FUnit) => u.1 / 4096 == kind && u.2.st == .running)).length

/-- 11 Table 11.9: STR registers. -/
def Dev.strReg (d : Dev) (o : Nat) : Option Nat :=
  if 0x10000 ≤ o ∧ o < 0x18000 then d.rxReg ((o - 0x10000) / 128) (o % 128)
  else if 0x20000 ≤ o ∧ o < 0x24000 then d.txReg ((o - 0x20000) / 64) (o % 64)
  else if 0x30000 ≤ o ∧ o < 0x31100 then let m := tget (0, 0, 0) d.str.inmap ((o - 0x30000) / 4); some (m.1 + fld m.2.1 2 + fld m.2.2 10)
  else [
    (0x000, d.nRunning 5 + fld (d.nRunning 6) 16),
    (0x004, (d.str.rx.map (fun (z : Nat × RxStr) => z.2.pool)).sum)].lookup o

/-- 11 Table 11.10: SAP registers. -/
def Dev.sapReg (d : Dev) (o : Nat) : Option Nat :=
  if o < 0x280 then
    let m := o / 64
    let x := d.tc m
    let p := o % 64
    if 0x10 ≤ p ∧ p < 0x1C then ctrW x.ctr ((p - 0x10) / 4)
    else if 0x20 ≤ p ∧ p < 0x2C then ctrW x.shd ((p - 0x20) / 4)
    else [
      (0x00, (d.unit 7 m).st.code + fld (b01 x.clk) 3 + fld ((rangeFrom 0 4).map (fun i => fld (b01 (d.chRet (1108 + 4 * m + i))) i)).sum 4),
      (0x04, wI x.phase),
      (0x08, x.bclk),
      (0x2C, d.tim.snapSeq.toNat)].lookup p
  else if 0x400 ≤ o ∧ o < 0x600 then
    let m := (o - 0x400) / 64
    let x := d.madi m
    let p := o % 64
    if 0x10 ≤ p ∧ p < 0x20 then ctrW x.ctr ((p - 0x10) / 4)
    else if 0x20 ≤ p ∧ p < 0x30 then ctrW x.shd ((p - 0x20) / 4)
    else [
      (0x00, (d.unit 8 m).st.code + fld (b01 x.signal) 3 + fld (b01 x.lock) 4),
      (0x04, wI x.phase),
      (0x30, d.tim.snapSeq.toNat)].lookup p
  else none

/-! ## 12 and 13 -/

/-- 12 Table 12.3: SCB_OWNn. -/
def SBank.own (b : SBank) : Nat :=
  b.owner.code + fld (b01 b.pending.isSome) 2 + fld (b01 b.faulty) 3 + fld (b01 b.lost) 4 + fld (b01 b.notOwner) 5

/-- 12 Table 12.2: SCB and BW registers. -/
def Dev.scbReg (d : Dev) (o : Nat) : Option Nat :=
  let s := d.scb
  if 0x100 ≤ o ∧ o < 0x140 then some (d.bank ((o - 0x100) / 4)).own
  else if 0x200 ≤ o ∧ o < 0x280 then
    let e := (o - 0x200) / 16
    match o % 16 with
    | 0 => some (tget 0 s.dpStatus e)
    | 4 => ctrW s.dpAddr e
    | 8 => ctrW s.dpBusy e
    | _ => ctrW s.dpLost e
  else if 0x800 ≤ o ∧ o < 0x900 then
    let w := (o - 0x800) / 16
    match o % 16 with
    | 0 => some (d.bwB w)
    | 4 => some (d.bwL w)
    | 8 => some (b01 (tget false s.bwFold w))
    | _ => ctrW s.bwFolds w
  else [
    (0x000, b01 s.testEn),
    (0x004, s.tBank + fld (b01 s.tActive) 4 + fld s.tPhase 5 + fld s.tStripe 16),
    (0x008, s.mask),
    (0x010, s.yields.toNat),
    (0x014, s.passes.toNat),
    (0x018, s.fails.toNat),
    (0x01C, s.failAddr),
    (0x020, s.eccCorr.toNat),
    (0x024, s.eccUncorr.toNat)].lookup o

/-- 13 R345: SP, channel and rank of DRC_DLY_SEL. -/
def Drc.selRank (c : Drc) : Nat := c.dlySel % 32

/-- 13 R345: 8 x SP + 2 x channel + rank of DRC_DLY_SEL. -/
def Drc.selBase (c : Drc) : Nat := 8 * (c.dlySel % 4) + 2 * (c.dlySel / 4 % 4) + c.dlySel / 16 % 2

/-- 13 Table 13.6: DRC registers. -/
def Dev.drcReg (d : Dev) (o : Nat) : Option Nat :=
  let c := d.drc
  if 0x40 ≤ o ∧ o < 0x60 then ctrW c.ctr ((o - 0x40) / 4)
  else if 0x100 ≤ o ∧ o < 0x180 then wordAt d.freezeRec (o - 0x100)
  else [
    (0x000, c.sp + fld (b01 c.spread) 2 + fld (b01 c.driftEn) 3),
    (0x004, d.drcStatus),
    (0x008, b01 c.ranks2 + fld c.density 1),
    (0x00C, c.capacity),
    (0x010, c.ageMax),
    (0x014, c.idleClose),
    (0x018, c.dqsosc + fld c.driftMax 16),
    (0x01C, c.hold),
    (0x020, c.win),
    (0x024, d.drcDepth + fld c.qMax 16),
    (0x028, c.lastCorr % 2 ^ 32),
    (0x02C, c.lastCorr / 2 ^ 32),
    (0x200, fld c.trnCtrl 1 + fld (b01 c.stepDone) 9),
    (0x204, c.trnResult),
    (0x208, c.pattern),
    (0x20C, c.dlySel),
    (0x210, tget 0 c.dly c.dlySel),
    (0x214, (tget 0 c.vref c.selRank).toNat),
    (0x218, tget 0 c.base c.selBase)].lookup o

/-! ## 16 to 18 -/

/-- 16 Table 16.1: the code of a pair state. -/
def PairSt.code : PairSt → Nat
  | .off => 0
  | .solo => 1
  | .active => 2
  | .stale => 3
  | .bulk => 4
  | .rewarming => 5
  | .following => 6
  | .lapse => 7

/-- 16 Table 16.10: PAIR_STATUS. -/
def Dev.pairStatus (d : Dev) : Nat :=
  let p := d.pair
  p.st.code + fld (b01 (p.lanes != 0)) 5 + fld p.lanes 6 + fld (b01 p.act) 8 + fld (b01 p.sample) 9 + fld (b01 p.flt) 10 + fld (b01 p.hb) 11
  + fld (b01 p.take.isSome) 12 + fld (b01 p.diverged) 13 + fld p.phase 14

/-- 16 Table 16.8: PAIR registers. -/
def Dev.pairReg (d : Dev) (o : Nat) : Option Nat :=
  let p := d.pair
  if 0x40 ≤ o ∧ o < 0x7C then ctrW p.ctr ((o - 0x40) / 4)
  else if 0x100 ≤ o ∧ o < 0x300 then
    let k := (o - 0x100) / 16
    some (match o % 16 with
      | 0 => tget 0 p.peerCrc k
      | 4 => (tget 0 p.mm k).toNat
      | 8 => tget 0 p.mmBlock k % 2 ^ 32
      | _ => tget 0 p.mmBlock k / 2 ^ 32)
  else [
    (0x000, p.modeNext.getD p.mode + fld (b01 p.autoSplice) 2 + fld (b01 p.hbEn) 3),
    (0x004, d.pairStatus),
    (0x008, p.filter),
    (0x00C, p.mmHold),
    (0x010, p.epoch),
    (0x014, p.lastSealed % 2 ^ 32),
    (0x018, p.lastSealed / 2 ^ 32),
    (0x01C, p.lastCommit % 2 ^ 32),
    (0x020, p.lastCommit / 2 ^ 32),
    (0x024, wI p.offset),
    (0x028, p.timeLimit)].lookup o

/-- 17 Table 17.7: floor, and ceiling or fixed clock, in MHz, of an island. -/
def islFloor (j : Nat) : Nat :=
  if j < 68 then 960 else if j = 77 then 480 else if 78 ≤ j ∧ j ≤ 83 then 600 else if j = 84 then 800 else 1000
/-- 17 Table 17.7: ceiling or fixed clock in MHz. -/
def islCeil (j : Nat) : Nat :=
  if j < 68 then 1100 else if j = 77 then 600 else if 78 ≤ j ∧ j ≤ 83 then 700 else if j = 84 then 800 else 1000
/-- 17 R444: firmware plans the island's clock. -/
def islPlanned (j : Nat) : Bool := decide (j < 68) || decide (77 ≤ j ∧ j ≤ 83)
/-- 17 R444: the island `j`. -/
def Dev.isl (d : Dev) (j : Nat) : Island := tget {} d.hlt.isl j
/-- 17 Table 17.8: planned clock of an island; 0 stands for the ceiling or the fixed clock. -/
def Dev.islMhz (d : Dev) (j : Nat) : Nat := if (d.isl j).mhz = 0 then islCeil j else (d.isl j).mhz

/-- 17 Table 17.8: HLT registers. -/
def Dev.hltReg (d : Dev) (o : Nat) : Option Nat :=
  let h := d.hlt
  if 0x1000 ≤ o ∧ o < 0x34C0 then
    let x := d.chan ((o - 0x1000) / 8)
    some (if o % 8 = 0 then x.level + fld (b01 x.retired) 4 + fld x.cause 8 else x.strikes.toNat)
  else if 0x4000 ≤ o ∧ o < 0x5260 then some (d.chan ((o - 0x4000) / 4)).shadow.toNat
  else if 0x6000 ≤ o ∧ o < 0x6300 then
    let i := (o - 0x6000) / 8
    some (if o % 8 = 0 then (tget 0 h.ringN i).toNat else tget 0x8000 h.ringR i)
  else if 0x7000 ≤ o ∧ o < 0x72B8 then
    let j := (o - 0x7000) / 8
    let x := d.isl j
    some (if o % 8 = 0 then d.islMhz j + fld x.trim 12 + fld (b01 x.floorLost) 15 + fld (b01 x.deferred) 16 else (x.margin % 65536).toNat + fld x.allowed 16)
  else if 0x8000 ≤ o ∧ o < 0xC000 then wordAt (tget {} h.log ((o - 0x8000) / 32)).bytes (o % 32)
  else [
    (0x000, b01 h.auto + 2 * b01 h.prove),
    (0x004, b01 h.sweepBusy + 2 * b01 h.noBirth + fld h.ring 8),
    (0x008, h.flags.toNat),
    (0x00C, h.arbMask.toNat),
    (0x010, h.period),
    (0x014, h.guard + fld h.marginWarn 16),
    (0x018, h.logWr + fld (b01 h.wrapped) 31),
    (0x01C, d.tim.snapSeq.toNat),
    (0x020, h.sweeps.toNat),
    (0x024, h.replans.toNat)].lookup o

/-- 18 Table 18.2: a wake source is enabled; HIBERNATE considers only WAKE_N and WAKE_ALARM (R463). -/
def Dev.wakeEnabled (d : Dev) (hib : Bool) : Bool :=
  d.pwr.wakeNEn || d.tim.slots.any (fun (x : Nat × Slot) => x.2.armed && x.2.action == 7)
  || (!hib && (d.pwr.hostWakeEn || (decide (d.net.wakePort < 16) && !d.retired 4 d.net.wakePort)))

/-- 18 Table 18.2 bit 4: an operation that blocks entry is in progress. -/
def Dev.opBusy (d : Dev) : Bool :=
  d.drc.run.isSome || d.rnd.mig.isSome || d.hlt.isl.any (fun (x : Nat × Island) => x.2.plan.isSome && !x.2.deferred) || d.hlt.sweepBusy
  || d.hst.wait.any (fun w => w.key.1 == 0x0802) || d.pair.phase != 0 || d.pair.serving || d.store.appends.length != 0
  || d.store.ops.length != 0 || d.store.compacting.isSome || d.store.upd.isSome

/-- 18 Table 18.2: PWR_BLOCK, with the tag `own` ignored. -/
def Dev.pwrBlock (d : Dev) (own : Option Nat) (hib : Bool) : Nat :=
  let h := d.hst
  b01 (!d.audioStopped) + fld (b01 (d.pair.mode != 0)) 1 + fld (b01 (d.tim.slots.any (fun (x : Nat × Slot) => x.2.armed && audioAction x.2.action))) 2
  + fld (b01 (h.cmd.used != 0 || h.inflight.any (fun (x : Nat × Option Nat) => some x.1 != own) || h.timed.length != 0 || h.rspQ.length != 0)) 3
  + fld (b01 d.opBusy) 4 + fld (b01 (!d.wakeEnabled hib)) 5 + fld (b01 (d.pwr.st != .idle)) 6 + fld (b01 (!d.pwr.dozeEn)) 7

/-- 14 Table 14.5: POWER. -/
def PowSt.code : PowSt → Nat
  | .active => 0
  | .idle => 1
  | .entering _ => 2
  | .doze => 2
  | .hibernate => 2
  | .waking => 3

/-- 18 Table 18.8: the bytes of the wake record. -/
def WakeRec.bytes (r : WakeRec) : Bytes :=
  le 2 r.version ++ le 2 r.flags ++ le 1 r.source ++ le 1 r.detail ++ le 2 r.latched ++ (r.t0 ++ zb 16).take 16 ++ le 8 r.c0 ++ le 8 r.rho
  ++ le 8 r.u0 ++ le 8 r.c1 ++ (r.t1 ++ zb 16).take 16 ++ le 8 r.uncert ++ le 4 r.mask ++ le 4 r.lost
  ++ (rangeFrom 0 32).flatMap (fun b => le 4 (tget 0 r.sig b)) ++ le 4 r.count ++ le 4 r.dropped ++ le 2 r.entryUs ++ le 2 r.exitUs ++ zb 28

/-- 18 Table 18.14: PWR registers. -/
def Dev.pwrReg (d : Dev) (o : Nat) : Option Nat :=
  let p := d.pwr
  if 0x100 ≤ o ∧ o < 0x200 then wordAt p.wrec.bytes (o - 0x100)
  else if 0x200 ≤ o ∧ o < 0x280 then some (tget 0 p.sig ((o - 0x200) / 4))
  else [
    (0x000, b01 p.idleEn + 2 * b01 p.dozeEn + 4 * b01 p.wakeNEn + 8 * b01 p.hostWakeEn),
    (0x004, p.st.code + fld (b01 p.rtcRun) 2),
    (0x008, d.pwrBlock none false),
    (0x00C, p.idleMs),
    (0x010, p.dozeS),
    (0x014, p.wakeFilt),
    (0x018, p.rtc % 2 ^ 32),
    (0x01C, p.rtc / 2 ^ 32),
    (0x020, p.cause),
    (0x024, p.lastWake.1 + fld p.lastWake.2 8),
    (0x028, p.dozeCount.toNat),
    (0x02C, p.mask.toNat),
    (0x030, p.lost.toNat)].lookup o

/-! ## The block registers and the host's window -/

/-- 14 R382: the register at an internal address of the block registers, as it stands now; a word where no register stands reads
0 (00 R12). -/
def Dev.blkReg (d : Dev) (a : Nat) : Nat :=
  let o := a % 0x100000
  (match a / 0x100000 with
  | 0x400 => d.netReg o
  | 0x401 => d.strReg o
  | 0x402 => d.sapReg o
  | 0x403 => d.timReg o
  | 0x404 => d.fltReg o
  | 0x405 => d.trjReg o
  | 0x406 => d.schReg o
  | 0x407 => (d.eng (o / 0x20000)).reg (o % 0x20000)
  | 0x408 => d.rndReg o
  | 0x409 => d.cnvReg o
  | 0x40A => d.outReg o
  | 0x40B => d.scbReg o
  | 0x40C => d.drcReg o
  | 0x40D => d.pairReg o
  | 0x40E => d.hltReg o
  | 0x40F => d.pwrReg o
  | _ => none).getD 0 % 2 ^ 32

/-- 10 R277, 14 R383: the HI partners a read of the register at `a` latches. -/
def latchedBy (a : Nat) : List Nat :=
  let o := a % 0x100000
  match a / 0x100000 with
  | 0x400 => if o < 0x80000 ∧ 0x1000 ≤ o % 0x8000 ∧ o % 0x8000 < 0x1140 ∧ o % 8 = 0 then [a + 4] else []
  | 0x403 => if o = 0x10 then [a + 4, a + 8, a + 12] else if o = 0x40 then [a + 4] else []
  | 0x407 => if o % 0x20000 = 0x50 then [a + 4] else []
  | 0x408 => if o = 0x0C then [a + 4] else []
  | 0x40A => if 0x9000 ≤ o ∧ o < 0x9200 ∧ o % 16 = 4 then [a + 4] else []
  | 0x40C => if o = 0x28 then [a + 4] else []
  | 0x40D => if o = 0x14 ∨ o = 0x1C ∨ (0x100 ≤ o ∧ o < 0x300 ∧ o % 16 = 8) then [a + 4] else []
  | 0x40F => if o = 0x18 then [a + 4] else []
  | _ => []

/-- 10 R277: the register at `a` reads what its LO partner latched. -/
def isLatched (a : Nat) : Bool :=
  (latchedBy (a - 4)).contains a || (a / 0x100000 == 0x403 && (a % 0x100000 == 0x18 || a % 0x100000 == 0x1C))

/-- 14 R383: a read of a block register with a set of latches: the value, and the latches after it. -/
def Dev.readReg (d : Dev) (l : Tbl W32) (a : Nat) : W32 × Tbl W32 :=
  if isLatched a then (tget 0 l a, l)
  else (BitVec.ofNat 32 (d.blkReg a), forRun (fun h t => tput 0 t h (BitVec.ofNat 32 (d.blkReg h))) (latchedBy a) l)

/-- 14 Table 14.5: HOST_STATUS. -/
def Dev.hostStatus (d : Dev) : Nat :=
  let boot := match d.boot.st with
    | .reset => 0
    | .rom => 1
    | .loading => 2
    | .init => 3
    | .ready => 4
    | .failed => 7
  boot + fld d.roleCode 5 + fld d.pwr.st.code 7 + fld (b01 d.hst.halted) 9 + fld (b01 (d.hst.evLost != 0)) 10 + fld (b01 d.hst.diagErr) 11
  + fld (b01 d.hst.diagBusy) 12 + fld d.hst.inflight.length 16

/-- 14 Table 14.2: the ring registers. -/
def Ring.reg (r : Ring) (o : Nat) : Nat :=
  match o with
  | 0 => r.baseReg
  | 4 => r.size
  | 8 => r.tail
  | _ => r.head

/-- 14 Table 14.2, R359: the register of the host's window at an offset. Before READY the window answers four registers (18 R468); a device
in DOZE answers six (18 R456). -/
def Dev.hostReg (d : Dev) (o : Nat) : Nat :=
  let h := d.hst
  let awake := d.pwr.st == .active || d.pwr.st == .idle
  match o with
  | 0x00 => 0x1064
  | 0x04 => 0xB0 + fld h.acp 8
  | 0x08 => b01 h.hspi + 2 * b01 Config.debugLocked + (if h.hspi then 0 else fld h.pcieWidth 2 + fld h.pcieGen 4)
  | 0x10 => d.hostStatus
  | 0x14 => if d.boot.st == .ready then h.irq.toNat else 0
  | o =>
    if d.boot.st != .ready then 0
    else if 0x200 ≤ o ∧ o < 0x300 then u32 d.pwr.hostRec (o - 0x200)
    else if !awake then 0
    else if 0x20 ≤ o ∧ o < 0x30 then h.cmd.reg (o - 0x20)
    else if 0x30 ≤ o ∧ o < 0x40 then h.rsp.reg (o - 0x30)
    else if 0x40 ≤ o ∧ o < 0x50 then h.evt.reg (o - 0x40)
    else if o = 0x18 then h.irqEn.toNat + fld h.holdoff 16
    else if o = 0x100 then h.diagAddr.toNat
    else if o = 0x104 then h.diagData.toNat
    else 0

end Sys2Proof.Machine
end

