-- ==== Sys2Proof/Machine/RegWrite.lean ====
section
/-! DEFINITION. What firmware's writes of block registers do (00 R11): RW fields store, W1C bits clear, RO and reserved bits stay; a
register whose write acts has the meaning of its own row. -/

namespace Sys2Proof.Machine

/-- 02 Table 2.1: QUALITY of a code. -/
def qualityOf (c : Nat) : Quality :=
  match c with
  | 0 => .locked
  | 1 => .holdover
  | 2 => .coarse
  | _ => .invalid

/-- 02 Table 2.10: a write of a trigger slot's register. -/
def slotWrite (m o : Nat) (v : W32) (d : Dev) : Dev :=
  let x := d.slot m
  let n := v.toNat
  let ns := x.time / 65536
  let put := fun (ns frac : Nat) => d.setSlot m { x with time := ns * 65536 + frac }
  match o with
  | 0x00 => put (ns / 2 ^ 32 * 2 ^ 32 + n) (x.time % 65536)
  | 0x04 => put (n * 2 ^ 32 + ns % 2 ^ 32) (x.time % 65536)
  | 0x08 => put ns (n % 65536)
  | 0x0C =>
    let arm := v.getLsbD 4
    d.setSlot m { x with
      action := n % 16, armed := arm, fired := x.fired && !v.getLsbD 5, skipped := x.skipped && !v.getLsbD 6
      firings := if arm && !x.armed then 0 else x.firings, leadBegun := x.leadBegun && arm && x.armed }
  | 0x10 => d.setSlot m { x with target := n % 65536 }
  | 0x14 => d.setSlot m { x with period := n % 2 ^ 24 }
  | _ => d

/-- 02 Table 2.7: a write of a TIM register. -/
def timWrite (o : Nat) (v : W32) (d : Dev) : Dev :=
  let t := d.tim
  let n := v.toNat
  if 0x100 ≤ o ∧ o < 0x500 then slotWrite ((o - 0x100) / 32) (o % 32) v d
  else if 0x600 ≤ o ∧ o < 0x680 then
    (if o % 8 = 0 then { d with tim := { t with tscRx := tput 0 t.tscRx ((o - 0x600) / 8) v } }
     else { d with tim := { t with tscTx := tput 0 t.tscTx ((o - 0x600) / 8) v } })
  else if 0x80 ≤ o ∧ o < 0x90 then
    let k := (o - 0x80) / 4
    let w := v &&& 15
    let sw := w.getLsbD 3 && (w != tget 0 t.mclk k || tget false t.mclkSwitching k)
    { d with tim := { t with mclk := tput 0 t.mclk k w, mclkSwitching := tput false t.mclkSwitching k sw } }
  else if 0xA0 ≤ o ∧ o < 0xC0 then
    let k := (o - 0xA0) / 4
    let c := (v.getLsbD 0, n / 256)
    if tget 0 t.toutPulse k = 0 then { d with tim := { t with tout := tput (true, 0) t.tout k c } }
    else { d with tim := { t with toutNext := tput none t.toutNext k (some c) } }
  else match o with
    | 0x000 =>
      let d := Dev.setQuality { d with tim := { t with servoEn := v.getLsbD 2 } } (qualityOf (n % 4))
      if v.getLsbD 3 then snapshot d else d
    | 0x004 => { d with tim := { t with
        incClamp := t.incClamp && !v.getLsbD 2, ppsSeen := t.ppsSeen && !v.getLsbD 3, stepRefused := t.stepRefused && !v.getLsbD 4 } }
    | 0x020 => { d with tim := { t with incLo := v } }
    | 0x024 => incCommit v d
    | 0x030 => { d with tim := { t with stepLo := v } }
    | 0x034 => { d with tim := { t with stepHi := v } }
    | 0x038 => stepGo v d
    | 0x070 =>
      let d := { d with tim := { t with ppsMode := n % 4, ppsGate := v.getLsbD 2, ppsWidth := n / 256 } }
      d.setQuality t.quality
    | 0x078 => { d with tim := { t with ppsLimit := v.toInt } }
    | _ => d

/-- 04 Table 4.7: a write of an FLT register. -/
def fltWrite (o : Nat) (v : W32) (d : Dev) : Dev :=
  let f := d.flt
  let n := v.toNat
  let route : Route := { engine := n % 16, slot := bitsOf n 4 9 }
  if o = 0 then { d with flt := { f with missed := f.missed &&& (63 - n % 64) } }
  else if 0x100 ≤ o ∧ o < 0x280 ∧ o % 64 = 0 then
    let e := (o - 0x100) / 64
    d.setFe e { d.fe e with kind := n % 4, profile := bitsOf n 2 1, align := bitsOf n 3 1, slots := bitsOf n 4 9 }
  else if 0x1000 ≤ o ∧ o < 0x2100 then { d with flt := { f with inmap := tput {} f.inmap ((o - 0x1000) / 4) route } }
  else if 0x2200 ≤ o ∧ o < 0x2A00 then { d with flt := { f with outmap := tput {} f.outmap ((o - 0x2200) / 4) route } }
  else if 0x3000 ≤ o ∧ o < 0x4100 then { d with flt := { f with inphase := tput 0 f.inphase ((o - 0x3000) / 4) n } }
  else if 0x4200 ≤ o ∧ o < 0x4A00 then { d with flt := { f with outphase := tput 0 f.outphase ((o - 0x4200) / 4) n } }
  else if 0x6000 ≤ o ∧ o < 0x6800 then
    let t := (o - 0x6000) / 32
    let x := d.tone t
    match o % 32 with
    | 0x00 => d.setTone t { x with enable := v.getLsbD 0, srcKind := bitsOf n 1 2, window := bitsOf n 3 1, src := bitsOf n 16 11 }
    | 0x04 => d.setTone t { x with freq := n }
    | 0x08 => d.setTone t { x with n := n }
    | 0x1C => d.setTone t { x with thresh := wrapI 16 (n % 65536), hyst := n / 65536 }
    | _ => d
  else d

/-- 09 Table 9.2: a write of an output's register. -/
def outChWrite (s o : Nat) (v : W32) (d : Dev) : Dev :=
  let x := d.outCh s
  let n := v.toNat
  let seed := fun (k : Nat) => d.setOut s { x with seed := if k = s * 2 ^ 32 then none else some k }
  match o with
  | 0x00 => d.setOut s { x with
      polarity := v.getLsbD 0, limEn := v.getLsbD 1, pilotEn := v.getLsbD 2, dither := bitsOf n 4 2, width := bitsOf n 8 6 }
  | 0x04 => d.setOut s { x with trim := ⟨v.toInt, v.toInt, 0⟩ }
  | 0x08 => d.setOut s { x with delay := n % 8192 }
  | 0x0C => d.setOut s { x with ceil := n }
  | 0x10 => d.setOut s { x with release := n }
  | 0x14 => d.setOut s { x with pfreq := n }
  | 0x18 => d.setOut s { x with pamp := n }
  | 0x1C => seed (x.seedOf s / 2 ^ 32 * 2 ^ 32 + n)
  | 0x20 => seed (n * 2 ^ 32 + x.seedOf s % 2 ^ 32)
  | 0x38 => d.setOut s { x with mN := n % 65536, mTap := bitsOf n 16 2 }
  | _ => d

/-- 09 Table 9.2: a write of an OUT register. -/
def outWrite (o : Nat) (v : W32) (d : Dev) : Dev :=
  let n := v.toNat
  let two := fun (t : Tbl Nat) (i : Nat) => tput 0xFFFF (tput 0xFFFF t i (n % 65536)) (i + 1) (n / 65536)
  if 0x1000 ≤ o ∧ o < 0x9000 then outChWrite ((o - 0x1000) / 64) (o % 64) v d
  else if 0x9000 ≤ o ∧ o < 0x9200 ∧ o % 16 = 0 then
    let k := (o - 0x9000) / 16
    let g : Guard := tget {} d.out.gs k
    { d with out := { d.out with gs := tput {} d.out.gs k { g with out := n % 512, en := v.getLsbD 15 } } }
  else if 0x10000 ≤ o ∧ o < 0x18000 then { d with out := { d.out with tx := two d.out.tx ((o - 0x10000) / 2) } }
  else if 0x18000 ≤ o ∧ o < 0x18A00 then { d with out := { d.out with tdm := two d.out.tdm ((o - 0x18000) / 2) } }
  else if 0x18A00 ≤ o ∧ o < 0x18E00 then { d with out := { d.out with madi := two d.out.madi ((o - 0x18A00) / 2) } }
  else d

/-- 10 Table 10.7: a write of a port's register. -/
def portWrite (p o : Nat) (v : W32) (d : Dev) : Dev :=
  let x := d.port p
  let n := v.toNat
  let mac := d.macOf p
  if 0x400 ≤ o ∧ o < 0x500 then
    let k := (o - 0x400) / 32
    let w : WakeF := tget {} x.wf k
    let q := o % 32
    let lo := w.mask % 2 ^ (8 * q)
    let hi := w.mask / 2 ^ (8 * q + 32)
    let w' : WakeF := if q < 16 then { w with mask := hi * 2 ^ (8 * q + 32) + n * 2 ^ (8 * q) + lo }
      else if q = 16 then { w with offset := n % 2 ^ 14, dest := v.getLsbD 16 } else if q = 20 then { w with check := n % 65536 } else w
    d.setPort p { x with wf := tput {} x.wf k w' }
  else match o with
    | 0x000 => d.setPort p { x with mode := n % 8, an := v.getLsbD 3 }
    | 0x004 => d.setPort p { x with tsLost := x.tsLost && !v.getLsbD 3, tsOvr := x.tsOvr && !v.getLsbD 4, linkChg := x.linkChg && !v.getLsbD 5 }
    | 0x010 => d.setPort p { x with mac := some (mac / 2 ^ 32 * 2 ^ 32 + n) }
    | 0x014 => d.setPort p { x with mac := some (n % 65536 * 2 ^ 32 + mac % 2 ^ 32) }
    | 0x018 => d.setPort p { x with vid := n % 4096, tagged := v.getLsbD 12, acceptUnt := v.getLsbD 13 }
    | 0x01C => d.setPort p { x with pcp0 := n % 8, pcp1 := bitsOf n 4 3, pcp2 := bitsOf n 8 3 }
    | 0x020 => d.setPort p { x with maxfrm := n % 2 ^ 14 }
    | 0x024 => d.setPort p { x with ipv4 := v }
    | 0x028 => d.setPort p { x with plen := n % 64 }
    | 0x02C => d.setPort p { x with gateway := v }
    | 0x030 => d.setPort p { x with express := n % 8, addFrag := bitsOf n 3 2, preEn := v.getLsbD 5, verifyDis := v.getLsbD 6 }
    | 0x038 => d.setPort p { x with fcsLimit := v }
    | 0x054 => tsfPop p d
    | 0x080 => d.setPort p { x with half := x.half &&& ~~~(BitVec.ofNat 40 n) }
    | 0x084 => d.setPort p { x with half := x.half &&& ~~~(BitVec.ofNat 40 (n % 256 * 2 ^ 32)) }
    | _ => d

/-- 12 Table 12.3: a write of SCB_OWNn. -/
def ownWrite (k : Nat) (v : W32) (d : Dev) : Dev :=
  let b := d.bank k
  let d := d.setBank k { b with notOwner := b.notOwner && !v.getLsbD 5, lost := b.lost && !v.getLsbD 4 }
  if ownerOf v.toNat = b.owner ∧ b.pending = none then d else beginHandover k v.toNat d

/-- 12 Table 12.2: a write of an SCB or BW register. -/
def scbWrite (o : Nat) (v : W32) (d : Dev) : Dev :=
  let s := d.scb
  let n := v.toNat
  if 0x100 ≤ o ∧ o < 0x140 then ownWrite ((o - 0x100) / 4) v d
  else if 0x200 ≤ o ∧ o < 0x280 ∧ o % 16 = 0 then
    let e := (o - 0x200) / 16
    { d with scb := { s with dpStatus := tput 0 s.dpStatus e (tget 0 s.dpStatus e &&& (15 - n % 16)) } }
  else if 0x800 ≤ o ∧ o < 0x900 then
    let w := (o - 0x800) / 16
    match o % 16 with
    | 0 => { d with scb := { s with bwBase := tput 0 s.bwBase w (n % 2 ^ 22 / 4 * 4) } }
    | 4 => { d with scb := { s with bwLen := tput 0 s.bwLen w (n % 2 ^ 19 / 4 * 4) } }
    | 8 => if v.getLsbD 0 then { d with scb := { s with bwFold := tput false s.bwFold w false } } else d
    | _ => d
  else if o = 0 then { d with scb := { s with testEn := v.getLsbD 0 } }
  else if o = 8 then { d with scb := { s with mask := n % 65536 } }
  else d

/-- 13 Table 13.6: a write of a DRC register. -/
def drcWrite (o : Nat) (v : W32) (d : Dev) : Dev :=
  let c := d.drc
  let n := v.toNat
  match o with
  | 0x000 => { d with drc := { c with sp := n % 4, spread := v.getLsbD 2, driftEn := v.getLsbD 3 } }
  | 0x004 => { d with drc := { c with trnDone := c.trnDone && !v.getLsbD 9, hot := c.hot && !v.getLsbD 11, overwritten := c.overwritten && !v.getLsbD 16 } }
  | 0x008 => { d with drc := { c with ranks2 := v.getLsbD 0, density := bitsOf n 1 3, capacity := usableMiB (bitsOf n 1 3) (v.getLsbD 0) } }
  | 0x010 => { d with drc := { c with ageMax := n % 65536 } }
  | 0x014 => { d with drc := { c with idleClose := n % 256 } }
  | 0x018 => { d with drc := { c with dqsosc := n % 1024, driftMax := bitsOf n 16 5 } }
  | 0x01C => { d with drc := { c with hold := n % 65536 } }
  | 0x020 => { d with drc := { c with win := n % 16 } }
  | 0x200 => trnGo v d
  | 0x208 => { d with drc := { c with pattern := n % 65536 } }
  | 0x20C => { d with drc := { c with dlySel := n % 8192 } }
  | 0x210 => dlyWrite v d
  | 0x214 => { d with drc := { c with vref := tput 0 c.vref c.selRank (v &&& 0x7F7F7F) } }
  | _ => d

/-- 16 R428: MODE is to become `m` at the next boundary. -/
def Dev.setMode (d : Dev) (m : Nat) : Dev := { d with pair := { d.pair with modeNext := if m = d.pair.mode then none else some m } }

/-- 16 Table 16.8: a write of a PAIR register. -/
def pairWrite (o : Nat) (v : W32) (d : Dev) : Dev :=
  let n := v.toNat
  match o with
  | 0x000 => Dev.setMode { d with pair := { d.pair with autoSplice := v.getLsbD 2, hbEn := v.getLsbD 3 } } (if n % 4 = 3 then 0 else n % 4)
  | 0x008 => { d with pair := { d.pair with filter := n % 4096 } }
  | 0x00C => { d with pair := { d.pair with mmHold := n % 65536 } }
  | 0x028 => { d with pair := { d.pair with timeLimit := n } }
  | _ => d

/-- SWEEP_NOW (17 R446): a sweep of the Sloe rings begins, unless one runs. -/
def sweepBegin (d : Dev) : Dev := if d.hlt.sweepBusy then d else { d with hlt := { d.hlt with sweepBusy := true, ring := 0 } }

/-- 17 Table 17.8: a write of an HLT register. -/
def hltWrite (o : Nat) (v : W32) (d : Dev) : Dev :=
  let n := v.toNat
  match o with
  | 0x000 =>
    let d := { d with hlt := { d.hlt with auto := v.getLsbD 0, prove := v.getLsbD 1 } }
    if v.getLsbD 2 then sweepBegin d else d
  | 0x00C => { d with hlt := { d.hlt with arbMask := v } }
  | 0x010 => { d with hlt := { d.hlt with period := n } }
  | 0x014 => { d with hlt := { d.hlt with guard := n % 65536, marginWarn := n / 65536 } }
  | _ => d

/-- 18 Table 18.14: a write of a PWR register. -/
def pwrWrite (o : Nat) (v : W32) (d : Dev) : Dev :=
  let n := v.toNat
  match o with
  | 0x000 => { d with pwr := { d.pwr with idleEn := v.getLsbD 0, dozeEn := v.getLsbD 1, wakeNEn := v.getLsbD 2, hostWakeEn := v.getLsbD 3 } }
  | 0x00C => { d with pwr := { d.pwr with idleMs := n } }
  | 0x010 => { d with pwr := { d.pwr with dozeS := n } }
  | 0x014 => { d with pwr := { d.pwr with wakeFilt := n % 4096 } }
  | 0x030 => { d with pwr := { d.pwr with lost := d.pwr.lost &&& ~~~v } }
  | _ => d

/-- 14 R382, 00 R11: firmware's write of the block register at an internal address. -/
def blkWrite (a : Nat) (v : W32) (d : Dev) : Dev :=
  let o := a % 0x100000
  let n := v.toNat
  match a / 0x100000 with
  | 0x400 => if o < 0x80000 then portWrite (o / 0x8000) (o % 0x8000) v d
    else if o = 0x80000 then { d with net := { d.net with wakePort := n % 32, linkWake := v.getLsbD 5 } } else d
  | 0x403 => timWrite o v d
  | 0x404 => fltWrite o v d
  | 0x405 => if o = 0 then { d with trj := { d.trj with fold := v.getLsbD 0 } }
    else if o = 4 then { d with trj := { d.trj with missed := d.trj.missed && !v.getLsbD 1 } } else d
  | 0x406 =>
    if o = 0 then
      let d := { d with sch := { d.sch with affWait := n % 65536, traceMode := bitsOf n 16 2 } }
      if v.getLsbD 18 then traceClear d else d
    else d
  | 0x407 => lawRegWrite (o / 0x20000) (o % 0x20000) v d
  | 0x408 => if o = 0 then { d with rnd := { d.rnd with check := v.getLsbD 0, scrub := v.getLsbD 1 } }
    else if o = 4 then { d with rnd := { d.rnd with missed := d.rnd.missed && !v.getLsbD 1 } } else d
  | 0x409 => if o = 0 then Dev.t2Check { d with cnv := { d.cnv with t2En := v.getLsbD 0, t2Base := n / 65536 } } else d
  | 0x40A => outWrite o v d
  | 0x40B => scbWrite o v d
  | 0x40C => drcWrite o v d
  | 0x40D => pairWrite o v d
  | 0x40E => hltWrite o v d
  | 0x40F => pwrWrite o v d
  | _ => d

end Sys2Proof.Machine
end

