-- ==== Sys2Proof/Machine/Reset.lean ====
section
/-! DEFINITION. What each kind of reset keeps (18 Table 18.10), and the start of a boot (18 R469 to R471). -/

namespace Sys2Proof.Machine

/-! ## Generations and slots (19 R479, 18 R469) -/

/-- 19 R479: the successor of a generation. -/
def genNext (g : Nat) : Nat := if g = 0xFFFFFFFE then 1 else g + 1
/-- 19 R479: of two present generations, `b` is the newer. -/
def genNewer (a b : Nat) : Bool := if b = genNext a then true else if a = genNext b then false else decide (a < b)

/-- 19 R478: boot slot 0 (A) or 1 (B). -/
def Store.slot (s : Store) (k : Nat) : FwSlot := if k = 0 then s.slotA else s.slotB
/-- Writes a boot slot. -/
def Store.setSlot (s : Store) (k : Nat) (x : FwSlot) : Store := if k = 0 then { s with slotA := x } else { s with slotB := x }
/-- 19 R479: committed slots, the newer first. -/
def Store.bootSlots (s : Store) : List Nat :=
  let l := [0, 1].filter (fun k => (s.slot k).valid)
  if s.slotA.valid && s.slotB.valid && genNewer s.slotA.gen s.slotB.gen then l.reverse else l

/-- 18 Table 18.13: the boot mode that acts. -/
def Dev.bootMode (d : Dev) : Nat := if d.pwr.bootMode = 3 ∧ Config.debugLocked then 0 else d.pwr.bootMode

/-- 18 R469 to R471: ROM looks for an image: the slots in order, or the host's, or none under test through JTAG. -/
def Dev.bootLoad (d : Dev) : Dev :=
  let l := if d.bootMode = 1 then d.store.bootSlots.reverse else d.store.bootSlots
  if d.bootMode = 3 then d.setBoot .rom
  else if d.bootMode = 2 then Dev.setBoot { d with boot := { d.boot with tryList := [] } } .loading
  else if l.length = 0 then d.setBoot .failed
  else Dev.setBoot { d with boot := { d.boot with tryList := l } } .loading

/-! ## What a reset leaves (18 Table 18.10) -/

/-- 18 Table 18.11: the store after a reset: what the flash holds. -/
def Store.afterReset (s : Store) : Store :=
  { s with compacting := none, upd := none, blobW := [], ops := [], appends := [], errs := [], drive := [] }

/-- 18 Table 18.10: what power-on leaves: every field at its reset value, but for the flash, the fuses and the pins. -/
def Dev.fresh (d : Dev) : Dev := {
  tim := { refIn := d.tim.refIn }, hst := { msi := d.hst.msi }, drc := { gen := d.free + 1 }, pwr := { held := d.pwr.held }
  boot := { minSec := d.boot.minSec }, store := d.store.afterReset, free := d.free + 1, mboxClear := true }

/-- 10 R277: a port's counters. -/
def Port.counters (p : Port) : Port := { ctr := p.ctr, shd := p.shd }
/-- 11 R311: a receive stream's counters. -/
def RxStr.counters (x : RxStr) : RxStr := { ctr := x.ctr, shd := x.shd }
/-- 11 R311: a transmit stream's counters. -/
def TxStr.counters (x : TxStr) : TxStr := { ctr := x.ctr, shd := x.shd }
/-- 11 R311: a cluster's counters. -/
def Tdm.counters (x : Tdm) : Tdm := { ctr := x.ctr, shd := x.shd }
/-- 11 R311: a MADI port's counters. -/
def Madi.counters (x : Madi) : Madi := { ctr := x.ctr, shd := x.shd }
/-- 12 Table 12.3: FAULTY, which only power-on clears. -/
def SBank.flaw (b : SBank) : SBank := { faulty := b.faulty }

/-- A table mapped by `f`, its default entries left out. -/
def tmap {α : Type} [DecidableEq α] (z : α) (f : α → α) (t : Tbl α) : Tbl α :=
  (t.map (fun (x : Nat × α) => (x.1, f x.2))).filter (fun (x : Nat × α) => x.2 != z)

/-- 18 Table 18.10, R473: the Cleat after a chip or warm reset with cause `cause`. -/
def Pwr.afterReset (p : Pwr) (cause : Nat) : Pwr :=
  { p with st := .active, cause := cause, hostRec := [], latchOpen := false, first := none, entryDue := none, timerOut := false }

/-- What chip and warm reset keep alike: link counters, FAULTY, the Cleat. -/
def Dev.resetKept (d : Dev) (cause : Nat) : Dev :=
  { d.fresh with
    net := { port := tmap {} Port.counters d.net.port }
    str := { rx := tmap {} RxStr.counters d.str.rx, tx := tmap {} TxStr.counters d.str.tx }
    sap := { tc := tmap {} Tdm.counters d.sap.tc, madi := tmap {} Madi.counters d.sap.madi }
    scb := { bank := tmap {} SBank.flaw d.scb.bank }
    pwr := d.pwr.afterReset cause }

/-- 18 R465: a power-on reset. -/
def powerOnReset (d : Dev) : Dev := d.fresh

/-- 18 R465: a chip reset; BOOT reads RESET until it ends. -/
def chipReset (cause : Nat) (d : Dev) : Dev := d.resetKept cause

/-- 18 Table 18.10: an upload under way is INCOMPLETE. -/
def Bank.cut (b : Bank) : Bank := { b with st := if b.st == .loading then .incomplete else b.st, committing := none, warm := 0 }

/-- 18 Table 18.10: an output's banks, selection and tables as a warm reset keeps them. -/
def CnvOut.cut (o : CnvOut) : CnvOut :=
  let a := o.a.cut
  let b := o.b.cut
  let sel := match o.queued with
    | some q => if (if q.bank = 1 then b else a).st == .incomplete then o.sel else q.bank
    | none => o.sel
  { sel := sel, a := a, b := b }

/-- 18 Table 18.10: time across a warm reset; a lock is lost with the servo's settings. -/
def Tim.afterWarm (t : Tim) (k : Nat) : Tim :=
  let lost := t.quality == .locked
  { now := t.now, tick := k, inc := t.inc, refIn := t.refIn
    quality := if lost then .holdover else t.quality
    qualSet := if lost then 1 else t.qualSet
    uBase := if lost then some 1000 else t.uBase
    uSince := if lost then t.now else t.uSince }

/-- 18 R465: a warm reset: DRC first stops into self-refresh; the slot last booted is loaded again. A device held in reset stays so. -/
def warmReset (cause : Nat) (d : Dev) : Dev :=
  if d.boot.st == .reset then d
  else
    let d := d.drcDrain
    let again := (d.boot.st == .init || d.boot.st == .ready) && d.boot.slot != 255
    let f := d.resetKept cause
    let f : Dev := { f with
      tim := d.tim.afterWarm (tickOf f.rate d.now16)
      cnv := { t2En := d.cnv.t2En, t2Base := d.cnv.t2Base, preeq := d.cnv.preeq, out := tmap {} CnvOut.cut d.cnv.out }
      drc := { gen := d.drc.gen, mem := d.drc.mem }
      hlt := { log := d.hlt.log, logWr := d.hlt.logWr, wrapped := d.hlt.wrapped }
      hst := { hspi := d.hst.hspi, pcieGen := d.hst.pcieGen, pcieWidth := d.hst.pcieWidth, msi := d.hst.msi, msiEn := d.hst.msiEn
               busMaster := d.hst.busMaster } }
    if again then Dev.setBoot { f with boot := { f.boot with slot := d.boot.slot, tryList := [d.boot.slot] } } .loading
    else f.bootLoad

/-- 14 R365, 15 R395: the reset that DEVICE_RESET asked for begins once its response has been written. -/
def Dev.dueReset (d : Dev) : Dev :=
  match d.hst.resetDue with
  | none => d
  | some k => if d.hst.rspQ.any (fun r => r.op == 0x0130) then d else if k = 1 then chipReset 3 d else warmReset 5 d

end Sys2Proof.Machine
end

