-- ==== Sys2Proof/Machine/Store.lean ====
section
/-! DEFINITION. The configuration store (19): the journal and its compaction, blobs, firmware update, and the commands 0x11xx. -/

namespace Sys2Proof.Machine

/-! ## The journal (R480 to R484) -/

/-- R481: bytes a record takes in its half. -/
def recSize (len : Nat) : Nat := 24 + (len + 7) / 8 * 8
/-- Table 19.6: bytes used in a half, its header and records. -/
def JHalf.used (h : JHalf) : Nat := 64 + (h.recs.map (fun (r : JRec) => recSize r.payload.length)).sum
/-- R480: the active half. -/
def Store.active (s : Store) : JHalf := if s.half then s.h1 else s.h0
/-- The inactive half. -/
def Store.other (s : Store) : JHalf := if s.half then s.h0 else s.h1
/-- Writes the active half. -/
def Store.setActive (s : Store) (h : JHalf) : Store := if s.half then { s with h1 := h } else { s with h0 := h }
/-- Writes the inactive half. -/
def Store.setOther (s : Store) (h : JHalf) : Store := if s.half then { s with h0 := h } else { s with h1 := h }

/-- R482: the records that a replay applies, in order. -/
def JHalf.applied (h : JHalf) : List JRec := h.recs.filter (fun r => r.done)

/-- R484: of the records from `r` on, the latest of each key of kinds 1 and 2. -/
def keepLast : List JRec → List JRec
  | [] => []
  | r :: rs => if r.kind != 3 && rs.any (fun q => q.kind == r.kind && q.key == r.key) then keepLast rs else r :: keepLast rs

/-- R484: what a compaction carries over. -/
def JHalf.kept (h : JHalf) : List JRec :=
  let l := keepLast h.applied
  let n := (l.filter (fun r => r.kind == 3)).length
  let f := fun (a : List JRec × Nat) (r : JRec) => if r.kind == 3 && a.2 != 0 then (a.1, a.2 - 1) else (a.1 ++ [r], a.2)
  (l.foldl f ([], n - 256)).1

/-- R490: EV_STORE_ERROR. -/
def Dev.storeError (d : Dev) (op addr : Nat) : Dev := d.raise 0x9101 0 (le 1 op ++ zb 3 ++ le 4 addr)

/-- Table 19.1: where the active half's next record goes. -/
def Store.nextAddr (s : Store) : Nat := 0x300000 + b01 s.half * 0x80000 + s.active.used

/-- R484: a compaction is asked for; firmware runs one at a time. -/
def Dev.compactAsk (d : Dev) (cmd : Bool) : Dev :=
  { d with store := { d.store with
      compacting := some (d.store.compacting.getD 1), ops := d.store.ops ++ [.compact cmd] } }

/-- R484: a compaction runs or waits. -/
def Store.compacts (s : Store) : Bool := s.ops.any (fun o => match o with
  | .compact _ => true
  | _ => false)

/-- R484: the append of a record of `n` payload bytes leaves the half more than three quarters full. -/
def Store.brim (s : Store) (n : Nat) : Bool := decide (393216 < s.active.used + recSize n)

/-- JOURNAL_APPEND (R481, R484, R489): the oldest append is programmed and committed, or fails twice; an append that arrives during the
steps 3 and 4 of a compaction waits. -/
def journalAppend (good : Bool) (d : Dev) : Dev :=
  match d.store.appends with
  | [] => d
  | (kind, key, p) :: rest =>
    if d.store.compacting = some 3 ∨ d.store.compacting = some 4 then d
    else
      let d := if d.store.brim p.length && !d.store.compacts then d.compactAsk false else d
      let a := d.store.nextAddr
      let h := d.store.active
      let h : JHalf := { h with recs := h.recs ++ [{ kind := kind, key := key, payload := p, done := good }] }
      let s := d.store.setActive h
      if good then { d with store := { s with appends := rest } }
      else
        let d := Dev.storeError { d with store := s } 0 a
        if d.store.compacts then d else d.compactAsk false

/-- R489: the flash operation in progress ends. -/
def Dev.opDone (d : Dev) : Dev := { d with store := { d.store with ops := d.store.ops.drop 1 } }

/-- R484: the compaction in progress ends; another that waits begins. -/
def Dev.compactEnd (d : Dev) (st gen : Nat) : Dev :=
  match d.store.ops with
  | .compact cmd :: _ =>
    let d := d.opDone
    let d := { d with store := { d.store with compacting := if d.store.compacts then some 1 else none } }
    if cmd then d.finish 0x1104 0 st (if st = 0 then le 4 gen else []) else d
  | _ => d

/-- COMPACTION (Table 19.4A): the step named ends. -/
def compaction (step : Nat) (d : Dev) : Dev :=
  let s := d.store
  match s.ops with
  | .compact _ :: _ =>
    if s.compacting ≠ some step then d
    else
      let go := fun (s : Store) => { d with store := { s with compacting := some (step + 1) } }
      match step with
      | 1 => go (s.setOther {})
      | 2 => go (s.setOther { recs := s.active.kept })
      | 3 => go (s.setOther { s.other with gen := genNext s.active.gen })
      | 4 => go { (s.setOther { s.other with valid := true }) with half := !s.half }
      | _ =>
        let d : Dev := { d with store := s.setOther {} }
        let h := d.store.active
        (d.raise 0x9100 0 (le 4 h.gen ++ le 4 h.used)).compactEnd 0 h.gen
  | _ => d

/-! ## Blobs (R485, R486) -/

/-- R485: 64 KiB blocks a blob takes. -/
def blobBlocks (total : Nat) : Nat := ceilDiv (total + 64) 65536
/-- Table 19.1: blocks of the blob area. -/
def Store.area (s : Store) : Nat := (s.mib - 4) * 16
/-- R485: first block and number of blocks of every blob, written or being written, but for an open write of `id`. -/
def Store.taken (s : Store) (id : Nat) : List (Nat × Nat) :=
  s.blob.filterMap (fun (x : Nat × Option Blob) => x.2.map (fun b => (b.block, blobBlocks b.total)))
  ++ s.blobW.filterMap (fun (x : Nat × Option BlobW) => if x.1 = id then none else x.2.map (fun b => (b.block, blobBlocks b.total)))
/-- R486: `n` blocks from `k` on are free. -/
def freeAt (l : List (Nat × Nat)) (area k n : Nat) : Bool := decide (k + n ≤ area) && l.all (fun x => !overlaps k n x.1 x.2)
/-- R486: the first place for `n` blocks: a free run begins at block 0 or where another blob ends. -/
def Store.place (s : Store) (id n : Nat) : Option Nat :=
  let l := s.taken id
  minN ((0 :: l.map (fun x => x.1 + x.2)).filter (fun k => freeAt l s.area k n))
/-- Table 19.6: free blocks. -/
def Store.freeBlocks (s : Store) : Nat := s.area - ((s.taken 256).map (fun (x : Nat × Nat) => x.2)).sum

/-- 20 R500: an output group has a drive code to override. -/
def driveEnt (t : Tbl (Option Nat)) (e : Bytes) : Tbl (Option Nat) :=
  let c := u8 e 1
  if 6 < u8 e 0 ∨ rsv e 2 2 then t else if c = 255 then tdel t (u8 e 0) else if 3 < c then t else tput none t (u8 e 0) (some c)
/-- 20 R500: the drive codes a blob of ID 255 sets. -/
def driveOf (b : Bytes) : Tbl (Option Nat) :=
  if b.length < 8 ∨ u32 b 0 ≠ 0x50414401 then [] else (chunks 4 (min (u32 b 4) ((b.length - 8) / 4)) (b.drop 8)).foldl driveEnt []
/-- 20 R500: firmware applies the blob of ID 255. -/
def Dev.applyDrive (d : Dev) : Dev :=
  { d with store := { d.store with drive := match tget none d.store.blob 255 with
      | some b => driveOf b.data
      | none => [] } }

/-- R486 step 3: the open write of `id` becomes the committed copy, and the old copy is erased. -/
def Dev.blobCommit (d : Dev) (id : Nat) (w : BlobW) : Dev :=
  let gen := match tget none d.store.blob id with
    | some b => genNext b.gen
    | none => 1
  let b : Blob := { gen := gen, total := w.total, crc := crc32 w.data, block := w.block, data := w.data }
  let d := { d with store := { d.store with blob := tput none d.store.blob id (some b), blobW := tdel d.store.blobW id } }
  if id = 255 then d.applyDrive else d

/-- R486, R488: the bytes of an open write after `x` at offset `o`: bytes that follow what is written, or a repeat of bytes written. -/
def writeAt (w : Bytes) (total o : Nat) (x : Bytes) : Option Bytes :=
  if o = w.length ∧ o + x.length ≤ total then some (w ++ x)
  else if o + x.length ≤ w.length ∧ (w.drop o).take x.length = x then some w
  else none

/-- R486: STORE_BLOB_WRITE past its length and range checks. -/
def blobWrite (p : Bytes) (d : Dev) : Rep :=
  let id := u8 p 0
  let first := u8 p 1 % 2 = 1
  let last := u8 p 1 / 2 % 2 = 1
  let o := u32 p 8
  let go := fun (w : BlobW) =>
    match writeAt w.data w.total o (p.drop 20) with
    | none => no 0x102 d
    | some x =>
      let w' : BlobW := { w with data := x }
      if !last then ok { d with store := { d.store with blobW := tput none d.store.blobW id (some w') } }
      else if o + u32 p 12 ≠ w.total then no 0x10C d
      else if crc32 x ≠ u32 p 16 then no 0x102 { d with store := { d.store with blobW := tdel d.store.blobW id } }
      else ok (d.blobCommit id w')
  if first then
    if o ≠ 0 ∨ u32 p 4 < u32 p 12 then no 0x102 d
    else if last ∧ u32 p 12 ≠ u32 p 4 then no 0x10C d
    else match d.store.place id (blobBlocks (u32 p 4)) with
      | none => no 0x106 d
      | some k => go { total := u32 p 4, block := k, data := [] }
  else match tget none d.store.blobW id with
    | none => no 0x103 d
    | some w => go w

/-- 0x1102 STORE_BLOB_WRITE. -/
def cmdStoreBlobWrite : Cmd := cmdL 0x1102 fun _ p d =>
  let fl := u8 p 1
  let n := u32 p 12
  let del := decide (fl / 4 % 2 = 1)
  if p.length < 20 ∨ p.length ≠ 20 + n then no 0x101 d
  else if 7 < fl ∨ rsv p 2 2 ∨ (del ∧ (n ≠ 0 ∨ fl ≠ 4)) ∨ (¬ del ∧ n = 0 ∧ fl / 2 % 2 = 0)
      ∨ (fl % 2 = 1 ∧ (u32 p 4 = 0 ∨ 8388608 < u32 p 4)) then no 0x102 d
  else if del then ok { d with store := { d.store with blob := tdel d.store.blob (u8 p 0) } }
  else blobWrite p d

/-- 0x1103 STORE_BLOB_READ. -/
def cmdStoreBlobRead : Cmd := cmdL 0x1103 fun _ p d =>
  if p.length ≠ 12 then no 0x101 d
  else match tget none d.store.blob (u8 p 0) with
    | none => no 0x102 d
    | some b =>
      if rsv p 1 3 ∨ u32 p 8 = 0 ∨ b.total < u32 p 4 + u32 p 8 then no 0x102 d
      else okData (le 4 b.total ++ le 4 b.crc ++ (b.data.drop (u32 p 4)).take (u32 p 8)) d

/-! ## Firmware update (R487, R488) -/

/-- R488: the slot an update writes. -/
def Dev.inactiveSlot (d : Dev) : Nat :=
  match d.boot.slot with
  | 0 => 1
  | 1 => 0
  | _ => match d.store.bootSlots with
    | [k] => 1 - k
    | [_, k] => k
    | _ => 0

/-- Table 19.4: MAGIC, both CRCs and BODY_LEN of an image. -/
def imageGood (b : Bytes) : Bool :=
  let n := u32 b 20
  u32 b 0 == 0x1064F1A0 && crc32 (b.take 252) == u32 b 252 && decide (4 ≤ n) && decide (n ≤ 982780) && n % 4 == 0 && b.length == 256 + n
  && crc32 (b.drop 256) == u32 b 28

/-- 18 R471: the checks of a device whose SECURE_EN fuse is blown. -/
def Dev.imageAuth (d : Dev) (b : Bytes) : Bool := Config.imageSigned b && decide (d.boot.minSec ≤ u16 b 16)

/-- Table 19.5: the slot record of an image, not yet committed. -/
def slotOf (gen : Nat) (b : Bytes) : FwSlot :=
  { gen := gen, major := u8 b 8, minor := u8 b 9, build := u32 b 12, secver := u16 b 16, binding := u16 b 6 % 2 == 1, img := b }

/-- R479: the generation of the next slot record. -/
def Store.slotGen (s : Store) : Nat :=
  match s.bootSlots with
  | k :: _ => genNext (s.slot k).gen
  | [] => 1

/-- A begin or a commit of an update runs. -/
def Store.runs (s : Store) (commit : Bool) : Bool := s.ops.any (fun o => match o with
  | .fwBegin _ => !commit
  | .fwCommit _ => commit
  | .compact _ => false)

/-- 0x1110 FW_UPDATE_BEGIN. -/
def cmdFwUpdateBegin : Cmd := cmdL 0x1110 fun _ p d =>
  let n := u32 p 0
  let k := d.inactiveSlot
  checks [(p.length != 8, 0x101), (decide (n < 260) || decide (983036 < n) || rsv p 4 4, 0x102), (d.store.runs false, 0x104)] d
    (later (0x1110, 0) [] { d with store := { (d.store.setSlot k {}) with upd := some (k, n, []), ops := d.store.ops ++ [.fwBegin k] } })

/-- 0x1111 FW_UPDATE_WRITE. -/
def cmdFwUpdateWrite : Cmd := cmdL 0x1111 fun _ p d =>
  let n := u32 p 4
  if p.length < 8 ∨ p.length ≠ 8 + n then no 0x101 d
  else if n = 0 then no 0x102 d
  else match d.store.upd with
    | none => no 0x103 d
    | some (k, len, w) => match writeAt w len (u32 p 0) (p.drop 8) with
      | none => no 0x102 d
      | some x => ok { d with store := { d.store with upd := some (k, len, x) } }

/-- 0x1112 FW_UPDATE_COMMIT. -/
def cmdFwUpdateCommit : Cmd := cmdL 0x1112 fun _ p d =>
  let shut := { d with store := { d.store with upd := none } }
  if p.length ≠ 0 then no 0x101 d
  else match d.store.upd with
    | none => no 0x103 d
    | some (k, len, w) =>
      if d.store.runs true then no 0x104 d
      else if w.length < len then no 0x10C d
      else if !imageGood w then no 0x102 shut
      else if Config.secureEn && !d.imageAuth w then no 0x10A shut
      else
        let s := d.store.setSlot k (slotOf d.store.slotGen w)
        later (0x1112, 0) [] { d with store := { s with ops := s.ops ++ [.fwCommit k] } }

/-- FLASH_OP_DONE (R489): the operation in progress ends, or has failed twice; a failure of no waiting operation is reported alone. -/
def flashDone (good erase : Bool) (addr : Nat) (d : Dev) : Dev :=
  let d := if good then d else d.storeError (b01 erase) addr
  let st := if good then 0 else 0x106
  match d.store.ops with
  | .fwBegin k :: _ =>
    let d := { d.opDone with store := d.opDone.store.setSlot k {} }
    d.finish 0x1110 0 st (if good then le 1 k ++ zb 3 else [])
  | .fwCommit k :: _ =>
    let d := d.opDone
    let x := d.store.slot k
    let d : Dev := { d with store := { d.store with upd := if d.store.runs false then d.store.upd else none } }
    if good then
      let d : Dev := { d with store := d.store.setSlot k { x with valid := true } }
      let d := d.raise 0x9102 k (le 1 k ++ zb 3 ++ le 4 x.gen ++ le 4 x.build ++ le 2 x.secver ++ zb 2)
      d.finish 0x1112 0 0 (le 1 k ++ zb 3 ++ le 4 x.gen)
    else d.finish 0x1112 0 st []
  | .compact _ :: _ => if good then d else d.compactEnd st 0
  | [] => d

/-! ## What firmware does with the store at boot (R477, R480, R482) -/

/-- R480: the halves at boot; true when neither was valid. -/
def Store.mount (s : Store) : Store × Bool :=
  if s.h0.valid && s.h1.valid then
    (if genNewer s.h0.gen s.h1.gen then { s with h0 := {}, half := true } else { s with h1 := {}, half := false }, false)
  else if s.h0.valid then ({ s with h1 := {}, half := false }, false)
  else if s.h1.valid then ({ s with h0 := {}, half := true }, false)
  else ({ s with h0 := { gen := 1, valid := true }, h1 := {}, half := false }, true)

/-- Table 19.3: a fault-log entry of the journal, with HISTORIC set. -/
def logEntOf (b : Bytes) : LogEnt :=
  { tick := u64 b 0, channel := u16 b 8, kind := u8 b 10, code := u8 b 11, cause := u8 b 12, level := u8 b 13, historic := true
    source := u16 b 16, detail := u32 b 20 }

/-- Table 19.3: the delays of a record of kind 1. -/
def goodDelays (b : Bytes) : List (Nat × Nat) := (chunks 4 (u16 b 0) (b.drop 2)).map (fun e => (u16 e 0, u16 e 2))
/-- Table 19.3: the Vref codes of a record of kind 1. -/
def goodVrefs (b : Bytes) : List (Nat × Nat) :=
  let r := b.drop (2 + 4 * u16 b 0)
  (chunks 6 (r.length / 6) r).map (fun e => (u16 e 0, u32 e 2))

/-- Table 19.3: firmware uses a record it replays. -/
def replayRec (d : Dev) (r : JRec) : Dev :=
  let b := r.payload
  match r.kind with
  | 1 => { d with drc := { d.drc with
      good := (goodDelays b).foldl (fun t x => tput 0 t x.1 x.2) (d.drc.good.filter (fun (x : Nat × Nat) => x.1 % 4 != r.key))
      goodVref := (goodVrefs b).foldl (fun t x => tput 0 t x.1 (BitVec.ofNat 32 x.2)) (d.drc.goodVref.filter (fun (x : Nat × W32) => x.1 % 4 != r.key)) } }
  | 2 => { d with hlt := { d.hlt with isl := tput {} d.hlt.isl r.key { d.isl r.key with mhz := u16 b 0, trim := u8 b 2, floorLost := u8 b 3 % 2 == 1 } } }
  | 3 => d.log (logEntOf b)
  | _ => d

/-- R480, R482: firmware mounts the journal and replays it. -/
def Dev.storeBoot (d : Dev) : Dev :=
  let m := d.store.mount
  let d : Dev := { d with store := { m.1 with errs := (if m.2 then [2] else []) ++ (if m.1.cal then [] else [3]) } }
  d.store.active.applied.foldl replayRec d

/-- R477, R480: the errors found at boot are reported at READY. -/
def Dev.storeReady (d : Dev) : Dev :=
  let d := d.store.errs.foldl (fun (d : Dev) e => d.storeError e 0) d
  Dev.applyDrive { d with store := { d.store with errs := [] } }

/-! ## Commands -/

/-- Table 19.6: a slot's entry in STORE_STATUS_GET. -/
def FwSlot.entry (x : FwSlot) : Bytes :=
  if x.valid then le 4 x.gen ++ le 4 x.build ++ le 1 x.major ++ le 1 x.minor ++ le 2 x.secver else zb 12

/-- 0x1100 STORE_STATUS_GET. -/
def cmdStoreStatusGet : Cmd := cmdL 0x1100 fun _ p d =>
  let s := d.store
  checks [(p.length != 0, 0x101)] d (okData (le 2 s.mib ++ le 1 (b01 s.octal) ++ le 1 (b01 s.half) ++ le 4 s.active.gen ++ le 4 s.active.used
    ++ le 4 (64 * s.freeBlocks) ++ le 2 s.blob.length ++ le 2 (b01 s.compacting.isSome + 2 * b01 s.upd.isSome + 4 * b01 s.cal)
    ++ s.slotA.entry ++ s.slotB.entry ++ le 1 d.boot.slot ++ zb 3) d)

/-- 0x1104 STORE_COMPACT. -/
def cmdStoreCompact : Cmd := cmdL 0x1104 fun _ p d =>
  checks [(p.length != 0, 0x101), (d.store.ops.contains (.compact true), 0x104)] d (later (0x1104, 0) [] (d.compactAsk true))

/-! ## Meanings -/

/-- JOURNAL_APPEND. -/
def execJournalAppend (good : Bool) (s : State) : Host.Outcome State Fault Refusal := run true (journalAppend good) s
/-- COMPACTION. -/
def execCompaction (step : Nat) (s : State) : Host.Outcome State Fault Refusal := run (decide (1 ≤ step) && decide (step ≤ 5)) (compaction step) s
/-- FLASH_OP_DONE. -/
def execFlashOpDone (good erase : Bool) (addr : Nat) (s : State) : Host.Outcome State Fault Refusal := run true (flashDone good erase addr) s
/-- STORE_STATUS_GET. -/
def execStoreStatusGet (r : AcpReq) (s : State) : Host.Outcome State Fault Refusal := run true (acpTake cmdStoreStatusGet r) s
/-- STORE_BLOB_WRITE. -/
def execStoreBlobWrite (r : AcpReq) (s : State) : Host.Outcome State Fault Refusal := run true (acpTake cmdStoreBlobWrite r) s
/-- STORE_BLOB_READ. -/
def execStoreBlobRead (r : AcpReq) (s : State) : Host.Outcome State Fault Refusal := run true (acpTake cmdStoreBlobRead r) s
/-- STORE_COMPACT. -/
def execStoreCompact (r : AcpReq) (s : State) : Host.Outcome State Fault Refusal := run true (acpTake cmdStoreCompact r) s
/-- FW_UPDATE_BEGIN. -/
def execFwUpdateBegin (r : AcpReq) (s : State) : Host.Outcome State Fault Refusal := run true (acpTake cmdFwUpdateBegin r) s
/-- FW_UPDATE_WRITE. -/
def execFwUpdateWrite (r : AcpReq) (s : State) : Host.Outcome State Fault Refusal := run true (acpTake cmdFwUpdateWrite r) s
/-- FW_UPDATE_COMMIT. -/
def execFwUpdateCommit (r : AcpReq) (s : State) : Host.Outcome State Fault Refusal := run true (acpTake cmdFwUpdateCommit r) s

end Sys2Proof.Machine
end

