-- ==== Sys2Proof/Machine/Wake.lean ====
section
/-! DEFINITION. The Cleat: DOZE and HIBERNATE entry, the wake latch, the wake record and the restart of time (18.2 to 18.4, 02 R64, R65). -/

namespace Sys2Proof.Machine

/-! ## The real-time counter (18 Table 18.14) -/

/-- The real-time count that an event carries, 48 bits. -/
def Dev.setRtc (d : Dev) (count : Nat) : Dev := { d with pwr := { d.pwr with rtc := count % 2 ^ 48 } }
/-- The real-time count now: as many counts have passed since the last one seen as a free value says. -/
def Dev.rtcTick (d : Dev) : Dev :=
  let n := if d.pwr.rtcRun then Config.rtcAdvance d.free else 0
  Dev.setRtc { d with free := d.free + 1 } (d.pwr.rtc + n)

/-! ## Entry (R454, R455) -/

/-- The host interface is answered by the Cleat (R456): from the start of entry until POWER leaves 3. -/
def Dev.asleep (d : Dev) : Bool := !d.validates

/-- R276: a port that is powered down at DOZE entry. -/
def portDown (p : Nat) (d : Dev) : Dev :=
  let x := d.port p
  if p = d.net.wakePort ∨ ¬ x.link then d
  else
    let d := d.setPort p { x with
      link := false, signal := false, anDone := false, preSt := 0, sending := none, linkChg := true, wasUp := false, downAt := some d.tim.now }
    (d.netCount p 39 1).raise 0x8300 p (le 1 0 ++ le 1 x.mode ++ zb 2)

/-- R455: the steps before the commit point: DRC stops into self-refresh, the background test stops, ports are powered down, and
MCLK, PPS_OUT and TRIG_OUT are driven low; the wake latch opens (R458). -/
def Dev.beginEntry (d : Dev) (hib : Bool) : Dev :=
  let d := d.drcDrain
  let d := if d.drc.cond == .inService then d.drcCond .off else d
  let d := forRun portDown (rangeFrom 0 16) d
  let d := forRun pulseEnd (d.tim.toutPulse.map Prod.fst) d
  let d : Dev := { d with
    scb := { d.scb with tActive := false, tPhase := 0 }
    tim := { d.tim with ppsOut := false }
    pwr := { d.pwr with latch := [], latchN := 0, latchOpen := true, first := none, dropped := 0, entryDue := none, timerOut := false } }
  d.setPower (.entering hib)

/-- R454: the entry PWR_DOZE or PWR_HIBERNATE asked for begins once its response has been written, unless it is blocked by then. -/
def Dev.dueEntry (d : Dev) : Dev :=
  match d.pwr.entryDue with
  | none => d
  | some hib =>
    if d.hst.rspQ.any (fun r => r.op == (if hib then 0x1003 else 0x1002)) then d
    else
      let d : Dev := { d with pwr := { d.pwr with entryDue := none } }
      let b := d.pwrBlock none hib % 64
      if b = 0 then d.beginEntry hib else d.raise 0x9002 0 (le 4 b ++ le 1 (if hib then 2 else 1) ++ zb 3)

/-! ## The commit point (R455, R460, 02 R64) -/

/-- R460: the bank of a bit of Table 18.6 is retained. -/
def Dev.retained (d : Dev) (b : Nat) : Bool := if b < 16 then (d.bank b).owner != .none else decide (b < 31)
/-- R460: PWR_RETAIN_MASK of an entry. -/
def Dev.retainMask (d : Dev) : Nat := ((rangeFrom 0 31).map (fun b => fld (b01 (d.retained b)) b)).sum
/-- R460: the bytes of a scratch bank in ascending address. -/
def Dev.bankBytes (d : Dev) (b : Nat) : Bytes := (rangeFrom (65536 * b) 65536).flatMap (fun w => le 4 (d.scrWord w).toNat)
/-- R460: a retained bank's signature; the contents of banks 16 and 18 to 30 have no layout in this model. -/
def Dev.bankSig (d : Dev) (m : List Host.Cell) (b : Nat) : Nat :=
  if b < 16 then crc32 (d.bankBytes b) else if b = 17 then crc32 (Memory.read m 0 0x100000) else Config.retainSig b d.free % 2 ^ 32

/-- 02 R64: the nominal ρ. -/
def rhoNominal : Nat := 0x773594000000
/-- 02 R64: ten seconds have not passed since the last boot or wake. -/
def Dev.youngAt (d : Dev) (t : Nat) : Bool := decide (t * 2 ^ 24 < d.pwr.upAt + 10 ^ 10 * 2 ^ 40)

/-- 02 R72: the real-time count of an alarm: the first at which the inverse of R65 reaches its time. -/
def alarmCount (c0 t0 rho t : Nat) : Nat := (c0 + ceilDiv ((t - t0) * 2 ^ 16) rho) % 2 ^ 48

/-- 02 R72: a WAKE_ALARM slot is converted. -/
def alarmSlot (c0 t0 rho rate : Nat) (x : Nat × Slot) : Nat × Slot :=
  (x.1, if x.2.armed ∧ x.2.action = 7 then { x.2 with alarm := some (alarmCount c0 t0 rho (x.2.nextT rate)) } else x.2)

/-- DOZE_COMMIT_POINT (R455, R463): the Cleat records T0, C0, ρ and U0, converts the alarms, and the device sleeps. -/
def commitPoint (count rho entry : Nat) (d : Dev) (m : List Host.Cell) : Dev :=
  match d.pwr.st with
  | .entering hib =>
    let t0 := d.now16
    let c0 := count % 2 ^ 48
    let rho := if d.youngAt t0 then rhoNominal else if rho = 0 then rhoNominal else rho % 2 ^ 64
    let mask := if hib then 0 else d.retainMask
    let sig := if hib then [] else ((rangeFrom 0 31).filter d.retained).foldl (fun t b => tput 0 t b (d.bankSig m b)) ([] : Tbl Nat)
    let w : WakeRec := {
      version := 1, flags := 1 + 8 * b01 hib, t0 := timeValue d.nowNs d.nowFrac d.tim.quality.code, c0 := c0, rho := rho
      u0 := d.uNow.getD (2 ^ 64 - 1), mask := mask, sig := sig, count := (d.pwr.dozeCount + 1).toNat, entryUs := entry % 65536 }
    let d : Dev := { d with
      free := d.free + 1
      tim := { d.tim with slots := d.tim.slots.map (alarmSlot c0 t0 rho d.rate) }
      pwr := { d.pwr with
        rtc := c0, t0 := t0, wrec := w, mask := BitVec.ofNat 32 mask, sig := sig, dozeCount := d.pwr.dozeCount + 1
        seqEn := if hib then 0 else 11 } }
    d.setPower (if hib then .hibernate else .doze)
  | _ => d

/-! ## The latch and the wake (R457 to R459, R463) -/

/-- 02 R65: what a wake at count `c1` makes of time: 2^-16 ns, whether it is invalid, and U. -/
def Dev.wakeTime (d : Dev) (c1 : Nat) : Nat × Bool × Option Nat :=
  let w := d.pwr.wrec
  let q := u8 w.t0 10
  if w.flags / 4 % 2 = 1 ∨ q = 3 then (d.pwr.t0, true, none)
  else
    let x := (c1 + 2 ^ 48 - w.c0) % 2 ^ 48 * w.rho
    let ppm := if d.youngAt d.pwr.t0 then 100 else 20
    (d.pwr.t0 + rneN x 65536, false, if w.u0 = 2 ^ 64 - 1 then none else some (w.u0 + 30518 + ceilDiv (x * ppm) (2 ^ 32 * 10 ^ 6)))

/-- R462: a slot whose firing fell into the sleep. -/
def wakeSlot (m : Nat) (d : Dev) : Dev :=
  let x := d.slot m
  let t := d.now16
  if x.armed ∧ (x.action = 5 ∨ x.action = 6) ∧ x.nextT d.rate < t then
    let y : Slot := if x.period = 0 then { x with armed := false, skipped := true, firings := 0 }
      else { x with skipped := true, firings := ceilDiv (blockAt d.rate (t - x.time)) x.period }
    (d.setSlot m y).trigFailed m 0x107 0xFFFFFFFF
  else d

/-- R459, 02 R65: the time counter restarts. -/
def Dev.restart (d : Dev) (t : Nat × Bool × Option Nat) : Dev :=
  let k := d.tim.tick
  let q : Quality := if t.2.1 then .invalid else .coarse
  let d : Dev := { d with tim := { d.tim with now := t.1 * 2 ^ 24, uBase := t.2.2, uSince := t.1 * 2 ^ 24, lockRun := 0, lockEst := [] } }
  let d := d.setQuality q
  let d := Dev.rebase { d with tim := { d.tim with tick := tickOf d.rate d.now16 } } k
  forRun wakeSlot (d.tim.slots.map Prod.fst) { d with pwr := { d.pwr with upAt := d.tim.now } }

/-- R464: what the wake record holds of a wake by source `src`. -/
def Dev.wakeRecord (d : Dev) (src det c1 : Nat) : WakeRec :=
  let t := d.wakeTime c1
  { d.pwr.wrec with
    source := src, detail := det, c1 := c1, latched := d.pwr.latchN
    t1 := timeValue (t.1 / 65536) (t.1 % 65536) (if t.2.1 then 3 else 2), uncert := t.2.2.getD (2 ^ 64 - 1) }

/-- R455, R459, R463: the first enabled source: it abandons an entry before its commit point, wakes a device in DOZE, or boots one in
HIBERNATE. -/
def Dev.wake (d : Dev) (src det c1 : Nat) : Dev :=
  match d.pwr.st with
  | .entering _ =>
    let w : WakeRec := { version := 1, flags := 3, source := src, detail := det, c1 := c1, count := d.pwr.dozeCount.toNat, latched := d.pwr.latchN }
    Dev.setPower { d with pwr := { d.pwr with wrec := w, lastWake := (src, det) } } .waking
  | .doze =>
    let t := d.wakeTime c1
    let d : Dev := { d with pwr := { d.pwr with wrec := d.wakeRecord src det c1, lastWake := (src, det), seqEn := 15 } }
    (d.setPower .waking).restart t
  | .hibernate => chipReset 8 { d with pwr := { d.pwr with wrec := d.wakeRecord src det c1, lastWake := (src, det) } }
  | _ => d

/-- R457, R458: a wake source: it is latched while the latch is open, and the first enabled one acts. HIBERNATE accepts only WAKE_N and
WAKE_ALARM. -/
def latchSource (src det value count : Nat) (enabled : Bool) (d : Dev) : Dev :=
  let hib := d.pwr.st == .hibernate || d.pwr.st == .entering true
  if !d.pwr.latchOpen || (hib && src != 1 && src != 4) then d
  else
    let c := count % 2 ^ 48
    let p := d.pwr
    let e : Latch := { count := c, source := src, detail := det, value := value }
    let d : Dev := { d with pwr := { p with
      rtc := c, latch := if p.latch.length < 16 then p.latch ++ [e] else p.latch, latchN := p.latchN + 1
      first := if enabled && p.first.isNone then some (src, det, c) else p.first } }
    if enabled && p.first.isNone then d.wake src det c else d

/-- WAKE_N_ASSERT (R457). -/
def wakeN (count : Nat) (d : Dev) : Dev := latchSource 1 0 0 count d.pwr.wakeNEn d

/-- WAKE_ALARM_DUE (02 R72): an armed slot. -/
def alarmDue (slot count : Nat) (d : Dev) : Dev :=
  let x := d.slot slot
  if x.armed ∧ x.action = 7 then latchSource 4 slot 0 count true d else d

/-- HOST_DOZE_WRITE (R456): a write of HOST_CMD_TAIL (0), HOST_RSP_HEAD (1), HOST_EVT_HEAD (2) or HOST_RESET (3). -/
def hostDozeWrite (reg : Nat) (v : W32) (count : Nat) (d : Dev) : Dev := latchSource 5 reg v.toNat count d.pwr.hostWakeEn d

/-- MAILBOX_WRITE_DROPPED (R456). -/
def mailboxDropped (count : Nat) (d : Dev) : Dev :=
  if d.pwr.latchOpen ∧ d.pwr.st ≠ .hibernate then
    latchSource 6 0 0 count d.pwr.hostWakeEn { d with pwr := { d.pwr with dropped := d.pwr.dropped + 1 } }
  else d

/-- WAKE_PATTERN_MATCH (10 R276): a frame on the wake port of a device in DOZE. -/
def patternMatch (p : Nat) (f : Bytes) (count : Nat) (d : Dev) : Dev :=
  if d.pwr.st != .doze || p != d.net.wakePort || !d.canSend p then d
  else match d.wakeFilter p f with
    | none => d
    | some i => latchSource 2 (p + fld i 4) 0 count true (d.netCount p 23 1)

/-- LINK_CHANGE (10 R261, R276): in DOZE a link-up on the wake port is a wake source. -/
def linkEvent (p : Nat) (up an : Bool) (d : Dev) : Dev :=
  if d.pwr.st == .doze || d.pwr.st == .hibernate then
    if d.pwr.st == .doze && p == d.net.wakePort && d.portUp p && (d.port p).link != up then
      let d := d.setPort p { d.port p with link := up, signal := up, anDone := up && an, linkChg := true }
      if up then
        let d := d.rtcTick
        latchSource 3 p 0 d.pwr.rtc d.net.linkWake d
      else d
    else d
  else linkChange p up an d

/-- RTC_CLOCK_STOP (R464). -/
def rtcStop (d : Dev) : Dev :=
  let sleeping := d.pwr.st == .doze || d.pwr.st == .hibernate
  let w := d.pwr.wrec
  { d with pwr := { d.pwr with
      rtcRun := false, wrec := if sleeping ∧ w.flags / 4 % 2 = 0 then { w with flags := w.flags + 4 } else w } }

/-- WAKE_N_ASSERT. -/
def execWakeNAssert (count : Nat) (s : State) : Host.Outcome State Fault Refusal := run true (wakeN count) s
/-- WAKE_ALARM_DUE. -/
def execWakeAlarmDue (slot count : Nat) (s : State) : Host.Outcome State Fault Refusal := run (decide (slot < 32)) (alarmDue slot count) s
/-- HOST_DOZE_WRITE. -/
def execHostDozeWrite (reg : Nat) (v : W32) (count : Nat) (s : State) : Host.Outcome State Fault Refusal :=
  run (decide (reg < 4)) (hostDozeWrite reg v count) s
/-- MAILBOX_WRITE_DROPPED. -/
def execMailboxWriteDropped (count : Nat) (s : State) : Host.Outcome State Fault Refusal := run true (mailboxDropped count) s
/-- WAKE_PATTERN_MATCH. -/
def execWakePatternMatch (port : Nat) (f : Bytes) (count : Nat) (s : State) : Host.Outcome State Fault Refusal :=
  run (decide (port < 16)) (patternMatch port f count) s
/-- LINK_CHANGE. -/
def execLinkChange (port : Nat) (up an : Bool) (s : State) : Host.Outcome State Fault Refusal := run (decide (port < 16)) (linkEvent port up an) s
/-- RTC_CLOCK_STOP. -/
def execRtcClockStop (s : State) : Host.Outcome State Fault Refusal := run true rtcStop s
/-- DOZE_COMMIT_POINT. -/
def execDozeCommitPoint (count rho entry : Nat) (s : State) : Host.Outcome State Fault Refusal :=
  runM true (fun d m => (commitPoint count rho entry d m, m)) s

end Sys2Proof.Machine
end

