-- ==== Sys2Proof/Machine/System.lean ====
section
/-! DEFINITION. The system commands of group 0x01xx (15 15.3), the regions of the diagnostic window (14 R382) and RSP_CONTINUE (14 R379). -/

namespace Sys2Proof.Machine

/-! ## The regions of the diagnostic window (14 R382, R383) -/

/-- 14 R382: the readable region an internal address lies in: its kind (0 CP ROM, 1 CP RAM, 2 scratch banks, 3 mailbox, 4 block registers,
5 DRAM window) and its end. -/
def Dev.diagRegion (d : Dev) (a : Nat) : Option (Nat × Nat) :=
  let dram := min 0x100000000 (0x80000000 + (d.drcU - d.drc.win * 0x80000000))
  if a < 0x40000 then (if Config.debugLocked then none else some (0, 0x40000))
  else if 0x10000000 ≤ a ∧ a < 0x10200000 then (if Config.debugLocked then none else some (1, 0x10200000))
  else if 0x20000000 ≤ a ∧ a < 0x20400000 then some (2, 0x20400000)
  else if 0x30000000 ≤ a ∧ a < 0x30100000 then some (3, 0x30100000)
  else if 0x40000000 ≤ a ∧ a < 0x41000000 then some (4, 0x41000000)
  else if 0x80000000 ≤ a ∧ a < dram ∧ d.drc.cond = .inService then some (5, dram)
  else none

/-- 14 R382: the word at an address of a readable region of kind `k`; `l` holds the window's own latches. -/
def Dev.diagWord (d : Dev) (m : List Host.Cell) (l : Tbl W32) (k a : Nat) : W32 × Tbl W32 :=
  match k with
  | 0 => (Config.cpRom (a / 4), l)
  | 1 => (Config.cpRam (a % 0x10000000 / 4) d.free, l)
  | 2 => (d.scrWord (a % 0x10000000 / 4), l)
  | 3 => (BitVec.ofNat 32 (u32 (Memory.read m (a % 0x10000000) 4) 0), l)
  | 4 => d.readReg l a
  | _ => (BitVec.ofNat 32 (u32 (d.dramRead (d.drc.win * 0x80000000 + (a - 0x80000000)) 4) 0), l)

/-- R396: words at ascending addresses. -/
def Dev.diagWords (d : Dev) (m : List Host.Cell) (k : Nat) : Nat → Nat → Tbl W32 → Bytes × Tbl W32
  | 0, _, l => ([], l)
  | n + 1, a, l =>
    let w := d.diagWord m l k a
    let r := d.diagWords m k n (a + 4) w.2
    (le 4 w.1.toNat ++ r.1, r.2)

/-! ## Commands -/

/-- 0x0100 IDENTIFY (Table 15.3). -/
def cmdIdentify : Cmd := cmdL 0x0100 fun _ p d =>
  checks [(p.length != 0, 0x101)] d (okData (le 2 0x1064 ++ le 1 0xB0 ++ le 1 (b01 Config.gradeI) ++ le 1 1 ++ le 1 4 ++ le 1 1 ++ le 1 4
    ++ le 4 d.boot.fw.2.2.1 ++ le 1 d.boot.slot ++ le 1 (b01 Config.debugLocked + 2 * b01 d.boot.secure) ++ zb 2 ++ le 8 Config.chipId) d)

/-- 0x0101 CAPS_GET (Table 15.4). -/
def cmdCapsGet : Cmd := cmdL 0x0101 fun _ p d =>
  let mib := if d.drc.cond == .inService then usableMiB d.drc.density d.drc.ranks2 else 0
  checks [(p.length != 0, 0x101)] d (okData (le 1 d.rate ++ le 1 (b01 d.hst.hspi) ++ le 2 (nObj d.rate) ++ le 2 512 ++ le 1 32 ++ le 1 32
    ++ le 1 (64 - d.rnd.shed.length) ++ le 1 d.freeReserves.length ++ le 1 d.nEn ++ zb 1 ++ le 2 (tapsMax d.rate) ++ zb 2 ++ le 4 mib ++ zb 4) d)

/-- 0x0102 ECHO. -/
def cmdEcho : Cmd := cmdL 0x0102 fun _ p d => checks [(decide (256 < p.length), 0x101)] d (okData p d)

/-- 0x0130 DEVICE_RESET (R395): the reset follows the response. -/
def cmdDeviceReset : Cmd := cmdL 0x0130 fun _ p d =>
  checks [(p.length != 4, 0x101), (u16 p 0 != 0x5EED || decide (1 < u8 p 2) || rsv p 3 1, 0x102)] d
    (ok { d with hst := { d.hst with resetDue := some (u8 p 2) } })

/-- 0x0140 DIAG_READ (R396). -/
def cmdDiagRead : Cmd := cmdL 0x0140 fun c p d =>
  let a := u32 p 0
  let n := u32 p 4
  if p.length ≠ 8 then no 0x101 d
  else match d.diagRegion a with
    | none => no 0x102 d
    | some (k, last) =>
      if a % 4 ≠ 0 ∨ n = 0 ∨ 4096 < n ∨ last < a + 4 * n then no 0x102 d
      else
        let r := d.diagWords c.mem k n a d.hst.diagLatch
        okData r.1 { d with hst := { d.hst with diagLatch := r.2 }, free := d.free + 1 }

/-- 0x01F0 RSP_CONTINUE (14 R379): the retained bytes from OFFSET on; the response carries as many as the ring or the result buffer takes. -/
def cmdRspContinue : Cmd := cmdL 0x01F0 fun _ p d =>
  if p.length ≠ 16 then no 0x101 d
  else if rsv p 1 3 ∨ rsv p 12 4 then no 0x102 d
  else match d.hst.retained.find? (fun x => x.tag == u8 p 0 && x.seq == u32 p 4) with
    | none => no 0x103 d
    | some x =>
      if x.payload.length ≤ u32 p 8 then no 0x102 d
      else { okData (x.payload.drop (u32 p 8)) d with cont := some (x.tag, x.seq, u32 p 8) }

/-! ## Meanings -/

/-- IDENTIFY. -/
def execIdentify (r : AcpReq) (s : State) : Host.Outcome State Fault Refusal := run true (acpTake cmdIdentify r) s
/-- CAPS_GET. -/
def execCapsGet (r : AcpReq) (s : State) : Host.Outcome State Fault Refusal := run true (acpTake cmdCapsGet r) s
/-- ECHO. -/
def execEcho (r : AcpReq) (s : State) : Host.Outcome State Fault Refusal := run true (acpTake cmdEcho r) s
/-- DEVICE_RESET: with NOREPLY the reset begins at once. -/
def execDeviceReset (r : AcpReq) (s : State) : Host.Outcome State Fault Refusal :=
  run true (fun d => (acpTake cmdDeviceReset r d).dueReset) s
/-- DIAG_READ. -/
def execDiagRead (r : AcpReq) (s : State) : Host.Outcome State Fault Refusal := runM true (fun d m => (acpTake cmdDiagRead r d m, m)) s
/-- RSP_CONTINUE. -/
def execRspContinue (r : AcpReq) (s : State) : Host.Outcome State Fault Refusal := run true (acpTake cmdRspContinue r) s

end Sys2Proof.Machine
end

