-- ==== Sys2Proof/Machine/Health.lean ====
section
/-! DEFINITION. Sweeps of the Sloe rings, ageing plans and their application, the health report and the health commands (17 17.3 to 17.7). -/

namespace Sys2Proof.Machine

/-! ## Ratios and allowed clocks (R444 to R447) -/

/-- Table 17.7: the rings of an island: first ring and number. -/
def islRings (j : Nat) : Nat × Nat :=
  if j < 76 then (j, 1)
  else match j with
    | 76 => (76, 4)
    | 77 => (80, 2)
    | 84 => (88, 2)
    | 85 => (90, 4)
    | 86 => (94, 2)
    | _ => (j + 4, 1)

/-- R446: N_norm of a count at a temperature in 2^-8 of a degree. -/
def normCount (n : Nat) (alpha t : Int) : Nat := (rne ((n : Int) * (2 ^ 28 + alpha * (t - 85 * 256))) (2 ^ 28)).toNat

/-- R446: r in Q1.15, a 16-bit field. -/
def ringRatio (norm birth : Nat) : Nat := min 65535 (2 ^ 15 * norm / birth)

/-- R447: A = floor(FMAX × r × (1 − GUARD)) in MHz; GUARD in Q8.8 %. -/
def allowedMhz (fmax r guard : Nat) : Nat := fmax * r * (25600 - guard) / (2 ^ 15 * 25600)

/-- R445: M = A(7) / floor − 1 in Q8.8 %. -/
def marginOf (a7 floor : Nat) : Int := satI 16 (rne ((a7 : Int) * 25600) floor - 25600)

/-- R444: the lowest ratio among the rings of an island. -/
def Dev.islRatio (d : Dev) (j : Nat) : Nat := (minN ((rangeFrom (islRings j).1 (islRings j).2).map (fun i => tget 0x8000 d.hlt.ringR i))).getD 0x8000

/-- R447: A(t) of an island. -/
def Dev.allowed (d : Dev) (j t : Nat) : Nat := allowedMhz (Config.fmax j t) (d.islRatio j) d.hlt.guard

/-! ## Plans (R447, R448) -/

/-- R447: a trim serves the island at its clock `f`; `a` is A there. -/
def trimServes (j f a : Nat) : Bool := if islPlanned j then decide (islFloor j ≤ a / 10 * 10) else decide (f ≤ a)

/-- 19 Table 19.3: the plan of an island is appended to the journal. -/
def Dev.storePlan (d : Dev) (j : Nat) : Dev :=
  { d with store := { d.store with appends := d.store.appends ++ [(2, j, le 2 (d.islMhz j) ++ le 1 (d.isl j).trim ++ le 1 (b01 (d.isl j).floorLost))] } }

/-- R442: a log entry of an island. -/
def Dev.logIsl (d : Dev) (j code src : Nat) : Dev :=
  d.log { tick := d.tim.tick, channel := j, kind := 0, code := code, cause := 0, level := 0, source := src, detail := 0 }

/-- Writes an island. -/
def Dev.setIsl (d : Dev) (j : Nat) (x : Island) : Dev := { d with hlt := { d.hlt with isl := tput {} d.hlt.isl j x } }

/-- R447: one island is planned; `true` says that FLOOR_LOST has come. -/
def planIsland (j : Nat) (d : Dev) : Dev × Bool :=
  let x := d.isl j
  let f := d.islMhz j
  if !d.hlt.auto || f ≤ d.allowed j x.trim || x.floorLost || (decide (j < 68) && d.chRet j) then (d, false)
  else
    let old := match x.plan with
      | some (t, c, _) => (t, c)
      | none => (x.trim, f)
    match (rangeFrom x.trim (8 - x.trim)).find? (fun t => trimServes j f (d.allowed j t)) with
    | some t =>
      let n := if islPlanned j then min f (d.allowed j t / 10 * 10) else f
      let d := d.setIsl j { x with trim := t, mhz := n, plan := some (old.1, old.2, n), slewing := x.slewing || t != x.trim }
      ((d.storePlan j).logIsl j 5 0, false)
    | none =>
      let d := d.setIsl j { x with
        trim := 7, floorLost := true, plan := if j < 68 then none else if x.trim = 7 then x.plan else some (old.1, old.2, f)
        slewing := x.slewing || (x.trim != 7 && decide (68 ≤ j)) }
      let d := (d.storePlan j).logIsl j 5 0
      (if j < 68 then d.retire j 7 else d, true)

/-- R447, R448: an island's margin after a sweep; a crossing below MARGIN_WARN, or a FLOOR_LOST of an island that runs on, raises
EV_AGEING_MARGIN. -/
def marginIsland (j : Nat) (lost : Bool) (d : Dev) : Dev :=
  let x := d.isl j
  let m := marginOf (d.allowed j 7) (islFloor j)
  let low := decide (m < (d.hlt.marginWarn : Int))
  let d := d.setIsl j { x with margin := m, allowed := d.allowed j x.trim, warned := low }
  if (low && !x.warned) || (lost && decide (68 ≤ j)) then
    (d.logIsl j 6 0x8F02).raise 0x8F02 j (le 1 j ++ le 1 (b01 x.floorLost) ++ leI 2 m ++ le 2 (d.islRatio j) ++ le 1 x.trim ++ zb 1)
  else d

/-- R448: the plan of lane `p` goes on as far as it can: one that serves moves out to a reserve lane. -/
def laneGo (p : Nat) (d : Dev) : Dev :=
  let x := d.isl p
  match x.plan with
  | none => d
  | some (_, _, n) =>
    let mine := match d.rnd.mig with
      | some m => m.old == p || m.new == p
      | none => false
    if x.slewing || mine then d
    else if d.chRet p then d.setIsl p { x with plan := none, deferred := false }
    else if (d.lane p).clock = n then replanDone p d
    else match (d.lane p).logical with
      | none =>
        if (d.lane p).st = .testing then d
        else
          let d := reclock p d
          replanDone p (d.setLane p { d.lane p with st := .idle })
      | some l =>
        if d.rnd.mig.isSome then d
        else match d.freeReserves with
          | q :: _ => beginMigration l p q 1 (d.setIsl p { x with deferred := false })
          | [] =>
            if x.deferred then d
            else Dev.setIsl { d with rnd := { d.rnd with migDeferred := d.rnd.migDeferred + 1 } } p { x with deferred := true }

/-- R440: the lowest logical lane that its home lane serves. -/
def Dev.homeServed (d : Dev) : Option Nat := (rangeFrom 0 64).find? (fun l => (d.lane l).logical == some l)

/-- R440: the proving of the reserve lanes goes on: out to the next of them, and back. -/
def proveGo : Nat → Dev → Dev
  | 0, d => d
  | f + 1, d =>
    match d.hlt.proving with
    | [] => d
    | q :: rest =>
      let drop := { d with hlt := { d.hlt with proving := rest } }
      if d.rnd.mig.isSome then d
      else match (d.lane q).logical with
        | some l => if (d.lane l).st == .idle then beginMigration l q l 0 drop else proveGo f drop
        | none =>
          if (d.lane q).st == .idle then
            (match d.homeServed with
              | some l => beginMigration l l q 0 d
              | none => drop)
          else proveGo f drop

/-- R440, R448: the plans of the lanes and the proving go on, one migration at a time. -/
def planGo (d : Dev) : Dev :=
  proveGo 4 (forRun laneGo ((d.hlt.isl.filter (fun x => x.2.plan.isSome && decide (x.1 < 68))).map Prod.fst) d)

/-- R448: an island's trim has risen: its clock change follows, or the plan is complete. -/
def trimSlewDone (j : Nat) (d : Dev) : Dev :=
  let x := d.isl j
  if !x.slewing then d
  else
    let d := d.setIsl j { x with slewing := false }
    if j < 68 then planGo d else replanDone j d

/-! ## Sweeps (R446) -/

/-- R446: a ring's measurement is stored. -/
def measRing (d : Dev) (m : RingMeas) : Dev :=
  let n := normCount m.count (Config.alpha m.ring) m.temp
  { d with hlt := { d.hlt with
      ring := m.ring
      ringN := tput 0 d.hlt.ringN m.ring (BitVec.ofNat 32 n)
      ringR := if d.hlt.noBirth then d.hlt.ringR else tput 0x8000 d.hlt.ringR m.ring (ringRatio n (Config.nBirth m.ring)) } }

/-- R447: islands are planned and their margins judged, in ascending order. -/
def planAll (d : Dev) : Dev :=
  forRun (fun j d =>
    let r := planIsland j d
    let d := marginIsland j r.2 r.1
    if 68 ≤ j ∧ !(d.isl j).slewing then replanDone j d else d) (rangeFrom 0 87) d

/-- SWEEP_DONE (R447, R448, R440). -/
def sweepDone (ms : List RingMeas) (d : Dev) : Dev :=
  if !d.hlt.sweepBusy then d
  else
    let d := ms.foldl measRing d
    let d := { d with hlt := { d.hlt with sweepBusy := false, sweeps := d.hlt.sweeps + 1 } }
    let d := if d.hlt.noBirth then d else planAll d
    planGo (if d.hlt.prove then { d with hlt := { d.hlt with proving := d.freeReserves } } else d)

/-! ## Commands (R449) -/

/-- Table 17.4: the island with the lowest margin, the lowest on a tie. -/
def Dev.worstIsland (d : Dev) : Nat := (rangeFrom 0 87).foldl (fun b j => if (d.isl j).margin < (d.isl b).margin then j else b) 0

/-- Table 17.4: the channel with the greatest level among those not retired, the lowest on a tie, and the level. -/
def Dev.worstChannel (d : Dev) : Nat × Nat :=
  let l := maxN ((d.hlt.ch.filter (fun x => !x.2.retired)).map (fun x => x.2.level))
  (((rangeFrom 0 1176).find? (fun c => !d.chRet c && (d.chan c).level == l)).getD 0, l)

/-- Table 17.4: the health report. -/
def Dev.report (d : Dev) : Bytes :=
  let w := d.worstIsland
  let c := d.worstChannel
  le 4 d.hltFlags ++ (rangeFrom 0 15).flatMap (fun k => le 2 (d.nRet k)) ++ le 1 d.freeReserves.length ++ le 1 d.rnd.shed.length
  ++ le 2 d.hlt.objectsShed ++ le 1 w ++ le 1 c.2 ++ leI 2 (d.isl w).margin ++ le 2 c.1 ++ le 4 d.hlt.logWr
  ++ le 4 (tget 0 d.pair.ctr 5).toNat ++ le 4 (tget 0 d.pair.ctr 9).toNat ++ leI 4 (q248 d.tim.offset) ++ zb 4

/-- 0x0F00 HLT_REPORT_GET (R441). -/
def cmdHltReportGet : Cmd := cmdL 0x0F00 fun _ p d => checks [(p.length != 0, 0x101)] d (okData d.report d)

/-- 0x0F01 HLT_LOG_READ (R442). -/
def cmdHltLogRead : Cmd := cmdL 0x0F01 fun _ p d =>
  let n := u16 p 2
  checks [(p.length != 4, 0x101), (decide (511 < u16 p 0) || n == 0 || decide (512 < n), 0x102)] d
    (okData (le 2 d.hlt.logWr ++ le 2 (b01 d.hlt.wrapped) ++ (rangeFrom (u16 p 0) n).flatMap (fun e => (tget {} d.hlt.log (e % 512)).bytes)) d)

/-- 0x0F02 HLT_STRIKES_GET (R443). -/
def cmdHltStrikesGet : Cmd := cmdL 0x0F02 fun _ p d =>
  let n := u16 p 2
  let ent := fun (c : Nat) =>
    let x := d.chan c
    le 1 x.level ++ le 1 (b01 x.retired) ++ le 1 x.cause ++ zb 1 ++ le 4 (if u8 p 4 = 0 then x.strikes else x.shadow).toNat
  checks [(p.length != 8, 0x101), (n == 0 || decide (1176 < u16 p 0 + n) || decide (1 < u8 p 4) || rsv p 5 3, 0x102)] d
    (okData (le 4 d.tim.snapSeq.toNat ++ (rangeFrom (u16 p 0) n).flatMap ent) d)

/-- 0x0F03 HLT_AGEING_GET (R449). -/
def cmdHltAgeingGet : Cmd := cmdL 0x0F03 fun _ p d =>
  let n := u8 p 1
  let ent := fun (j : Nat) =>
    let x := d.isl j
    le 1 j ++ le 1 x.trim ++ le 1 (b01 (islPlanned j) + 2 * b01 x.floorLost + 4 * b01 x.deferred) ++ zb 1 ++ le 2 (d.islMhz j) ++ le 2 x.allowed
    ++ leI 2 x.margin ++ le 2 (d.islRatio j) ++ le 4 d.hlt.sweeps.toNat
  checks [(p.length != 4, 0x101), (n == 0 || decide (87 < u8 p 0 + n) || rsv p 2 2, 0x102)] d (okData ((rangeFrom (u8 p 0) n).flatMap ent) d)

/-- 0x0F04 HLT_REPLAN_CONFIG (R449). -/
def cmdHltReplanConfig : Cmd := cmdL 0x0F04 fun _ p d =>
  let fl := u8 p 0
  let now := fl / 4 == 1
  let h := d.hlt
  let bad := decide (7 < fl) || rsv p 1 1 || decide (u16 p 2 < 512) || decide (5120 < u16 p 2) || decide (12800 < u16 p 4) || rsv p 6 2
    || decide (u32 p 8 < 60) || decide (86400 < u32 p 8)
  let d' := { d with hlt := { h with
    auto := fl % 2 == 1, prove := fl / 2 % 2 == 1, guard := u16 p 2, marginWarn := u16 p 4, period := u32 p 8, arbMask := BitVec.ofNat 32 (u32 p 12) } }
  checks [(p.length != 16, 0x101), (bad, 0x102), (now && h.sweepBusy, 0x104)] d (ok (if now then sweepBegin d' else d'))

/-! ## Meanings -/

/-- SWEEP (R446): the period ends and a sweep begins. -/
def execSweep (s : State) : Host.Outcome State Fault Refusal := run true sweepBegin s
/-- SWEEP_NOW. -/
def execSweepNow (s : State) : Host.Outcome State Fault Refusal := run true sweepBegin s
/-- SWEEP_DONE. -/
def execSweepDone (meas : List RingMeas) (s : State) : Host.Outcome State Fault Refusal :=
  run (meas.all (fun m => decide (m.ring < 96))) (sweepDone meas) s
/-- TRIM_SLEW_DONE. -/
def execTrimSlewDone (island : Nat) (s : State) : Host.Outcome State Fault Refusal := run (decide (island < 87)) (trimSlewDone island) s
/-- HLT_REPORT_GET. -/
def execHltReportGet (r : AcpReq) (s : State) : Host.Outcome State Fault Refusal := run true (acpTake cmdHltReportGet r) s
/-- HLT_LOG_READ. -/
def execHltLogRead (r : AcpReq) (s : State) : Host.Outcome State Fault Refusal := run true (acpTake cmdHltLogRead r) s
/-- HLT_STRIKES_GET. -/
def execHltStrikesGet (r : AcpReq) (s : State) : Host.Outcome State Fault Refusal := run true (acpTake cmdHltStrikesGet r) s
/-- HLT_AGEING_GET. -/
def execHltAgeingGet (r : AcpReq) (s : State) : Host.Outcome State Fault Refusal := run true (acpTake cmdHltAgeingGet r) s
/-- HLT_REPLAN_CONFIG. -/
def execHltReplanConfig (r : AcpReq) (s : State) : Host.Outcome State Fault Refusal := run true (acpTake cmdHltReplanConfig r) s

end Sys2Proof.Machine
end

