-- ==== Sys2Proof/Machine/Power.lean ====
section
/-! DEFINITION. Supplies, resets and the boot (18 18.5, 18.6, 20 20.2), IDLE and the DOZE timer, and the power commands (18 18.8). -/

namespace Sys2Proof.Machine

/-! ## Supplies and resets (R465, 20 R494, R495, R509) -/

/-- R465: the end of reset: BOOT_MODE and HOST_SEL are sampled, and ROM looks for an image. -/
def endOfReset (hostSel : Bool) (mode : BitVec 2) (d : Dev) : Dev :=
  Dev.bootLoad { d with hst := { d.hst with hspi := hostSel }, pwr := { d.pwr with bootMode := mode.toNat } }

/-- The Cleat holds the device in no way but RESET_N, and its supplies are up. -/
def Dev.supplied (d : Dev) : Bool := d.boot.st == .reset && !d.pwr.retry && !d.pwr.hot

/-- PGOOD_SAMPLE (20 R494): PGOOD at the end of the sequence. -/
def pgoodSample (ok hostSel : Bool) (mode : BitVec 2) (d : Dev) : Dev :=
  if !d.supplied then d
  else if !ok then { d with pwr := { d.pwr with seqEn := 0, retry := true } }
  else
    let d : Dev := { d with pwr := { d.pwr with seqEn := 15, rtcRun := d.pwr.rtcRun || d.pwr.cause == 0 } }
    if d.pwr.held then d else endOfReset hostSel mode d

/-- RESET_N_ASSERT (R465). -/
def resetAssert (d : Dev) : Dev :=
  let d := chipReset 1 d
  { d with pwr := { d.pwr with held := true } }

/-- RESET_N_RELEASE (R465). -/
def resetRelease (hostSel : Bool) (mode : BitVec 2) (d : Dev) : Dev :=
  if !d.pwr.held then d
  else
    let d : Dev := { d with pwr := { d.pwr with held := false } }
    if d.supplied && d.pwr.seqEn == 15 then endOfReset hostSel mode d else d

/-- SUPPLY_FAULT (20 R495): no enable is high while the Cleat alone runs. -/
def supplyFault (d : Dev) : Dev :=
  if d.pwr.seqEn = 0 then d
  else
    let d := chipReset 1 d
    { d with pwr := { d.pwr with seqEn := 0, retry := true } }

/-- THERMAL_SHUTDOWN (20 R509). -/
def thermalShutdown (d : Dev) : Dev :=
  let d := chipReset 1 d
  { d with pwr := { d.pwr with seqEn := 0, hot := true } }

/-- R465: firmware runs: the watchdog and PCI Express can ask for a warm reset. -/
def Dev.cpRuns (d : Dev) : Bool :=
  (d.boot.st == .init || d.boot.st == .ready) && d.pwr.st != .doze && d.pwr.st != .hibernate

/-- FUNCTION_LEVEL_RESET (14 R357): PCI Express clears the function's own enables. -/
def functionReset (d : Dev) : Dev :=
  if d.hst.hspi then d
  else
    let d := warmReset 6 d
    { d with hst := { d.hst with busMaster := false, msiEn := false } }

/-- 14 R365: a write of HOST_RESET; from the start of DOZE entry on the Cleat latches it (R456). -/
def hostReset (v : W32) (d : Dev) : Dev :=
  if d.asleep then
    let d := d.rtcTick
    hostDozeWrite 3 v d.pwr.rtc d
  else if d.boot.st == .reset || v.toNat / 65536 != 0x5EED then d
  else if v.getLsbD 1 then chipReset 2 d
  else if v.getLsbD 0 then warmReset 4 d
  else d

/-! ## The boot (R468 to R471) -/

/-- R470, 19 Table 19.4: the identity fields of an image in mailbox SRAM. -/
def imageId (m : List Host.Cell) : Nat × Nat × Nat × Nat × Bool :=
  let b := Memory.read m 0 24
  (u8 b 8, u8 b 9, u32 b 12, u16 b 16, u16 b 6 % 2 == 1)

/-- 19 Table 19.5: the identity fields of a slot's image. -/
def FwSlot.id (x : FwSlot) : Nat × Nat × Nat × Nat × Bool := (x.major, x.minor, x.build, x.secver, x.binding)

/-- R468: the image runs; firmware initialises every SRAM. -/
def Dev.runImage (d : Dev) (slot : Nat) (fw : Nat × Nat × Nat × Nat × Bool) (host : Bool) : Dev :=
  Dev.setBoot { d with boot := { d.boot with slot := slot, fw := fw, hostImg := host, secure := Config.secureEn, tryList := [] }, mboxClear := true } .init

/-- BOOT_IMAGE_CHECKED (R471): the image passes and runs, or ROM goes on to the next slot. -/
def imageChecked (ok : Bool) (d : Dev) : Dev :=
  match d.boot.st, d.boot.tryList with
  | .loading, k :: rest =>
    if ok then d.runImage k (d.store.slot k).id false
    else if rest.isEmpty then Dev.setBoot { d with boot := { d.boot with tryList := [] } } .failed
    else { d with boot := { d.boot with tryList := rest } }
  | _, _ => d

/-- HOST_LOAD_GO (R470): the load word is written; at any other time it is a plain write of mailbox SRAM. -/
def hostLoadGo (v : W32) (ok : Bool) (d : Dev) (m : List Host.Cell) : Dev × List Host.Cell :=
  if d.asleep then (d, m)
  else if d.boot.st == .loading && d.bootMode == 2 && v == 0x6C6F6164 then
    (if ok then d.runImage 255 (imageId m) true else d, Memory.write m 0xEFFFC (zb 4))
  else (d, if d.boot.st == .reset then m else Memory.write m 0xEFFFC (le 4 v.toNat))

/-- 17 R445: without a birth record an island whose clock is planned runs at its floor. -/
def floorIsland (j : Nat) (d : Dev) : Dev := if islPlanned j then d.setIsl j { d.isl j with mhz := islFloor j, trim := 0, floorLost := false } else d

/-- 17 R447: the planned clocks are applied before any island runs. -/
def bootClocks (d : Dev) : Dev :=
  let noBirth := !d.store.cal || !Config.birthOk
  let d : Dev := { d with hlt := { d.hlt with noBirth := noBirth } }
  let d := if noBirth then forRun floorIsland (rangeFrom 0 87) d else d
  forRun (fun p (d : Dev) => if (d.isl p).mhz = 0 then d else d.setLane p { d.lane p with clock := d.islMhz p }) (rangeFrom 0 68) d

/-- 12 R315: firmware hands SB0 to SB14 to LAW. -/
def bootBank (k : Nat) (d : Dev) : Dev := d.setBank k { d.bank k with owner := .law }
/-- 05 Table 5.16: firmware sets RUN_EN of a law engine. -/
def bootEngine (e : Nat) (d : Dev) : Dev := d.setEng e { d.eng e with runEn := true }

/-- BOOT_READY (R468): firmware has completed INIT; `failed` are the channels whose self-test failed. -/
def bootReady (failed : List Nat) (d : Dev) : Dev :=
  if d.boot.st != .init then d
  else
    let fw := d.boot.fw
    let d := bootClocks d.storeBoot
    let d := forRun bootEngine (rangeFrom 0 8) (forRun bootBank (rangeFrom 0 15) d)
    let d : Dev := { d with
      hst := { d.hst with acp := 0x0104 }
      tim := { d.tim with ppsGate := true }
      boot := { d.boot with minSec := if fw.2.2.2.2 then max d.boot.minSec fw.2.2.2.1 else d.boot.minSec }
      pwr := { d.pwr with hostRec := d.pwr.wrec.bytes, upAt := d.tim.now } }
    let d := (failed.mergeSort (fun a b => decide (a ≤ b))).foldl (fun d c => d.retire c 2) d
    let d := d.setBoot .ready
    let d := d.raise 0x8100 0 (le 1 d.boot.slot ++ le 1 d.pwr.cause ++ zb 6)
    d.storeReady

/-! ## IDLE and the DOZE timer (R452, R454) -/

/-- IDLE_ENTRY (R452). -/
def idleEntry (d : Dev) : Dev :=
  if d.boot.st == .ready && d.pwr.st == .active && d.pwr.idleEn && d.audioStopped && !d.opBusy then
    Dev.setPower { d with pwr := { d.pwr with idleAt := d.tim.now, timerOut := false } } .idle
  else d

/-- DOZE_TIMER (R454): the timer has expired; a mask that is not 0 is reported once, and entry waits until it reads 0. -/
def dozeTimer (d : Dev) : Dev :=
  if d.pwr.st != .idle || !d.pwr.dozeEn then d
  else
    let b := d.pwrBlock none false
    if b = 0 then d.beginEntry false
    else if d.pwr.timerOut then d
    else Dev.raise { d with pwr := { d.pwr with timerOut := true } } 0x9002 0 (le 4 b ++ le 1 0 ++ zb 3)

/-! ## Commands (R474) -/

/-- Table 18.15: DOZE_LEFT_S. -/
def Dev.dozeLeft (d : Dev) : Nat :=
  if d.pwr.st == .idle && d.pwr.dozeEn && !d.pwr.timerOut then d.pwr.dozeS - (d.tim.now - d.pwr.idleAt) / (10 ^ 9 * 2 ^ 40) else 0

/-- 0x1000 PWR_CONFIG. -/
def cmdPwrConfig : Cmd := cmdL 0x1000 fun _ p d =>
  let fl := u8 p 0
  let bad := decide (15 < fl) || rsv p 1 1 || decide (u16 p 2 < 16) || decide (4000 < u16 p 2) || u32 p 4 == 0 || decide (3600000 < u32 p 4)
    || u32 p 8 == 0 || decide (86400 < u32 p 8) || rsv p 12 4
  checks [(p.length != 16, 0x101), (bad, 0x102)] d
    (ok { d with pwr := { d.pwr with
      idleEn := fl % 2 == 1, dozeEn := fl / 2 % 2 == 1, wakeNEn := fl / 4 % 2 == 1, hostWakeEn := fl / 8 == 1
      wakeFilt := u16 p 2, idleMs := u32 p 4, dozeS := u32 p 8 } })

/-- 0x1001 PWR_STATE_GET. -/
def cmdPwrStateGet : Cmd := cmdL 0x1001 fun _ p d =>
  if p.length ≠ 0 then no 0x101 d
  else
    let d := d.rtcTick
    okData (le 1 d.pwr.st.code ++ le 1 d.boot.slot ++ le 1 d.pwr.cause ++ zb 1 ++ le 4 (d.pwrBlock none false) ++ le 8 d.pwr.rtc
      ++ le 4 d.pwr.dozeCount.toNat ++ le 4 d.dozeLeft) d

/-- R454, R463: an entry command: its own tag and bits 6 and 7 are ignored. -/
def askEntry (hib : Bool) (tag : Nat) (d : Dev) : Rep :=
  let b := d.pwrBlock (some tag) hib % 64
  if b = 0 then okData (le 4 0) { d with pwr := { d.pwr with entryDue := some hib } } else noWith 0x103 (le 4 b) d

/-- 0x1002 PWR_DOZE. -/
def cmdPwrDoze : Cmd := cmdL 0x1002 fun c p d => if p.length ≠ 0 then no 0x101 d else askEntry false c.tag d

/-- 0x1003 PWR_HIBERNATE. -/
def cmdPwrHibernate : Cmd := cmdL 0x1003 fun c p d =>
  if p.length ≠ 4 then no 0x101 d else if u16 p 0 ≠ 0x5EED ∨ rsv p 2 2 then no 0x102 d else askEntry true c.tag d

/-- Table 18.15: one latch entry. -/
def Latch.bytes (l : Latch) : Bytes := le 8 l.count ++ le 1 l.source ++ le 1 l.detail ++ zb 2 ++ le 4 l.value

/-- 0x1004 PWR_WAKE_REC_GET. -/
def cmdPwrWakeRecGet : Cmd := cmdL 0x1004 fun _ p d =>
  checks [(p.length != 0, 0x101)] d (okData (d.pwr.wrec.bytes ++ (d.pwr.latch.flatMap Latch.bytes ++ zb 256).take 256) d)

/-! ## Meanings -/

/-- POWER_ON. -/
def execPowerOn (s : State) : Host.Outcome State Fault Refusal := run true powerOnReset s
/-- VDD_AON_FALL: a power-on reset (20 R495). -/
def execVddAonFall (s : State) : Host.Outcome State Fault Refusal := run true powerOnReset s
/-- RESET_N_ASSERT. -/
def execResetNAssert (s : State) : Host.Outcome State Fault Refusal := run true resetAssert s
/-- RESET_N_RELEASE. -/
def execResetNRelease (hostSel : Bool) (bootMode : BitVec 2) (s : State) : Host.Outcome State Fault Refusal :=
  run true (resetRelease hostSel bootMode) s
/-- FUNCTION_LEVEL_RESET. -/
def execFunctionLevelReset (s : State) : Host.Outcome State Fault Refusal := run true functionReset s
/-- PGOOD_SAMPLE. -/
def execPgoodSample (good hostSel : Bool) (bootMode : BitVec 2) (s : State) : Host.Outcome State Fault Refusal :=
  run true (pgoodSample good hostSel bootMode) s
/-- SUPPLY_FAULT. -/
def execSupplyFault (s : State) : Host.Outcome State Fault Refusal := run true supplyFault s
/-- THERMAL_SHUTDOWN. -/
def execThermalShutdown (s : State) : Host.Outcome State Fault Refusal := run true thermalShutdown s
/-- SEQUENCE_RETRY (20 R494). -/
def execSequenceRetry (s : State) : Host.Outcome State Fault Refusal := run true (fun d => { d with pwr := { d.pwr with retry := false } }) s
/-- THERMAL_RECOVERY (20 R509). -/
def execThermalRecovery (s : State) : Host.Outcome State Fault Refusal := run true (fun d => { d with pwr := { d.pwr with hot := false } }) s
/-- WATCHDOG_EXPIRY (R465). -/
def execWatchdogExpiry (s : State) : Host.Outcome State Fault Refusal := run true (fun d => if d.cpRuns then warmReset 7 d else d) s
/-- HOST_RESET_CHIP. -/
def execHostResetChip (v : W32) (s : State) : Host.Outcome State Fault Refusal := run true (hostReset v) s
/-- HOST_RESET_WARM. -/
def execHostResetWarm (v : W32) (s : State) : Host.Outcome State Fault Refusal := run true (hostReset v) s
/-- BOOT_IMAGE_CHECKED. -/
def execBootImageChecked (good : Bool) (s : State) : Host.Outcome State Fault Refusal := run true (imageChecked good) s
/-- HOST_LOAD_GO. -/
def execHostLoadGo (v : W32) (good : Bool) (s : State) : Host.Outcome State Fault Refusal := runM true (hostLoadGo v good) s
/-- BOOT_READY. -/
def execBootReady (failed : List Nat) (s : State) : Host.Outcome State Fault Refusal :=
  run (failed.all (fun c => decide (c < 1176))) (bootReady failed) s
/-- IDLE_ENTRY. -/
def execIdleEntry (s : State) : Host.Outcome State Fault Refusal := run true idleEntry s
/-- DOZE_TIMER. -/
def execDozeTimer (s : State) : Host.Outcome State Fault Refusal := run true dozeTimer s
/-- PWR_DOZE: with NOREPLY entry begins at once. -/
def execPwrDoze (r : AcpReq) (s : State) : Host.Outcome State Fault Refusal := run true (fun d => (acpTake cmdPwrDoze r d).dueEntry) s
/-- PWR_HIBERNATE: as PWR_DOZE. -/
def execPwrHibernate (r : AcpReq) (s : State) : Host.Outcome State Fault Refusal := run true (fun d => (acpTake cmdPwrHibernate r d).dueEntry) s
/-- PWR_CONFIG. -/
def execPwrConfig (r : AcpReq) (s : State) : Host.Outcome State Fault Refusal := run true (acpTake cmdPwrConfig r) s
/-- PWR_STATE_GET. -/
def execPwrStateGet (r : AcpReq) (s : State) : Host.Outcome State Fault Refusal := run true (acpTake cmdPwrStateGet r) s
/-- PWR_WAKE_REC_GET. -/
def execPwrWakeRecGet (r : AcpReq) (s : State) : Host.Outcome State Fault Refusal := run true (acpTake cmdPwrWakeRecGet r) s

end Sys2Proof.Machine
end

