-- ==== Sys2Proof/Machine/PairCmd.lean ====
section
/-! DEFINITION. The pair commands (16 16.11) and the start of a splice (16 R423). -/

namespace Sys2Proof.Machine

/-- R406: the link is up. -/
def Dev.linkUp (d : Dev) : Bool := d.pair.lanes != 0

/-- R423: a STALE standby can start a splice: its link is up and it has received a complete sealed record. -/
def Dev.spliceReady (d : Dev) : Bool :=
  d.pair.st == .stale && d.pair.mode == 1 && d.linkUp && d.pair.sawRec && !d.chRet 1172 && d.pair.take.isNone && d.pair.roleNext.isNone

/-- R423, R401: a splice starts; the spec gives EV_PAIR_STALE no cause for leaving STALE so. -/
def spliceBegin (d : Dev) : Dev :=
  let n := d.draw
  let d := n.2.evStale 0 (Config.freeWord n.1 % 256)
  let d : Dev := { d with pair := { d.pair with
    phase := 1, bulkBytes := 0, snapGot := 0, latched := [], rcv := none, recBuf := [], bulk := [], snap := none, warmTick := none, caughtUp := false } }
  d.setPair .bulk

/-- SPLICE_AUTO_START (R423): with AUTO_SPLICE clear only a waiting PAIR_SPLICE_START starts it. -/
def spliceStart (d : Dev) : Dev := if d.spliceReady && (d.pair.autoSplice || d.awaits 0x0E03 0) then spliceBegin d else d

/-- 0x0E00 PAIR_CONFIG. -/
def cmdPairConfig : Cmd := cmdL 0x0E00 fun _ p d =>
  let m := u8 p 0
  let bad := decide (2 < m) || decide (3 < u8 p 1) || decide (u16 p 2 < 16) || decide (4000 < u16 p 2) || u16 p 4 == 0 || rsv p 6 2
    || decide (u32 p 8 < 256) || decide (256000 < u32 p 8) || rsv p 12 4
  checks [(p.length != 16, 0x101), (bad, 0x102), (m == 2 && d.pair.st == .active, 0x103), (d.pair.phase != 0 || d.pair.serving, 0x104)] d
    (ok (Dev.setMode { d with pair := { d.pair with
      autoSplice := u8 p 1 % 2 == 1, hbEn := u8 p 1 / 2 == 1, filter := u16 p 2, mmHold := u16 p 4, timeLimit := u32 p 8 } } m))

/-- 0x0E01 PAIR_STATUS_GET. -/
def cmdPairStatusGet : Cmd := cmdL 0x0E01 fun _ p d =>
  let q := d.pair
  checks [(p.length != 0, 0x101)] d (okData (le 1 q.st.code
    ++ le 1 (b01 d.linkUp + 2 * b01 q.act + 4 * b01 q.flt + 8 * b01 (q.phase != 0 || q.serving) + 16 * b01 q.diverged)
    ++ le 1 q.lanes ++ le 1 q.peerSt ++ le 4 q.epoch ++ le 8 q.lastSealed ++ le 8 q.lastCommit ++ le 8 q.peerId ++ leI 4 q.offset ++ le 1 q.phase
    ++ zb 3 ++ le 8 (q.warmTick.getD 0)) d)

/-- 0x0E02 PAIR_GUARD_STATUS. -/
def cmdPairGuardStatus : Cmd := cmdL 0x0E02 fun _ p d =>
  let ent := fun (k : Nat) =>
    let g : Guard := tget {} d.out.gs k
    le 2 g.out ++ le 1 (b01 g.en + 2 * b01 (g.en && d.pair.st == .following) + 4 * b01 (tget false d.pair.lastMm k)) ++ zb 1 ++ le 4 g.crc.toNat
    ++ le 4 (tget 0 d.pair.peerCrc k) ++ le 4 (tget 0 d.pair.mm k).toNat ++ le 8 (tget 0 d.pair.mmBlock k)
  checks [(p.length != 0, 0x101)] d (okData ((rangeFrom 0 32).flatMap ent) d)

/-- 0x0E03 PAIR_SPLICE_START (R423): the response awaits FOLLOWING. -/
def cmdPairSpliceStart : Cmd := cmdL 0x0E03 fun _ p d =>
  checks [(p.length != 0, 0x101), (d.chRet 1172, 0x109), (d.pair.st != .stale, 0x103), (d.awaits 0x0E03 0, 0x104)] d
    (later (0x0E03, 0) [] (if d.spliceReady then spliceBegin d else d))

/-- 0x0E04 PAIR_STATS_GET. -/
def cmdPairStatsGet : Cmd := cmdL 0x0E04 fun _ p d =>
  checks [(p.length != 0, 0x101)] d (okData ((rangeFrom 0 15).flatMap (fun k => le 4 (tget 0 d.pair.ctr k).toNat)) d)

/-- SPLICE_AUTO_START. -/
def execSpliceAutoStart (s : State) : Host.Outcome State Fault Refusal := run true spliceStart s
/-- PAIR_CONFIG. -/
def execPairConfig (r : AcpReq) (s : State) : Host.Outcome State Fault Refusal := run true (acpTake cmdPairConfig r) s
/-- PAIR_STATUS_GET. -/
def execPairStatusGet (r : AcpReq) (s : State) : Host.Outcome State Fault Refusal := run true (acpTake cmdPairStatusGet r) s
/-- PAIR_GUARD_STATUS. -/
def execPairGuardStatus (r : AcpReq) (s : State) : Host.Outcome State Fault Refusal := run true (acpTake cmdPairGuardStatus r) s
/-- PAIR_SPLICE_START. -/
def execPairSpliceStart (r : AcpReq) (s : State) : Host.Outcome State Fault Refusal := run true (acpTake cmdPairSpliceStart r) s
/-- PAIR_STATS_GET. -/
def execPairStatsGet (r : AcpReq) (s : State) : Host.Outcome State Fault Refusal := run true (acpTake cmdPairStatsGet r) s

end Sys2Proof.Machine
end

