-- ==== Sys2Proof/Machine/CmdOf.lean ====
section
/-! DEFINITION. The command that each defined opcode of the catalogue names (15 R399, Table 15.9). -/

namespace Sys2Proof.Machine

/-- 15 Table 15.9: the commands of group 0x01. -/
def cmdGroup01 : List Cmd := [cmdIdentify, cmdCapsGet, cmdEcho, cmdFuncStart, cmdFuncStop, cmdFuncStateGet,
  cmdRenderRateSet, cmdDeviceReset, cmdDiagRead, cmdRspContinue]
/-- 15 Table 15.9: the commands of group 0x02. -/
def cmdGroup02 : List Cmd := [cmdTimeGet, cmdPtpConfig, cmdTimeStep, cmdTimeSet, cmdTscSet, cmdMclkConfig,
  cmdPpsConfig, cmdTrigOutConfig, cmdTriggerSet, cmdTriggerCancel, cmdTriggerStatus]
/-- 15 Table 15.9: the commands of group 0x03. -/
def cmdGroup03 : List Cmd := [cmdNetPortConfig, cmdNetPortGet, cmdNetLinkStatus, cmdNetPreemptConfig, cmdNetStatsGet, cmdNetHalfClear,
  cmdNetWakeFilterSet, cmdNetWakePortSet, cmdNetWakeGet]
/-- 15 Table 15.9: the commands of group 0x04. -/
def cmdGroup04 : List Cmd := [cmdStreamRxConfig, cmdStreamRxGet, cmdStreamTxConfig, cmdStreamTxGet, cmdInputMapSet, cmdInputMapGet,
  cmdStreamStatsGet]
/-- 15 Table 15.9: the commands of group 0x05. -/
def cmdGroup05 : List Cmd := [cmdTdmClusterConfig, cmdTdmClusterGet, cmdMadiConfig, cmdMadiGet, cmdSapStatsGet]
/-- 15 Table 15.9: the commands of group 0x06. -/
def cmdGroup06 : List Cmd := [cmdFltEngineConfig, cmdFltEngineGet, cmdFltChanMap, cmdFltPhaseSet, cmdFltDelayGet, cmdFltCoefGet,
  cmdAsrcGroupConfig, cmdAsrcGroupStatus, cmdTdConfig, cmdTdRead]
/-- 15 Table 15.9: the commands of group 0x07. -/
def cmdGroup07 : List Cmd := [cmdLayoutConfig, cmdLayoutGet, cmdSpeakerSet, cmdSpeakerGet, cmdRouteSet, cmdTrjConfig,
  cmdKnotPush, cmdObjGainSet, cmdObjClear, cmdObjStateGet, cmdTrjStatsGet]
/-- 15 Table 15.9: the commands of group 0x08. -/
def cmdGroup08 : List Cmd := [cmdLawBind, cmdLawBindGet, cmdLawProgLoad, cmdLawProgUnload, cmdLawProgList, cmdLawTableLoad,
  cmdSchConfig, cmdSchStatusGet, cmdSchTraceRead, cmdLawEngineSet, cmdLawTestRun, cmdLawDebug,
  cmdLawStatsGet]
/-- 15 Table 15.9: the commands of group 0x09. -/
def cmdGroup09 : List Cmd := [cmdRndLaneMapSet, cmdRndLaneMapGet, cmdRndLaneStatus, cmdRndMigrate, cmdRndPathGet, cmdRndCoefGet,
  cmdRndStatsGet]
/-- 15 Table 15.9: the commands of group 0x0A. -/
def cmdGroup0A : List Cmd := [cmdCnvConfig, cmdCnvStatusGet, cmdCnvCoefBegin, cmdCnvCoefWrite, cmdCnvCoefCommit, cmdCnvCoefClear,
  cmdCnvSwitch, cmdCnvOutStatus, cmdCnvPreeqSet, cmdCnvTwiddleGet]
/-- 15 Table 15.9: the commands of group 0x0B. -/
def cmdGroup0B : List Cmd := [cmdOutConfig, cmdOutConfigGet, cmdOutTrimSet, cmdOutMuteSet, cmdOutMapSet, cmdOutMapGet,
  cmdGuardSet, cmdGuardGet, cmdOutMeterConfig, cmdOutMeterRead]
/-- 15 Table 15.9: the commands of group 0x0C. -/
def cmdGroup0C : List Cmd := [cmdScbOwnerSet, cmdScbStatusGet, cmdScbTestConfig, cmdDpStatsGet, cmdBwConfig, cmdBwGet]
/-- 15 Table 15.9: the commands of group 0x0D. -/
def cmdGroup0D : List Cmd := [cmdDrcConfig, cmdDrcStatusGet, cmdDrcFreqSet, cmdDrcTrain, cmdDrcResume, cmdDrcFreezeGet,
  cmdDrcStatsGet]
/-- 15 Table 15.9: the commands of group 0x0E. -/
def cmdGroup0E : List Cmd := [cmdPairConfig, cmdPairStatusGet, cmdPairGuardStatus, cmdPairSpliceStart, cmdPairStatsGet]
/-- 15 Table 15.9: the commands of group 0x0F. -/
def cmdGroup0F : List Cmd := [cmdHltReportGet, cmdHltLogRead, cmdHltStrikesGet, cmdHltAgeingGet, cmdHltReplanConfig]
/-- 15 Table 15.9: the commands of group 0x10. -/
def cmdGroup10 : List Cmd := [cmdPwrConfig, cmdPwrStateGet, cmdPwrDoze, cmdPwrHibernate, cmdPwrWakeRecGet]
/-- 15 Table 15.9: the commands of group 0x11. -/
def cmdGroup11 : List Cmd := [cmdStoreStatusGet, cmdStoreBlobWrite, cmdStoreBlobRead, cmdStoreCompact, cmdFwUpdateBegin, cmdFwUpdateWrite,
  cmdFwUpdateCommit]

/-- The commands of an opcode's group. -/
def cmdGroup (op : Nat) : List Cmd :=
  match op / 256 with
  | 1 => cmdGroup01
  | 2 => cmdGroup02
  | 3 => cmdGroup03
  | 4 => cmdGroup04
  | 5 => cmdGroup05
  | 6 => cmdGroup06
  | 7 => cmdGroup07
  | 8 => cmdGroup08
  | 9 => cmdGroup09
  | 10 => cmdGroup0A
  | 11 => cmdGroup0B
  | 12 => cmdGroup0C
  | 13 => cmdGroup0D
  | 14 => cmdGroup0E
  | 15 => cmdGroup0F
  | 16 => cmdGroup10
  | 17 => cmdGroup11
  | _ => []

/-- 15 R399: the command an opcode names; none where it is undefined. -/
def cmdOf (op : Nat) : Option Cmd := (cmdGroup op).find? (fun c => c.op == op)

end Sys2Proof.Machine
end

