-- ==== Sys2Proof/Machine/Work.lean ====
section
/-! DEFINITION. What the stages do once a tick has begun (01 Table 1.5), the timed commands whose boundary comes (14 R374) and the
handover of an output block (09 R255). -/

namespace Sys2Proof.Machine

/-! ## Timed commands (14 R374) -/

/-- R374: a waiting timed command at its boundary: it is checked again and applies, or is dropped. -/
def timedApply (d : Dev) (t : Timed) : Dev :=
  match batchCmd t.op with
  | none => d
  | some c =>
    let p := c.body { op := t.op, tag := t.tag, seq := t.seq, vt := d.tim.tick, blk := some t.block, slot := none, ord := t.ord, due := true } t.payload d
    if 256 ≤ p.st then d.timedDropped t 3 p.st
    else if p.dev.units == d.units then p.dev
    else p.dev.spliceAgain

/-- 01 Table 1.8: the next tick boundary is the command's. -/
def Dev.timedDue (d : Dev) (t : Timed) : Bool := decide (t.block ≤ d.tim.tick + 1 + Sys2Proof.Machine.leadOf t.op)

/-- TIMED_COMMAND_BOUNDARY: every waiting command of the coming boundary, in the order of taking (01 R32). -/
def timedBoundary (d : Dev) : Dev :=
  let due := d.hst.timed.filter d.timedDue
  if due.isEmpty then d
  else
    let d := d.advance (boundT d.rate (d.tim.tick + 1))
    due.foldl timedApply { d with hst := { d.hst with timed := d.hst.timed.filter (fun t => !d.timedDue t) } }

/-- TIMED_COMMAND_BOUNDARY. -/
def execTimedCommandBoundary (s : State) : Host.Outcome State Fault Refusal := run true timedBoundary s

/-! ## The handover of an output block (09 R253, R255) -/

/-- The time unit and the stages run. -/
def Dev.ticking (d : Dev) : Bool := d.boot.st != .reset && d.pwr.st != .doze && d.pwr.st != .hibernate

/-- OUT_BLOCK_HANDOVER: block k + 1 of tick k, once; a standby's work that still waits for its record has handed nothing over. -/
def outHandover (d : Dev) : Dev :=
  let m := d.tim.tick + 1
  if !d.ticking || d.out.block == some m || d.pair.waitRec.isSome then d else handDest m (outBlock m d)

/-- OUT_BLOCK_HANDOVER. -/
def execOutBlockHandover (s : State) : Host.Outcome State Fault Refusal := run true outHandover s

/-! ## The work of a tick -/

/-- 04 R121: the source unit of channel `c` runs over block `b`. -/
def Dev.srcLive (d : Dev) (c b : Nat) : Bool :=
  let m : Nat × Nat × Nat := tget (0, 0, 0) d.str.inmap c
  match m.1 with
  | 1 => d.liveAt 5 m.2.1 b
  | 2 => d.liveAt 7 (m.2.1 / 4) b
  | 3 => d.liveAt 8 m.2.1 b
  | _ => false

/-- 04 R119, R122: the conditioned block reaches the detectors that read a channel (SRC_KIND 0) or an auxiliary input (1). -/
def feedInTones (b : Nat) (d : Dev) : Dev :=
  forRun (fun t d =>
    let q := d.tone t
    let c := if q.srcKind = 0 then q.src else 1024 + q.src
    if q.enable ∧ q.srcKind < 2 then toneFeed t b (fitTo 16 (tget [] d.flt.cond c)) (d.srcLive c b) d else d) (d.flt.td.map Prod.fst) d

/-- 04 R107: every channel of input block `b` is conditioned. -/
def condAll (b : Nat) (d : Dev) : Dev :=
  let cs := (d.flt.inBlk.map Prod.fst ++ d.str.inmap.map Prod.fst ++ d.flt.inmap.map Prod.fst).eraseDups
  let one := fun (c : Nat) (d : Dev) => condChan c b (d.srcRate c == some (frOf d.rate)) d
  forRun one cs { d with flt := { d.flt with cond := [] } }

/-- 01 Table 1.9: what follows as a unit becomes RUNNING. -/
def unitUp (kind i : Nat) (d : Dev) : Dev := if kind = 3 then feStart i d else if 5 ≤ kind then evMismatch kind i d else d

/-- 01 Table 1.9: what follows as a unit becomes STOPPED. -/
def unitDown (kind i : Nat) (d : Dev) : Dev :=
  if kind = 2 then cnvStop d else if kind = 3 then forRun (fun g d => d.grpTo i g .idle) (rangeFrom 0 16) d else d

/-- 01 Table 1.9: an audio unit at T_k. -/
def unitTick (k key : Nat) (d : Dev) : Dev :=
  let kind := key / 4096
  let i := key % 4096
  if !kindAudio kind then d
  else
    let u := d.unit kind i
    let d := if u.st == .starting && u.startBlk.any (fun b => decide (b ≤ k)) then unitUp kind i (d.setUnit kind i { u with st := .running }) else d
    let u := d.unit kind i
    let d := if u.st == .running && u.stopBlk.any (fun b => decide (b ≤ k)) then d.setUnit kind i { u with st := .stopping } else d
    let u := d.unit kind i
    if u.st == .stopping && u.stopBlk.any (fun b => decide (b < k)) then
      unitDown kind i (d.setUnit kind i { u with st := .stopped, startBlk := none, stopBlk := none })
    else d

/-- 01 R34: the audio units at T_k. -/
def unitsTick (k : Nat) (d : Dev) : Dev :=
  let d := forRun (unitTick k) (d.units.map Prod.fst) d
  forRun (fun e d => if (d.unit 3 e).startBlk = some (k + 1) then feClear e d else d) (rangeFrom 0 6) d

/-- 17 Table 17.1: a fault met in the work on the next block: a lane's, or one of an output's memory. -/
def workFault (d : Dev) (f : LaneFault) : Dev :=
  match f with
  | .cnv s w double => if double then (cnvEcc s w true d).strike (68 + s) 0 0 else cnvEcc s w false d
  | f => laneFault f d

/-- 07 R191, R204, R205: the entries rotate for block `m`, after the lanes that take over at it. -/
def rotateTick (m : Nat) (d : Dev) : Dev :=
  let clr := fun (x : Nat × Lane) => (x.1, { x.2 with lateNow := false })
  let d : Dev := { d with rnd := { d.rnd with lane := d.rnd.lane.map clr, mute := [] } }
  let d := rotate m (takeover m (combine m d))
  { d with rnd := { d.rnd with attachAt := d.rnd.attachAt.filter (fun a => a.2.2 != some m) } }

/-- 01 Table 1.5: the stages at T_k: the conditioned block joins the delay lines, the captured one is conditioned, units change
state, entries rotate, endpoints are written, law jobs issue, and the work on block k + 1 begins with the faults it meets. -/
def tickWork (d : Dev) : Dev :=
  let k := d.tim.tick
  let fs := d.pair.waitFaults
  let d : Dev := { d with pair := { d.pair with waitRec := none, waitFaults := [] } }
  let d := clearLines k (pushLines d)
  let d := if k < 2 then d else feedInTones (k - 2) d
  let d := if k < 1 then d else condAll (k - 1) d
  let d := rotateTick (k + 1) (unitsTick k d)
  let d := migrationEnd k (cnvTick k (issueJobs (trjBlock (k + 2) d)))
  let d := planGo (fs.foldl workFault d)
  if d.pwr.timerOut && d.pwr.st == .idle && d.pwrBlock none false == 0 then d.beginEntry false else d

end Sys2Proof.Machine
end

