-- ==== Sys2Proof/Machine/Lanyard.lean ====
section
/-! DEFINITION. The Lanyard (16 16.3, 16.6): frames sent and received, their acknowledgement and resends, link state, the peer's
status and time, and what the active makes of them (16 16.5). -/

namespace Sys2Proof.Machine

/-! ## Frames (R406, Table 16.2, Table 16.3) -/

/-- Changes the PAIR block. -/
def Dev.setP (d : Dev) (p : Pair) : Dev := { d with pair := p }
/-- Table 16.8: adds 1 to a pair counter. -/
def Dev.pairCount (d : Dev) (i : Nat) : Dev := d.setP { d.pair with ctr := bump d.pair.ctr i 1 }

/-- R407: the Lanyard carries frames: its link is up, it is not retired, and the device is in MODE 1 or 2. -/
def Dev.lanyardOk (d : Dev) : Bool := d.linkUp && !d.chRet 1172 && d.pair.mode != 0

/-- R406: a new frame is sent; it is held until it is acknowledged. -/
def lkSend (typ : Nat) (p : Bytes) (d : Dev) : Dev :=
  if !d.lanyardOk then d
  else d.setP { d.pair with
    txSeq := (d.pair.txSeq + 1) % 2 ^ 32, tx := d.pair.tx ++ [{ fseq := d.pair.txSeq, typ := typ, payload := p, tries := 0 }] }

/-- R406: a frame has been received with a right CRC: it acts if it is the next in order. -/
def onFrame (fseq : Nat) (f : Dev → Dev) (d : Dev) : Dev :=
  let next := match d.pair.rxSeq with
    | none => true
    | some q => fseq == (q + 1) % 2 ^ 32
  if !d.lanyardOk || !next then d else f (d.setP { d.pair with rxSeq := some fseq })

/-- R406: frame `fseq` is sent again, at most twice; then it stays wrong, and the Lanyard takes a strike (R407). -/
def resend (fseq : Nat) (d : Dev) : Dev :=
  match d.pair.tx.find? (fun f => f.fseq == fseq) with
  | none => d
  | some f =>
    if f.tries < 2 then
      Dev.pairCount (d.setP { d.pair with tx := d.pair.tx.map (fun g => if g.fseq = fseq then { g with tries := g.tries + 1 } else g) }) 5
    else (d.setP { d.pair with tx := d.pair.tx.filter (fun g => g.fseq != fseq) }).strike 1172 0 fseq

/-- LINK_ACK (Table 16.3): frames up to `fseq` are acknowledged; `nak` other than 0 names a frame to be sent again. -/
def linkAck (fseq nak : Nat) (d : Dev) : Dev :=
  if !d.lanyardOk then d
  else
    let after := fun (f : LkFrame) => decide ((f.fseq + 2 ^ 32 - fseq - 1) % 2 ^ 32 < 2 ^ 31)
    let d := d.setP { d.pair with tx := d.pair.tx.filter after }
    if nak = 0 then d else resend nak d

/-- FRAME_RESEND_TIMEOUT (R406). -/
def resendTimeout (fseq : Nat) (d : Dev) : Dev := if d.lanyardOk then resend fseq d else d

/-- LINK_ACK. -/
def execLnkAck (fseq nak : Nat) (s : State) : Host.Outcome State Fault Refusal :=
  run (decide (fseq < 2 ^ 32) && decide (nak < 2 ^ 32)) (linkAck fseq nak) s
/-- FRAME_RESEND_TIMEOUT. -/
def execFrameResendTimeout (fseq : Nat) (s : State) : Host.Outcome State Fault Refusal :=
  run (decide (fseq < 2 ^ 32)) (resendTimeout fseq) s

/-- Table 16.3: the bytes of a frame's payload. -/
def openBytes (tick epoch base : Nat) : Bytes := le 8 tick ++ le 4 epoch ++ zb 4 ++ le 8 base
def itemFrame (order kind : Nat) (data : Bytes) : Bytes := le 4 order ++ le 1 kind ++ zb 3 ++ data
def asrcBytes (l : List (Nat × Nat × Int × Nat)) : Bytes :=
  l.flatMap (fun (x : Nat × Nat × Int × Nat) => le 1 x.1 ++ le 1 x.2.1 ++ zb 2 ++ leI 4 x.2.2.1 ++ le 8 x.2.2.2)
def patchBytes (kind id first count : Nat) (smp : List Int) : Bytes :=
  le 1 kind ++ le 1 id ++ le 1 first ++ le 1 count ++ le 2 (smp.length / count) ++ zb 2 ++ smp.flatMap (leI 4)
def guardFrame (block mask : Nat) (crcs : List Nat) : Bytes := le 8 block ++ le 4 mask ++ zb 4 ++ words crcs
def warmBytes (g : List Nat) : Bytes := g.flatMap (fun x => le 4 x ++ zb 4)
def sealBytes (tick epoch frames bytes crc : Nat) : Bytes := le 8 tick ++ le 4 epoch ++ le 4 frames ++ le 4 bytes ++ le 4 crc ++ zb 8

/-- R403: what ARB_HB toggles under, beside firmware's pair service. -/
def Dev.healthy (d : Dev) : Bool :=
  d.pair.hbEn && (d.pwr.st == .active || d.pwr.st == .idle) && d.boot.st == .ready && !d.retired 0 0 && d.tim.quality != .invalid

/-- R414: this device's STATUS frame. -/
def sendStatus (d : Dev) : Dev :=
  lkSend 0x10 (le 8 d.pair.lastCommit ++ le 1 d.pair.st.code ++ le 1 (b01 d.healthy) ++ zb 2 ++ le 4 d.pair.mmBits ++ le 8 Config.chipId) d

/-- R418: this device's TIME frame. -/
def sendTime (d : Dev) : Dev :=
  let t := d.now16
  let q := d.pair.timeRx.getD (0, 0)
  let v := fun (x : Nat) => le 8 (x / 65536) ++ le 2 (x % 65536) ++ zb 6
  if d.lanyardOk then (lkSend 0x11 (v t ++ v q.1 ++ v q.2) d).setP { (lkSend 0x11 (v t ++ v q.1 ++ v q.2) d).pair with timeTx := some t } else d

/-! ## Roles and states (R401, R419) -/

/-- R429: EV_PAIR_ROLE. -/
def evRole (kind block : Nat) (d : Dev) : Dev := d.raise 0x8E00 0 (le 1 d.pair.st.code ++ le 1 kind ++ zb 6 ++ le 8 block)

/-- R415: the active judges its standby STALE. -/
def judgeStale (d : Dev) : Dev := Dev.unreplicated (d.setP { d.pair with peerOk := false, unacked := 0 })

/-- R412, R420: the standby's state becomes unusable: it enters STALE, unless a first sample has begun a takeover. -/
def staleNow (cause : Nat) (d : Dev) : Dev :=
  if d.pair.take.isSome || d.pair.roleNext.isSome then d.setP { d.pair with staleHeld := some (d.pair.staleHeld.getD cause) } else d.goStale cause

/-- R423: the splice this device serves is over or broken off. -/
def serveEnd (d : Dev) : Dev :=
  d.setP { d.pair with serving := false, phase := 0, snap := none, warmTick := none, latched := [], caughtUp := false, bulkBytes := 0 }

/-- R423: a splice this device serves is interrupted. -/
def serveBreak (d : Dev) : Dev := if d.pair.serving then (serveEnd d).pairCount 12 else d

/-! ## STATUS (R414 to R417, R423) -/

/-- R417: a mismatch of slot `k` for block `m` is reported: the device's own CRC, and the peer's. -/
def guardMiss (k m peer : Nat) (d : Dev) : Dev :=
  let g : Guard := tget {} d.out.gs k
  let d := d.setP { d.pair with lastMm := tput false d.pair.lastMm k true, mmTick := some d.tim.tick }
  d.raise 0x8E03 k (le 1 k ++ zb 1 ++ le 2 g.out ++ le 4 g.crc.toNat ++ le 4 peer ++ zb 4 ++ le 8 m)

/-- R417: the slots a STATUS frame reports as mismatched; it carries no CRC of the peer, which is free. -/
def missBits (mm m : Nat) (d : Dev) : Dev :=
  forRun (fun k d => if mm.testBit k then
    let n := d.draw
    guardMiss k m (Config.freeWord n.1 % 2 ^ 32) n.2 else d) (rangeFrom 0 32) d

/-- R414, R415: what the active makes of a STATUS frame. -/
def activeStatus (st lastCommit mm : Nat) (d : Dev) : Dev :=
  let d := if st = 2 then d else d.setP { d.pair with both := false }
  let d :=
    if st = 5 ∨ st = 6 then
      let d := d.acknowledged lastCommit
      d.setP { d.pair with peerOk := true, acked := some lastCommit, unacked := 0 }
    else judgeStale d
  let d := missBits mm (lastCommit + 1) d
  match st with
  | 2 => if d.pair.both then d else evRole 4 (d.tim.tick + 1) (d.setP { d.pair with both := true })
  | 3 => serveBreak d
  | 4 => if d.pair.serving then d else d.setP { d.pair with serving := true, phase := 1, bulkBytes := 0, latched := [], snap := none, warmTick := none, caughtUp := false }
  | 5 => if d.pair.serving then d.setP { d.pair with phase := 3, caughtUp := d.pair.caughtUp || decide (d.pair.lastSealed ≤ lastCommit) } else d
  | 6 => if d.pair.serving then serveEnd d else d
  | _ => d

/-- STATUS (R414): the peer's state, and the record it acknowledges, also to a device that was active (R416). -/
def statusIn (lastCommit st mm chip : Nat) (d : Dev) : Dev :=
  let d := d.setP { d.pair with peerSt := st, peerId := chip }
  if d.pair.st = .active then activeStatus st lastCommit mm d
  else if st = 2 ∨ st = 5 ∨ st = 6 then d.acknowledged lastCommit
  else d

/-- STATUS. -/
def execLnkStatus (fseq lastCommit st : Nat) (_healthy : Bool) (mm chip : Nat) (s : State) : Host.Outcome State Fault Refusal :=
  run (decide (fseq < 2 ^ 32) && decide (lastCommit < 2 ^ 64) && decide (st < 8) && decide (mm < 2 ^ 32) && decide (chip < 2 ^ 64))
    (onFrame fseq (statusIn lastCommit st mm chip)) s

/-- ACK_DEADLINE (R415, R416): the acknowledgement deadline of the record last sealed. -/
def ackDeadline (d : Dev) : Dev :=
  if d.pair.st ≠ .active then d.unreplicated
  else if !d.pair.peerOk || (d.pair.serving && !d.pair.caughtUp) || d.pair.acked.any (fun a => decide (d.pair.lastSealed ≤ a)) then d
  else
    let d := (d.setP { d.pair with unacked := d.pair.unacked + 1 }).pairCount 4
    if d.pair.unacked < 2 then d else judgeStale d

/-- ACK_DEADLINE. -/
def execAckDeadline (s : State) : Host.Outcome State Fault Refusal := run true ackDeadline s

/-- MISMATCH_HOLD_EXPIRY (R404). -/
def mmExpiry (d : Dev) : Dev :=
  if d.pair.mmTick.any (fun t => decide (t + d.pair.mmHold ≤ d.tim.tick)) then d.setP { d.pair with mmTick := none } else d

/-- MISMATCH_HOLD_EXPIRY. -/
def execMismatchHoldExpiry (s : State) : Host.Outcome State Fault Refusal := run true mmExpiry s

/-! ## TIME (R418) -/

/-- R418: θ in Q24.8 ns from twice its value in 2^-16 ns. -/
def thetaOf (num : Int) : Int :=
  let v := rne num 512
  if -(2 ^ 31) ≤ v ∧ v < 2 ^ 31 then v else wrapI 32 (Config.outOfRange v)

/-- R418: one TIME frame speaks for or against the flag. -/
def timeJudge (past : Bool) (d : Dev) : Dev :=
  let n := if past = d.pair.diverged then 0 else d.pair.divRun + 1
  if n < 8 then d.setP { d.pair with divRun := n }
  else
    let d := d.setP { d.pair with divRun := 0, diverged := past }
    if past then d.pairCount 14 else d

/-- TIME (R418): a peer that has no frame to echo gives no offset. -/
def timeIn (tx peerTx peerRx rx : Nat) (d : Dev) : Dev :=
  let d := d.setP { d.pair with timeRx := some (tx, rx) }
  if d.pair.timeTx.isNone || (peerTx == 0 && peerRx == 0) then d
  else
    let num : Int := ((peerRx : Int) - peerTx) - ((rx : Int) - tx)
    timeJudge (decide ((d.pair.timeLimit : Int) * 512 < num.natAbs)) (d.setP { d.pair with offset := thetaOf num })

/-- TIME. -/
def execLnkTime (fseq tx peerTx peerRx rx : Nat) (s : State) : Host.Outcome State Fault Refusal :=
  let t := fun (x : Nat) => decide (x < 2 ^ 80)
  run (decide (fseq < 2 ^ 32) && t tx && t peerTx && t peerRx && t rx) (onFrame fseq (timeIn tx peerTx peerRx rx)) s

/-! ## The link (R406, R407, R412) -/

/-- R406: EV_PAIR_LINK. -/
def evLink (d : Dev) : Dev := d.raise 0x8E02 0 (le 1 (b01 d.linkUp) ++ le 1 d.pair.lanes ++ zb 6 ++ le 8 d.pair.peerId)

/-- LANYARD_LINK_CHANGE (R406, R407): a lane's block lock is gained or lost. -/
def laneChange (lane : Nat) (up : Bool) (d : Dev) : Dev :=
  let old := d.pair.lanes
  let n := if up then old ||| 2 ^ lane else old &&& (3 - 2 ^ lane)
  if n = old then d
  else
    let d := d.setP { d.pair with lanes := n }
    let d := if up then d else d.strike 1172 0x8E02 0
    if old = 0 then evLink (d.setP { d.pair with downTick := none })
    else if n ≠ 0 then d
    else
      let d := (d.pairCount 6).setP { (d.pairCount 6).pair with downTick := some d.tim.tick, tx := [], rxSeq := none, rcv := none, sawRec := false }
      let d := evLink d
      let d := if d.pair.st = .active then serveBreak d else d
      if d.pair.st = .bulk then staleNow 1 d else d

/-- LANYARD_LINK_CHANGE. -/
def execLanyardLinkChange (lane : Nat) (up : Bool) (s : State) : Host.Outcome State Fault Refusal :=
  run (decide (lane < 2)) (laneChange lane up) s

/-- LANYARD_ABSENT_10S (R407): both lanes have been lost for more than 10 s. -/
def lanyardAbsent (d : Dev) : Dev := if d.pair.lanes = 0 ∧ d.pair.downTick.isSome then d.retire 1172 4 else d

/-- LANYARD_ABSENT_10S. -/
def execLanyardAbsent10s (s : State) : Host.Outcome State Fault Refusal := run true lanyardAbsent s

end Sys2Proof.Machine
end

