-- ==== Sys2Proof/Machine/Records.lean ====
section
/-! DEFINITION. Tick records (16 16.4): the active seals them, the standby receives, commits or rejects them, with guarded
comparison (16 16.6) and the commit deadline. -/

namespace Sys2Proof.Machine

/-! ## The active seals a record (R408, R409) -/

/-- R408: the EPOCH of the next record: a new one, other than 0, for the first since the device became ACTIVE. -/
def Dev.recEpoch (d : Dev) : Nat := if d.pair.base.isSome then d.pair.epoch % 0xFFFFFFFF + 1 else d.pair.epoch

/-- R413: the frames of one item: its own payload above 2 KiB in BULK frames first, under a HANDLE equal to ORDER. -/
def itemFrames (x : (Nat × Bytes) × Nat) : List (Nat × Bytes) :=
  let b := x.1.2
  let h := if u8 b 3 % 2 = 1 then 40 else 24
  let own := b.length - h
  let far := x.1.1 = 0 ∧ 2048 < own
  let pcs := fun (l : Bytes) => chunks 2040 (ceilDiv l.length 2040) l
  let bulk := if far then ((pcs (b.drop h)).zipIdx).map (fun (y : Bytes × Nat) => (6, le 4 x.2 ++ le 4 (2040 * y.2) ++ y.1)) else []
  bulk ++ (pcs (if far then b.take h else b)).map (fun p => (2, itemFrame x.2 x.1.1 p))

/-- R408: ratio and fill words of every running group. -/
def Dev.asrcWords (d : Dev) : List (Nat × Nat × Int × Nat) :=
  (d.flt.grp.filter (fun (x : Nat × Group) => x.2.srcKind != 0 && x.2.st != .idle)).map
    (fun (x : Nat × Group) => (x.1 / 16, x.1 % 16, x.2.fill, x.2.ratio.toNat))

/-- R408: the unit of a source runs. -/
def Dev.srcRuns (d : Dev) (kind id : Nat) : Bool :=
  match kind with
  | 1 => (d.unit 5 id).st == .running
  | 2 => (d.unit 7 (id / 4)).st == .running
  | 3 => (d.unit 8 id).st == .running
  | _ => false

/-- R408: samples of input block `n`, one frame for each source channel or slot that an input channel names. -/
def Dev.patches (d : Dev) (n : Nat) : List (Nat × Bytes) :=
  let src := (d.str.inmap.map Prod.snd).eraseDups.filter (fun (m : Nat × Nat × Nat) => d.srcRuns m.1 m.2.1)
  src.filterMap (fun (m : Nat × Nat × Nat) =>
    match d.str.inmap.find? (fun (e : Nat × Nat × Nat × Nat) => e.2 == m) with
    | none => none
    | some e =>
      let l := tget [] d.flt.inBlk e.1
      let l := match d.srcRate e.1 with
        | some fs => fitTo (firstIdx d.rate fs (n + 1) - firstIdx d.rate fs n) l
        | none => l
      some (4, patchBytes m.1 m.2.1 m.2.2 1 l))

/-- R408, R417: the enabled slots and their CRCs for block `m`. -/
def Dev.guardRow (d : Dev) (m : Nat) : Bytes :=
  let on := fun (k : Nat) => (tget ({} : Guard) d.out.gs k).en
  guardFrame m (((rangeFrom 0 32).filter on).map (2 ^ ·)).sum ((rangeFrom 0 32).map (fun k =>
    let g : Guard := tget {} d.out.gs k
    if g.en ∧ g.block = m then g.crc.toNat else 0))

/-- R426: the limiter states of the slots' outputs. -/
def Dev.warmRow (d : Dev) : Bytes :=
  warmBytes ((rangeFrom 0 32).map (fun k => if (tget ({} : Guard) d.out.gs k).en then (d.outCh (tget ({} : Guard) d.out.gs k).out).gPrev else 0))

/-- R408, R409: the active seals the record of tick `n`. -/
def sealRecord (n : Nat) (d : Dev) : Dev :=
  let ep := d.recEpoch
  let asrc := if d.asrcWords.isEmpty then [] else [(3, asrcBytes d.asrcWords)]
  let warm := if d.pair.serving && d.pair.warmTick == some (n + 1) then [(8, d.warmRow)] else []
  let body := [(1, openBytes n ep (d.pair.base.getD (n - 1)))] ++ d.pair.items.zipIdx.flatMap itemFrames ++ asrc ++ d.patches n
    ++ [(5, d.guardRow (n + 1))] ++ warm
  let cnt := (body.filter (fun (f : Nat × Bytes) => f.1 != 6)).map Prod.snd
  let last := sealBytes n ep cnt.length (cnt.map List.length).sum (crc32 cnt.flatten)
  let d := (body ++ [(0x0F, last)]).foldl (fun d (f : Nat × Bytes) => lkSend f.1 f.2 d) d
  Dev.pairCount (d.setP { d.pair with items := [], base := none, epoch := ep, lastSealed := n }) 0

/-! ## The standby receives a record (R410, R413) -/

/-- R419, R421, R425: the device takes in records: any standby, and a new active that still waits for the last one. -/
def Dev.takesRec (d : Dev) : Bool :=
  match d.pair.st with
  | .off | .solo => false
  | .active => d.pair.waitRec.isSome
  | _ => true

/-- Table 16.3: a content frame counts in its record. -/
def Rec.add (r : Rec) (p : Bytes) : Rec := { r with frames := r.frames + 1, bytes := r.bytes + p.length, crc := crcGo r.crc p }

/-- OPEN (R408). -/
def openIn (tick epoch base : Nat) (d : Dev) : Dev :=
  if !d.takesRec then d
  else
    let r : Rec := { tick := tick, epoch := epoch, base := base, items := [], asrc := [], patch := [], guard := none, warm := none, frames := 0, bytes := 0, crc := 0xFFFFFFFF }
    d.setP { d.pair with rcv := some (r.add (openBytes tick epoch base)) }

/-- A content frame of the record being received. -/
def content (p : Bytes) (f : Rec → Rec) (d : Dev) : Dev :=
  match d.pair.rcv with
  | none => d
  | some r => if d.takesRec then d.setP { d.pair with rcv := some (f (r.add p)) } else d

/-- Table 16.3: an ITEM frame; one item's frames carry the same ORDER. -/
def Rec.item (r : Rec) (order kind : Nat) (data : Bytes) : Rec :=
  { r with items := tput (0, []) r.items order (kind, (tget (0, []) r.items order).2 ++ data) }

/-- BULK (R413): a payload ahead of its item. -/
def bulkIn (handle off : Nat) (data : Bytes) (d : Dev) : Dev :=
  let b := tget [] d.pair.bulk handle
  if d.takesRec && off == b.length then d.setP { d.pair with bulk := tput [] d.pair.bulk handle (b ++ data) } else d

/-- Bytes of an ITEM frame's own fields. -/
def dataOk (data : Bytes) : Bool := decide (data.length ≤ 2040)

/-- OPEN. -/
def execRecOpen (fseq tick epoch base : Nat) (s : State) : Host.Outcome State Fault Refusal :=
  run (decide (fseq < 2 ^ 32) && decide (tick < 2 ^ 64) && decide (epoch < 2 ^ 32) && decide (base < 2 ^ 64)) (onFrame fseq (openIn tick epoch base)) s
/-- ITEM. -/
def execRecItem (fseq order kind : Nat) (data : Bytes) (s : State) : Host.Outcome State Fault Refusal :=
  run (decide (fseq < 2 ^ 32) && decide (order < 2 ^ 32) && decide (kind < 2) && dataOk data)
    (onFrame fseq (content (itemFrame order kind data) (fun r => r.item order kind data))) s
/-- ASRC. -/
def execRecAsrc (fseq : Nat) (l : List (Nat × Nat × Int × Nat)) (s : State) : Host.Outcome State Fault Refusal :=
  run (decide (fseq < 2 ^ 32) && decide (l.length ≤ 128) && l.all (fun (x : Nat × Nat × Int × Nat) => decide (x.1 < 4) && decide (x.2.1 < 16) && decide (x.2.2.2 < 2 ^ 64)))
    (onFrame fseq (content (asrcBytes l) (fun r => { r with asrc := r.asrc ++ l }))) s
/-- PATCH. -/
def execRecPatch (fseq kind id first count : Nat) (smp : List Int) (s : State) : Host.Outcome State Fault Refusal :=
  run (decide (fseq < 2 ^ 32) && decide (1 ≤ kind) && decide (kind ≤ 3) && decide (id < 256) && decide (first < 256) && decide (1 ≤ count) && decide (count < 256)
      && decide (smp.length ≤ 510) && smp.length % count == 0)
    (onFrame fseq (content (patchBytes kind id first count smp) (fun r => { r with patch := r.patch ++ [(kind, id, first, count, smp)] }))) s
/-- GUARD. -/
def execRecGuard (fseq block mask : Nat) (crcs : List Nat) (s : State) : Host.Outcome State Fault Refusal :=
  run (decide (fseq < 2 ^ 32) && decide (block < 2 ^ 64) && decide (mask < 2 ^ 32) && crcs.length == 32 && crcs.all (fun c => decide (c < 2 ^ 32)))
    (onFrame fseq (content (guardFrame block mask crcs) (fun r => { r with guard := some (block, mask, crcs) }))) s
/-- BULK. -/
def execRecBulk (fseq handle off : Nat) (data : Bytes) (s : State) : Host.Outcome State Fault Refusal :=
  run (decide (fseq < 2 ^ 32) && decide (handle < 2 ^ 32) && decide (off < 2 ^ 32) && dataOk data) (onFrame fseq (bulkIn handle off data)) s
/-- WARM. -/
def execRecWarm (fseq : Nat) (g : List Nat) (s : State) : Host.Outcome State Fault Refusal :=
  run (decide (fseq < 2 ^ 32) && g.length == 32 && g.all (fun x => decide (x < 2 ^ 32)))
    (onFrame fseq (content (warmBytes g) (fun r => { r with warm := some g }))) s

/-! ## Committing (R411) -/

/-- R411: a knot, or a command with the active's status, applies as validated in tick `n`; its tag enters the tag table. -/
def itemApply (n : Nat) (d : Dev) (it : Nat × Bytes) : Dev :=
  let b := it.2
  if it.1 = 1 then
    match recApply n (recOf b) (d, {}) with
    | some (d, c) => d.knotCount c
    | none => d
  else
    let op := u16 b 0
    let tag := u8 b 2
    let seq := u32 b 8
    let timed := u8 b 3 % 2 = 1
    let own := b.drop (if timed then 40 else 24)
    let j := blockAt d.rate (u64 b 24 * 65536 + u16 b 32)
    let d : Dev := { d with hst := { d.hst with ord := d.hst.ord + 1 } }
    let d : Dev := match cmdOf op with
      | none => d
      | some c =>
        if timed ∧ op ≠ 0x0A20 then
          let o := u16 own 0
          let d : Dev := if op = 0x0711 then d.setObj o { d.obj o with gainVal := s32 own 4 } else d
          { d with hst := { d.hst with timed := d.hst.timed ++ [{ ord := d.hst.ord, op := op, tag := tag, seq := seq, block := j, payload := own }] } }
        else
          let p := c.body { op := op, tag := tag, seq := seq, vt := n, blk := if timed then some j else none, slot := none, ord := d.hst.ord } own d
          if p.st < 256 then p.dev else d
    d.tagDone op tag seq (u16 b 16) 2

/-- R411: patch samples replace the device's own; a channel-block that differed counts in PATCH_DIFF. -/
def patchApply (d : Dev) (p : Nat × Nat × Nat × Nat × List Int) : Dev :=
  let kind := p.1
  let id := p.2.1
  let first := p.2.2.1
  let count := p.2.2.2.1
  let smp := p.2.2.2.2
  let mine := d.str.inmap.filter (fun (e : Nat × Nat × Nat × Nat) => e.2.1 == kind && e.2.2.1 == id && decide (first ≤ e.2.2.2) && decide (e.2.2.2 < first + count))
  mine.foldl (fun d (e : Nat × Nat × Nat × Nat) =>
    let v := (rangeFrom 0 (smp.length / count)).map (fun s => smp.getD (s * count + (e.2.2.2 - first)) 0)
    let v := if v.all (· == 0) then [] else v
    if tget [] d.flt.inBlk e.1 = v then d
    else Dev.pairCount { d with flt := { d.flt with inBlk := tput [] d.flt.inBlk e.1 v } } 7) d

/-- R411: the ratio and fill words of a group for the tick in progress. -/
def asrcApply (d : Dev) (x : Nat × Nat × Int × Nat) : Dev :=
  let g : Group := d.grp x.1 x.2.1
  d.setGrp x.1 x.2.1 { g with fill := x.2.2.1, ratio := BitVec.ofNat 64 x.2.2.2 }

/-- R417: the CRC of slot `k` of a GUARD frame is compared with the device's own. -/
def guardCmp (block mask : Nat) (crcs : List Nat) (k : Nat) (d : Dev) : Dev :=
  let g : Guard := tget {} d.out.gs k
  if !mask.testBit k || !g.en || g.block != block then d
  else
    let peer := crcs.getD k 0
    let d := d.pairCount 8
    let d := d.setP { d.pair with peerCrc := tput 0 d.pair.peerCrc k peer, lastMm := tput false d.pair.lastMm k false }
    if peer = g.crc.toNat then d
    else
      let d := d.pairCount 9
      guardMiss k block peer (d.setP { d.pair with mm := bump d.pair.mm k 1, mmBlock := tput 0 d.pair.mmBlock k block, mmBits := d.pair.mmBits + 2 ^ k })

/-- R417: every slot of the record is compared. -/
def guardAll (r : Rec) (d : Dev) : Dev :=
  match r.guard with
  | some (block, mask, crcs) => if block = r.tick + 1 then forRun (guardCmp block mask crcs) (rangeFrom 0 32) d else d
  | none => d

/-- R426: record W − 1 ends the re-warming: the limiter states are loaded, the device follows, and the splice is reported. -/
def warmDone (s w : Nat) (r : Rec) (d : Dev) : Dev :=
  let d := match r.warm with
    | none => d
    | some g => forRun (fun k d =>
        let x : Guard := tget {} d.out.gs k
        if x.en then d.setOut x.out { d.outCh x.out with gPrev := g.getD k 0 } else d) (rangeFrom 0 32) d
  let d := (d.setPair .following).pairCount 11
  let d := d.raise 0x8E04 0 (le 2 0 ++ zb 2 ++ le 4 (d.pair.bulkBytes / 1024) ++ le 8 s ++ le 8 w)
  Dev.finish (d.setP { d.pair with phase := 0, snap := none, warmTick := none, bulkBytes := 0 }) 0x0E03 0 0 (le 8 s ++ le 8 w)

/-- R411, R414: a record is committed. In a burst of buffered records (R425) the input blocks have passed. -/
def recCommit (burst : Bool) (r : Rec) (d : Dev) : Dev :=
  let was := d.pair.st
  let d := (r.items.map Prod.snd).foldl (itemApply r.tick) d
  let d := if burst then d else r.patch.foldl patchApply d
  let d := r.asrc.foldl asrcApply d
  let d := d.setP { d.pair with
    lastCommit := r.tick, epoch := r.epoch, epochNew := false, missed := 0, mmBits := 0, base := if was = .active then some r.tick else d.pair.base }
  let d := d.pairCount 1
  let d := if was = .following then guardAll r d else d
  let d := d.setP { d.pair with caughtUp := d.pair.caughtUp || decide (d.tim.tick ≤ r.tick + 1) }
  let d := match was, d.pair.snap, d.pair.warmTick with
    | .rewarming, some s, some w => if r.tick + 1 = w then warmDone s w r d else d
    | _, _, _ => d
  sendStatus d

/-- R410, R421, R425: the record follows the last one committed, in its epoch. -/
def Dev.recNext (d : Dev) (r : Rec) : Bool := (r.epoch == d.pair.epoch || d.pair.epochNew) && r.base == d.pair.lastCommit

/-- R410, R412: a record is discarded; where no work waits for it, it is also missed. -/
def recReject (d : Dev) : Dev :=
  let d := (d.pairCount 3).setP { (d.pairCount 3).pair with rejected := true }
  let d := if d.pair.waitRec.isNone then d.pairCount 2 else d
  if d.pair.st = .active then d else staleNow 2 d

/-- R413: an item with its payload received ahead of it. -/
def itemWhole (bulk : Tbl Bytes) (x : Nat × (Nat × Bytes)) : Nat × (Nat × Bytes) :=
  if x.2.1 = 0 ∧ x.2.2.length < 24 + u32 x.2.2 4 then (x.1, (0, x.2.2 ++ tget [] bulk x.1)) else x

/-- R410: TICK, FRAMES, BYTES and CRC of SEAL match what has been received. -/
def Rec.matches (r : Rec) (tick epoch frames bytes crc : Nat) : Bool :=
  r.tick == tick && r.epoch == epoch && r.frames == frames && r.bytes == bytes && (r.crc ^^^ 0xFFFFFFFF) == crc

/-- SEAL (R410, R423, R425): the record is committed, kept for the snapshot, seen, or rejected; work that waits for it begins. -/
def sealIn (tick epoch frames bytes crc : Nat) (d : Dev) : Dev :=
  if !d.takesRec then d
  else
    let whole := d.pair.rcv.map (fun (r : Rec) => { r with items := r.items.map (itemWhole d.pair.bulk) })
    let d := d.setP { d.pair with rcv := none, bulk := [] }
    let good := whole.filter (fun r => r.matches tick epoch frames bytes crc)
    match d.pair.st, good with
    | .stale, some _ => d.setP { d.pair with sawRec := true }
    | .bulk, some r => d.setP { d.pair with recBuf := d.pair.recBuf ++ [r] }
    | .stale, none => d
    | .bulk, none => d
    | _, none => recReject d
    | st, some r =>
      let late := st == .rewarming && !d.pair.caughtUp
      let now := if late then true else r.tick + 1 == d.tim.tick && d.pair.waitRec == some r.tick
      if d.recNext r && now then
        let d := recCommit late r d
        if d.pair.waitRec.isSome then tickWork d else d
      else recReject d

/-- SEAL. -/
def execRecSeal (fseq tick epoch frames bytes crc : Nat) (s : State) : Host.Outcome State Fault Refusal :=
  run (decide (fseq < 2 ^ 32) && decide (tick < 2 ^ 64) && decide (epoch < 2 ^ 32) && decide (frames < 2 ^ 32) && decide (bytes < 2 ^ 32) && decide (crc < 2 ^ 32))
    (onFrame fseq (sealIn tick epoch frames bytes crc)) s

/-! ## The commit deadline (R410, R412) -/

/-- R411: every group estimates its own ratio in a tick no record supplies. -/
def grpOwn (d : Dev) : Dev := forRun (fun i d => grpTick (i / 16) (i % 16) false d) (d.flt.grp.map Prod.fst) d

/-- COMMIT_DEADLINE: C_n passes. The work that waited begins without the record; a standby in LAPSE enters STALE at the second. -/
def commitDeadline (d : Dev) : Dev :=
  if d.pair.waitRec.isSome then
    let d := d.pairCount 2
    let d := if d.pair.st = .following ∨ d.pair.st = .rewarming then (d.setP { d.pair with missed := 1 }).setPair .lapse else d
    tickWork (grpOwn d)
  else if d.pair.st = .lapse ∧ d.pair.lastCommit + 3 ≤ d.tim.tick ∧ d.pair.staleHeld = none then
    staleNow (if d.pair.rejected then 2 else 0) (d.pairCount 2)
  else d

/-- COMMIT_DEADLINE. -/
def execCommitDeadline (s : State) : Host.Outcome State Fault Refusal := run true commitDeadline s

end Sys2Proof.Machine
end

