-- ==== Sys2Proof/Machine/Splice.lean ====
section
/-! DEFINITION. The splice (16 16.8): its sections loaded by the standby, the snapshot latched by the active, and the way to
REWARMING. -/

namespace Sys2Proof.Machine

/-! ## The active (R424, R425) -/

/-- Table 16.7: W_S. -/
def warmTicks (rate : Nat) : Nat := if rate < 2 then 2560 else 3072

/-- SPLICE_BULK_DONE (R425): the active fixes the snapshot tick S. -/
def bulkDone (d : Dev) : Dev :=
  if d.pair.st = .active ∧ d.pair.serving ∧ d.pair.phase = 1 then d.setP { d.pair with phase := 2, snap := some (d.tim.tick + 1) } else d

/-- SPLICE_BULK_DONE. -/
def execSpliceBulkDone (s : State) : Host.Outcome State Fault Refusal := run true bulkDone s

/-- SPLICE_SNAPSHOT (R425): at T_S the active latches sections 9 to 12 and fixes W. -/
def snapLatch (d : Dev) : Dev :=
  match d.pair.snap with
  | none => d
  | some s =>
    if d.pair.st ≠ .active ∨ d.pair.phase ≠ 2 ∨ d.tim.tick + 1 < s ∨ ¬ d.pair.latched.isEmpty then d
    else d.setP { d.pair with
      latched := [.units s d.recEpoch d.units, .objects d.trj, .live d.out d.cnv.out, .host d.tim.slots d.hst.timed d.hst.tags]
      warmTick := some (s + warmTicks d.rate) }

/-- SPLICE_SNAPSHOT. -/
def execSpliceSnapshot (s : State) : Host.Outcome State Fault Refusal := run true snapLatch s

/-! ## Sections 1 to 8 (R424, Table 16.6) -/

/-- Section 1: the render rate and the lane map. -/
def loadRate (code : Nat) (map : Tbl Nat) (d : Dev) : Dev :=
  let d := if code = d.rate then d else rateSet code d
  { d with rnd := { d.rnd with map := map, path := if map = d.rnd.map then d.rnd.path else [] } }

/-- Section 2: layouts, loudspeakers, bindings and TRJ_CONFIG; the count of jobs is the device's own. -/
def loadLayouts (t : Trj) (b : Tbl Bind) (d : Dev) : Dev :=
  let lay := forRun (fun k (l : Tbl Layout) =>
    let x : Layout := tget {} t.lay k
    tput {} l k { x with jobs := (d.layout k).jobs }) (rangeFrom 0 32) []
  { d with
    trj := { d.trj with lay := lay, spk := t.spk, fold := t.fold }
    sch := { d.sch with bind := b } }

/-- Section 3: the customer programs, in every engine. -/
def loadLaws (p : Tbl (Option Prog)) (code : Tbl (BitVec 64)) (x y : Tbl W32) (d : Dev) : Dev :=
  let d := forRun (fun e d => d.setEng e { d.eng e with prog := code, x := x, y := y }) (rangeFrom 0 8) d
  { d with sch := { d.sch with prog := p } }

/-- Section 4: owners, the contents of the banks LAW owns, and the windows. -/
def loadBanks (b : Scb) (d : Dev) : Dev :=
  let d := forRun (fun n d =>
    let x : SBank := tget {} b.bank n
    let o := d.bank n
    d.setBank n (if x.owner = .law then { o with owner := .law, pending := none, words := x.words, gen := x.gen } else { o with owner := x.owner, pending := none })) (rangeFrom 0 16) d
  { d with scb := { d.scb with bwBase := b.bwBase, bwLen := b.bwLen } }

/-- Section 5: filter engines, maps, phases and groups; states and counters are the device's own. -/
def loadFlt (f : Flt) (d : Dev) : Dev :=
  let d := forRun (fun e d =>
    let x := tget (feDflt e) f.fe e
    d.setFe e { d.fe e with kind := x.kind, profile := x.profile, align := x.align, slots := x.slots }) (rangeFrom 0 6) d
  let d := forRun (fun i d =>
    let x : Group := tget {} f.grp i
    d.setGrp (i / 16) (i % 16) { d.grp (i / 16) (i % 16) with srcKind := x.srcKind, srcId := x.srcId, rate := x.rate, first := x.first, count := x.count })
    (rangeFrom 0 64) d
  { d with flt := { d.flt with inmap := f.inmap, outmap := f.outmap, inphase := f.inphase, outphase := f.outphase } }

/-- Section 6: streams, clusters, ports, and the maps of inputs and outputs; states and counters are the device's own. -/
def loadPorts (s : Str) (p : Sap) (o : Out) (d : Dev) : Dev :=
  let d := forRun (fun r d =>
    let x : RxStr := tget {} s.rx r
    d.setRx r { d.rx r with
      payload := x.payload, rate := x.rate, ptime := x.ptime, chans := x.chans, timing := x.timing, conceal := x.conceal, pt := x.pt
      link := x.link, tsOff := x.tsOff, legA := x.legA, legB := x.legB, pool := x.pool }) (rangeFrom 0 256) d
  let d := forRun (fun t d =>
    let x : TxStr := tget {} s.tx t
    d.setTx t { d.tx t with
      format := x.format, rate := x.rate, ptime := x.ptime, chans := x.chans, dscp := x.dscp, ttl := x.ttl, pt := x.pt, ssrc := x.ssrc
      seqBase := x.seqBase, tsOff := x.tsOff, legA := x.legA, legB := x.legB }) (rangeFrom 0 256) d
  let d := forRun (fun c d =>
    let x : Tdm := tget {} p.tc c
    d.setTc c { d.tc c with
      role := x.role, rate := x.rate, slots := x.slots, slotBits := x.slotBits, wordBits := x.wordBits, flags := x.flags, dir := x.dir, lag := x.lag })
    (rangeFrom 0 10) d
  let d := forRun (fun m d =>
    let x : Madi := tget {} p.madi m
    d.setMadi m { d.madi m with mode := x.mode, rate := x.rate, role := x.role, lag := x.lag, txEn := x.txEn, rxEn := x.rxEn }) (rangeFrom 0 8) d
  { d with
    str := { d.str with inmap := s.inmap }
    out := { d.out with tx := o.tx, tdm := o.tdm, madi := o.madi } }

/-- Section 7: the configuration of outputs, the guarded slots and the pre-equalisation tables. -/
def loadOuts (o : Out) (pq : Tbl (List Int)) (d : Dev) : Dev :=
  let d := forRun (fun s d =>
    let x : OutCh := tget {} o.ch s
    d.setOut s { d.outCh s with
      polarity := x.polarity, limEn := x.limEn, pilotEn := x.pilotEn, dither := x.dither, width := x.width, delay := x.delay, ceil := x.ceil
      release := x.release, pfreq := x.pfreq, pamp := x.pamp, seed := x.seed }) (rangeFrom 0 512) d
  let gs := forRun (fun k (t : Tbl Guard) =>
    let x : Guard := tget {} o.gs k
    let g : Guard := tget {} d.out.gs k
    tput {} t k { g with out := x.out, en := x.en }) (rangeFrom 0 32) d.out.gs
  { d with
    out := { d.out with gs := gs }
    cnv := { d.cnv with preeq := pq } }

/-- R424: a READY bank whose T2 spectra cannot be read or written is left INCOMPLETE. -/
def bankHere (s : Nat) (b : Bool) (d : Dev) : Dev :=
  let x := (d.cnvo s).bank b
  if x.st = .ready ∧ d.needsT2 x ∧ (¬ d.cnv.t2In ∨ x.t2Lost) then
    Dev.raise (d.setCnvo s ((d.cnvo s).setBank b { x with st := .incomplete, t2Lost := true })) 0x8A01 255 (le 2 s ++ le 1 (b01 b) ++ zb 1)
  else d

/-- Section 8: coefficient banks. -/
def loadCnv (c : Tbl CnvOut) (d : Dev) : Dev :=
  forRun (fun s d =>
    let x : CnvOut := tget {} c s
    bankHere s true (bankHere s false (d.setCnvo s { d.cnvo s with a := x.a, b := x.b }))) ((keysOf c d.cnv.out)) d

/-! ## The snapshot (R425, sections 9 to 12) -/

/-- Section 9: an audio unit takes the active's state, but for one of the device's own that is RETIRED. -/
def loadUnit (tick key : Nat) (u : FUnit) (d : Dev) : Dev :=
  let kind := key / 4096
  let i := key % 4096
  let o := d.unit kind i
  if !kindAudio kind || o.st == .retired then d
  else
    let started := o.st == .stopped && u.st != .stopped && u.st != .retired
    let d := d.setUnit kind i (if u.st = .retired then { u with st := .stopped, startBlk := none, stopBlk := none, retBlk := none } else u)
    match started, u.startBlk with
    | true, some j =>
      let d := mediaStart kind i j d
      if kind ≠ 6 then d
      else
        let x := d.tx i
        d.setTx i { x with nextP := x.nextP.map (fun p => max p (ceilDiv (firstIdx d.rate (ioRate x.rate) tick) (ptimeS x.ptime x.rate))) }
    | _, _ => d

/-- Section 9. -/
def loadUnits (us : Tbl FUnit) (d : Dev) : Dev :=
  forRun (fun key d => loadUnit d.tim.tick key (tget {} us key) d) (keysOf us d.units) d

/-- Section 10: knot queues, live gains and routing words. -/
def loadObjects (t : Trj) (d : Dev) : Dev :=
  let d := forRun (fun o d =>
    let x : Obj := tget {} t.obj o
    d.setObj o { d.obj o with queue := x.queue, gain := x.gain, gainVal := x.gainVal, jumps := x.jumps }) (keysOf t.obj d.trj.obj) d
  { d with trj := { d.trj with route := t.route } }

/-- Section 11: trims, mutes, selections, fades and queued requests. -/
def loadLive (o : Out) (c : Tbl CnvOut) (d : Dev) : Dev :=
  let d := forRun (fun s d =>
    let x : OutCh := tget {} o.ch s
    d.setOut s { d.outCh s with trim := x.trim, trimWas := x.trimWas, mute := x.mute, m := x.m }) (keysOf o.ch d.out.ch) d
  forRun (fun s d =>
    let x : CnvOut := tget {} c s
    d.setCnvo s { d.cnvo s with sel := x.sel, fade := x.fade, queued := x.queued }) (keysOf c d.cnv.out) d

/-- Section 12: slots armed for an audio action, waiting timed commands and the tag table; the device's other slots are its own. -/
def loadHost (sl : Tbl Slot) (timed : List Timed) (tags : Tbl TagRec) (d : Dev) : Dev :=
  let d := forRun (fun m d =>
    let x : Slot := tget {} sl m
    let o := d.slot m
    if x.armed && audioAction x.action then d.setSlot m x
    else if o.armed && audioAction o.action then d.setSlot m { o with armed := false, leadBegun := false }
    else d) (rangeFrom 0 32) d
  { d with hst := { d.hst with timed := timed, tags := tags } }

/-- R425: a section of the snapshot is loaded; section 9 names S, its epoch and W. -/
def loadSnap (d : Dev) (x : SpliceData) : Dev :=
  match x with
  | .units s ep us =>
    let d := loadUnits us d
    d.setP { d.pair with snap := some s, warmTick := some (s + warmTicks d.rate), lastCommit := s - 1, epoch := ep }
  | .objects t => loadObjects t d
  | .live o c => loadLive o c d
  | .host sl t g => loadHost sl t g d
  | _ => d

/-- R425: the buffered records from S on are committed in order, as far as they follow one another. -/
def burst : List Rec → Dev → Dev
  | [], d => d
  | r :: rs, d => if d.recNext r then burst rs (recCommit true r d) else d

/-- R425: the snapshot is complete: it is loaded, every entry is to rotate cold, and the standby follows records. -/
def snapLoad (d : Dev) : Dev :=
  let secs := d.pair.latched
  let recs := d.pair.recBuf
  let d := secs.foldl loadSnap (d.setP { d.pair with latched := [], snapGot := 0, recBuf := [], phase := 3, caughtUp := false })
  let d : Dev := { d with rnd := { d.rnd with coldAll := true } }
  burst (recs.filter (fun r => decide (d.pair.lastCommit < r.tick))) (d.setPair .rewarming)

/-- Table 16.6: the section's number, from 1. -/
def SpliceData.number : SpliceData → Nat
  | .rate _ _ => 1
  | .layouts _ _ => 2
  | .laws _ _ _ _ => 3
  | .banks _ => 4
  | .flt _ => 5
  | .ports _ _ _ => 6
  | .outs _ _ => 7
  | .cnv _ => 8
  | .units _ _ _ => 9
  | .objects _ => 10
  | .live _ _ => 11
  | .host _ _ _ => 12

/-- R424: a bulk section is loaded as the configuration of the device's own units. -/
def loadBulk (x : SpliceData) (d : Dev) : Dev :=
  match x with
  | .rate c m => loadRate c m d
  | .layouts t b => loadLayouts t b d
  | .laws p c x y => loadLaws p c x y d
  | .banks b => loadBanks b d
  | .flt f => loadFlt f d
  | .ports s p o => loadPorts s p o d
  | .outs o q => loadOuts o q d
  | .cnv c => loadCnv c d
  | _ => d

/-- SPLICE (R424, R425): a section arrives; those of the snapshot are held until all four have come. -/
def spliceIn (size : Nat) (x : SpliceData) (d : Dev) : Dev :=
  if d.pair.st ≠ .bulk then d
  else
    let d := d.setP { d.pair with bulkBytes := d.pair.bulkBytes + size }
    let n := x.number
    if n ≤ 8 then loadBulk x d
    else
      let got := d.pair.snapGot ||| 2 ^ n
      let d := d.setP { d.pair with phase := 2, snapGot := got, latched := if d.pair.snapGot.testBit n then d.pair.latched else d.pair.latched ++ [x] }
      if got = 0x1E00 then snapLoad d else d

/-- SPLICE. -/
def execRecSplice (fseq size : Nat) (x : SpliceData) (s : State) : Host.Outcome State Fault Refusal :=
  run (decide (fseq < 2 ^ 32) && decide (size < 2 ^ 32)) (onFrame fseq (spliceIn size x)) s

end Sys2Proof.Machine
end

