-- ==== Sys2Proof/Machine/Tick.lean ====
section
/-! DEFINITION. A tick boundary: the roles of the pair (16 16.1, 16.2, 16.7) and the work that falls on T_k (01 R22, Table 1.5). -/

namespace Sys2Proof.Machine

/-! ## Modes and roles (R400 to R405, R419 to R421) -/

/-- R400, R428: a new MODE takes effect; a waiting PAIR_SPLICE_START completes. -/
def modeApply (m : Nat) (d : Dev) : Dev :=
  let was := d.pair.st
  let d := serveBreak (d.finish 0x0E03 0 0x103 [])
  let d := d.setP { d.pair with
    mode := m, modeNext := none, take := none, roleNext := none, first := none, role := if m = 2 then some false else none
    fullFrom := none, fadeIn := none, staleHeld := none }
  let d := if was = .stale ∧ m ≠ 1 then d.evStale 0 3 else d
  let idle := fun (d : Dev) => d.setP { d.pair with
    phase := 0, snap := none, warmTick := none, rcv := none, recBuf := [], bulk := [], latched := [], snapGot := 0, sawRec := false, rejected := false
    caughtUp := false, peerOk := false, both := false, items := [], base := none }
  match m with
  | 0 => (idle d).setPair .off
  | 2 => ((idle d).setP { (idle d).pair with soloOn := false }).setPair .solo
  | _ => d

/-- R408, R421: the device becomes ACTIVE and is to open a new epoch. -/
def goActive (kind base block : Nat) (d : Dev) : Dev :=
  let d := Dev.finish d 0x0E03 0 0x103 []
  let d := d.setP { d.pair with
    base := some base, items := [], peerOk := false, acked := none, unacked := 0, phase := 0, snap := none, warmTick := none, recBuf := []
    bulk := [], latched := [], snapGot := 0, caughtUp := false, sawRec := false, rejected := false, missed := 0, staleHeld := none
    fullFrom := none, fadeIn := none, both := false, serving := false }
  evRole kind block (d.setPair .active)

/-- R402: the first role, from two samples that agree. -/
def firstRole (k : Nat) (high : Bool) (d : Dev) : Dev :=
  let d := d.setP { d.pair with first := none, role := some high }
  if high then goActive 5 0 (k - 1) d
  else
    let d := (d.setP { d.pair with sawRec := false, rejected := false, missed := 0 }).setPair .stale
    evRole 5 0 (d.pairCount 13)

/-- R420, R421, Table 16.5: the role of the device changes at T_k; the last block of the old active is k − 1. -/
def roleApply (k : Nat) (high : Bool) (kind : Nat) (d : Dev) : Dev :=
  let was := d.pair.st
  let d := d.setP { d.pair with roleNext := none, role := some high }
  match was, high with
  | .solo, true => (evRole 2 (k - 1) (d.setP { d.pair with soloOn := true })).pairCount 10
  | .solo, false => d.setP { d.pair with soloOn := false }
  | .active, false =>
    let d := serveEnd d
    let d := d.setP { d.pair with
      lastCommit := d.pair.lastSealed, epochNew := true, peerOk := false, both := false, items := [], base := none, rcv := none, bulk := []
      missed := 0, rejected := false, caughtUp := true }
    evRole 3 (k - 1) (d.setPair .following)
  | _, true =>
    let d := (goActive kind d.pair.lastCommit (k - 1) d).pairCount 10
    if was = .following then d.setP { d.pair with waitRec := some (k - 1) } else d
  | _, false => d

/-- R405, R420: a first sample shows a change: a standby begins to render every output for the next block. -/
def takeBegin (k : Nat) (high : Bool) (d : Dev) : Dev :=
  let kind := match d.pair.st with
    | .solo => 2
    | .following | .lapse => 0
    | _ => 1
  let d := d.setP { d.pair with take := some (high, if high then kind else 3) }
  if d.standby then d.setP { d.pair with fullFrom := some (k + 1), fadeIn := some (k + 1, kind == 1) } else d

/-- R420: the change is not confirmed: the full render is given up, and a STALE held back follows. -/
def takeDrop (d : Dev) : Dev :=
  let d := d.setP { d.pair with take := none, fullFrom := none, fadeIn := none }
  match d.pair.staleHeld with
  | some c => d.goStale c
  | none => d

/-- R422: the confirming sample of a takeover; a warm one places the backlog of the guarded streams. -/
def takeConfirm (k : Nat) (t : Bool × Nat) (d : Dev) : Dev :=
  let d := d.setP { d.pair with take := none, roleNext := some t }
  if t.2 = 0 then forRun (txBacklog (k - 16) (k - 1)) (d.str.tx.map Prod.fst) d else d

/-- R405: the sample at T_k, against the role taken. -/
def sampleRole (k : Nat) (arb : Bool) (d : Dev) : Dev :=
  match d.pair.role, d.pair.take with
  | none, _ => if d.pair.first = some arb then firstRole k arb d else d.setP { d.pair with first := some arb }
  | some _, some t => if t.1 = arb then takeConfirm k t d else takeDrop d
  | some r, none => if r = arb then d else takeBegin k arb d

/-- R412, R415: what a link that has been down for 2 ticks does at T_k. -/
def linkAge (k : Nat) (d : Dev) : Dev :=
  match d.pair.downTick with
  | none => d
  | some t =>
    if d.pair.st = .active ∧ t + 2 ≤ k then judgeStale d
    else match d.pair.st with
      | .bulk | .rewarming | .following | .lapse => if t + 2 < k ∧ d.pair.staleHeld = none then staleNow 1 d else d
      | _ => d

/-- The pair at T_k: MODE, the sample of ARB_ACT, the role change due, and the age of a lost link. -/
def pairBoundary (k : Nat) (arb : Bool) (d : Dev) : Dev :=
  let d := match d.pair.modeNext with
    | some m => modeApply m d
    | none => d
  let d := d.setP { d.pair with act := arb, sample := arb }
  if d.pair.mode = 0 then d
  else
    let d := match d.pair.roleNext with
      | some t => roleApply k t.1 t.2 d
      | none => sampleRole k arb d
    linkAge k d

/-! ## What falls between two boundaries (01 Table 1.8, 02 R69) -/

/-- What the end of the tick in progress brings where no command has brought it before T_k: the commit deadline, the handover,
the timed commands, the snapshot and the leads of trigger slots. -/
def tickEnd (d : Dev) : Dev :=
  let k := d.tim.tick + 1
  let d := if d.pair.waitRec.isSome then commitDeadline d else d
  let d := outHandover d
  let d := if d.pair.phase = 2 ∧ d.pair.st = .active then snapLatch d else d
  let lead := fun (m : Nat) (d : Dev) =>
    let x := d.slot m
    if x.armed && audioAction x.action && !x.leadBegun && decide (x.block d.rate ≤ k + 2) then trigLead m d else d
  let fire := fun (m : Nat) (d : Dev) =>
    let x := d.slot m
    if x.armed && audioAction x.action && x.leadBegun && decide (x.block d.rate ≤ k) then trigFire m d else d
  let d := forRun fire (d.tim.slots.map Prod.fst) (forRun lead (d.tim.slots.map Prod.fst) d)
  let d := timedBoundary (jobDeadline d)
  if d.pair.st = .lapse then commitDeadline d else d

/-- 01 R32: settings of blocks that have passed keep no place in the order of taking. -/
def forget (k : Nat) (d : Dev) : Dev :=
  { d with hst := { d.hst with lastSet := d.hst.lastSet.filter (fun (x : Nat × Option (Nat × Nat)) => match x.2 with
    | some y => decide (k + 1 < y.1)
    | none => false) } }

/-- R403: ARB_HB toggles. -/
def heartbeat (served : Bool) (d : Dev) : Dev := if d.healthy && served then d.setP { d.pair with hb := !d.pair.hb } else d

/-- R414, R418: the frames of each tick; a standby that waits for its record sends STATUS with the commit. -/
def tickFrames (d : Dev) : Dev :=
  if d.pair.mode = 0 then d
  else
    let d := if d.pair.waitRec.isSome then d else sendStatus (d.setP { d.pair with mmBits := 0 })
    sendTime d

/-- R411: the work of T_k waits for the record of the tick that ended. -/
def Dev.waits (d : Dev) : Bool :=
  d.pair.waitRec.isSome || ((d.pair.st == .following || (d.pair.st == .rewarming && d.pair.caughtUp)) && d.pair.lastCommit + 1 != d.tim.tick)

/-- TICK_BOUNDARY (01 R22, R23, Table 1.5): T_k. Input block k − 1 is captured, its record is sealed, the pair acts on ARB_ACT,
the packets of block k − 1 leave, block k is emitted, and the stages begin their work. -/
def tickGo (i : TickIn) (d : Dev) : Dev :=
  let k := d.tim.tick + 1
  let d := tickEnd d
  let d := d.advance (boundT d.rate k)
  let d : Dev := { d with tim := { d.tim with tick := k } }
  let fresh := (d.flt.grp.map Prod.fst).map (fun g => (g, d.grpFresh (g / 16) (g % 16)))
  let d := capture (k - 1) i.tdm d
  let d := fresh.foldl (fun d (g : Nat × Bool) => grpTick (g.1 / 16) (g.1 % 16) g.2 d) d
  let d := if d.pair.st = .active then sealRecord (k - 1) d else d
  let d := pairBoundary k i.arb d
  let d := forRun (txDue (k - 1)) (d.str.tx.map Prod.fst) d
  let d := countMismatch { d with out := { d.out with emit := if d.emitsNow then d.out.dest else [] } }
  let wait := d.waits
  let d := d.setP { d.pair with waitFaults := i.faults, waitRec := if wait then some (k - 1) else none }
  let d := if wait then d else tickWork d
  forget k (tickFrames (heartbeat i.served d))

/-- TICK_BOUNDARY. -/
def execTickBoundary (i : TickIn) (s : State) : Host.Outcome State Fault Refusal :=
  run (i.tdm.all (fun (x : Nat × List Int) => decide (x.1 < 1280)) && i.faults.all (fun f => match f with
      | .redo p _ => decide (p < 68)
      | .stuck p => decide (p < 68)
      | .ecc p _ _ _ => decide (p < 68)
      | .cnv o _ _ => decide (o < 512)))
    (fun d => if d.ticking then tickGo i d else d) s

end Sys2Proof.Machine
end

