-- ==== Sys2Proof/Machine/Mailbox.lean ====
section
/-! DEFINITION. The host's registers and rings: doorbell, responses and events, DMA, interrupts, and the diagnostic window (14 14.2 to
14.10). -/

namespace Sys2Proof.Machine

/-! ## Rings (R360, R361, R363) -/

/-- The host interface has firmware behind it: BOOT reads READY, and the Cleat does not answer in its place (18 R456). -/
def Dev.hostOn (d : Dev) : Bool := d.boot.st == .ready && d.validates

/-- Ring 0 is the command ring, 1 the response ring, 2 the event ring. -/
def Dev.hring (d : Dev) (k : Nat) : Ring := if k = 0 then d.hst.cmd else if k = 1 then d.hst.rsp else d.hst.evt
/-- Writes a ring. -/
def Dev.setRing (d : Dev) (k : Nat) (r : Ring) : Dev :=
  if k = 0 then { d with hst := { d.hst with cmd := r } } else if k = 1 then { d with hst := { d.hst with rsp := r } }
  else { d with hst := { d.hst with evt := r } }

/-- R360: a SIZE a ring may have. -/
def sizeOk (n : Nat) : Bool := [4096, 8192, 16384, 32768, 65536, 131072, 262144].contains n

/-- RING_COMMIT (R360). -/
def ringCommit (k : Nat) (v : W32) (d : Dev) : Dev :=
  let n := v.toNat % 2 ^ 19
  let r := d.hring k
  let others := [0, 1, 2].filter (fun j => j != k && (d.hring j).size != 0 && overlaps r.baseReg n (d.hring j).base (d.hring j).size)
  if !d.hostOn then d
  else if n = 0 then d.setRing k { r with size := 0 }
  else if sizeOk n ∧ r.baseReg % 4096 = 0 ∧ r.baseReg + n ≤ 0xF0000 ∧ others = [] then
    let d := d.setRing k { r with base := r.baseReg, size := n, head := 0, tail := 0 }
    if k = 0 then { d with hst := { d.hst with halted := false } } else d
  else (d.setRing k { r with size := 0 }).setIrq 4

/-- RING_HEAD_WRITE (R363): the host frees entries of the response or event ring. -/
def ringHead (k : Nat) (v : W32) (d : Dev) : Dev :=
  let n := v.toNat % 2 ^ 18
  let r := d.hring k
  if d.boot.st != .ready then d
  else if d.asleep then
    let d := d.rtcTick
    hostDozeWrite k v d.pwr.rtc d
  else if r.size = 0 ∨ n % 8 ≠ 0 ∨ r.size ≤ n ∨ r.used < (n + r.size - r.head) % r.size then d.setIrq 4
  else d.setRing k { r with head := n }

/-- RING_COMMIT. -/
def execRingCommit (ring : Nat) (v : W32) (s : State) : Host.Outcome State Fault Refusal := run (decide (ring < 3)) (ringCommit ring v) s
/-- RING_HEAD_WRITE. -/
def execRingHeadWrite (ring : Nat) (v : W32) (s : State) : Host.Outcome State Fault Refusal :=
  run (ring == 1 || ring == 2) (ringHead ring v) s

/-! ## The command ring (R362, R367) -/

/-- Table 14.10: an undefined opcode passes steps 1 to 3 and fails step 4. -/
def undefinedOp (op : Nat) (r : AcpReq) (d : Dev) : Dev :=
  match acpMatch op r d with
  | some d' => d'
  | none =>
    let d := (d.dropRetained r.tag.toNat r.seq.toNat).tagTake r.tag.toNat r.seq.toNat
    let bad := decide (16 ≤ r.flags.toNat) || r.rsvd != 0 || (r.isRb && descBad r.inl r.rbOff) || (r.isInd && descBad r.inl r.ownOff)
    d.refuse op r (if bad then 0x102 else 0x100) []

/-- R371: a command is taken by its opcode. What follows a response that NOREPLY suppresses begins at once. -/
def takeOp (m : List Host.Cell) (op : Nat) (r : AcpReq) (d : Dev) : Dev :=
  let d : Dev := match cmdOf op with
    | some c => acpTake c r d m
    | none =>
      if d.boot.st != BootSt.ready then d
      else if !d.validates || d.hst.fetch.isSome then { d with hst := { d.hst with waitCmd := d.hst.waitCmd ++ [(op, r)] } }
      else undefinedOp op r d
  d.dueReset.dueEntry

/-- Table 14.7: an entry's OPCODE and request, from its header and inline bytes. -/
def entryOf (h inl : Bytes) : Nat × AcpReq :=
  (u16 h 0, { tag := BitVec.ofNat 8 (u8 h 2), flags := BitVec.ofNat 8 (u8 h 3), seq := BitVec.ofNat 32 (u32 h 8), rsvd := BitVec.ofNat 32 (u32 h 12), inl := inl })

/-- R362: firmware takes entries up to TAIL. -/
def takeRing (m : List Host.Cell) : Nat → Dev → Dev
  | 0, d => d
  | f + 1, d =>
    let r := d.hst.cmd
    if d.hst.halted || d.boot.st != .ready || r.used == 0 then d
    else
      let h := Memory.ringRead m r.base r.size r.head 16
      let n := u32 h 4
      let len := (16 + n + 7) / 8 * 8
      if r.used < len then Dev.setIrq { d with hst := { d.hst with halted := true } } 4
      else
        let e := entryOf h (Memory.ringRead m r.base r.size (r.head + 16) n)
        let d := (d.setRing 0 { r with head := (r.head + len) % r.size }).setIrq 2
        takeRing m f (takeOp m e.1 e.2 d)

/-- DOORBELL (R362). -/
def doorbell (v : W32) (d : Dev) (m : List Host.Cell) : Dev :=
  let n := v.toNat % 2 ^ 18
  let r := d.hst.cmd
  if d.boot.st != .ready then d
  else if d.asleep then
    let d := d.rtcTick
    hostDozeWrite 0 v d.pwr.rtc d
  else if r.size = 0 ∨ n % 8 ≠ 0 ∨ r.size ≤ n then d.setIrq 4
  else takeRing m (r.size / 16) (d.setRing 0 { r with tail := n })

/-- R386: commands that have waited for a fetch or for wake are taken in order. -/
def drainCmd (m : List Host.Cell) : Nat → Dev → Dev
  | 0, d => d
  | f + 1, d =>
    match d.hst.waitCmd with
    | [] => d
    | (op, r) :: rest =>
      if !d.hostOn || d.hst.fetch.isSome then d
      else drainCmd m f (takeOp m op r { d with hst := { d.hst with waitCmd := rest } })

/-- R386: every command that can be taken now. -/
def drainAll (m : List Host.Cell) (d : Dev) : Dev := drainCmd m d.hst.waitCmd.length d

/-- DOORBELL. -/
def execDoorbell (tail : W32) (s : State) : Host.Outcome State Fault Refusal := runM true (fun d m => (doorbell tail d m, m)) s

/-! ## Indirect payloads (R376) -/

/-- INDIRECT_FETCH_DONE: the payload has come, or the fetch has failed. -/
def fetchDone (good : Bool) (data : Bytes) (d : Dev) (m : List Host.Cell) : Dev :=
  match d.hst.fetch with
  | none => d
  | some (op, r) =>
    let d : Dev := { d with hst := { d.hst with fetch := none } }
    let own := if d.hst.hspi then Memory.read m (u64 r.inl r.ownOff) (u32 r.inl (r.ownOff + 8)) else data
    let d := match cmdOf op with
      | some c => if good && (d.hst.hspi || d.hst.busMaster) then acpBody c r own d m else d.fetchFail op r
      | none => d
    drainAll m d.dueReset.dueEntry

/-- The bytes fetched are as many as the descriptor names. -/
def fetchLen (good : Bool) (data : Bytes) (d : Dev) : Bool :=
  match d.hst.fetch with
  | some (_, r) => !good || d.hst.hspi || data.length == u32 r.inl (r.ownOff + 8)
  | none => true

/-- INDIRECT_FETCH_DONE. -/
def execIndirectFetchDone (good : Bool) (data : Bytes) (s : State) : Host.Outcome State Fault Refusal :=
  runM (fetchLen good data s.dev) (fun d m => (fetchDone good data d m, m)) s
/-- FETCH_TIMEOUT. -/
def execFetchTimeout (s : State) : Host.Outcome State Fault Refusal := runM true (fun d m => (fetchDone false [] d m, m)) s

/-! ## Responses (R363, R377 to R379) -/

/-- R381: the TAIL of the response (0) or event (1) ring advances. -/
def tailMoved (bit : Nat) (d : Dev) : Dev :=
  let r := if bit = 0 then d.hst.rsp else d.hst.evt
  let held := fun (b : Bool) (d : Dev) => if bit = 0 then { d with hst := { d.hst with rspHeld := b } } else { d with hst := { d.hst with evtHeld := b } }
  if d.hst.irq.getLsbD bit then d
  else if d.hst.holdoff = 0 ∨ r.size ≤ 2 * r.used then held false (d.setIrq bit)
  else held true d

/-- R378: the oldest retained responses are released until `n` bytes fit in the pool. -/
def makeRoom (n : Nat) : List Retained → List Retained
  | [] => []
  | x :: xs => if (x :: xs).foldl (fun s y => s + y.held) n ≤ 524288 then x :: xs else makeRoom n xs

/-- R378: keeps a response's bytes from `done` on; the flag says that they exceed the pool. -/
def retain (tag seq done : Nat) (p : Bytes) (d : Dev) : Bool × Dev :=
  let n := p.length - done
  if 524288 < n then (true, d)
  else
    let x : Retained := { tag := tag, seq := seq, done := done, payload := p, held := n }
    (false, { d with hst := { d.hst with retained := makeRoom n d.hst.retained ++ [x] } })

/-- R378, R379: `n` bytes of a retained response from an offset on have been delivered; the last byte releases it. -/
def delivered (c : Nat × Nat × Nat) (n : Nat) (d : Dev) : Dev :=
  let f := fun (x : Retained) =>
    if x.tag = c.1 ∧ x.seq = c.2.1 then
      if x.payload.length ≤ c.2.2 + n then none else some { x with done := c.2.2 + n }
    else some x
  { d with hst := { d.hst with retained := d.hst.retained.filterMap f } }

/-- R377, R379: `n` bytes of a payload are delivered: FLAGS to be set, and what is retained. -/
def truncate (r : Rsp) (p : Bytes) (n : Nat) (d : Dev) : Nat × Dev :=
  match r.cont with
  | some c => (b01 (decide (n < p.length)), delivered c n d)
  | none =>
    if p.length ≤ n then (0, d)
    else
      let k := retain r.tag r.seq n p d
      (1 + 8 * b01 k.1, k.2)

/-- Table 14.11: a response entry. -/
def rspEntry (r : Rsp) (flags len : Nat) (p : Bytes) : Bytes :=
  le 2 r.op ++ le 1 r.tag ++ le 1 flags ++ le 2 r.status ++ zb 2 ++ le 4 len ++ le 4 r.seq ++ padTo 8 p

/-- R377: L_R. -/
def Dev.rspLimit (d : Dev) : Nat := min 16384 (d.hst.rsp.size / 4)

/-- RESPONSE_WRITE (R363, R377): the oldest completed response is written once the ring has room. -/
def responseWrite (d : Dev) (m : List Host.Cell) : Dev × List Host.Cell :=
  match d.hst.rspQ with
  | [] => (d, m)
  | r :: rest =>
    let n := min d.rspLimit r.payload.length
    let len := (16 + n + 7) / 8 * 8
    let g := d.hst.rsp
    if !d.hostOn || !g.room len then (d, m)
    else
      let t := if r.payload = [] then (0, d) else truncate r r.payload n d
      let m := Memory.ringWrite g.base g.size m g.tail (rspEntry r (r.flags ||| t.1) (if r.payload = [] then r.len else n) (r.payload.take n))
      let d := t.2.setRing 1 { g with tail := (g.tail + len) % g.size }
      let d := tailMoved 0 (Dev.tagFree { d with hst := { d.hst with rspQ := rest } } r.tag r.seq)
      (d.dueReset.dueEntry, m)

/-- RESULT_BUFFER_WRITE (R377): the payload of the oldest such response has been written to its buffer, or has not. -/
def rbDone (good : Bool) (d : Dev) (m : List Host.Cell) : Dev × List Host.Cell :=
  match d.hst.rbWait with
  | [] => (d, m)
  | w :: rest =>
    let d : Dev := { d with hst := { d.hst with rbWait := rest } }
    let there := if d.hst.hspi then d.hspiRange w.addr w.cap else d.hst.busMaster && w.addr % 4 == 0
    let put := fun (r : Rsp) (d : Dev) => { d with hst := { d.hst with rspQ := d.hst.rspQ ++ [r] } }
    if good && there then
      let t := truncate w.r w.full w.cap d
      (put { w.r with flags := w.r.flags ||| t.1, len := w.cap, payload := [], cont := none } t.2,
        if d.hst.hspi then Memory.write m w.addr (w.full.take w.cap) else m)
    else
      let d := d.dmaError 1 w.r.op w.r.tag w.r.seq w.addr
      let t := match w.r.cont with
        | some _ => (1, d)
        | none =>
          let k := retain w.r.tag w.r.seq 0 w.full d
          (1 + 8 * b01 k.1, k.2)
      (put { w.r with flags := w.r.flags ||| t.1, len := 0, payload := [], cont := none } t.2, m)

/-- RETAINED_RESPONSE_EXPIRY (R378). -/
def retainedExpiry (tag : Nat) (d : Dev) : Dev := { d with hst := { d.hst with retained := d.hst.retained.filter (fun x => x.tag != tag) } }

/-- RESPONSE_WRITE. -/
def execResponseWrite (s : State) : Host.Outcome State Fault Refusal := runM true responseWrite s
/-- RESULT_BUFFER_WRITE. -/
def execResultBufferWrite (good : Bool) (s : State) : Host.Outcome State Fault Refusal := runM true (rbDone good) s
/-- RETAINED_RESPONSE_EXPIRY. -/
def execRetainedResponseExpiry (tag : Nat) (s : State) : Host.Outcome State Fault Refusal := run (decide (tag < 256)) (retainedExpiry tag) s

/-! ## Events (R380, Table 14.12) -/

/-- Table 14.12: an event entry. -/
def evEntry (e : EvRec) : Bytes :=
  le 2 e.code ++ le 1 e.inst ++ le 1 (e.code / 256 - 0x80) ++ le 4 e.payload.length ++ le 8 e.ns ++ le 2 e.frac ++ le 1 e.sev ++ zb 5 ++ padTo 8 e.payload

/-- EVENT_WRITE (R380): the oldest held event is written once the ring has room; EV_HOST_EVENTS_LOST takes its place in the order. -/
def eventWrite (d : Dev) (m : List Host.Cell) : Dev × List Host.Cell :=
  match d.hst.evq with
  | [] => (d, m)
  | e :: rest =>
    let g := d.hst.evt
    if !d.hostOn || !g.room (evLen e) then (d, m)
    else
      let lost := e.code == 0x8112
      let e := if lost then { e with ns := d.nowNs, frac := d.nowFrac, payload := le 4 d.hst.evLost ++ zb 4 } else e
      let m := Memory.ringWrite g.base g.size m g.tail (evEntry e)
      let d := d.setRing 2 { g with tail := (g.tail + evLen e) % g.size }
      (tailMoved 1 { d with hst := { d.hst with evq := rest, evLost := if lost then 0 else d.hst.evLost } }, m)

/-- EVENT_WRITE. -/
def execEventWrite (s : State) : Host.Outcome State Fault Refusal := runM true eventWrite s

/-! ## Interrupts (R381) -/

/-- IRQ_STATUS_WRITE: bits clear, and with them what waits for HOLDOFF; a write that leaves the pending set non-empty sends an MSI. -/
def irqWrite (v : W32) (d : Dev) : Dev :=
  if !d.hostOn then d
  else
    let h := d.hst
    let d : Dev := { d with hst := { h with
      irq := h.irq &&& ~~~(v.setWidth 6), rspHeld := h.rspHeld && !v.getLsbD 0, evtHeld := h.evtHeld && !v.getLsbD 1 } }
    if d.pendingIrq != 0 && d.hst.msiEn && !d.hst.hspi then { d with hst := { d.hst with msi := d.hst.msi + 1 } } else d

/-- IRQ_HOLDOFF_EXPIRY. -/
def holdoffExpiry (evt : Bool) (d : Dev) : Dev :=
  if evt then (if d.hst.evtHeld then Dev.setIrq { d with hst := { d.hst with evtHeld := false } } 1 else d)
  else if d.hst.rspHeld then Dev.setIrq { d with hst := { d.hst with rspHeld := false } } 0 else d

/-- IRQ_STATUS_WRITE. -/
def execIrqStatusWrite (v : W32) (s : State) : Host.Outcome State Fault Refusal := run true (irqWrite v) s
/-- IRQ_HOLDOFF_EXPIRY. -/
def execIrqHoldoffExpiry (evt : Bool) (s : State) : Host.Outcome State Fault Refusal := run true (holdoffExpiry evt) s

/-! ## The diagnostic window (R382, R383) -/

/-- R382: the DRAM address a word of the DRAM window stands for (13 R337). -/
def Dev.winAddr (d : Dev) (a : Nat) : Nat := d.drc.win * 0x80000000 + (a - 0x80000000)
/-- R382: the word address in DIAG_ADDR. -/
def Dev.diagAt (d : Dev) : Nat := d.hst.diagAddr.toNat / 4 * 4

/-- R382: the fetch of the word at DIAG_ADDR starts; a word of the DRAM window is a request to DRC. -/
def diagBegin (d : Dev) : Dev :=
  let d : Dev := { d with hst := { d.hst with diagBusy := true, diagBad := true, diagData := 0xFFFFFFFF } }
  match d.diagRegion d.diagAt with
  | some (5, _) => d.drcSubmit { src := 1, write := false, addr := d.winAddr d.diagAt, data := [], at_ := d.now16 }
  | _ => d

/-- R382: the read of DRAM that the window awaits is in a queue. -/
def diagReq (d : Dev) (r : DReq) : Bool := r.src == 1 && !r.write && r.addr == d.winAddr d.diagAt

/-- DIAG_FETCH_DONE (R382, R383): the word is held; a read of DRAM that is still queued has not ended. -/
def diagDone (d : Dev) (m : List Host.Cell) : Dev :=
  if !d.hst.diagBusy then d
  else
    match d.diagRegion d.diagAt with
    | none => { d with hst := { d.hst with diagBusy := false, diagBad := true, diagData := 0xFFFFFFFF } }
    | some (5, _) => if d.drc.queue.any (fun (q : Nat × List DReq) => q.2.any (diagReq d)) then d else { d with hst := { d.hst with diagBusy := false } }
    | some (k, _) =>
      let w := d.diagWord m d.hst.diagLatch k d.diagAt
      { d with free := d.free + 1, hst := { d.hst with diagBusy := false, diagBad := false, diagData := w.1, diagLatch := w.2 } }

/-- R382: a read under PCI Express waits for the fetch, a queued read of DRAM included. -/
def diagWait (d : Dev) (m : List Host.Cell) : Dev :=
  match (d.drc.queue.flatMap Prod.snd).find? (diagReq d) with
  | some r =>
    let q := (d.drc.queue.map (fun (x : Nat × List DReq) => (x.1, x.2.filter (fun y => !diagReq d y)))).filter (fun (x : Nat × List DReq) => x.2 != [])
    let d : Dev := { d with drc := { d.drc with queue := q } }
    diagDone (d.drcDo r) m
  | none => diagDone d m

/-- DIAG_DATA_READ (R382): under HSPI a read before the fetch has ended returns a free word. -/
def diagRead (d : Dev) (m : List Host.Cell) : Dev :=
  if !d.hostOn then { d with hst := { d.hst with readData := 0 } }
  else
    let d := if d.hst.diagBusy && !d.hst.hspi then diagWait d m else d
    let d : Dev := if d.hst.diagBusy then
        let n := d.draw
        { n.2 with hst := { n.2.hst with readData := BitVec.ofNat 32 (Config.freeWord n.1) } }
      else { d with hst := { d.hst with readData := d.hst.diagData, diagErr := d.hst.diagErr || d.hst.diagBad } }
    if d.hst.diagAddr.getLsbD 0 then diagBegin { d with hst := { d.hst with diagAddr := d.hst.diagAddr + 4 } } else d

/-- DIAG_ADDR_WRITE (R382): bit 1 is reserved. -/
def diagAddr (v : W32) (d : Dev) : Dev :=
  if !d.hostOn then d else diagBegin { d with hst := { d.hst with diagAddr := v &&& 0xFFFFFFFD } }

/-- DIAG_ADDR_WRITE. -/
def execDiagAddrWrite (v : W32) (s : State) : Host.Outcome State Fault Refusal := run true (diagAddr v) s
/-- DIAG_DATA_READ. -/
def execDiagDataRead (s : State) : Host.Outcome State Fault Refusal := runM true (fun d m => (diagRead d m, m)) s
/-- DIAG_FETCH_DONE. -/
def execDiagFetchDone (s : State) : Host.Outcome State Fault Refusal := runM true (fun d m => (diagDone d m, m)) s

/-! ## Reads and writes of registers (00 R11, 10 R277) -/

/-- RC_REGISTER_READ (00 R11): HOST_STATUS by the host; SCH_QDEPTH_MAX and the highest QDEPTH of DRC by firmware. -/
def rcRead (a : Nat) (d : Dev) : Dev :=
  let got := fun (n : Nat) (d : Dev) => { d with hst := { d.hst with readData := BitVec.ofNat 32 n } }
  match a with
  | 0x10 => got d.hostStatus { d with hst := { d.hst with diagErr := false } }
  | 0x40600008 => got (d.blkReg a) { d with sch := { d.sch with qMax := 0 } }
  | _ => got (d.blkReg a) { d with drc := { d.drc with qMax := 0 } }

/-- LATCHING_READ (10 R277): firmware reads a LO register; the real-time count is read from the Cleat. -/
def latchRead (a : Nat) (d : Dev) : Dev :=
  let d := if a = 0x40F00018 then d.rtcTick else d
  let r := d.readReg d.hst.latch a
  { d with hst := { d.hst with readData := r.1, latch := r.2 } }

/-- RC_REGISTER_READ. -/
def execRcRegisterRead (addr : Nat) (s : State) : Host.Outcome State Fault Refusal :=
  run ([0x10, 0x40600008, 0x40C00024].contains addr) (rcRead addr) s
/-- LATCHING_READ. -/
def execLatchingRead (addr : Nat) (s : State) : Host.Outcome State Fault Refusal := run (latchedBy addr != []) (latchRead addr) s

/-- Table 14.2: a write of the host's register window; a register whose write acts has the meaning of its own row. -/
def hostWrite (o : Nat) (v : W32) (d : Dev) (m : List Host.Cell) : Dev :=
  let n := v.toNat
  match o with
  | 0x14 => irqWrite v d
  | 0x18 => if d.hostOn then { d with hst := { d.hst with irqEn := v.setWidth 6, holdoff := bitsOf n 16 8 } } else d
  | 0x20 => if d.hostOn then d.setRing 0 { d.hring 0 with baseReg := n % 2 ^ 20 } else d
  | 0x24 => ringCommit 0 v d
  | 0x28 => doorbell v d m
  | 0x30 => if d.hostOn then d.setRing 1 { d.hring 1 with baseReg := n % 2 ^ 20 } else d
  | 0x34 => ringCommit 1 v d
  | 0x3C => ringHead 1 v d
  | 0x40 => if d.hostOn then d.setRing 2 { d.hring 2 with baseReg := n % 2 ^ 20 } else d
  | 0x44 => ringCommit 2 v d
  | 0x4C => ringHead 2 v d
  | 0x80 => hostReset v d
  | 0x100 => diagAddr v d
  | _ => d

/-- R360, 18 R456: the host's write of a word of mailbox SRAM. Firmware's part takes none, and a sleeping device drops it. -/
def mboxWrite (a : Nat) (v : W32) (d : Dev) (m : List Host.Cell) : Dev × List Host.Cell :=
  if d.boot.st == .reset then (d, m)
  else if d.asleep then
    let d := d.rtcTick
    (mailboxDropped d.pwr.rtc d, m)
  else (d, Memory.write m a ((le 4 v.toNat).take (0xF0000 - a)))

/-- 12 R316, 14 R382: firmware's write of a word at an internal address. -/
def fwWrite (a : Nat) (v : W32) (d : Dev) (m : List Host.Cell) : Dev × List Host.Cell :=
  if 0x20000000 ≤ a ∧ a < 0x20400000 then
    let w := (a - 0x20000000) / 4
    let b := d.bank (w / 65536)
    (if b.owner = .cp then (d.testYield (w / 65536)).setScrWord w v else d.setBank (w / 65536) { b with notOwner := true }, m)
  else if 0x30000000 ≤ a ∧ a < 0x30100000 then (d, Memory.write m (a - 0x30000000) (le 4 v.toNat))
  else if 0x80000000 ≤ a then (d.drcSubmit { src := 1, write := true, addr := d.winAddr a, data := le 4 v.toNat, at_ := d.now16 }, m)
  else (blkWrite a v d, m)

/-- REGISTER_WRITE (00 R9, R11): an access that is not an aligned word writes nothing. -/
def registerWrite (space : Space) (a : Nat) (v : W32) (d : Dev) (m : List Host.Cell) : Dev × List Host.Cell :=
  match space with
  | .host => if a % 4 = 0 ∧ a < 65536 then (hostWrite a v d m, m) else (d, m)
  | .fw => if a % 4 = 0 ∧ a < 2 ^ 32 then fwWrite a v d m else (d, m)
  | .mailbox => mboxWrite a v d m
  | .config =>
    if d.hst.hspi then (d, m)
    else if a = 0 then ({ d with hst := { d.hst with busMaster := v.getLsbD 0 } }, m)
    else if a = 1 then ({ d with hst := { d.hst with msiEn := v.getLsbD 0 } }, m)
    else (d, m)

/-- REGISTER_WRITE. -/
def execRegisterWrite (space : Space) (addr : Nat) (v : W32) (s : State) : Host.Outcome State Fault Refusal :=
  runM true (registerWrite space addr v) s

end Sys2Proof.Machine
end

