-- ==== Sys2Proof/Machine/Exit.lean ====
section
/-! DEFINITION. The end of a wake (18 R455, R458 to R461, R464): lost banks, the wake record, the replay of the latch. -/

namespace Sys2Proof.Machine

/-! ## Lost banks (Table 18.7) -/

/-- `n` words from index `lo` on that hold what was found after a lost retention: free words from `z` on. -/
def foundWords (z lo n : Nat) : Tbl W32 :=
  ((rangeFrom lo n).map (fun i => (i, BitVec.ofNat 32 (Config.freeWord (z + i))))).filter (fun (x : Nat × W32) => x.2 != 0)
/-- Bundles as found. -/
def foundBundles (z lo n : Nat) : Tbl (BitVec 64) :=
  ((rangeFrom lo n).map (fun i => (i, BitVec.ofNat 64 (Config.freeWord (z + 2 * i) % 2 ^ 32 * 2 ^ 32 + Config.freeWord (z + 2 * i + 1) % 2 ^ 32)))).filter
    (fun (x : Nat × BitVec 64) => x.2 != 0)
/-- The cells of mailbox SRAM as found, in canonical form. -/
def foundCells (z : Nat) : Nat → Nat → List Host.Cell
  | _, 0 => []
  | a, n + 1 =>
    let b := BitVec.ofNat 8 (Config.freeWord (z + a))
    if b = 0 then foundCells z (a + 1) n else (a, b) :: foundCells z (a + 1) n

/-- Bits 0 to 15 (12 R318): the bank passes to the control processor with its contents as found. -/
def lostBank (b : Nat) (d : Dev) : Dev :=
  let d : Dev := { d with free := d.free + 1 }
  d.setBank b { d.bank b with owner := .cp, pending := none, lost := true, gen := d.free, words := [] }

/-- Bit 17: every ring is disabled, tags and retained responses are gone. -/
def lostMailbox (d : Dev) : Dev :=
  let h := d.hst
  Dev.setIrq { d with
    free := d.free + 2 ^ 20
    hst := { h with
      cmd := { h.cmd with size := 0 }, rsp := { h.rsp with size := 0 }, evt := { h.evt with size := 0 }, tags := [], retained := [] } } 4

/-- Bits 18 to 25: an engine's memories are as found; firmware reloads the library, and customer programs are unloaded everywhere. -/
def lostEngine (e : Nat) (d : Dev) : Dev :=
  let z := d.free
  let x := d.eng e
  let d : Dev := { d with free := z + 2 ^ 18, sch := { d.sch with prog := [] } }
  d.setEng e { x with
    prog := foundBundles z 4096 12288, x := foundWords (z + 2 ^ 16) 0 16384, y := foundWords (z + 2 ^ 17) 0 16384
    frame := foundWords (z + 2 ^ 17 + 2 ^ 14) 0 1024, frameS := foundWords (z + 2 ^ 17 + 2 ^ 15) 0 1024
    frameC := foundWords (z + 2 ^ 17 + 2 ^ 16) 0 1024 }

/-- Bit 26: every knot queue is emptied; firmware rewrites the loudspeaker table and the routing words. -/
def lostKnots (d : Dev) : Dev := forRun (fun o d => d.setObj o { d.obj o with queue := [] }) (d.trj.obj.map Prod.fst) d

/-- Bits 27 to 30: both banks of 128 outputs become EMPTY, and the selection is kept. -/
def lostCoef (q : Nat) (d : Dev) : Dev :=
  let f := fun (x : Nat × CnvOut) => (x.1, if x.1 / 128 = q then { x.2 with a := {}, b := {} } else x.2)
  { d with cnv := { d.cnv with out := (d.cnv.out.map f).filter (fun (x : Nat × CnvOut) => x.2 != {}) } }

/-- Table 18.7: the consequence of one lost bank; bit 16 is met by `dozeExit`. -/
def lostOne (b : Nat) (d : Dev) : Dev :=
  if b < 16 then lostBank b d else if b = 16 then d else if b = 17 then lostMailbox d
  else if b < 26 then lostEngine (b - 18) d else if b = 26 then lostKnots d else lostCoef (b - 27) d

/-! ## The latch (R458) -/

/-- R458: a WAKE_ALARM slot fires. -/
def alarmDone (m : Nat) (d : Dev) : Dev :=
  let x := d.slot m
  if x.armed ∧ x.action = 7 then
    (d.setSlot m x.fire).raise 0x8210 m (le 1 m ++ le 1 x.action ++ zb 6 ++ le 8 (x.fireT d.rate / 65536))
  else d

/-- R458: the latch is replayed in arrival order; with `gone` a HOST_RESET has acted, and the writes after it are discarded. -/
def replay (m : List Host.Cell) : Bool → List Latch → Dev → Dev
  | _, [], d => d
  | gone, e :: es, d =>
    let v := BitVec.ofNat 32 e.value
    if e.source = 5 then
      if gone then replay m true es d
      else if e.detail = 3 then replay m (e.value / 65536 % 65536 == 0x5EED && e.value % 4 != 0) es (hostReset v d)
      else if e.detail = 0 then replay m false es (doorbell v d m)
      else replay m false es (ringHead e.detail v d)
    else if e.source = 4 then replay m gone es (alarmDone e.detail d)
    else replay m gone es d

/-! ## The end of exit (Table 18.5) -/

/-- R464: the wake record as the end of a wake completes it. -/
def Dev.wakeDone (d : Dev) (lost exit : Nat) : WakeRec :=
  let w := d.pwr.wrec
  let fl := w.flags ||| (16 * b01 (decide (16 < d.pwr.latchN)) + 32 * b01 (d.pwr.dropped != 0) + 64 * b01 (lost.testBit 16))
  { w with flags := fl, latched := d.pwr.latchN, lost := lost, dropped := d.pwr.dropped, exitUs := exit % 65536 }

/-- R455, R459: the DRAM leaves the self-refresh that entry put it into. -/
def Dev.drcAwake (d : Dev) : Dev := if d.drcRuns && d.drc.cond == .off then d.drcCond .inService else d

/-- R454, R458: the device is IDLE, the latch is replayed and closes, and what has waited is taken. -/
def Dev.idleAgain (d : Dev) (m : List Host.Cell) : Dev :=
  let es := d.pwr.latch
  let d := Dev.setPower { d with pwr := { d.pwr with idleAt := d.tim.now, latchOpen := false } } .idle
  drainAll m (replay m false es d)

/-- R475: EV_WAKE, and EV_RETAIN_LOST where a bank is lost. -/
def Dev.wakeEvents (d : Dev) (lost : Nat) : Dev :=
  let w := d.pwr.wrec
  let el := rneN ((w.c1 + 2 ^ 48 - w.c0) % 2 ^ 48 * w.rho) (2 ^ 32)
  let d := d.raise 0x9000 0 (le 1 w.source ++ le 1 w.detail ++ le 2 w.flags ++ le 4 lost ++ le 8 el ++ le 8 w.uncert)
  if lost = 0 then d else d.raise 0x9001 0 (le 4 lost ++ le 4 d.pwr.mask.toNat)

/-- R459, R461: the exit from DOZE, where the signatures of the banks in `l` differ. -/
def dozeExit (l exit : Nat) (d : Dev) (m : List Host.Cell) : Dev × List Host.Cell :=
  let lost := l &&& d.pwr.mask.toNat
  let m := if lost.testBit 17 then foundCells d.free 0 0x100000 else m
  let d : Dev := { d with
    free := if lost.testBit 17 then d.free + 2 ^ 20 else d.free
    pwr := { d.pwr with lost := d.pwr.lost ||| BitVec.ofNat 32 lost } }
  let d := forRun lostOne ((rangeFrom 0 31).filter (fun b => lost.testBit b)) d
  let d : Dev := { d with
    free := d.free + 2 ^ 21, rnd := { d.rnd with pathFree := some d.free }, pwr := { d.pwr with wrec := d.wakeDone lost exit } }
  if lost.testBit 16 then (warmReset 9 d, m)
  else
    let d := d.drcAwake
    let d := Dev.setIrq { d with pwr := { d.pwr with hostRec := d.pwr.wrec.bytes } } 5
    ((d.wakeEvents lost).idleAgain m, m)

/-- R455: an abandoned entry: its steps are undone. -/
def dozeAbandon (exit : Nat) (d : Dev) (m : List Host.Cell) : Dev :=
  Dev.idleAgain (Dev.drcAwake { d with pwr := { d.pwr with wrec := d.wakeDone 0 exit } }) m

/-- DOZE_EXIT_DONE (R455, R459). -/
def exitDone (lost exit : Nat) (d : Dev) (m : List Host.Cell) : Dev × List Host.Cell :=
  if d.pwr.st != .waking then (d, m)
  else if d.pwr.wrec.flags.testBit 1 then (dozeAbandon exit d m, m)
  else dozeExit lost exit d m

/-- DOZE_EXIT_DONE. -/
def execDozeExitDone (lost : W32) (exit : Nat) (s : State) : Host.Outcome State Fault Refusal := runM true (exitDone lost.toNat exit) s

end Sys2Proof.Machine
end

