-- ==== Sys2Proof/Machine/Dispatch.lean ====
section
/-! DEFINITION. The meaning of each command: one arm for each constructor. -/

namespace Sys2Proof.Machine

def exec (i : Instr) (s : State) : Host.Outcome State Fault Refusal :=
  match i with
  | .tickBoundary x => Sys2Proof.Machine.execTickBoundary x s
  | .outBlockHandover => Sys2Proof.Machine.execOutBlockHandover s
  | .fltSampleMark e sample => Sys2Proof.Machine.execFltSampleMark e sample s
  | .rndDeadline lane => Sys2Proof.Machine.execRndDeadline lane s
  | .trjDeadline => Sys2Proof.Machine.execTrjDeadline s
  | .lawJobDeadline => Sys2Proof.Machine.execLawJobDeadline s
  | .cnvT2FrameDeadline out frame => Sys2Proof.Machine.execCnvT2FrameDeadline out frame s
  | .timedCommandBoundary => Sys2Proof.Machine.execTimedCommandBoundary s
  | .triggerLeadBoundary slot => Sys2Proof.Machine.execTriggerLeadBoundary slot s
  | .triggerFire slot => Sys2Proof.Machine.execTriggerFire slot s
  | .timIncCommit hi => Sys2Proof.Machine.execTimIncCommit hi s
  | .timStepGo v => Sys2Proof.Machine.execTimStepGo v s
  | .snapNow => Sys2Proof.Machine.execSnapNow s
  | .ptpMessageRx port msg => Sys2Proof.Machine.execPtpMessageRx port msg s
  | .masterLost => Sys2Proof.Machine.execMasterLost s
  | .ppsInEdge at_ => Sys2Proof.Machine.execPpsInEdge at_ s
  | .ppsInMissing => Sys2Proof.Machine.execPpsInMissing s
  | .ppsOutSecond => Sys2Proof.Machine.execPpsOutSecond s
  | .ppsWidthEnd => Sys2Proof.Machine.execPpsWidthEnd s
  | .trigOutPulseEnd pin => Sys2Proof.Machine.execTrigOutPulseEnd pin s
  | .mclkSwitch n => Sys2Proof.Machine.execMclkSwitch n s
  | .offsetLargeReport => Sys2Proof.Machine.execOffsetLargeReport s
  | .servoCheck dTime dRtc => Sys2Proof.Machine.execServoCheck dTime dRtc s
  | .strikeLeak ch => Sys2Proof.Machine.execStrikeLeak ch s
  | .memoryScrub lane path addr err => Sys2Proof.Machine.execMemoryScrub lane path addr err s
  | .laneSelfTestDone lane pass => Sys2Proof.Machine.execLaneSelfTestDone lane pass s
  | .laneTakeover => Sys2Proof.Machine.execLaneTakeover s
  | .frameReceive port f => Sys2Proof.Machine.execFrameReceive port f s
  | .frameTransmit port q f mark => Sys2Proof.Machine.execFrameTransmit port q f mark s
  | .expressPreempt port octets => Sys2Proof.Machine.execExpressPreempt port octets s
  | .linkChange port up an => Sys2Proof.Machine.execLinkChange port up an s
  | .portSerdesLock port => Sys2Proof.Machine.execPortSerdesLock port s
  | .portStartTimeout port => Sys2Proof.Machine.execPortStartTimeout port s
  | .portStopDone port => Sys2Proof.Machine.execPortStopDone port s
  | .preemptVerify port ok frag => Sys2Proof.Machine.execPreemptVerify port ok frag s
  | .fcsLimitSecond port => Sys2Proof.Machine.execFcsLimitSecond port s
  | .linkAbsent10s port => Sys2Proof.Machine.execLinkAbsent10s port s
  | .wakePatternMatch port f count => Sys2Proof.Machine.execWakePatternMatch port f count s
  | .rtpPacketRx port p => Sys2Proof.Machine.execRtpPacketRx port p s
  | .trajectoryPacketRx port p => Sys2Proof.Machine.execTrajectoryPacketRx port p s
  | .tdmFrameSync c at_ words => Sys2Proof.Machine.execTdmFrameSync c at_ words s
  | .tdmClockLoss c => Sys2Proof.Machine.execTdmClockLoss c s
  | .tdmClockAbsent10s c => Sys2Proof.Machine.execTdmClockAbsent10s c s
  | .madiFrameRx m at_ words codeErrs => Sys2Proof.Machine.execMadiFrameRx m at_ words codeErrs s
  | .madiSyncLoss m => Sys2Proof.Machine.execMadiSyncLoss m s
  | .madiCodeErrSecond m errs => Sys2Proof.Machine.execMadiCodeErrSecond m errs s
  | .madiSignalAbsent10s m => Sys2Proof.Machine.execMadiSignalAbsent10s m s
  | .asrcLock e g => Sys2Proof.Machine.execAsrcLock e g s
  | .asrcLost e g => Sys2Proof.Machine.execAsrcLost e g s
  | .toneBlockResult d => Sys2Proof.Machine.execToneBlockResult d s
  | .meterWindowEnd out => Sys2Proof.Machine.execMeterWindowEnd out s
  | .schedulerDecision e cycle => Sys2Proof.Machine.execSchedulerDecision e cycle s
  | .affWaitReached order cycle => Sys2Proof.Machine.execAffWaitReached order cycle s
  | .jobDispatch e => Sys2Proof.Machine.execJobDispatch e s
  | .jobCollectionDone e => Sys2Proof.Machine.execJobCollectionDone e s
  | .interruptEntry e => Sys2Proof.Machine.execInterruptEntry e s
  | .budgetExpiry e => Sys2Proof.Machine.execBudgetExpiry e s
  | .lawNop e sd => Sys2Proof.Machine.execNop e sd s
  | .lawMpy e f sd => Sys2Proof.Machine.execMpy e f sd s
  | .lawMac e f sd => Sys2Proof.Machine.execMac e f sd s
  | .lawMsu e f sd => Sys2Proof.Machine.execMsu e f sd s
  | .lawAdda e f sd => Sys2Proof.Machine.execAdda e f sd s
  | .lawSuba e f sd => Sys2Proof.Machine.execSuba e f sd s
  | .lawNega e f sd => Sys2Proof.Machine.execNega e f sd s
  | .lawAbsa e f sd => Sys2Proof.Machine.execAbsa e f sd s
  | .lawClra e f sd => Sys2Proof.Machine.execClra e f sd s
  | .lawShla e f sd => Sys2Proof.Machine.execShla e f sd s
  | .lawShra e f sd => Sys2Proof.Machine.execShra e f sd s
  | .lawExpa e f sd => Sys2Proof.Machine.execExpa e f sd s
  | .lawNorma e f sd => Sys2Proof.Machine.execNorma e f sd s
  | .lawMvad e f sd => Sys2Proof.Machine.execMvad e f sd s
  | .lawMvda e f sd => Sys2Proof.Machine.execMvda e f sd s
  | .lawAdd e f sd => Sys2Proof.Machine.execAdd e f sd s
  | .lawSub e f sd => Sys2Proof.Machine.execSub e f sd s
  | .lawAdds e f sd => Sys2Proof.Machine.execAdds e f sd s
  | .lawSubs e f sd => Sys2Proof.Machine.execSubs e f sd s
  | .lawAnd e f sd => Sys2Proof.Machine.execAnd e f sd s
  | .lawOr e f sd => Sys2Proof.Machine.execOr e f sd s
  | .lawXor e f sd => Sys2Proof.Machine.execXor e f sd s
  | .lawAsr e f sd => Sys2Proof.Machine.execAsr e f sd s
  | .lawLsr e f sd => Sys2Proof.Machine.execLsr e f sd s
  | .lawLsl e f sd => Sys2Proof.Machine.execLsl e f sd s
  | .lawAsrv e f sd => Sys2Proof.Machine.execAsrv e f sd s
  | .lawExp e f sd => Sys2Proof.Machine.execExp e f sd s
  | .lawNorm e f sd => Sys2Proof.Machine.execNorm e f sd s
  | .lawMin e f sd => Sys2Proof.Machine.execMin e f sd s
  | .lawMax e f sd => Sys2Proof.Machine.execMax e f sd s
  | .lawCmp e f sd => Sys2Proof.Machine.execCmp e f sd s
  | .lawMov e f sd => Sys2Proof.Machine.execMov e f sd s
  | .lawAbs e f sd => Sys2Proof.Machine.execAbs e f sd s
  | .lawNeg e f sd => Sys2Proof.Machine.execNeg e f sd s
  | .lawSel e f sd => Sys2Proof.Machine.execSel e f sd s
  | .lawMulq e f sd => Sys2Proof.Machine.execMulq e f sd s
  | .lawRcp e f sd => Sys2Proof.Machine.execRcp e f sd s
  | .lawRsq e f sd => Sys2Proof.Machine.execRsq e f sd s
  | .moveLoad e c y mv other rot => Sys2Proof.Machine.execMoveLoad e c y mv other rot s
  | .moveStore e c y mv other rot => Sys2Proof.Machine.execMoveStore e c y mv other rot s
  | .lawLd e c a => Sys2Proof.Machine.execLd e c a s
  | .lawSt e c a => Sys2Proof.Machine.execSt e c a s
  | .lawMovr e c rd rs => Sys2Proof.Machine.execMovr e c rd rs s
  | .lawAddi e c r imm => Sys2Proof.Machine.execAddi e c r imm s
  | .lawLdis e c r imm => Sys2Proof.Machine.execLdis e c r imm s
  | .lawLdi e r imm => Sys2Proof.Machine.execLdi e r imm s
  | .lawBr e c tgt => Sys2Proof.Machine.execBr e c tgt s
  | .lawBri e c p => Sys2Proof.Machine.execBri e c p s
  | .lawCall e c tgt => Sys2Proof.Machine.execCall e c tgt s
  | .lawLoop e n ls le_ => Sys2Proof.Machine.execLoop e n ls le_ s
  | .lawRotn e k => Sys2Proof.Machine.execRotn e k s
  | .lawSrset e mask val => Sys2Proof.Machine.execSrset e mask val s
  | .lawJend e c => Sys2Proof.Machine.execJend e c s
  | .lawRti e => Sys2Proof.Machine.execRti e s
  | .lawTrap e c n => Sys2Proof.Machine.execTrap e c n s
  | .lawBkpt e => Sys2Proof.Machine.execBkpt e s
  | .lawSync e => Sys2Proof.Machine.execSync e s
  | .lawDoorbell e => Sys2Proof.Machine.execLawDoorbell e s
  | .lawHaltReq e => Sys2Proof.Machine.execHaltReq e s
  | .lawStep e => Sys2Proof.Machine.execStep e s
  | .lawResume e => Sys2Proof.Machine.execResume e s
  | .lawProgLoadDone law => Sys2Proof.Machine.execLawProgLoadDone law s
  | .lawEngineDisableDone e => Sys2Proof.Machine.execLawEngineDisableDone e s
  | .scbOwnerWrite bank owner => Sys2Proof.Machine.execScbOwnerWrite bank owner s
  | .bankHandoverDone bank => Sys2Proof.Machine.execBankHandoverDone bank s
  | .testStripe bank stripe r => Sys2Proof.Machine.execTestStripe bank stripe r s
  | .bankReady out bank => Sys2Proof.Machine.execBankReady out bank s
  | .cnvVerifyDone failed => Sys2Proof.Machine.execCnvVerifyDone failed s
  | .drcStartDone r => Sys2Proof.Machine.execDrcStartDone r s
  | .drcStopDone => Sys2Proof.Machine.execDrcStopDone s
  | .drcCommandSlot ch c => Sys2Proof.Machine.execDrcCommandSlot ch c s
  | .refresh ch rank => Sys2Proof.Machine.execRefresh ch rank s
  | .temperaturePoll level => Sys2Proof.Machine.execTemperaturePoll level s
  | .trainingStepDone result => Sys2Proof.Machine.execTrainingStepDone result s
  | .trainingRunDone r => Sys2Proof.Machine.execTrainingRunDone r s
  | .trainingRetry => Sys2Proof.Machine.execTrainingRetry s
  | .trainHeldTimeout ch => Sys2Proof.Machine.execTrainHeldTimeout ch s
  | .driftMeasure counts => Sys2Proof.Machine.execDriftMeasure counts s
  | .driftTapStep sel => Sys2Proof.Machine.execDriftTapStep sel s
  | .freqSwitchDone ok => Sys2Proof.Machine.execFreqSwitchDone ok s
  | .freezeAutoResume => Sys2Proof.Machine.execFreezeAutoResume s
  | .drcTrnGo v => Sys2Proof.Machine.execDrcTrnGo v s
  | .drcDlyValWrite v => Sys2Proof.Machine.execDrcDlyValWrite v s
  | .doorbell tail => Sys2Proof.Machine.execDoorbell tail s
  | .ringCommit ring v => Sys2Proof.Machine.execRingCommit ring v s
  | .ringHeadWrite ring v => Sys2Proof.Machine.execRingHeadWrite ring v s
  | .hostResetChip v => Sys2Proof.Machine.execHostResetChip v s
  | .hostResetWarm v => Sys2Proof.Machine.execHostResetWarm v s
  | .irqStatusWrite v => Sys2Proof.Machine.execIrqStatusWrite v s
  | .irqHoldoffExpiry evt => Sys2Proof.Machine.execIrqHoldoffExpiry evt s
  | .diagAddrWrite v => Sys2Proof.Machine.execDiagAddrWrite v s
  | .diagDataRead => Sys2Proof.Machine.execDiagDataRead s
  | .diagFetchDone => Sys2Proof.Machine.execDiagFetchDone s
  | .rcRegisterRead addr => Sys2Proof.Machine.execRcRegisterRead addr s
  | .latchingRead addr => Sys2Proof.Machine.execLatchingRead addr s
  | .netTsfPop port => Sys2Proof.Machine.execNetTsfPop port s
  | .traceClear => Sys2Proof.Machine.execTraceClear s
  | .sweepNow => Sys2Proof.Machine.execSweepNow s
  | .registerWrite space addr v => Sys2Proof.Machine.execRegisterWrite space addr v s
  | .responseWrite => Sys2Proof.Machine.execResponseWrite s
  | .eventWrite => Sys2Proof.Machine.execEventWrite s
  | .indirectFetchDone ok data => Sys2Proof.Machine.execIndirectFetchDone ok data s
  | .fetchTimeout => Sys2Proof.Machine.execFetchTimeout s
  | .resultBufferWrite ok => Sys2Proof.Machine.execResultBufferWrite ok s
  | .retainedResponseExpiry tag => Sys2Proof.Machine.execRetainedResponseExpiry tag s
  | .recOpen fseq tick epoch base => Sys2Proof.Machine.execRecOpen fseq tick epoch base s
  | .recItem fseq order kind data => Sys2Proof.Machine.execRecItem fseq order kind data s
  | .recAsrc fseq entries => Sys2Proof.Machine.execRecAsrc fseq entries s
  | .recPatch fseq kind id first count samples => Sys2Proof.Machine.execRecPatch fseq kind id first count samples s
  | .recGuard fseq block mask crcs => Sys2Proof.Machine.execRecGuard fseq block mask crcs s
  | .recBulk fseq handle off data => Sys2Proof.Machine.execRecBulk fseq handle off data s
  | .recSplice fseq size d => Sys2Proof.Machine.execRecSplice fseq size d s
  | .recWarm fseq g => Sys2Proof.Machine.execRecWarm fseq g s
  | .recSeal fseq tick epoch frames bytes crc => Sys2Proof.Machine.execRecSeal fseq tick epoch frames bytes crc s
  | .lnkStatus fseq lastCommit state healthy mismatch chipId => Sys2Proof.Machine.execLnkStatus fseq lastCommit state healthy mismatch chipId s
  | .lnkTime fseq tx peerTx peerRx rx => Sys2Proof.Machine.execLnkTime fseq tx peerTx peerRx rx s
  | .lnkAck fseq nak => Sys2Proof.Machine.execLnkAck fseq nak s
  | .frameResendTimeout fseq => Sys2Proof.Machine.execFrameResendTimeout fseq s
  | .lanyardLinkChange lane up => Sys2Proof.Machine.execLanyardLinkChange lane up s
  | .lanyardAbsent10s => Sys2Proof.Machine.execLanyardAbsent10s s
  | .commitDeadline => Sys2Proof.Machine.execCommitDeadline s
  | .ackDeadline => Sys2Proof.Machine.execAckDeadline s
  | .mismatchHoldExpiry => Sys2Proof.Machine.execMismatchHoldExpiry s
  | .spliceAutoStart => Sys2Proof.Machine.execSpliceAutoStart s
  | .spliceSnapshot => Sys2Proof.Machine.execSpliceSnapshot s
  | .sweep => Sys2Proof.Machine.execSweep s
  | .watchdogExpiry => Sys2Proof.Machine.execWatchdogExpiry s
  | .idleEntry => Sys2Proof.Machine.execIdleEntry s
  | .dozeTimer => Sys2Proof.Machine.execDozeTimer s
  | .dozeCommitPoint count rho entry => Sys2Proof.Machine.execDozeCommitPoint count rho entry s
  | .wakeNAssert count => Sys2Proof.Machine.execWakeNAssert count s
  | .wakeAlarmDue slot count => Sys2Proof.Machine.execWakeAlarmDue slot count s
  | .hostDozeWrite reg v count => Sys2Proof.Machine.execHostDozeWrite reg v count s
  | .mailboxWriteDropped count => Sys2Proof.Machine.execMailboxWriteDropped count s
  | .dozeExitDone lost exit => Sys2Proof.Machine.execDozeExitDone lost exit s
  | .powerOn => Sys2Proof.Machine.execPowerOn s
  | .resetNAssert => Sys2Proof.Machine.execResetNAssert s
  | .functionLevelReset => Sys2Proof.Machine.execFunctionLevelReset s
  | .pgoodSample ok hostSel bootMode => Sys2Proof.Machine.execPgoodSample ok hostSel bootMode s
  | .supplyFault => Sys2Proof.Machine.execSupplyFault s
  | .vddAonFall => Sys2Proof.Machine.execVddAonFall s
  | .thermalShutdown => Sys2Proof.Machine.execThermalShutdown s
  | .bootImageChecked ok => Sys2Proof.Machine.execBootImageChecked ok s
  | .hostLoadGo v ok => Sys2Proof.Machine.execHostLoadGo v ok s
  | .bootReady failed => Sys2Proof.Machine.execBootReady failed s
  | .journalAppend ok => Sys2Proof.Machine.execJournalAppend ok s
  | .compaction step => Sys2Proof.Machine.execCompaction step s
  | .flashOpDone ok erase addr => Sys2Proof.Machine.execFlashOpDone ok erase addr s
  | .identify r => Sys2Proof.Machine.execIdentify r s
  | .capsGet r => Sys2Proof.Machine.execCapsGet r s
  | .echo r => Sys2Proof.Machine.execEcho r s
  | .funcStart r => Sys2Proof.Machine.execFuncStart r s
  | .funcStop r => Sys2Proof.Machine.execFuncStop r s
  | .funcStateGet r => Sys2Proof.Machine.execFuncStateGet r s
  | .renderRateSet r => Sys2Proof.Machine.execRenderRateSet r s
  | .deviceReset r => Sys2Proof.Machine.execDeviceReset r s
  | .diagRead r => Sys2Proof.Machine.execDiagRead r s
  | .rspContinue r => Sys2Proof.Machine.execRspContinue r s
  | .timeGet r => Sys2Proof.Machine.execTimeGet r s
  | .ptpConfig r => Sys2Proof.Machine.execPtpConfig r s
  | .timeStep r => Sys2Proof.Machine.execTimeStep r s
  | .timeSet r => Sys2Proof.Machine.execTimeSet r s
  | .tscSet r => Sys2Proof.Machine.execTscSet r s
  | .mclkConfig r => Sys2Proof.Machine.execMclkConfig r s
  | .ppsConfig r => Sys2Proof.Machine.execPpsConfig r s
  | .trigOutConfig r => Sys2Proof.Machine.execTrigOutConfig r s
  | .triggerSet r => Sys2Proof.Machine.execTriggerSet r s
  | .triggerCancel r => Sys2Proof.Machine.execTriggerCancel r s
  | .triggerStatus r => Sys2Proof.Machine.execTriggerStatus r s
  | .netPortConfig r => Sys2Proof.Machine.execNetPortConfig r s
  | .netPortGet r => Sys2Proof.Machine.execNetPortGet r s
  | .netLinkStatus r => Sys2Proof.Machine.execNetLinkStatus r s
  | .netPreemptConfig r => Sys2Proof.Machine.execNetPreemptConfig r s
  | .netStatsGet r => Sys2Proof.Machine.execNetStatsGet r s
  | .netHalfClear r => Sys2Proof.Machine.execNetHalfClear r s
  | .netWakeFilterSet r => Sys2Proof.Machine.execNetWakeFilterSet r s
  | .netWakePortSet r => Sys2Proof.Machine.execNetWakePortSet r s
  | .netWakeGet r => Sys2Proof.Machine.execNetWakeGet r s
  | .streamRxConfig r => Sys2Proof.Machine.execStreamRxConfig r s
  | .streamRxGet r => Sys2Proof.Machine.execStreamRxGet r s
  | .streamTxConfig r => Sys2Proof.Machine.execStreamTxConfig r s
  | .streamTxGet r => Sys2Proof.Machine.execStreamTxGet r s
  | .inputMapSet r => Sys2Proof.Machine.execInputMapSet r s
  | .inputMapGet r => Sys2Proof.Machine.execInputMapGet r s
  | .streamStatsGet r => Sys2Proof.Machine.execStreamStatsGet r s
  | .tdmClusterConfig r => Sys2Proof.Machine.execTdmClusterConfig r s
  | .tdmClusterGet r => Sys2Proof.Machine.execTdmClusterGet r s
  | .madiConfig r => Sys2Proof.Machine.execMadiConfig r s
  | .madiGet r => Sys2Proof.Machine.execMadiGet r s
  | .sapStatsGet r => Sys2Proof.Machine.execSapStatsGet r s
  | .fltEngineConfig r => Sys2Proof.Machine.execFltEngineConfig r s
  | .fltEngineGet r => Sys2Proof.Machine.execFltEngineGet r s
  | .fltChanMap r => Sys2Proof.Machine.execFltChanMap r s
  | .fltPhaseSet r => Sys2Proof.Machine.execFltPhaseSet r s
  | .fltDelayGet r => Sys2Proof.Machine.execFltDelayGet r s
  | .fltCoefGet r => Sys2Proof.Machine.execFltCoefGet r s
  | .asrcGroupConfig r => Sys2Proof.Machine.execAsrcGroupConfig r s
  | .asrcGroupStatus r => Sys2Proof.Machine.execAsrcGroupStatus r s
  | .tdConfig r => Sys2Proof.Machine.execTdConfig r s
  | .tdRead r => Sys2Proof.Machine.execTdRead r s
  | .layoutConfig r => Sys2Proof.Machine.execLayoutConfig r s
  | .layoutGet r => Sys2Proof.Machine.execLayoutGet r s
  | .speakerSet r => Sys2Proof.Machine.execSpeakerSet r s
  | .speakerGet r => Sys2Proof.Machine.execSpeakerGet r s
  | .routeSet r => Sys2Proof.Machine.execRouteSet r s
  | .trjConfig r => Sys2Proof.Machine.execTrjConfig r s
  | .knotPush r => Sys2Proof.Machine.execKnotPush r s
  | .objGainSet r => Sys2Proof.Machine.execObjGainSet r s
  | .objClear r => Sys2Proof.Machine.execObjClear r s
  | .objStateGet r => Sys2Proof.Machine.execObjStateGet r s
  | .trjStatsGet r => Sys2Proof.Machine.execTrjStatsGet r s
  | .lawBind r => Sys2Proof.Machine.execLawBind r s
  | .lawBindGet r => Sys2Proof.Machine.execLawBindGet r s
  | .lawProgLoad r => Sys2Proof.Machine.execLawProgLoad r s
  | .lawProgUnload r => Sys2Proof.Machine.execLawProgUnload r s
  | .lawProgList r => Sys2Proof.Machine.execLawProgList r s
  | .lawTableLoad r => Sys2Proof.Machine.execLawTableLoad r s
  | .schConfig r => Sys2Proof.Machine.execSchConfig r s
  | .schStatusGet r => Sys2Proof.Machine.execSchStatusGet r s
  | .schTraceRead r => Sys2Proof.Machine.execSchTraceRead r s
  | .lawEngineSet r => Sys2Proof.Machine.execLawEngineSet r s
  | .lawTestRun r => Sys2Proof.Machine.execLawTestRun r s
  | .lawDebug r => Sys2Proof.Machine.execLawDebug r s
  | .lawStatsGet r => Sys2Proof.Machine.execLawStatsGet r s
  | .rndLaneMapSet r => Sys2Proof.Machine.execRndLaneMapSet r s
  | .rndLaneMapGet r => Sys2Proof.Machine.execRndLaneMapGet r s
  | .rndLaneStatus r => Sys2Proof.Machine.execRndLaneStatus r s
  | .rndMigrate r => Sys2Proof.Machine.execRndMigrate r s
  | .rndPathGet r => Sys2Proof.Machine.execRndPathGet r s
  | .rndCoefGet r => Sys2Proof.Machine.execRndCoefGet r s
  | .rndStatsGet r => Sys2Proof.Machine.execRndStatsGet r s
  | .cnvConfig r => Sys2Proof.Machine.execCnvConfig r s
  | .cnvStatusGet r => Sys2Proof.Machine.execCnvStatusGet r s
  | .cnvCoefBegin r => Sys2Proof.Machine.execCnvCoefBegin r s
  | .cnvCoefWrite r => Sys2Proof.Machine.execCnvCoefWrite r s
  | .cnvCoefCommit r => Sys2Proof.Machine.execCnvCoefCommit r s
  | .cnvCoefClear r => Sys2Proof.Machine.execCnvCoefClear r s
  | .cnvSwitch r => Sys2Proof.Machine.execCnvSwitch r s
  | .cnvOutStatus r => Sys2Proof.Machine.execCnvOutStatus r s
  | .cnvPreeqSet r => Sys2Proof.Machine.execCnvPreeqSet r s
  | .cnvTwiddleGet r => Sys2Proof.Machine.execCnvTwiddleGet r s
  | .outConfig r => Sys2Proof.Machine.execOutConfig r s
  | .outConfigGet r => Sys2Proof.Machine.execOutConfigGet r s
  | .outTrimSet r => Sys2Proof.Machine.execOutTrimSet r s
  | .outMuteSet r => Sys2Proof.Machine.execOutMuteSet r s
  | .outMapSet r => Sys2Proof.Machine.execOutMapSet r s
  | .outMapGet r => Sys2Proof.Machine.execOutMapGet r s
  | .guardSet r => Sys2Proof.Machine.execGuardSet r s
  | .guardGet r => Sys2Proof.Machine.execGuardGet r s
  | .outMeterConfig r => Sys2Proof.Machine.execOutMeterConfig r s
  | .outMeterRead r => Sys2Proof.Machine.execOutMeterRead r s
  | .scbOwnerSet r => Sys2Proof.Machine.execScbOwnerSet r s
  | .scbStatusGet r => Sys2Proof.Machine.execScbStatusGet r s
  | .scbTestConfig r => Sys2Proof.Machine.execScbTestConfig r s
  | .dpStatsGet r => Sys2Proof.Machine.execDpStatsGet r s
  | .bwConfig r => Sys2Proof.Machine.execBwConfig r s
  | .bwGet r => Sys2Proof.Machine.execBwGet r s
  | .drcConfig r => Sys2Proof.Machine.execDrcConfig r s
  | .drcStatusGet r => Sys2Proof.Machine.execDrcStatusGet r s
  | .drcFreqSet r => Sys2Proof.Machine.execDrcFreqSet r s
  | .drcTrain r => Sys2Proof.Machine.execDrcTrain r s
  | .drcResume r => Sys2Proof.Machine.execDrcResume r s
  | .drcFreezeGet r => Sys2Proof.Machine.execDrcFreezeGet r s
  | .drcStatsGet r => Sys2Proof.Machine.execDrcStatsGet r s
  | .pairConfig r => Sys2Proof.Machine.execPairConfig r s
  | .pairStatusGet r => Sys2Proof.Machine.execPairStatusGet r s
  | .pairGuardStatus r => Sys2Proof.Machine.execPairGuardStatus r s
  | .pairSpliceStart r => Sys2Proof.Machine.execPairSpliceStart r s
  | .pairStatsGet r => Sys2Proof.Machine.execPairStatsGet r s
  | .hltReportGet r => Sys2Proof.Machine.execHltReportGet r s
  | .hltLogRead r => Sys2Proof.Machine.execHltLogRead r s
  | .hltStrikesGet r => Sys2Proof.Machine.execHltStrikesGet r s
  | .hltAgeingGet r => Sys2Proof.Machine.execHltAgeingGet r s
  | .hltReplanConfig r => Sys2Proof.Machine.execHltReplanConfig r s
  | .pwrConfig r => Sys2Proof.Machine.execPwrConfig r s
  | .pwrStateGet r => Sys2Proof.Machine.execPwrStateGet r s
  | .pwrDoze r => Sys2Proof.Machine.execPwrDoze r s
  | .pwrHibernate r => Sys2Proof.Machine.execPwrHibernate r s
  | .pwrWakeRecGet r => Sys2Proof.Machine.execPwrWakeRecGet r s
  | .storeStatusGet r => Sys2Proof.Machine.execStoreStatusGet r s
  | .storeBlobWrite r => Sys2Proof.Machine.execStoreBlobWrite r s
  | .storeBlobRead r => Sys2Proof.Machine.execStoreBlobRead r s
  | .storeCompact r => Sys2Proof.Machine.execStoreCompact r s
  | .fwUpdateBegin r => Sys2Proof.Machine.execFwUpdateBegin r s
  | .fwUpdateWrite r => Sys2Proof.Machine.execFwUpdateWrite r s
  | .fwUpdateCommit r => Sys2Proof.Machine.execFwUpdateCommit r s
  | .refInLoss => Sys2Proof.Machine.execRefInLoss s
  | .refInReturn => Sys2Proof.Machine.execRefInReturn s
  | .rtcClockStop => Sys2Proof.Machine.execRtcClockStop s
  | .resetNRelease hostSel bootMode => Sys2Proof.Machine.execResetNRelease hostSel bootMode s
  | .sequenceRetry => Sys2Proof.Machine.execSequenceRetry s
  | .thermalRecovery => Sys2Proof.Machine.execThermalRecovery s
  | .ptpMessageTx port kind => Sys2Proof.Machine.execPtpMessageTx port kind s
  | .spliceBulkDone => Sys2Proof.Machine.execSpliceBulkDone s
  | .maxCycReached e => Sys2Proof.Machine.execMaxCycReached e s
  | .sweepDone meas => Sys2Proof.Machine.execSweepDone meas s
  | .trimSlewDone island => Sys2Proof.Machine.execTrimSlewDone island s
  | .snapshotCopyDone => Sys2Proof.Machine.execSnapshotCopyDone s

end Sys2Proof.Machine
end

