-- ==== Sys2Proof/WellFormed.lean ====
section
/-! DEFINITION. Well-formed commands: those whose operands name units, slots and fields the device has. -/

namespace Sys2Proof

/-- 10 R277, 14 R383: the internal addresses of registers whose read latches the HI partner (or partners). -/
def latchingAddr (a : Nat) : Bool :=
  let o := a % 0x100000
  match a / 0x100000 with
  | 0x400 => decide (o < 0x80000) && decide (0x1000 ≤ o % 0x8000) && decide (o % 0x8000 < 0x1140) && o % 8 == 0
  | 0x403 => o == 0x10 || o == 0x40
  | 0x407 => o % 0x20000 == 0x50
  | 0x408 => o == 0x0C
  | 0x40A => decide (0x9000 ≤ o) && decide (o < 0x9200) && o % 16 == 4
  | 0x40C => o == 0x28
  | 0x40D => o == 0x14 || o == 0x1C || (decide (0x100 ≤ o) && decide (o < 0x300) && o % 16 == 8)
  | 0x40F => o == 0x18
  | _ => false

/-- The command names a port, engine, lane, slot, bank or other unit the device has, and its fields fit their places. The bytes that
INDIRECT_FETCH_DONE brings must also be as many as its descriptor asks for, which the state tells (`Machine.fetchLen`). -/
def Instr.wf : Instr → Bool
  | .tickBoundary i => i.tdm.all (fun x => x.1 < 1280) && i.faults.all (fun f => match f with
      | .redo p _ => p < 68
      | .stuck p => p < 68
      | .ecc p _ _ _ => p < 68
      | .cnv o _ _ => o < 512)
  | .outBlockHandover => true
  | .fltSampleMark e sample => e < 4 && sample < 16
  | .rndDeadline lane => lane < 68
  | .trjDeadline => true
  | .lawJobDeadline => true
  | .cnvT2FrameDeadline out _ => out < 512
  | .timedCommandBoundary => true
  | .triggerLeadBoundary slot => slot < 32
  | .triggerFire slot => slot < 32
  | .timIncCommit _ => true
  | .timStepGo _ => true
  | .snapNow => true
  | .ptpMessageRx port _ => port < 16
  | .masterLost => true
  | .ppsInEdge _ => true
  | .ppsInMissing => true
  | .ppsOutSecond => true
  | .ppsWidthEnd => true
  | .trigOutPulseEnd pin => pin < 8
  | .mclkSwitch n => n < 4
  | .offsetLargeReport => true
  | .servoCheck _ _ => true
  | .strikeLeak ch => ch < 1176
  | .memoryScrub lane path addr _ => lane < 68 && addr < if path then 65536 else 263168
  | .laneSelfTestDone lane _ => lane < 68
  | .laneTakeover => true
  | .frameReceive port f => port < 16 && 14 ≤ f.bytes.length
  | .frameTransmit port q f _ => port < 16 && q < 3 && 14 ≤ f.length
  | .expressPreempt port _ => port < 16
  | .linkChange port _ _ => port < 16
  | .portSerdesLock port => port < 16
  | .portStartTimeout port => port < 16
  | .portStopDone port => port < 16
  | .preemptVerify port _ frag => port < 16 && frag < 4
  | .fcsLimitSecond port => port < 16
  | .linkAbsent10s port => port < 16
  | .wakePatternMatch port _ _ => port < 16
  | .rtpPacketRx port _ => port < 16
  | .trajectoryPacketRx port _ => port < 16
  | .tdmFrameSync c _ _ => c < 10
  | .tdmClockLoss c => c < 10
  | .tdmClockAbsent10s c => c < 10
  | .madiFrameRx m _ _ _ => m < 8
  | .madiSyncLoss m => m < 8
  | .madiCodeErrSecond m _ => m < 8
  | .madiSignalAbsent10s m => m < 8
  | .asrcLock e g => e < 4 && g < 16
  | .asrcLost e g => e < 4 && g < 16
  | .toneBlockResult d => d < 64
  | .meterWindowEnd out => out < 512
  | .schedulerDecision e _ => e < 8
  | .affWaitReached _ _ => true
  | .jobDispatch e => e < 8
  | .jobCollectionDone e => e < 8
  | .interruptEntry e => e < 8
  | .budgetExpiry e => e < 8
  | .lawNop e _ => e < 8
  | .lawMpy e _ _ => e < 8
  | .lawMac e _ _ => e < 8
  | .lawMsu e _ _ => e < 8
  | .lawAdda e _ _ => e < 8
  | .lawSuba e _ _ => e < 8
  | .lawNega e _ _ => e < 8
  | .lawAbsa e _ _ => e < 8
  | .lawClra e _ _ => e < 8
  | .lawShla e _ _ => e < 8
  | .lawShra e _ _ => e < 8
  | .lawExpa e _ _ => e < 8
  | .lawNorma e _ _ => e < 8
  | .lawMvad e _ _ => e < 8
  | .lawMvda e _ _ => e < 8
  | .lawAdd e _ _ => e < 8
  | .lawSub e _ _ => e < 8
  | .lawAdds e _ _ => e < 8
  | .lawSubs e _ _ => e < 8
  | .lawAnd e _ _ => e < 8
  | .lawOr e _ _ => e < 8
  | .lawXor e _ _ => e < 8
  | .lawAsr e _ _ => e < 8
  | .lawLsr e _ _ => e < 8
  | .lawLsl e _ _ => e < 8
  | .lawAsrv e _ _ => e < 8
  | .lawExp e _ _ => e < 8
  | .lawNorm e _ _ => e < 8
  | .lawMin e _ _ => e < 8
  | .lawMax e _ _ => e < 8
  | .lawCmp e _ _ => e < 8
  | .lawMov e _ _ => e < 8
  | .lawAbs e _ _ => e < 8
  | .lawNeg e _ _ => e < 8
  | .lawSel e _ _ => e < 8
  | .lawMulq e _ _ => e < 8
  | .lawRcp e _ _ => e < 8
  | .lawRsq e _ _ => e < 8
  | .moveLoad e _ _ _ _ _ => e < 8
  | .moveStore e _ _ _ _ _ => e < 8
  | .lawLd e _ _ => e < 8
  | .lawSt e _ _ => e < 8
  | .lawMovr e _ _ _ => e < 8
  | .lawAddi e _ _ _ => e < 8
  | .lawLdis e _ _ _ => e < 8
  | .lawLdi e _ _ => e < 8
  | .lawBr e _ _ => e < 8
  | .lawBri e _ _ => e < 8
  | .lawCall e _ _ => e < 8
  | .lawLoop e _ _ _ => e < 8
  | .lawRotn e _ => e < 8
  | .lawSrset e _ _ => e < 8
  | .lawJend e _ => e < 8
  | .lawRti e => e < 8
  | .lawTrap e _ _ => e < 8
  | .lawBkpt e => e < 8
  | .lawSync e => e < 8
  | .lawDoorbell e => e < 8
  | .lawHaltReq e => e < 8
  | .lawStep e => e < 8
  | .lawResume e => e < 8
  | .lawProgLoadDone _ => true
  | .lawEngineDisableDone e => e < 8
  | .scbOwnerWrite bank _ => bank < 16
  | .bankHandoverDone bank => bank < 16
  | .testStripe bank stripe _ => bank < 16 && stripe < 2048
  | .bankReady out bank => out < 512 && bank < 2
  | .cnvVerifyDone _ => true
  | .drcStartDone _ => true
  | .drcStopDone => true
  | .drcCommandSlot ch _ => ch < 4
  | .refresh ch rank => ch < 4 && rank < 2
  | .temperaturePoll _ => true
  | .trainingStepDone _ => true
  | .trainingRunDone _ => true
  | .trainingRetry => true
  | .trainHeldTimeout ch => ch < 4
  | .driftMeasure _ => true
  | .driftTapStep _ => true
  | .freqSwitchDone _ => true
  | .freezeAutoResume => true
  | .drcTrnGo _ => true
  | .drcDlyValWrite _ => true
  | .doorbell _ => true
  | .ringCommit ring _ => ring < 3
  | .ringHeadWrite ring _ => ring == 1 || ring == 2
  | .hostResetChip _ => true
  | .hostResetWarm _ => true
  | .irqStatusWrite _ => true
  | .irqHoldoffExpiry _ => true
  | .diagAddrWrite _ => true
  | .diagDataRead => true
  | .diagFetchDone => true
  | .rcRegisterRead addr => [0x10, 0x40600008, 0x40C00024].contains addr
  | .latchingRead addr => latchingAddr addr
  | .netTsfPop port => port < 16
  | .traceClear => true
  | .sweepNow => true
  | .registerWrite _ _ _ => true
  | .responseWrite => true
  | .eventWrite => true
  | .indirectFetchDone _ _ => true
  | .fetchTimeout => true
  | .resultBufferWrite _ => true
  | .retainedResponseExpiry tag => tag < 256
  | .recOpen fseq tick epoch base => fseq < 2 ^ 32 && tick < 2 ^ 64 && epoch < 2 ^ 32 && base < 2 ^ 64
  | .recItem fseq order kind data => fseq < 2 ^ 32 && order < 2 ^ 32 && kind < 2 && data.length ≤ 2040
  | .recAsrc fseq l => fseq < 2 ^ 32 && l.length ≤ 128 && l.all (fun x => x.1 < 4 && x.2.1 < 16 && x.2.2.2 < 2 ^ 64)
  | .recPatch fseq kind id first count smp => fseq < 2 ^ 32 && 1 ≤ kind && kind ≤ 3 && id < 256 && first < 256 && 1 ≤ count && count < 256
      && smp.length ≤ 510 && smp.length % count == 0
  | .recGuard fseq block mask crcs => fseq < 2 ^ 32 && block < 2 ^ 64 && mask < 2 ^ 32 && crcs.length == 32 && crcs.all (fun c => c < 2 ^ 32)
  | .recBulk fseq handle off data => fseq < 2 ^ 32 && handle < 2 ^ 32 && off < 2 ^ 32 && data.length ≤ 2040
  | .recSplice fseq size _ => fseq < 2 ^ 32 && size < 2 ^ 32
  | .recWarm fseq g => fseq < 2 ^ 32 && g.length == 32 && g.all (fun x => x < 2 ^ 32)
  | .recSeal fseq tick epoch frames bytes crc => fseq < 2 ^ 32 && tick < 2 ^ 64 && epoch < 2 ^ 32 && frames < 2 ^ 32 && bytes < 2 ^ 32 && crc < 2 ^ 32
  | .lnkStatus fseq lastCommit st _ mm chip => fseq < 2 ^ 32 && lastCommit < 2 ^ 64 && st < 8 && mm < 2 ^ 32 && chip < 2 ^ 64
  | .lnkTime fseq tx peerTx peerRx rx => fseq < 2 ^ 32 && tx < 2 ^ 80 && peerTx < 2 ^ 80 && peerRx < 2 ^ 80 && rx < 2 ^ 80
  | .lnkAck fseq nak => fseq < 2 ^ 32 && nak < 2 ^ 32
  | .frameResendTimeout fseq => fseq < 2 ^ 32
  | .lanyardLinkChange lane _ => lane < 2
  | .lanyardAbsent10s => true
  | .commitDeadline => true
  | .ackDeadline => true
  | .mismatchHoldExpiry => true
  | .spliceAutoStart => true
  | .spliceSnapshot => true
  | .sweep => true
  | .watchdogExpiry => true
  | .idleEntry => true
  | .dozeTimer => true
  | .dozeCommitPoint _ _ _ => true
  | .wakeNAssert _ => true
  | .wakeAlarmDue slot _ => slot < 32
  | .hostDozeWrite reg _ _ => reg < 4
  | .mailboxWriteDropped _ => true
  | .dozeExitDone _ _ => true
  | .powerOn => true
  | .resetNAssert => true
  | .functionLevelReset => true
  | .pgoodSample _ _ _ => true
  | .supplyFault => true
  | .vddAonFall => true
  | .thermalShutdown => true
  | .bootImageChecked _ => true
  | .hostLoadGo _ _ => true
  | .bootReady failed => failed.all (fun c => c < 1176)
  | .journalAppend _ => true
  | .compaction step => 1 ≤ step && step ≤ 5
  | .flashOpDone _ _ _ => true
  | .identify _ => true
  | .capsGet _ => true
  | .echo _ => true
  | .funcStart _ => true
  | .funcStop _ => true
  | .funcStateGet _ => true
  | .renderRateSet _ => true
  | .deviceReset _ => true
  | .diagRead _ => true
  | .rspContinue _ => true
  | .timeGet _ => true
  | .ptpConfig _ => true
  | .timeStep _ => true
  | .timeSet _ => true
  | .tscSet _ => true
  | .mclkConfig _ => true
  | .ppsConfig _ => true
  | .trigOutConfig _ => true
  | .triggerSet _ => true
  | .triggerCancel _ => true
  | .triggerStatus _ => true
  | .netPortConfig _ => true
  | .netPortGet _ => true
  | .netLinkStatus _ => true
  | .netPreemptConfig _ => true
  | .netStatsGet _ => true
  | .netHalfClear _ => true
  | .netWakeFilterSet _ => true
  | .netWakePortSet _ => true
  | .netWakeGet _ => true
  | .streamRxConfig _ => true
  | .streamRxGet _ => true
  | .streamTxConfig _ => true
  | .streamTxGet _ => true
  | .inputMapSet _ => true
  | .inputMapGet _ => true
  | .streamStatsGet _ => true
  | .tdmClusterConfig _ => true
  | .tdmClusterGet _ => true
  | .madiConfig _ => true
  | .madiGet _ => true
  | .sapStatsGet _ => true
  | .fltEngineConfig _ => true
  | .fltEngineGet _ => true
  | .fltChanMap _ => true
  | .fltPhaseSet _ => true
  | .fltDelayGet _ => true
  | .fltCoefGet _ => true
  | .asrcGroupConfig _ => true
  | .asrcGroupStatus _ => true
  | .tdConfig _ => true
  | .tdRead _ => true
  | .layoutConfig _ => true
  | .layoutGet _ => true
  | .speakerSet _ => true
  | .speakerGet _ => true
  | .routeSet _ => true
  | .trjConfig _ => true
  | .knotPush _ => true
  | .objGainSet _ => true
  | .objClear _ => true
  | .objStateGet _ => true
  | .trjStatsGet _ => true
  | .lawBind _ => true
  | .lawBindGet _ => true
  | .lawProgLoad _ => true
  | .lawProgUnload _ => true
  | .lawProgList _ => true
  | .lawTableLoad _ => true
  | .schConfig _ => true
  | .schStatusGet _ => true
  | .schTraceRead _ => true
  | .lawEngineSet _ => true
  | .lawTestRun _ => true
  | .lawDebug _ => true
  | .lawStatsGet _ => true
  | .rndLaneMapSet _ => true
  | .rndLaneMapGet _ => true
  | .rndLaneStatus _ => true
  | .rndMigrate _ => true
  | .rndPathGet _ => true
  | .rndCoefGet _ => true
  | .rndStatsGet _ => true
  | .cnvConfig _ => true
  | .cnvStatusGet _ => true
  | .cnvCoefBegin _ => true
  | .cnvCoefWrite _ => true
  | .cnvCoefCommit _ => true
  | .cnvCoefClear _ => true
  | .cnvSwitch _ => true
  | .cnvOutStatus _ => true
  | .cnvPreeqSet _ => true
  | .cnvTwiddleGet _ => true
  | .outConfig _ => true
  | .outConfigGet _ => true
  | .outTrimSet _ => true
  | .outMuteSet _ => true
  | .outMapSet _ => true
  | .outMapGet _ => true
  | .guardSet _ => true
  | .guardGet _ => true
  | .outMeterConfig _ => true
  | .outMeterRead _ => true
  | .scbOwnerSet _ => true
  | .scbStatusGet _ => true
  | .scbTestConfig _ => true
  | .dpStatsGet _ => true
  | .bwConfig _ => true
  | .bwGet _ => true
  | .drcConfig _ => true
  | .drcStatusGet _ => true
  | .drcFreqSet _ => true
  | .drcTrain _ => true
  | .drcResume _ => true
  | .drcFreezeGet _ => true
  | .drcStatsGet _ => true
  | .pairConfig _ => true
  | .pairStatusGet _ => true
  | .pairGuardStatus _ => true
  | .pairSpliceStart _ => true
  | .pairStatsGet _ => true
  | .hltReportGet _ => true
  | .hltLogRead _ => true
  | .hltStrikesGet _ => true
  | .hltAgeingGet _ => true
  | .hltReplanConfig _ => true
  | .pwrConfig _ => true
  | .pwrStateGet _ => true
  | .pwrDoze _ => true
  | .pwrHibernate _ => true
  | .pwrWakeRecGet _ => true
  | .storeStatusGet _ => true
  | .storeBlobWrite _ => true
  | .storeBlobRead _ => true
  | .storeCompact _ => true
  | .fwUpdateBegin _ => true
  | .fwUpdateWrite _ => true
  | .fwUpdateCommit _ => true
  | .refInLoss => true
  | .refInReturn => true
  | .rtcClockStop => true
  | .resetNRelease _ _ => true
  | .sequenceRetry => true
  | .thermalRecovery => true
  | .ptpMessageTx port kind => port < 16 && [0, 1, 11].contains kind
  | .spliceBulkDone => true
  | .maxCycReached e => e < 8
  | .sweepDone meas => meas.all (fun m => m.ring < 96)
  | .trimSlewDone island => island < 87
  | .snapshotCopyDone => true

end Sys2Proof
end

