-- ==== Sys2Proof/Safety.lean ====
section
/-! DEFINITION. The words the claims are stated in: what it is for a command to complete, and the conditions under which the device
takes an ACP command. -/

namespace Sys2Proof.Machine

/-! ## Completion -/

/-- Command `i` completes in `s`, and the state it leaves meets `P`. -/
def Completes (i : Instr) (s : State) (P : State → Prop) : Prop := ∃ t, exec i s = .next t ∧ P t

/-! ## What every step keeps -/

/-- What every step keeps (14 R359, R381, 16 R404): mailbox SRAM in its canonical form (log 2), IRQ_N and INTA following the pending set,
ARB_FLT high before READY (log 3), and the model's own flag clear. -/
structure State.Inv (s : State) : Prop where
  canonical : Memory.wf s.mbox = true
  irqN : s.dev.hst.irqN = decide (s.dev.hst.irq &&& s.dev.hst.irqEn = 0)
  inta : s.dev.hst.inta = (decide (s.dev.hst.irq &&& s.dev.hst.irqEn ≠ 0) && !s.dev.hst.hspi && !s.dev.hst.msiEn)
  fault : s.dev.boot.st ≠ .ready → s.dev.pair.flt = true
  calm : s.dev.mboxClear = false

/-! ## Frames -/

/-- The kinds of state the device holds. -/
inductive Part where
  | tim | trj | flt | law | sch | rnd | cnv | out | net | str | sap | scb | drc | rings | irq | pair | hlt | pwr | boot | store
  | units | rate | undo | mbox
  deriving DecidableEq, Repr

/-- A kind of state is the same in two states. Of the host interface `rings` is the three rings and the held requests for their
interrupts, and `irq` is HOST_IRQ_STATUS and its enables; `pair` and `hlt` leave out ARB_FLT and HLT_FLAGS, which follow from the rest. -/
def Part.same (s t : State) : Part → Prop
  | .tim => t.dev.tim = s.dev.tim
  | .trj => t.dev.trj = s.dev.trj
  | .flt => t.dev.flt = s.dev.flt
  | .law => t.dev.law = s.dev.law
  | .sch => t.dev.sch = s.dev.sch
  | .rnd => t.dev.rnd = s.dev.rnd
  | .cnv => t.dev.cnv = s.dev.cnv
  | .out => t.dev.out = s.dev.out
  | .net => t.dev.net = s.dev.net
  | .str => t.dev.str = s.dev.str
  | .sap => t.dev.sap = s.dev.sap
  | .scb => t.dev.scb = s.dev.scb
  | .drc => t.dev.drc = s.dev.drc
  | .rings => t.dev.hst.cmd = s.dev.hst.cmd ∧ t.dev.hst.rsp = s.dev.hst.rsp ∧ t.dev.hst.evt = s.dev.hst.evt
      ∧ t.dev.hst.halted = s.dev.hst.halted ∧ t.dev.hst.rspHeld = s.dev.hst.rspHeld ∧ t.dev.hst.evtHeld = s.dev.hst.evtHeld
  | .irq => t.dev.hst.irq = s.dev.hst.irq ∧ t.dev.hst.irqEn = s.dev.hst.irqEn ∧ t.dev.hst.holdoff = s.dev.hst.holdoff
  | .pair => { t.dev.pair with flt := s.dev.pair.flt } = s.dev.pair
  | .hlt => { t.dev.hlt with flags := s.dev.hlt.flags } = s.dev.hlt
  | .pwr => t.dev.pwr = s.dev.pwr
  | .boot => t.dev.boot = s.dev.boot
  | .store => t.dev.store = s.dev.store
  | .units => t.dev.units = s.dev.units
  | .rate => t.dev.rate = s.dev.rate
  | .undo => t.dev.undo = s.dev.undo
  | .mbox => ∀ a, Memory.get t.mbox a = Memory.get s.mbox a

/-- Every kind of state but those of `w` is unchanged. -/
def Frame (w : List Part) (s t : State) : Prop := t.pending = s.pending ∧ ∀ p, p ∉ w → p.same s t

/-! ## ACP commands (14 R366 to R377, 15 R384 to R389) -/

/-- The device takes an ACP command plainly: BOOT reads READY and the device is ACTIVE (15 R386), no fetch is under way (14 R376), the
tag is free and its record is of another SEQ (14 R367, R368), no flag is set and nothing reserved (14 Table 14.7), the payload `own`
stands inline within the limit (14 R375), and the device is unpaired (16 R401). `calm` is of the model's own
flag, which every step leaves clear. -/
structure Plain (s : State) (r : AcpReq) (own : Bytes) : Prop where
  ready : s.dev.boot.st = .ready
  active : s.dev.pwr.st = .active
  idleFetch : s.dev.hst.fetch = none
  freeTag : tget none s.dev.hst.inflight r.tag.toNat = none
  newSeq : ¬ ((tget {} s.dev.hst.tags r.tag.toNat).used = true ∧ (tget {} s.dev.hst.tags r.tag.toNat).seq = r.seq.toNat)
  flags : r.flags = 0
  rsvd : r.rsvd = 0
  payload : r.inl = own
  fits : own.length ≤ s.dev.inlineLimit
  alone : s.dev.pair.st = .off
  unserved : s.dev.pair.serving = false
  calm : s.dev.mboxClear = false

/-- 14 Table 14.11: the response to `r` with no flag set. -/
def replyTo (op : Nat) (r : AcpReq) (st : Nat) (p : Bytes) : Rsp :=
  { op := op, tag := r.tag.toNat, flags := 0, status := st, seq := r.seq.toNat, len := 0, payload := p }

/-- Command `i` of opcode `op` completes at once: its response, with status OK and payload `p`, joins the completed responses as the
last of them, and the state left meets `P`. -/
def Answers (i : Instr) (op : Nat) (r : AcpReq) (s : State) (p : Bytes) (P : State → Prop) : Prop :=
  Completes i s (fun t => t.dev.hst.rspQ = s.dev.hst.rspQ ++ [replyTo op r 0 p] ∧ P t)

/-- Command `i` is refused with status `st` (15 R389): the response says so, with payload `p`, and the state left meets `P`. -/
def Refuses (i : Instr) (op : Nat) (r : AcpReq) (s : State) (st : Nat) (p : Bytes) (P : State → Prop) : Prop :=
  Completes i s (fun t => t.dev.hst.rspQ = s.dev.hst.rspQ ++ [replyTo op r st p] ∧ P t)

/-- Command `i` is accepted and its operation begins (14 R371): its response waits for the end of operation `key`, and the state left
meets `P`. -/
def Begins (i : Instr) (op : Nat) (r : AcpReq) (s : State) (key : Nat × Nat) (P : State → Prop) : Prop :=
  Completes i s (fun t => t.dev.hst.rspQ = s.dev.hst.rspQ ∧
    (∃ w ∈ t.dev.hst.wait, w.op = op ∧ w.tag = r.tag.toNat ∧ w.seq = r.seq.toNat ∧ w.status = 0 ∧ w.key = key) ∧ P t)

/-- Where `ok` holds of its payload and the state, the command answers OK with what `data` says and changes no kind of state. -/
def Reads (i : AcpReq → Instr) (op : Nat) (ok : Bytes → State → Prop) (data : Bytes → State → Bytes) : Prop :=
  ∀ s r b, Plain s r b → ok b s → Answers (i r) op r s (data b s) (Frame [] s)

/-- Where `ok` holds of its payload and the state, the command answers OK with what `data` says, does what `eff` says, and changes no kind
of state but those of `w`. -/
def Sets (i : AcpReq → Instr) (op : Nat) (w : List Part) (ok : Bytes → State → Prop) (data : Bytes → State → Bytes)
    (eff : Bytes → State → State → Prop) : Prop :=
  ∀ s r b, Plain s r b → ok b s → Answers (i r) op r s (data b s) (fun t => eff b s t ∧ Frame w s t)

/-- 01 R32: no command taken later than the next one has set item `key` (see `Hst.lastSet`) for block `b`. -/
def Newest (s : State) (key b : Nat) : Prop := ∀ b' o, tget none s.dev.hst.lastSet key = some (b', o) → ¬ (b' = b ∧ s.dev.hst.ord + 1 < o)

/-- Event `i` completes: what `eff` says comes to pass, and no kind of state but those of `w` changes. -/
def Does (i : Instr) (w : List Part) (s : State) (eff : State → Prop) : Prop :=
  s.dev.mboxClear = false → Completes i s (fun t => eff t ∧ Frame w s t)

/-- An event of this code, instance and payload is held in `t`, unless more than 32 were held in `s` already (14 R380). -/
def Raises (s t : State) (code inst : Nat) (p : Bytes) : Prop :=
  s.dev.hst.evq.length ≤ 32 → ∃ e ∈ t.dev.hst.evq, e.code = code ∧ e.inst = inst ∧ e.payload = p

/-- 17 R431: a strike on channel `c` is no retirement: the channel is not RETIRED, has had no strike in this tick and stands below level 7. -/
def Strikable (s : State) (c : Nat) : Prop :=
  (s.dev.chan c).retired = false ∧ (s.dev.chan c).lastTick ≠ some s.dev.tim.tick ∧ (s.dev.chan c).level < 7

/-- 17 R431: channel `c` took a strike. -/
def Struck (s t : State) (c : Nat) : Prop :=
  t.dev.chan c = { s.dev.chan c with
    level := (s.dev.chan c).level + 1, leak := true, strikes := (s.dev.chan c).strikes + 1, lastTick := some s.dev.tim.tick }

/-- Table `t` reads `v` at key `k` and as table `u` elsewhere. -/
def At {α : Type} (z : α) (u t : Tbl α) (k : Nat) (v : α) : Prop := tget z t k = v ∧ ∀ j, j ≠ k → tget z t j = tget z u j

/-- 14 R371: operation `(op, arg)` ends with status `st`: the responses that await it and nothing more, of commands with no flag set,
have joined the completed responses with payload `p`. -/
def Ends (s t : State) (op arg st : Nat) (p : Bytes) : Prop :=
  ∀ w ∈ s.dev.hst.wait, w.key = (op, arg) → w.ackTick = none → w.flags = 0 → w.rb = none → w.repl = false →
    ({ op := w.op, tag := w.tag, flags := 0, status := if st = 0 then w.status else st, seq := w.seq, len := 0, payload := p } : Rsp) ∈ t.dev.hst.rspQ

/-- 14 R371: no response awaits operation `key`, and none stands complete. -/
def Unawaited (s : State) (key : Nat × Nat) : Prop := ∀ w ∈ s.dev.hst.wait, w.key ≠ key ∧ (w.ackTick ≠ none ∨ w.key ≠ (0, 0))

/-- 07 R183: physical lane `p` is as `x` says, and every other lane as it was. -/
def LaneIs (s t : State) (p : Nat) (x : Lane) : Prop := t.dev.lane p = x ∧ ∀ q, q ≠ p → t.dev.lane q = s.dev.lane q

/-! ## Pairing (16) -/

/-- The PAIR block of `t` is `p`, but for ARB_FLT, which follows from the rest. -/
def PairIs (s t : State) (p : Pair) : Prop := { t.dev.pair with flt := s.dev.pair.flt } = { p with flt := s.dev.pair.flt }

/-- 16 R406: a frame of FSEQ `n` is the next in order on a Lanyard that carries frames. -/
def Framed (s : State) (n : Nat) : Prop := n < 2 ^ 32 ∧ s.dev.lanyardOk = true ∧ ∀ q, s.dev.pair.rxSeq = some q → n = (q + 1) % 2 ^ 32

/-- 16 R408, R410: command `i` is a content frame of payload `p`: it counts in the record being received, which `f` says what it adds to. -/
def AddsTo (i : Nat → Instr) (p : Bytes) (f : Rec → Rec) : Prop :=
  (∀ s n r, Framed s n → s.dev.takesRec = true → s.dev.pair.rcv = some r → Does (i n) [.pair] s (fun t =>
    PairIs s t { s.dev.pair with rxSeq := some n, rcv := some (f { r with
      frames := r.frames + 1, bytes := r.bytes + p.length, crc := crcGo r.crc p }) })) ∧
  (∀ s n, Framed s n → s.dev.pair.rcv = none → Does (i n) [.pair] s (fun t => PairIs s t { s.dev.pair with rxSeq := some n })) ∧
  (∀ s n, n < 2 ^ 32 → s.dev.lanyardOk = false ∨ (∃ q, s.dev.pair.rxSeq = some q ∧ n ≠ (q + 1) % 2 ^ 32) → Does (i n) [] s (fun _ => True))

/-! ## Law engines (05) -/

/-- 05 R136: engine `e` with the results that its next bundle sees landed. -/
def State.lawEng (s : State) (e : Nat) : LawEng := (s.dev.eng e).landAt (s.dev.eng e).issued

/-- 05 R130, R136 to R156: engine `e` issues bundle `b` at once: it runs a job or a handler, no other result is in flight, RCP and RSQ keep
their distance, no debug acts on it, no interrupt is due, its PC lies in the code window, the bundle is legal where it stands, and each of
its data accesses reaches a readable word. -/
structure Issues (s : State) (e : Nat) (b : Bundle) : Prop where
  engine : e < 8
  active : (s.dev.eng e).active = true
  clear : (s.lawEng e).flight = []
  spaced : (s.lawEng e).lastRcp = none ∨ isRcp b = false
  free : (s.lawEng e).dbg = false
  quiet : (s.lawEng e).irqDue = false
  inCode : inWindow (s.lawEng e).protCode (s.lawEng e).pc = true
  legal : bundleOk b = true
  placed : (s.lawEng e).placed b = true
  reached : ∀ a ∈ s.dev.accesses (s.lawEng e) b, a.at_ ≠ .fault ∧ a.at_ ≠ .wait ∧ s.dev.deadWord a = false

/-- 05 R126: the registers of two engine states are the same, but for RRB. -/
def SameRegs (x y : LawEng) : Prop :=
  y.pd = x.pd ∧ y.p = x.p ∧ y.m = x.m ∧ y.acc = x.acc ∧ y.accS = x.accS ∧ y.lc = x.lc ∧ y.ls = x.ls ∧ y.le = x.le ∧ y.sr = x.sr
  ∧ y.ictl = x.ictl ∧ y.epc = x.epc ∧ y.ecause = x.ecause ∧ y.esr = x.esr

/-- 05 R136, R140, R143: in `t` engine `e` has issued one bundle that is no branch: its count advances, and outside delay slots and loops
the PC steps by one; no register changes before its result lands; no other engine changes. -/
def Issued (s t : State) (e : Nat) : Prop :=
  (t.dev.eng e).issued = (s.lawEng e).issued + 1 ∧ (t.dev.eng e).st = (s.lawEng e).st ∧ (t.dev.eng e).run = (s.lawEng e).run ∧
  ((s.lawEng e).slots = 0 → (s.lawEng e).sr.getLsbD 7 = false →
    (t.dev.eng e).pc = (s.lawEng e).pc + 1 ∧ (t.dev.eng e).slots = 0 ∧ SameRegs (s.lawEng e) (t.dev.eng e)) ∧
  ∀ k, k ≠ e → t.dev.eng k = s.dev.eng k

/-- The issued bundle changes no word of memory that engine `e` could reach, but for the words of `p`. -/
def KeepsWords (s t : State) (e : Nat) (p : LAddr → Prop) : Prop :=
  ∀ a, ¬ p a → t.dev.lawRead (t.dev.eng e) a = s.dev.lawRead (s.lawEng e) a

/-- 05 Table 5.7: instruction `i` issues operation `op` in the compute slot, whatever stands beside it, and its results are those of `res`,
each with the bundle it lands at. -/
def Computes (i : Nat → CFields → Side → Instr) (op : COp) (res : LawEng → CFields → List Land) : Prop :=
  ∀ s e f sd, Issues s e (sd.bundle ⟨op, f⟩) → Does (i e f sd) [.law, .scb] s (fun t =>
    Issued s t e ∧ (∀ l ∈ res (s.lawEng e) f, l ∈ (t.dev.eng e).flight) ∧
    ((∀ a ∈ s.dev.accesses (s.lawEng e) (sd.bundle ⟨op, f⟩), a.store = false) → KeepsWords s t e (fun _ => False)))

/-- A result for physical register or status `g`, landing `n` bundles on. -/
def LawEng.lands (x : LawEng) (n : Nat) (g : LTgt) (v : Int) : Land := { due := x.issued + n, tgt := g, val := v, lock := false }

/-- 05 R135: N and Z of a result of 32 bits, V and C, landing two bundles on. -/
def LawEng.nzvc (x : LawEng) (v : Int) (ov cy : Bool) : Land :=
  x.lands 2 .flags ((8 * b01 (decide (wrapI 32 v < 0)) + 4 * b01 (wrapI 32 v == 0) + 2 * b01 ov + b01 cy : Nat) : Int)

/-- 05 R132: a result for accumulator `n`, saturated under SATA, for accumulator operations at once and for moves three bundles on. -/
def LawEng.toAcc (x : LawEng) (n : BitVec 5) (v : Int) : List Land :=
  [x.lands 1 (.accF (n.toNat % 4)) (if x.sr.getLsbD 6 then satI 72 v else wrapI 72 v),
   x.lands 3 (.acc (n.toNat % 4)) (if x.sr.getLsbD 6 then satI 72 v else wrapI 72 v)]

/-- 05 Table 5.11: a result for register Dn, `k` bundles on. -/
def LawEng.toD (x : LawEng) (n : BitVec 5) (k : Nat) (v : Int) : Land := x.lands k (.pd (x.phys n.toNat)) (wrapI 32 v)

/-- 05 R132: AOV and its cause, three bundles on, where a result does not fit in 72 bits. -/
def LawEng.aov (x : LawEng) (v : Int) : List Land := if satI 72 v = v then [] else [x.lands 3 .sticky ((1 + 4 * b01 (x.en 1) : Nat) : Int)]

/-- 05 R134: AS and its cause, `k` bundles on, where a result saturates. -/
def LawEng.satSets (x : LawEng) (k : Nat) (v : Int) : List Land :=
  if satI 32 v = v then [] else [x.lands k .sticky ((2 + 8 * b01 (x.en 2) : Nat) : Int)]

/-- 05 R135: a result for Dn with N and Z; V and C are cleared. -/
def LawEng.nzOnly (x : LawEng) (n : BitVec 5) (v : Int) : List Land := [x.toD n 1 v, x.nzvc v false false]

end Sys2Proof.Machine
end

