-- ==== Sys2Proof/Certificates/Slice0/Obligations.lean ====
section
/-! DEFINITION. The statements for the provers. -/

open Sys2Proof Sys2Proof.Machine

/-- The system commands that read answer with what the device holds and change nothing. IDENTIFY, CAPS_GET, ECHO, FUNC_STATE_GET,
DIAG_READ of scratch banks and of mailbox SRAM, and RSP_CONTINUE of a retained response complete with status OK and the payload their
tables give, and no kind of state changes. -/
def Obligations.SystemReads : Prop :=
  Reads .identify 0x0100 (fun b _ => b = []) (fun _ s => le 2 0x1064 ++ le 1 0xB0 ++ le 1 (b01 Config.gradeI) ++ le 1 1 ++ le 1 4 ++ le 1 1
    ++ le 1 4 ++ le 4 s.dev.boot.fw.2.2.1 ++ le 1 s.dev.boot.slot ++ le 1 (b01 Config.debugLocked + 2 * b01 s.dev.boot.secure) ++ zb 2
    ++ le 8 Config.chipId) ∧
  Reads .capsGet 0x0101 (fun b _ => b = []) (fun _ s => le 1 s.dev.rate ++ le 1 (b01 s.dev.hst.hspi)
    ++ le 2 (if s.dev.rate < 2 then 1024 else 512) ++ le 2 512 ++ le 1 32 ++ le 1 32 ++ le 1 (64 - s.dev.rnd.shed.length)
    ++ le 1 s.dev.freeReserves.length ++ le 1 s.dev.nEn ++ zb 1 ++ le 2 (if s.dev.rate < 2 then 16384 else 8192) ++ zb 2
    ++ le 4 (if s.dev.drc.cond = .inService then usableMiB s.dev.drc.density s.dev.drc.ranks2 else 0) ++ zb 4) ∧
  Reads .echo 0x0102 (fun b _ => b.length ≤ 256) (fun b _ => b) ∧
  Reads .funcStateGet 0x0112 (fun b _ => b.length = 8 ∧ u8 b 0 ≤ 9 ∧ u8 b 1 = 0 ∧ 0 < u16 b 4 ∧ u16 b 2 + u16 b 4 ≤ kindSize (u8 b 0) ∧ u16 b 6 = 0)
    (fun b s => padTo 4 ((rangeFrom (u16 b 2) (u16 b 4)).map (fun i => BitVec.ofNat 8 (s.dev.unit (u8 b 0) i).st.code))) ∧
  Reads .diagRead 0x0140 (fun b _ => b.length = 8 ∧ 0x20000000 ≤ u32 b 0 ∧ u32 b 0 + 4 * u32 b 4 ≤ 0x20400000 ∧ u32 b 0 % 4 = 0
      ∧ 0 < u32 b 4 ∧ u32 b 4 ≤ 4096)
    (fun b s => (rangeFrom ((u32 b 0 - 0x20000000) / 4) (u32 b 4)).flatMap (fun w => le 4 (s.dev.scrWord w).toNat)) ∧
  Reads .diagRead 0x0140 (fun b _ => b.length = 8 ∧ 0x30000000 ≤ u32 b 0 ∧ u32 b 0 + 4 * u32 b 4 ≤ 0x30100000 ∧ u32 b 0 % 4 = 0
      ∧ 0 < u32 b 4 ∧ u32 b 4 ≤ 4096)
    (fun b s => Memory.read s.mbox (u32 b 0 - 0x30000000) (4 * u32 b 4)) ∧
  (∀ s r b x, Plain s r b → b.length = 16 → uN 3 b 1 = 0 → u32 b 12 = 0 →
    (s.dev.hst.retained.filter (fun x => x.tag != r.tag.toNat || x.seq == r.seq.toNat)).find? (fun x => x.tag == u8 b 0 && x.seq == u32 b 4) = some x →
    u32 b 8 < x.payload.length →
    Completes (.rspContinue r) s (fun t => t.dev.hst.rspQ = s.dev.hst.rspQ ++
        [{ replyTo 0x01F0 r 0 (x.payload.drop (u32 b 8)) with cont := some (x.tag, x.seq, u32 b 8) }] ∧ Frame [] s t))

/-- FUNC_START and FUNC_STOP act at block k + 3. A plain FUNC_START over a run of STOPPED units whose start conditions hold answers
OK; every unit of the run becomes STARTING, an audio unit for block k + 3 with k the tick of validation, every other unit stays as it
is, and nothing but function units, media units and DRC changes. A unit of the run that is RETIRED refuses the run with E_RETIRED and
leaves everything as it was. A plain FUNC_STOP over a run of audio units, none RETIRED, answers OK; a RUNNING unit becomes STOPPING
and fades out over block k + 3, a STOPPED unit stays as it is. A RUNNING Ethernet port and a RUNNING DRC become STOPPING, DRC with
condition OFF. -/
def Obligations.FuncRuns : Prop :=
  (∀ s r b, Plain s r b → b.length = 8 → u8 b 0 ≤ 9 → u8 b 1 = 0 → u16 b 6 = 0 → 0 < u16 b 4 → u16 b 2 + u16 b 4 ≤ kindSize (u8 b 0) →
    (∀ i, u16 b 2 ≤ i → i < u16 b 2 + u16 b 4 → (s.dev.unit (u8 b 0) i).st = .stopped ∧ s.dev.startBad (u8 b 0) i = false) →
    Answers (.funcStart r) 0x0110 r s (le 2 0xFFFF ++ zb 2 ++ le 8 (if kindAudio (u8 b 0) then s.dev.tim.tick + 3 else 0)) (fun t =>
      (∀ i, u16 b 2 ≤ i → i < u16 b 2 + u16 b 4 → (t.dev.unit (u8 b 0) i).st = .starting ∧
        (kindAudio (u8 b 0) = true → (t.dev.unit (u8 b 0) i).startBlk = some (s.dev.tim.tick + 3))) ∧
      (∀ u, (u < 4096 * u8 b 0 + u16 b 2 ∨ 4096 * u8 b 0 + u16 b 2 + u16 b 4 ≤ u) → tget {} t.dev.units u = tget {} s.dev.units u) ∧
      Frame [.units, .str, .sap, .drc] s t)) ∧
  (∀ s r b, Plain s r b → b.length = 8 → u8 b 0 ≤ 9 → u8 b 1 = 0 → u16 b 6 = 0 → 0 < u16 b 4 → u16 b 2 + u16 b 4 ≤ kindSize (u8 b 0) →
    (s.dev.unit (u8 b 0) (u16 b 2)).st = .retired →
    Refuses (.funcStart r) 0x0110 r s 0x109 (le 2 0 ++ zb 2 ++ le 8 0) (Frame [] s)) ∧
  (∀ s r b, Plain s r b → b.length = 8 → u8 b 0 ≤ 8 → kindAudio (u8 b 0) = true → u8 b 1 = 0 → u16 b 6 = 0 → 0 < u16 b 4 →
    u16 b 2 + u16 b 4 ≤ kindSize (u8 b 0) →
    (∀ i, u16 b 2 ≤ i → i < u16 b 2 + u16 b 4 → (s.dev.unit (u8 b 0) i).st ≠ .retired) →
    Answers (.funcStop r) 0x0111 r s (le 2 0xFFFF ++ zb 2 ++ le 8 (s.dev.tim.tick + 3)) (fun t =>
      (∀ i, u16 b 2 ≤ i → i < u16 b 2 + u16 b 4 →
        ((s.dev.unit (u8 b 0) i).st = .running → (s.dev.unit (u8 b 0) i).stopBlk = none →
          t.dev.unit (u8 b 0) i = { s.dev.unit (u8 b 0) i with st := .stopping, stopBlk := some (s.dev.tim.tick + 3) }) ∧
        ((s.dev.unit (u8 b 0) i).st = .stopped → t.dev.unit (u8 b 0) i = s.dev.unit (u8 b 0) i)) ∧
      (∀ u, (u < 4096 * u8 b 0 + u16 b 2 ∨ 4096 * u8 b 0 + u16 b 2 + u16 b 4 ≤ u) → tget {} t.dev.units u = tget {} s.dev.units u) ∧
      Frame [.units] s t)) ∧
  (∀ s r p, Plain s r [4, 0, BitVec.ofNat 8 p, 0, 1, 0, 0, 0] → p < 16 → (s.dev.unit 4 p).st = .running →
    Answers (.funcStop r) 0x0111 r s (le 2 0xFFFF ++ zb 2 ++ le 8 0) (fun t =>
      t.dev.unit 4 p = { s.dev.unit 4 p with st := .stopping } ∧ Frame [.units] s t)) ∧
  (∀ s r, Plain s r [9, 0, 0, 0, 1, 0, 0, 0] → (s.dev.unit 9 0).st = .running →
    Completes (.funcStop r) s (fun t => (t.dev.unit 9 0).st = .stopping ∧ t.dev.drc.cond = .off))

/-- RENDER_RATE_SET and DEVICE_RESET. RENDER_RATE_SET of the rate in force changes nothing. Of another rate, with no start or slot
that forbids it and no command waiting, it sets the rate, restores the reset values of trajectories, filter chain, outputs, lane map,
paths, bindings and coefficient banks, and drops every waiting timed command. DEVICE_RESET answers OK, and the reset it asks for is
due once the response is written. -/
def Obligations.RateAndReset : Prop :=
  Sets .renderRateSet 0x0120 [] (fun b s => b.length = 4 ∧ u8 b 0 = s.dev.rate ∧ uN 3 b 1 = 0) (fun _ _ => []) (fun _ _ _ => True) ∧
  Sets .renderRateSet 0x0120 [.tim, .trj, .flt, .sch, .rnd, .cnv, .out, .str, .hlt, .units, .rate, .undo]
    (fun b s => b.length = 4 ∧ u8 b 0 ≤ 3 ∧ uN 3 b 1 = 0 ∧ u8 b 0 ≠ s.dev.rate ∧ s.dev.rateBad (u8 b 0) = false ∧ s.dev.hst.wait = [])
    (fun _ _ => [])
    (fun b _ t => t.dev.rate = u8 b 0 ∧ t.dev.trj = {} ∧ t.dev.flt = {} ∧ t.dev.out = {} ∧ t.dev.rnd.map = [] ∧ t.dev.rnd.path = []
      ∧ t.dev.sch.bind = [] ∧ t.dev.cnv.out = [] ∧ t.dev.hst.timed = []) ∧
  Sets .deviceReset 0x0130 [] (fun b _ => b.length = 4 ∧ u16 b 0 = 0x5EED ∧ u8 b 2 ≤ 1 ∧ u8 b 3 = 0) (fun _ _ => [])
    (fun b _ t => t.dev.hst.resetDue = some (u8 b 2))

/-- The increment and the steps of device time. TIM_INC_COMMIT stores the 48-bit increment the pair spells where it lies within the
limits, and the limit it passes where it does not, setting INC_CLAMP. TIM_STEP_GO moves device time by the signed nanoseconds and
fraction where every audio unit is STOPPED or RETIRED, and sets STEP_REFUSED and nothing else where one is not. -/
def Obligations.TimeCounter : Prop :=
  (∀ s (hi : W32), 0x01FFBE76C8B4 ≤ hi.toNat % 65536 * 2 ^ 32 + s.dev.tim.incLo.toNat →
    hi.toNat % 65536 * 2 ^ 32 + s.dev.tim.incLo.toNat ≤ 0x02004189374C →
    Does (.timIncCommit hi) [.tim] s (fun t =>
      t.dev.tim = { s.dev.tim with inc := hi.toNat % 65536 * 2 ^ 32 + s.dev.tim.incLo.toNat })) ∧
  (∀ s (hi : W32), hi.toNat % 65536 * 2 ^ 32 + s.dev.tim.incLo.toNat < 0x01FFBE76C8B4 → Strikable s 1173 →
    Does (.timIncCommit hi) [.tim, .hlt] s (fun t =>
      t.dev.tim = { s.dev.tim with inc := 0x01FFBE76C8B4, incClamp := true } ∧ Struck s t 1173)) ∧
  (∀ s (hi : W32), 0x02004189374C < hi.toNat % 65536 * 2 ^ 32 + s.dev.tim.incLo.toNat → Strikable s 1173 →
    Does (.timIncCommit hi) [.tim, .hlt] s (fun t =>
      t.dev.tim = { s.dev.tim with inc := 0x02004189374C, incClamp := true } ∧ Struck s t 1173)) ∧
  (∀ s (v : W32), s.dev.audioStopped = false → Does (.timStepGo v) [.tim] s (fun t => t.dev.tim = { s.dev.tim with stepRefused := true })) ∧
  (∀ s (v : W32), s.dev.audioStopped = true → Completes (.timStepGo v) s (fun t =>
    t.dev.tim.now = (((s.dev.tim.now : Int) + (wrapI 64 (s.dev.tim.stepHi.toNat * 2 ^ 32 + s.dev.tim.stepLo.toNat) * 65536
      + (v.toNat % 65536 : Nat)) * 2 ^ 24) % (2 ^ 48 * 10 ^ 9 * 2 ^ 40 : Int)).toNat ∧
    t.dev.tim.tick = tickOf s.dev.rate t.dev.now16))

/-- A snapshot copies the counters, and one fired during a copy waits. SNAP_NOW with no copy running sets SNAP_BUSY, advances the
sequence number, and every shadow counter of ports, streams, clusters, MADI ports and channels takes its counter; with a copy running
the snapshot is queued. SNAPSHOT_COPY_DONE clears SNAP_BUSY, and begins the snapshot queued first. -/
def Obligations.Snapshots : Prop :=
  (∀ s, s.dev.tim.snapBusy = false → Does .snapNow [.tim, .net, .str, .sap, .hlt] s (fun t =>
    t.dev.tim = { s.dev.tim with snapBusy := true, snapSeq := s.dev.tim.snapSeq + 1 } ∧
    (∀ p, t.dev.port p = { s.dev.port p with shd := (s.dev.port p).ctr }) ∧
    (∀ r, t.dev.rx r = { s.dev.rx r with shd := (s.dev.rx r).ctr }) ∧
    (∀ x, t.dev.tx x = { s.dev.tx x with shd := (s.dev.tx x).ctr }) ∧
    (∀ c, t.dev.tc c = { s.dev.tc c with shd := (s.dev.tc c).ctr }) ∧
    (∀ m, t.dev.madi m = { s.dev.madi m with shd := (s.dev.madi m).ctr }) ∧
    (∀ c, t.dev.chan c = { s.dev.chan c with shadow := (s.dev.chan c).strikes }))) ∧
  (∀ s, s.dev.tim.snapBusy = true → Does .snapNow [.tim] s (fun t =>
    t.dev.tim = { s.dev.tim with snapQueued := s.dev.tim.snapQueued + 1 })) ∧
  (∀ s, s.dev.tim.snapBusy = true → s.dev.tim.snapQueued = 0 → Does .snapshotCopyDone [.tim] s (fun t =>
    t.dev.tim = { s.dev.tim with snapBusy := false, snapQueued := 0 })) ∧
  (∀ s n, s.dev.tim.snapBusy = true → s.dev.tim.snapQueued = n + 1 → Does .snapshotCopyDone [.tim, .net, .str, .sap, .hlt] s (fun t =>
    t.dev.tim = { s.dev.tim with snapBusy := true, snapQueued := n, snapSeq := s.dev.tim.snapSeq + 1 } ∧
    (∀ p, (t.dev.port p).shd = (s.dev.port p).ctr) ∧ (∀ c, (t.dev.chan c).shadow = (s.dev.chan c).strikes)))

/-- The events of time: lost masters, PPS, pins, media clocks, the servo's check and the leak. Each event of the time unit completes
with the effect its rule gives: a lost master is dropped and a lock becomes holdover with an uncertainty of 1000 ns and a strike;
PPS_IN is recorded; PPS_OUT rises at a whole second where its gate allows, and falls; a TRIG_OUT pulse ends and a pending pin setting
takes effect; a clock switch ends; a large offset is reported; more than 250 ppm against the real-time counter strikes the servo; a
channel leaks one level; REF_IN is lost and returns. -/
def Obligations.TimeEvents : Prop :=
  (∀ s, s.dev.tim.ptpS.slavePort ≠ 255 → s.dev.tim.quality ≠ .locked → Does .masterLost [.tim] s (fun t =>
    t.dev.tim.ptpS.slavePort = 255 ∧ t.dev.tim.ptpS.masterId = 0 ∧ t.dev.tim.quality = s.dev.tim.quality)) ∧
  (∀ s, s.dev.tim.ptpS.slavePort ≠ 255 → s.dev.tim.quality = .locked → Strikable s 1173 → Does .masterLost [.tim, .hlt] s (fun t =>
    t.dev.tim.ptpS.slavePort = 255 ∧ t.dev.tim.quality = .holdover ∧ t.dev.uNow = some 1000 ∧ Struck s t 1173)) ∧
  (∀ s, s.dev.tim.ppsMode = 2 → s.dev.tim.quality = .locked → Strikable s 1173 → Does .ppsInMissing [.tim, .hlt] s (fun t =>
    t.dev.tim.quality = .holdover ∧ t.dev.uNow = some 1000 ∧ Struck s t 1173)) ∧
  (∀ s (n : Nat), s.dev.tim.ppsMode = 1 → (((n : Int) - second * rne n second).natAbs : Int) ≤ s.dev.tim.ppsLimit * 256 → Does (.ppsInEdge n) [.tim] s (fun t =>
    t.dev.tim = { s.dev.tim with now := max s.dev.tim.now (n * 2 ^ 24), ppsSeen := true
                                 ppsIn := BitVec.ofInt 32 (q248 ((n : Int) - second * rne n second)) })) ∧
  (∀ s, Does .ppsOutSecond [.tim] s (fun t =>
    t.dev.tim.ppsOut = (!s.dev.tim.ppsGate || s.dev.tim.quality == .locked || s.dev.tim.quality == .holdover) ∧
    t.dev.tim.now = max s.dev.tim.now (ceilDiv s.dev.now16 second * second * 2 ^ 24))) ∧
  (∀ s, Does .ppsWidthEnd [.tim] s (fun t => t.dev.tim = { s.dev.tim with ppsOut := false })) ∧
  (∀ s n, n < 8 → tget 0 s.dev.tim.toutPulse n ≠ 0 → Does (.trigOutPulseEnd n) [.tim] s (fun t =>
    At 0 s.dev.tim.toutPulse t.dev.tim.toutPulse n 0 ∧
    (∀ c, tget none s.dev.tim.toutNext n = some c → tget (true, 0) t.dev.tim.tout n = c ∧ tget none t.dev.tim.toutNext n = none))) ∧
  (∀ s n, n < 4 → Does (.mclkSwitch n) [.tim] s (fun t => At false s.dev.tim.mclkSwitching t.dev.tim.mclkSwitching n false)) ∧
  (∀ s, s.dev.tim.servoEn = true → s.dev.audioStopped = false → 1000 * 65536 < s.dev.tim.offset.natAbs → Does .offsetLargeReport [] s (fun t =>
    Raises s t 0x8200 0 (leI 8 (rne s.dev.tim.offset 65536)))) ∧
  (∀ s dt dr, 0 < dr → 250 * dr * 30517578125 < ((dt * 10 ^ 6 - dr * 30517578125).natAbs : Int) * 10 ^ 6 → Strikable s 1173 →
    Does (.servoCheck dt dr) [.hlt] s (fun t => Struck s t 1173)) ∧
  (∀ s c, c < 1176 → (s.dev.chan c).retired = false → (s.dev.chan c).level ≠ 0 → Does (.strikeLeak c) [.hlt] s (fun t =>
    At {} s.dev.hlt.ch t.dev.hlt.ch c { s.dev.chan c with level := (s.dev.chan c).level - 1, leak := decide (1 < (s.dev.chan c).level) })) ∧
  (∀ s, Does .refInLoss [.tim] s (fun t => t.dev.tim = { s.dev.tim with refIn := false })) ∧
  (∀ s, Does .refInReturn [.tim] s (fun t => t.dev.tim = { s.dev.tim with refIn := true }))

/-- PTP messages in and out. A two-step Sync of the selected master on an enabled port is kept for its Follow_Up, and a Delay_Resp
that answers the request in progress gives the mean path delay. A message of another domain is counted as discarded. Delay_Req on the
slave port, and Sync and Announce on a master port, are sent with the next sequence number. -/
def Obligations.PtpMessages : Prop :=
  (∀ s p m, p < 16 → s.dev.portUp p = true → s.dev.tim.ptp.mode ≠ 0 → s.dev.tim.ptp.portMask.testBit p = true → m.domain = s.dev.tim.ptp.domain →
    s.dev.tim.ptpS.slavePort = p → s.dev.tim.ptpS.masterId = m.src → m.kind = 0 → m.twoStep = true →
    Does (.ptpMessageRx p m) [.tim] s (fun t => t.dev.tim.ptpS.syncWait = some (m.seq, s.dev.rxStamp p m.rx - m.corr))) ∧
  (∀ s p m t1 t2 t3, p < 16 → s.dev.portUp p = true → s.dev.tim.ptp.mode ≠ 0 → s.dev.tim.ptp.portMask.testBit p = true →
    m.domain = s.dev.tim.ptp.domain → s.dev.tim.ptpS.slavePort = p → s.dev.tim.ptpS.masterId = m.src → m.kind = 9 →
    s.dev.tim.ptpS.delayReq = some (m.seq, t3) → s.dev.tim.ptpS.syncT12 = some (t1, t2) →
    Does (.ptpMessageRx p m) [.tim] s (fun t => t.dev.tim.pathDelay = rne (t2 - t1 + (m.ts - m.corr - t3)) 2 ∧ t.dev.tim.ptpS.havePd = true
      ∧ t.dev.tim.ptpS.delayReq = none)) ∧
  (∀ s p m, p < 16 → s.dev.portUp p = true → m.domain ≠ s.dev.tim.ptp.domain →
    Does (.ptpMessageRx p m) [.net] s (fun t => tget 0 (t.dev.port p).ctr 22 = tget 0 (s.dev.port p).ctr 22 + 1)) ∧
  (∀ s p, p < 16 → s.dev.tim.ptp.mode ≠ 0 → s.dev.tim.ptp.portMask.testBit p = true → s.dev.canSend p = true → (s.dev.port p).ipv4 ≠ 0 →
    s.dev.tim.ptpS.slavePort = p → (s.dev.port p).tsf.length < 64 →
    Does (.ptpMessageTx p 1) [.tim, .net] s (fun t => t.dev.tim.ptpS.txSeq = (s.dev.tim.ptpS.txSeq + 1) % 65536 ∧
      t.dev.tim.ptpS.delayReq = some (s.dev.tim.ptpS.txSeq, s.dev.txStamp p s.dev.now16))) ∧
  (∀ s p k, p < 16 → (k = 0 ∨ k = 11) → s.dev.tim.ptp.mode ≠ 0 → s.dev.canSend p = true → (s.dev.port p).ipv4 ≠ 0 → s.dev.isMaster p = true →
    Does (.ptpMessageTx p k) [.tim, .net] s (fun t => t.dev.tim.ptpS.txSeq = (s.dev.tim.ptpS.txSeq + 1) % 65536))

/-- The commands of time. TIME_GET answers with device time, tick, uncertainty, offset, path delay and master and changes nothing;
PTP_CONFIG, TSC_SET, MCLK_CONFIG, PPS_CONFIG and TRIG_OUT_CONFIG store their settings in the time unit alone; TIME_STEP and TIME_SET
move device time where R48 lets them, TIME_SET into holdover with unknown uncertainty. -/
def Obligations.TimeCommands : Prop :=
  Reads .timeGet 0x0200 (fun b _ => b = []) (fun _ s => timeValue s.dev.nowNs s.dev.nowFrac s.dev.tim.quality.code
    ++ le 8 (tickOf s.dev.rate s.dev.now16) ++ le 8 (s.dev.uNow.getD (2 ^ 64 - 1)) ++ leI 4 (q248 s.dev.tim.offset)
    ++ le 4 (if 0 ≤ rne s.dev.tim.pathDelay 256 ∧ rne s.dev.tim.pathDelay 256 < 2 ^ 32 then (rne s.dev.tim.pathDelay 256).toNat
             else Config.outOfRange s.dev.tim.pathDelay)
    ++ be 8 s.dev.tim.ptpS.masterId ++ le 1 s.dev.tim.ptpS.slavePort ++ le 1 s.dev.tim.ptpS.portState ++ le 1 s.dev.tim.ptpS.masterClass ++ zb 5) ∧
  Sets .ptpConfig 0x0201 [.tim] (fun b s => b.length = 16 ∧ u8 b 0 ≤ 1 ∧ u8 b 1 ≤ 127 ∧ u8 b 2 ≤ 3 ∧ u8 b 3 ≤ 1 ∧
      ((u8 b 2 = 1 ∨ u8 b 2 = 2) → ((rangeFrom 0 16).filter (u16 b 4).testBit).length = 1) ∧
      (u8 b 2 = 3 → ((rangeFrom 0 16).filter (u16 b 4).testBit).length ≠ 0) ∧ -7 ≤ s8 b 8 ∧ s8 b 8 ≤ 0 ∧ -3 ≤ s8 b 9 ∧ s8 b 9 ≤ 1 ∧
      -7 ≤ s8 b 10 ∧ s8 b 10 ≤ 5 ∧ 2 ≤ u8 b 11 ∧ u8 b 11 ≤ 10 ∧ 1 ≤ u16 b 12 ∧ u16 b 12 ≤ 500 ∧ u8 b 15 ≠ 0 ∧
      (∀ p, p < 16 → (u16 b 4).testBit p = true → (s.dev.unit 4 p).st ≠ .retired) ∧ ¬ (u8 b 2 ≠ 0 ∧ s.dev.tim.ppsMode = 2))
    (fun _ _ => [])
    (fun b s t => t.dev.tim.ptp = { profile := u8 b 0, domain := u8 b 1, mode := u8 b 2, oneStep := u8 b 3, portMask := u16 b 4
                                    priority1 := u8 b 6, priority2 := u8 b 7, logSync := s8 b 8, logAnnounce := s8 b 9, logDelayReq := s8 b 10
                                    announceTimeout := u8 b 11, slewMax := u16 b 12, clockClass := u8 b 14, holdDrift := u8 b 15 }
      ∧ t.dev.tim.ptpS.slavePort = 255 ∧ (s.dev.tim.quality = .locked → t.dev.tim.quality = .holdover)) ∧
  (∀ s r b, Plain s r b → b.length = 16 → uN 6 b 10 = 0 → 0 ≤ (s.dev.tim.now : Int) + (s64 b 0 * 65536 + (u16 b 8 : Nat)) * 2 ^ 24 →
    (s.dev.tim.now : Int) + (s64 b 0 * 65536 + (u16 b 8 : Nat)) * 2 ^ 24 < 2 ^ 104 → s.dev.audioStopped = true → s.dev.tim.ptp.mode = 0 →
    Answers (.timeStep r) 0x0202 r s [] (fun t => (t.dev.tim.now : Int) = (s.dev.tim.now : Int) + (s64 b 0 * 65536 + (u16 b 8 : Nat)) * 2 ^ 24)) ∧
  (∀ s r b, Plain s r b → b.length = 16 → uN 5 b 11 = 0 → s.dev.audioStopped = true → s.dev.tim.ptp.mode = 0 →
    (s.dev.tim.ppsMode ≠ 2 ∨ s.dev.tim.quality ≠ .locked) →
    Answers (.timeSet r) 0x0203 r s [] (fun t => t.dev.tim.now = (u64 b 0 * 65536 + u16 b 8) * 2 ^ 24 ∧ t.dev.tim.quality = .holdover
      ∧ t.dev.tim.uBase = none)) ∧
  Sets .tscSet 0x0204 [.tim] (fun b s => b.length = 12 ∧ u8 b 0 < 16 ∧ uN 3 b 1 = 0 ∧ (s.dev.unit 4 (u8 b 0)).st ≠ .retired) (fun _ _ => [])
    (fun b s t => At 0 s.dev.tim.tscRx t.dev.tim.tscRx (u8 b 0) (BitVec.ofNat 32 (u32 b 4)) ∧
      At 0 s.dev.tim.tscTx t.dev.tim.tscTx (u8 b 0) (BitVec.ofNat 32 (u32 b 8))) ∧
  Sets .mclkConfig 0x0205 [.tim] (fun b _ => b.length = 4 ∧ u8 b 0 < 4 ∧ u8 b 1 ≤ 1 ∧ u8 b 2 ≤ 1 ∧ u8 b 3 ≤ 3) (fun _ _ => [])
    (fun b s t => At 0 s.dev.tim.mclk t.dev.tim.mclk (u8 b 0) (BitVec.ofNat 32 (u8 b 3 + 4 * u8 b 2 + 8 * u8 b 1))) ∧
  Sets .ppsConfig 0x0206 [.tim] (fun b s => b.length = 12 ∧ u8 b 0 ≤ 2 ∧ u8 b 1 ≤ 1 ∧ u16 b 2 = 0 ∧ 1 ≤ u32 b 4 ∧ u32 b 4 ≤ 500000 ∧
      ¬ (u8 b 0 = 2 ∧ s.dev.tim.ptp.mode ≠ 0)) (fun _ _ => [])
    (fun b _ t => t.dev.tim.ppsMode = u8 b 0 ∧ t.dev.tim.ppsGate = (u8 b 1 == 1) ∧ t.dev.tim.ppsWidth = u32 b 4 ∧ t.dev.tim.ppsLimit = s32 b 8) ∧
  Sets .trigOutConfig 0x0207 [.tim] (fun b _ => b.length = 8 ∧ u8 b 0 < 8 ∧ u8 b 1 ≤ 1 ∧ u16 b 2 = 0 ∧ u32 b 4 % 8 = 0 ∧ 8 ≤ u32 b 4 ∧ u32 b 4 ≤ 10 ^ 9)
    (fun _ _ => [])
    (fun b s t => (tget 0 s.dev.tim.toutPulse (u8 b 0) = 0 → tget (true, 0) t.dev.tim.tout (u8 b 0) = (u8 b 1 == 1, u32 b 4 / 8)) ∧
      (tget 0 s.dev.tim.toutPulse (u8 b 0) ≠ 0 → t.dev.tim.tout = s.dev.tim.tout ∧
        tget none t.dev.tim.toutNext (u8 b 0) = some (u8 b 1 == 1, u32 b 4 / 8)))

/-- Time-trigger slots are armed, cancelled, read and fired. TRIGGER_SET with an action other than BATCH, in range, outside its lead
and with device time valid, arms its slot with the time, target and period and touches no other slot; TRIGGER_CANCEL disarms one slot
whose lead has not begun; TRIGGER_STATUS answers with every slot and changes nothing. At the lead of a slot armed with RENDER_START,
with RENDER STOPPED, RENDER becomes STARTING for block j and the lead has begun. A slot whose lead has begun fires at block j, and one
with another action at its instant: a slot without a period is disarmed, one with a period counts the firing, and EV_TRIG_DONE carries
slot, action and block or instant. -/
def Obligations.Triggers : Prop :=
  Sets .triggerSet 0x0210 [.tim] (fun b s => b.length = 32 ∧ trigRange b = false ∧ u8 b 17 ≠ 4 ∧ u8 b 17 ≠ 0 ∧
      s.dev.leadOn (s.dev.slot (u8 b 16)) = false ∧ s.dev.tim.quality ≠ .invalid ∧ s.dev.inLead (u8 b 17) (u64 b 0 * 65536 + u16 b 8) = false)
    (fun _ _ => le 4 0xFFFFFFFF)
    (fun b s t => At {} s.dev.tim.slots t.dev.tim.slots (u8 b 16) { s.dev.slot (u8 b 16) with
      time := u64 b 0 * 65536 + u16 b 8, action := u8 b 17, armed := true, target := u16 b 18, period := u32 b 20, firings := 0
      leadBegun := false, batch := [], alarm := none }) ∧
  Sets .triggerCancel 0x0211 [.tim] (fun b s => b.length = 4 ∧ u8 b 0 < 32 ∧ uN 3 b 1 = 0 ∧ s.dev.leadOn (s.dev.slot (u8 b 0)) = false)
    (fun _ _ => [])
    (fun b s t => At {} s.dev.tim.slots t.dev.tim.slots (u8 b 0) { s.dev.slot (u8 b 0) with armed := false }) ∧
  Reads .triggerStatus 0x0212 (fun b _ => b = []) (fun _ s => (rangeFrom 0 32).flatMap (fun m => le 1 (s.dev.slot m).action
    ++ le 1 (b01 (s.dev.slot m).armed + 2 * b01 (s.dev.slot m).fired + 4 * b01 (s.dev.slot m).skipped) ++ le 2 (s.dev.slot m).target
    ++ le 4 (s.dev.slot m).period ++ le 8 (s.dev.nextNs (s.dev.slot m)))) ∧
  (∀ s m, m < 32 → (s.dev.slot m).armed = true → (s.dev.slot m).leadBegun = false → (s.dev.slot m).action = 1 → (s.dev.unit 0 0).st = .stopped →
    Completes (.triggerLeadBoundary m) s (fun t => (t.dev.unit 0 0).st = .starting ∧
      (t.dev.unit 0 0).startBlk = some ((s.dev.slot m).block s.dev.rate) ∧
      At {} s.dev.tim.slots t.dev.tim.slots m { s.dev.slot m with leadBegun := true })) ∧
  (∀ s m, m < 32 → (s.dev.slot m).armed = true → audioAction (s.dev.slot m).action = true → (s.dev.slot m).leadBegun = true →
    s.dev.pwr.st ≠ .doze → s.dev.pwr.st ≠ .hibernate → Does (.triggerFire m) [.tim, .undo] s (fun t =>
      At {} s.dev.tim.slots t.dev.tim.slots m (s.dev.slot m).fire ∧
      Raises s t 0x8210 m (le 1 m ++ le 1 (s.dev.slot m).action ++ zb 6 ++ le 8 ((s.dev.slot m).block s.dev.rate)))) ∧
  (∀ s m, m < 32 → (s.dev.slot m).armed = true → (s.dev.slot m).action = 7 → s.dev.pwr.st ≠ .doze → s.dev.pwr.st ≠ .hibernate →
    Does (.triggerFire m) [.tim] s (fun t => At {} s.dev.tim.slots t.dev.tim.slots m (s.dev.slot m).fire ∧
      Raises s t 0x8210 m (le 1 m ++ le 1 (s.dev.slot m).action ++ zb 6 ++ le 8 ((s.dev.slot m).fireT s.dev.rate / 65536)))) ∧
  (∀ x : Slot, x.period = 0 → x.fire = { x with armed := false, fired := true, leadBegun := false }) ∧
  (∀ x : Slot, x.period ≠ 0 → x.fire = { x with fired := true, firings := x.firings + 1 })

/-- A received frame is checked, counted and given to its consumer. On a RUNNING port, an overrun frame counts in RX_OVERRUN and
strikes the port; a frame whose first failed check is its code, FCS, size or assembly counts in that check's counter alone, and a code
or FCS error is one more of the second; a good frame that the filters or the tag turn away counts octets, frames and its bin and
reaches nobody; a good frame of a consumer other than firmware is taken with its consumer, its untagged octets and its corrected
receive time-stamp. -/
def Obligations.FrameReceive : Prop :=
  (∀ s p f, p < 16 → 14 ≤ f.bytes.length → s.dev.portUp p = true → f.frags = 0 → rxCheck (s.dev.port p) f = some 18 →
    (s.dev.port p).overTick ≠ some s.dev.tim.tick → Strikable s (1092 + p) → tget 0 (s.dev.port p).ctr 18 < 0x7FFFFFFFFF#40 →
    Does (.frameReceive p f) [.net, .hlt] s (fun t => Struck s t (1092 + p) ∧
      tget 0 (t.dev.port p).ctr 18 = tget 0 (s.dev.port p).ctr 18 + 1 ∧ (t.dev.port p).overTick = some s.dev.tim.tick)) ∧
  (∀ s p f c, p < 16 → 14 ≤ f.bytes.length → s.dev.portUp p = true → f.frags = 0 → rxCheck (s.dev.port p) f = some c → c ≠ 18 →
    Does (.frameReceive p f) [.net] s (fun t => (∀ k, tget 0 (t.dev.port p).ctr k = tget 0 (s.dev.port p).ctr k + (if k = c then 1 else 0)) ∧
      (t.dev.port p).errSec = (s.dev.port p).errSec + (if c = 14 ∨ c = 15 then 1 else 0) ∧ (t.dev.port p).taken = (s.dev.port p).taken)) ∧
  (∀ s p f, p < 16 → 14 ≤ f.bytes.length → s.dev.portUp p = true → f.frags = 0 → rxCheck (s.dev.port p) f = none →
    beN 2 f.bytes 12 ≠ 0x8808 → untag (s.dev.port p) f.bytes = none →
    Does (.frameReceive p f) [.net] s (fun t => tget 0 (t.dev.port p).ctr 16 = tget 0 (s.dev.port p).ctr 16 + 1 ∧
      tget 0 (t.dev.port p).ctr 1 = tget 0 (s.dev.port p).ctr 1 + 1 ∧ (t.dev.port p).taken = (s.dev.port p).taken)) ∧
  (∀ s p f b, p < 16 → 14 ≤ f.bytes.length → s.dev.portUp p = true → f.frags = 0 → rxCheck (s.dev.port p) f = none →
    beN 2 f.bytes 12 ≠ 0x8808 → untag (s.dev.port p) f.bytes = some b →
    ((beN 6 b 0 = s.dev.macOf p ∧ (s.dev.port p).ipv4 ≠ 0) ∨ beN 6 b 0 = 2 ^ 48 - 1 ∨ (s.dev.joined p).any (fun g => groupMac g == beN 6 b 0) = true) →
    (s.dev.classOf p b = 4 ∨ s.dev.classOf p b = 5) →
    Does (.frameReceive p f) [.net] s (fun t =>
      (t.dev.port p).taken = some (s.dev.classOf p b, b, s.dev.rxStamp p f.at_) ∧
      tget 0 (t.dev.port p).ctr 0 = tget 0 (s.dev.port p).ctr 0 + BitVec.ofNat 40 (f.bytes.length + 4) ∧
      tget 0 (t.dev.port p).ctr 1 = tget 0 (s.dev.port p).ctr 1 + 1))

/-- A frame handed to a port is tagged, padded and sent, or refused. On a port that can send, an unmarked frame within MAXFRM is sent
with the tag of its queue where the port is TAGGED and padded to 60 octets, and counted with its FCS; a longer one sets TX_REJECT,
counts in counter 36 and is not sent. An express frame that finds the preemptable frame in progress past its first allowed boundary
interrupts it there. A pop of the time-stamp FIFO removes its head and nothing else. -/
def Obligations.FrameTransmit : Prop :=
  (∀ s p q f, p < 16 → q < 3 → 14 ≤ f.length → s.dev.canSend p = true → f.length + (s.dev.port p).tagLen ≤ (s.dev.port p).maxfrm - 4 →
    Does (.frameTransmit p q f false) [.net] s (fun t =>
      (∃ g, g = (if (s.dev.port p).tagged then f.take 12 ++ be 2 0x8100 ++ be 2 ((s.dev.port p).pcp q * 8192 + (s.dev.port p).vid) ++ f.drop 12 else f) ∧
        (t.dev.port p).sent = g ++ zb (60 - g.length) ∧
        tget 0 (t.dev.port p).ctr 24 = tget 0 (s.dev.port p).ctr 24 + BitVec.ofNat 40 (max 60 g.length + 4)) ∧
      (t.dev.port p).reject = false ∧ tget 0 (t.dev.port p).ctr 25 = tget 0 (s.dev.port p).ctr 25 + 1)) ∧
  (∀ s p q f m, p < 16 → q < 3 → 14 ≤ f.length → s.dev.canSend p = true → (s.dev.port p).maxfrm - 4 < f.length + (s.dev.port p).tagLen →
    Does (.frameTransmit p q f m) [.net] s (fun t => (t.dev.port p).reject = true ∧ (t.dev.port p).sent = (s.dev.port p).sent ∧
      tget 0 (t.dev.port p).ctr 36 = tget 0 (s.dev.port p).ctr 36 + 1)) ∧
  (∀ s p n left, p < 16 → (s.dev.port p).sending = some (left, false) → max n (64 * (1 + (s.dev.port p).fragUse) - 4) + 60 ≤ left →
    Does (.expressPreempt p n) [.net] s (fun t =>
      (t.dev.port p).sending = some (left - max n (64 * (1 + (s.dev.port p).fragUse) - 4), true) ∧
      tget 0 (t.dev.port p).ctr 37 = tget 0 (s.dev.port p).ctr 37 + 1)) ∧
  (∀ s p, p < 16 → Does (.netTsfPop p) [.net] s (fun t => At {} s.dev.net.port t.dev.net.port p { s.dev.port p with tsf := (s.dev.port p).tsf.drop 1 }))

/-- A port's start, stop, link, preemption check and faults. A STARTING port whose SerDes locks is RUNNING; one that does not lock is
RETIRED with its channel, as is a RUNNING port without the link it has had for ten seconds; a STOPPING port becomes STOPPED with its
link gone. A link that comes up is reported and begins the preemption check; one that goes down is counted and strikes the port. The
check's outcome is reported. More errors in a second than FCS_LIMIT strike the port. A frame of the wake port that matches a filter in
DOZE begins the wake. -/
def Obligations.PortLinks : Prop :=
  (∀ s p, p < 16 → (s.dev.unit 4 p).st = .starting → Does (.portSerdesLock p) [.units, .net] s (fun t =>
    t.dev.unit 4 p = { s.dev.unit 4 p with st := .running } ∧ (t.dev.port p).wasUp = false)) ∧
  (∀ s p, p < 16 → (s.dev.unit 4 p).st = .starting → s.dev.chRet (1092 + p) = false → Completes (.portStartTimeout p) s (fun t =>
    (t.dev.unit 4 p).st = .retired ∧ t.dev.chRet (1092 + p) = true ∧ (t.dev.chan (1092 + p)).cause = 2)) ∧
  (∀ s p, p < 16 → s.dev.portUp p = true → (s.dev.port p).link = false → (s.dev.port p).wasUp = true → s.dev.chRet (1092 + p) = false →
    Completes (.linkAbsent10s p) s (fun t =>
      (t.dev.unit 4 p).st = .retired ∧ t.dev.chRet (1092 + p) = true ∧ (t.dev.chan (1092 + p)).cause = 4)) ∧
  (∀ s p, p < 16 → (s.dev.unit 4 p).st = .stopping → Does (.portStopDone p) [.units, .net] s (fun t =>
    t.dev.unit 4 p = { s.dev.unit 4 p with st := .stopped } ∧ (t.dev.port p).link = false ∧ (t.dev.port p).preSt = 0 ∧
    ((s.dev.port p).link = true → (t.dev.port p).linkChg = true ∧ Raises s t 0x8300 p (le 1 0 ++ le 1 (s.dev.port p).mode ++ zb 2)))) ∧
  (∀ s p an, p < 16 → s.dev.portUp p = true → (s.dev.port p).link = false → s.dev.pwr.st = .active → (s.dev.port p).ipv4 = 0 →
    Does (.linkChange p true an) [.net] s (fun t =>
      (t.dev.port p).link = true ∧ (t.dev.port p).signal = true ∧ (t.dev.port p).anDone = an ∧ (t.dev.port p).linkChg = true ∧
      (t.dev.port p).downAt = none ∧
      (t.dev.port p).preSt = (if (s.dev.port p).preEn && (s.dev.port p).verifyDis then 2 else b01 (s.dev.port p).preEn) ∧
      Raises s t 0x8300 p (le 1 1 ++ le 1 (s.dev.port p).mode ++ zb 2))) ∧
  (∀ s p an, p < 16 → s.dev.portUp p = true → (s.dev.port p).link = true → s.dev.pwr.st = .active → Strikable s (1092 + p) →
    Does (.linkChange p false an) [.net, .hlt] s (fun t =>
      (t.dev.port p).link = false ∧ (t.dev.port p).signal = false ∧ (t.dev.port p).linkChg = true ∧ (t.dev.port p).preSt = 0 ∧
      (t.dev.port p).downAt = some s.dev.tim.now ∧
      tget 0 (t.dev.port p).ctr 39 = tget 0 (s.dev.port p).ctr 39 + 1 ∧ Struck s t (1092 + p))) ∧
  (∀ s p ok frag, p < 16 → frag < 4 → s.dev.portUp p = true → (s.dev.port p).preSt = 1 → Does (.preemptVerify p ok frag) [.net] s (fun t =>
    t.dev.port p = (if ok then { s.dev.port p with preSt := 2, fragPartner := frag, fragUse := max (s.dev.port p).addFrag frag }
      else { s.dev.port p with preSt := 3 }) ∧
    Raises s t 0x8301 p (le 1 (t.dev.port p).preSt ++ le 1 (t.dev.port p).fragUse ++ zb 2))) ∧
  (∀ s p, p < 16 → s.dev.portUp p = true → (s.dev.port p).fcsLimit ≠ 0 → (s.dev.port p).fcsLimit.toNat < (s.dev.port p).errSec →
    Strikable s (1092 + p) → Does (.fcsLimitSecond p) [.net, .hlt] s (fun t => (t.dev.port p).errSec = 0 ∧ Struck s t (1092 + p))) ∧
  (∀ s p f c i, p < 16 → s.dev.pwr.st = .doze → s.dev.net.wakePort = p → s.dev.portUp p = true → (s.dev.port p).link = true →
    s.dev.wakeFilter p f = some i → s.dev.pwr.latchOpen = true → s.dev.pwr.first = none →
    Completes (.wakePatternMatch p f c) s (fun t => t.dev.pwr.st = .waking ∧ t.dev.pwr.lastWake = (2, p + 16 * i)))

/-- The commands of the Ethernet ports. The reading commands answer with configuration, status, link status, counters and wake
settings and change nothing. NET_PORT_CONFIG and NET_PREEMPT_CONFIG of a STOPPED port, NET_HALF_CLEAR, NET_WAKE_FILTER_SET and
NET_WAKE_PORT_SET store what they carry in the Ethernet block alone, of their port alone. -/
def Obligations.NetCommands : Prop :=
  Sets .netPortConfig 0x0300 [.net] (fun b s => b.length = 40 ∧ u8 b 0 < 16 ∧ u8 b 1 ≤ 4 ∧ u8 b 2 ≤ 7 ∧ u8 b 3 = 0 ∧
      (if (u8 b 2).testBit 1 then 1 ≤ u16 b 4 ∧ u16 b 4 ≤ 4094 else u16 b 4 = 0) ∧ u8 b 6 ≤ 7 ∧ u8 b 7 ≤ 7 ∧ u8 b 8 ≤ 7 ∧ u8 b 9 = 0 ∧
      1518 ≤ u16 b 10 ∧ u16 b 10 ≤ 9216 ∧ u8 b 12 % 2 = 0 ∧ u16 b 18 = 0 ∧ u8 b 24 ≤ 32 ∧ uN 3 b 25 = 0 ∧ u32 b 36 = 0 ∧
      (s.dev.unit 4 (u8 b 0)).st = .stopped) (fun _ _ => [])
    (fun b s t => At {} s.dev.net.port t.dev.net.port (u8 b 0) { s.dev.port (u8 b 0) with
      mode := u8 b 1, an := (u8 b 2).testBit 0, tagged := (u8 b 2).testBit 1, acceptUnt := (u8 b 2).testBit 2, vid := u16 b 4, pcp0 := u8 b 6
      pcp1 := u8 b 7, pcp2 := u8 b 8, maxfrm := u16 b 10, mac := some (beN 6 b 12), ipv4 := BitVec.ofNat 32 (u32 b 20), plen := u8 b 24
      gateway := BitVec.ofNat 32 (u32 b 28), fcsLimit := BitVec.ofNat 32 (u32 b 32) }) ∧
  Reads .netPortGet 0x0301 (fun b _ => b.length = 4 ∧ u8 b 0 < 16 ∧ uN 3 b 1 = 0)
    (fun b s => s.dev.portBytes (u8 b 0) ++ le 1 (s.dev.unit 4 (u8 b 0)).st.code ++ zb 3 ++ le 4 (s.dev.port (u8 b 0)).status) ∧
  Reads .netLinkStatus 0x0302 (fun b _ => b = []) (fun _ s => (rangeFrom 0 16).flatMap (fun p => le 1 (s.dev.unit 4 p).st.code
    ++ le 1 (b01 (s.dev.port p).link + 2 * b01 (s.dev.port p).signal + 4 * b01 (s.dev.port p).anDone) ++ le 1 (s.dev.port p).mode
    ++ le 1 (s.dev.port p).preSt ++ le 4 (s.dev.linkDownMs p))) ∧
  Sets .netPreemptConfig 0x0303 [.net] (fun b s => b.length = 8 ∧ u8 b 0 < 16 ∧ u8 b 1 ≤ 1 ∧ u8 b 2 ≤ 7 ∧ u8 b 3 ≤ 3 ∧ u8 b 4 ≤ 1 ∧ uN 3 b 5 = 0 ∧
      (s.dev.unit 4 (u8 b 0)).st = .stopped) (fun _ _ => [])
    (fun b s t => At {} s.dev.net.port t.dev.net.port (u8 b 0)
      { s.dev.port (u8 b 0) with preEn := u8 b 1 == 1, express := u8 b 2, addFrag := u8 b 3, verifyDis := u8 b 4 == 1 }) ∧
  Reads .netStatsGet 0x0310 (fun b _ => b.length = 4 ∧ u8 b 0 < 16 ∧ u8 b 1 ≤ 1 ∧ u16 b 2 = 0) (fun b s =>
    le 4 s.dev.tim.snapSeq.toNat ++ zb 4 ++ le 8 (s.dev.port (u8 b 0)).half.toNat ++ (rangeFrom 0 40).flatMap (fun c =>
      le 8 (tget 0 (if u8 b 1 = 1 then (s.dev.port (u8 b 0)).shd else (s.dev.port (u8 b 0)).ctr) c).toNat)) ∧
  Sets .netHalfClear 0x0311 [.net] (fun b _ => b.length = 16 ∧ u8 b 0 < 16 ∧ uN 7 b 1 = 0 ∧ u64 b 8 < 2 ^ 40) (fun _ _ => [])
    (fun b s t => At {} s.dev.net.port t.dev.net.port (u8 b 0)
      { s.dev.port (u8 b 0) with half := (s.dev.port (u8 b 0)).half &&& ~~~(BitVec.ofNat 40 (u64 b 8)) }) ∧
  Sets .netWakeFilterSet 0x0320 [.net] (fun b s => b.length = 24 ∧ u8 b 0 < 16 ∧ u8 b 1 ≤ 7 ∧ u8 b 2 ≤ 1 ∧ u8 b 3 = 0 ∧ u16 b 4 ≤ 9088 ∧
      (s.dev.unit 4 (u8 b 0)).st ≠ .retired) (fun _ _ => [])
    (fun b s t => ∃ x, At {} s.dev.net.port t.dev.net.port (u8 b 0) { s.dev.port (u8 b 0) with wf := x } ∧
      At {} (s.dev.port (u8 b 0)).wf x (u8 b 1) { mask := uN 16 b 8, offset := u16 b 4, check := u16 b 6, dest := u8 b 2 == 1 }) ∧
  Sets .netWakePortSet 0x0321 [.net] (fun b s => b.length = 4 ∧ u8 b 1 ≤ 1 ∧ u16 b 2 = 0 ∧ (u8 b 0 = 255 ∨
      (u8 b 0 < 16 ∧ ((s.dev.port (u8 b 0)).mode = 3 ∨ (s.dev.port (u8 b 0)).mode = 4) ∧ (s.dev.unit 4 (u8 b 0)).st ≠ .retired))) (fun _ _ => [])
    (fun b s t => t.dev.net = { s.dev.net with wakePort := if u8 b 0 = 255 then 31 else u8 b 0, linkWake := u8 b 1 == 1 }) ∧
  Reads .netWakeGet 0x0322 (fun b _ => b.length = 4 ∧ u8 b 0 < 16 ∧ uN 3 b 1 = 0) (fun b s =>
    le 1 (if s.dev.net.wakePort = 31 then 255 else s.dev.net.wakePort) ++ le 1 (b01 s.dev.net.linkWake) ++ zb 2 ++ (rangeFrom 0 8).flatMap (fun f =>
      zb 2 ++ le 1 (b01 (tget ({} : WakeF) (s.dev.port (u8 b 0)).wf f).dest) ++ zb 1 ++ le 2 (tget ({} : WakeF) (s.dev.port (u8 b 0)).wf f).offset
      ++ le 2 (tget ({} : WakeF) (s.dev.port (u8 b 0)).wf f).check ++ le 16 (tget ({} : WakeF) (s.dev.port (u8 b 0)).wf f).mask))

/-- Packets of receive streams. A packet that a stream's leg takes counts on that leg and notes its arrival; one that fails the header
checks counts as bad and stores nothing. The samples of an accepted, new packet of a synchronous stream that come neither too early
nor too late stand in the jitter buffer at their indices; those of an asynchronous stream wait for the ASRC group; the records of an
accepted, new packet of a trajectory stream are applied in order. -/
def Obligations.PacketsIn : Prop :=
  (∀ s p a r leg, p < 16 → s.dev.rxMatch p a.srcIp a.dstIp a.dstUdp = some (r, leg) → (s.dev.rx r).payload ≠ 3 →
    Does (.rtpPacketRx p a) [.str] s (fun t => tget 0 (t.dev.rx r).ctr (b01 leg) = tget 0 (s.dev.rx r).ctr (b01 leg) + 1 ∧
      (if leg then (t.dev.rx r).lastB else (t.dev.rx r).lastA) = some (a.at_ * 2 ^ 24) ∧
      (∀ j, j ≠ r → t.dev.rx j = s.dev.rx j) ∧ t.dev.str.tx = s.dev.str.tx ∧ t.dev.str.inmap = s.dev.str.inmap)) ∧
  (∀ s p a r leg, p < 16 → s.dev.rxMatch p a.srcIp a.dstIp a.dstUdp = some (r, leg) → (s.dev.rx r).payload ≠ 3 → (s.dev.rx r).accept a.data = none →
    Does (.rtpPacketRx p a) [.str] s (fun t => tget 0 (t.dev.rx r).ctr 7 = tget 0 (s.dev.rx r).ctr 7 + 1 ∧ (t.dev.rx r).buf = (s.dev.rx r).buf ∧
      (t.dev.rx r).async = (s.dev.rx r).async ∧ (t.dev.rx r).seqs = (s.dev.rx r).seqs)) ∧
  (∀ s p a r b d rows n, p < 16 → rtpTake p a false s.dev = (some (r, b), d) → (d.rx r).timing ≠ 1 →
    rows = (rtpSamples (d.rx r).payload (rtpWords (d.rx r).payload (d.rx r).chans (ptimeS (d.rx r).ptime (d.rx r).rate) b) (d.rx r).cs).1 →
    n = rtpIndex (ioRate (d.rx r).rate) a.at_ (beN 4 a.data 4) (d.rx r).tsOff →
    (n - 2 * (ptimeS (d.rx r).ptime (d.rx r).rate : Nat)) * (secN : Nat) ≤ (a.at_ * ioRate (d.rx r).rate : Nat) →
    Does (.rtpPacketRx p a) [.str] s (fun t => ∀ (i : Nat) (q : Nat) row, rows[i]? = some row → (q : Int) = n + (d.rx r).link + i →
      a.at_ < boundT s.dev.rate (blockOfIdx s.dev.rate (ioRate (d.rx r).rate) q + 1) → s.dev.tim.tick ≤ blockOfIdx s.dev.rate (ioRate (d.rx r).rate) q →
      tget [] (t.dev.rx r).buf q = row)) ∧
  (∀ s p a r b d, p < 16 → rtpTake p a false s.dev = (some (r, b), d) → (d.rx r).timing = 1 →
    Does (.rtpPacketRx p a) [.str] s (fun t => (t.dev.rx r).async = (s.dev.rx r).async ++
      (rtpSamples (d.rx r).payload (rtpWords (d.rx r).payload (d.rx r).chans (ptimeS (d.rx r).ptime (d.rx r).rate) b) (d.rx r).cs).1)) ∧
  (∀ s p a r b d, p < 16 → rtpTake p a true s.dev = (some (r, b), d) → Completes (.trajectoryPacketRx p a) s (fun t =>
      t.dev.trj = ((chunks 48 (b.length / 48) b).foldl (fun d x => streamRecord x d) d).trj ∧ t.dev.rx r = d.rx r))

/-- Frames and faults of TDM clusters and MADI ports. A follower cluster's frame in step and a MADI port's good frame are counted,
numbered by their instant and LAG and kept under that number, an asynchronous one waits for its ASRC group; a frame that slips strikes
each lane. A clock loss or sync loss mutes the next 8 frames and strikes; more than 100 code errors in a second strike the port; a
clock or signal absent for 10 s retires the cluster's four lanes with the cluster, or the port. -/
def Obligations.SerialFrames : Prop :=
  (∀ s c at_ w, c < 10 → (s.dev.tc c).role = 1 → s.dev.unitOn 7 c = true → (s.dev.tc c).mute = 0 → w ≠ [] →
    0 ≤ (frameNo (ioRate (s.dev.tc c).rate) at_ (s.dev.tc c).lag).1 → (∀ l, (s.dev.tc c).lastK = some l → l < (frameNo (ioRate (s.dev.tc c).rate) at_ (s.dev.tc c).lag).1) →
    slipped (ioRate (s.dev.tc c).rate) at_ (s.dev.tc c).lag (frameNo (ioRate (s.dev.tc c).rate) at_ (s.dev.tc c).lag).1 = false →
    Does (.tdmFrameSync c at_ w) [.sap] s (fun t => (t.dev.tc c).clk = true ∧ tget 0 (t.dev.tc c).ctr 0 = tget 0 (s.dev.tc c).ctr 0 + 1 ∧
      (t.dev.tc c).lastK = some (frameNo (ioRate (s.dev.tc c).rate) at_ (s.dev.tc c).lag).1 ∧
      (t.dev.tc c).phase = (frameNo (ioRate (s.dev.tc c).rate) at_ (s.dev.tc c).lag).2 ∧
      tget [] (t.dev.tc c).frames (frameNo (ioRate (s.dev.tc c).rate) at_ (s.dev.tc c).lag).1.toNat = w.map (slotSample (s.dev.tc c).wordBits) ∧
      (∀ j, j ≠ c → t.dev.tc j = s.dev.tc j) ∧ t.dev.sap.madi = s.dev.sap.madi)) ∧
  (∀ s c at_ w, c < 10 → (s.dev.tc c).role = 2 → s.dev.unitOn 7 c = true → (s.dev.tc c).mute = 0 →
    Does (.tdmFrameSync c at_ w) [.sap] s (fun t => (t.dev.tc c).async = (s.dev.tc c).async ++ [w.map (slotSample (s.dev.tc c).wordBits)])) ∧
  (∀ s c at_ w, c < 10 → (s.dev.tc c).role = 1 → s.dev.unitOn 7 c = true →
    slipped (ioRate (s.dev.tc c).rate) at_ (s.dev.tc c).lag (frameNo (ioRate (s.dev.tc c).rate) at_ (s.dev.tc c).lag).1 = true →
    (∀ i, i < 4 → Strikable s (1108 + 4 * c + i)) →
    Does (.tdmFrameSync c at_ w) [.sap, .hlt] s (fun t => tget 0 (t.dev.tc c).ctr 1 = tget 0 (s.dev.tc c).ctr 1 + 1 ∧
      ∀ i, i < 4 → Struck s t (1108 + 4 * c + i))) ∧
  (∀ s c, c < 10 → (s.dev.tc c).role ≠ 0 → s.dev.unitOn 7 c = true → (s.dev.tc c).clk = true → (∀ i, i < 4 → Strikable s (1108 + 4 * c + i)) →
    Does (.tdmClockLoss c) [.sap, .hlt] s (fun t => (∀ i, i < 4 → Struck s t (1108 + 4 * c + i)) ∧
      t.dev.tc c = { s.dev.tc c with clk := false, mute := 8, ctr := bump (s.dev.tc c).ctr 2 1 })) ∧
  (∀ s c, c < 10 → (s.dev.tc c).role ≠ 0 → s.dev.unitOn 7 c = true → (s.dev.tc c).clk = false → (s.dev.tc c).wasClk = true →
    (∀ i, i < 4 → s.dev.chRet (1108 + 4 * c + i) = false) → Completes (.tdmClockAbsent10s c) s (fun t =>
      (∀ i, i < 4 → t.dev.chRet (1108 + 4 * c + i) = true) ∧ (t.dev.unit 7 c).st = .retired)) ∧
  (∀ s m at_ w, m < 8 → (s.dev.madi m).rxEn = true → s.dev.unitOn 8 m = true → (s.dev.madi m).role ≠ 1 → (s.dev.madi m).mute = 0 → w ≠ [] →
    0 ≤ (frameNo (s.dev.madi m).frameRate at_ (s.dev.madi m).lag).1 →
    (∀ l, (s.dev.madi m).lastK = some l → l < (frameNo (s.dev.madi m).frameRate at_ (s.dev.madi m).lag).1) →
    Does (.madiFrameRx m at_ w 0) [.sap] s (fun t => (t.dev.madi m).signal = true ∧ (t.dev.madi m).lock = true ∧
      tget 0 (t.dev.madi m).ctr 0 = tget 0 (s.dev.madi m).ctr 0 + 1 ∧ tget 0 (t.dev.madi m).ctr 1 = tget 0 (s.dev.madi m).ctr 1 ∧
      tget [] (t.dev.madi m).frames (frameNo (s.dev.madi m).frameRate at_ (s.dev.madi m).lag).1.toNat = w.map madiSample ∧
      t.dev.sap.tc = s.dev.sap.tc)) ∧
  (∀ s m at_ w, m < 8 → (s.dev.madi m).rxEn = true → s.dev.unitOn 8 m = true → (s.dev.madi m).role = 1 → (s.dev.madi m).mute = 0 →
    Does (.madiFrameRx m at_ w 0) [.sap] s (fun t => (t.dev.madi m).async = (s.dev.madi m).async ++ [w.map madiSample])) ∧
  (∀ s m at_ w n, m < 8 → (s.dev.madi m).rxEn = true → s.dev.unitOn 8 m = true → 0 < n → Does (.madiFrameRx m at_ w n) [.sap] s (fun t =>
      tget 0 (t.dev.madi m).ctr 1 = tget 0 (s.dev.madi m).ctr 1 + 1 ∧ (t.dev.madi m).frames = (s.dev.madi m).frames)) ∧
  (∀ s m, m < 8 → (s.dev.madi m).rxEn = true → s.dev.unitOn 8 m = true → (s.dev.madi m).lock = true → Strikable s (1148 + m) →
    Does (.madiSyncLoss m) [.sap, .hlt] s (fun t => Struck s t (1148 + m) ∧
      t.dev.madi m = { s.dev.madi m with lock := false, signal := false, mute := 8, ctr := bump (s.dev.madi m).ctr 2 1 })) ∧
  (∀ s m n, m < 8 → s.dev.unitOn 8 m = true → 100 < n → Strikable s (1148 + m) →
    Does (.madiCodeErrSecond m n) [.hlt] s (fun t => Struck s t (1148 + m))) ∧
  (∀ s m, m < 8 → s.dev.unitOn 8 m = true → (s.dev.madi m).signal = false → (s.dev.madi m).wasSig = true → s.dev.chRet (1148 + m) = false →
    Completes (.madiSignalAbsent10s m) s (fun t => t.dev.chRet (1148 + m) = true ∧ (t.dev.unit 8 m).st = .retired))

/-- The commands of the stream engine. STREAM_RX_CONFIG and STREAM_TX_CONFIG of a STOPPED stream with fields in range, frames that fit
their ports and, for a receive stream, a pool that holds it, store its settings; INPUT_MAP_SET of sources that are STOPPED sets its
run of channels; the reading commands answer with settings, state and counters and change nothing. -/
def Obligations.StreamCommands : Prop :=
  Sets .streamRxConfig 0x0400 [.str] (fun b s => b.length = 48 ∧ u8 b 1 ≤ 3 ∧
      (if u8 b 1 = 3 then u8 b 2 = 0 ∧ u8 b 3 = 0 ∧ u8 b 4 = 0 ∧ u8 b 5 = 0 ∧ u8 b 6 = 0 ∧ u16 b 8 = 0
       else u8 b 2 ≤ 5 ∧ u8 b 3 ≤ 4 ∧ 1 ≤ u8 b 4 ∧ u8 b 4 ≤ 64 ∧ u8 b 5 ≤ 1 ∧ u8 b 6 ≤ 1 ∧ ptimeS (u8 b 3) (u8 b 2) ≤ u16 b 8 ∧ u16 b 8 ≤ 16384) ∧
      (u8 b 7 = 0 ∨ (96 ≤ u8 b 7 ∧ u8 b 7 ≤ 127)) ∧ u16 b 10 = 0 ∧ u8 b 17 = 0 ∧ u32 b 28 = 0 ∧ u8 b 33 = 0 ∧ u32 b 44 = 0 ∧
      (∀ o ∈ [16, 32], u8 b o = 255 ∨ (u8 b o < 16 ∧ (s.dev.unit 4 (u8 b o)).st ≠ .retired ∧ 58 + (s.dev.port (u8 b o)).tagLen +
        (if u8 b 1 = 3 then 1440 else ptimeS (u8 b 3) (u8 b 2) * u8 b 4 * wordBytes (u8 b 1)) ≤ (s.dev.port (u8 b o)).maxfrm)) ∧
      (∀ o ∈ [16, 32], u8 b o = 255 ∨ ∀ z ∈ s.dev.str.rx, z.1 ≠ u8 b 0 → rxLegOf b o ≠ z.2.legA ∧ rxLegOf b o ≠ z.2.legB) ∧
      (u8 b 16 = 255 ∨ rxLegOf b 16 ≠ rxLegOf b 32) ∧ (s.dev.unit 5 (u8 b 0)).st = .stopped ∧
      (s.dev.str.rx.map (fun (z : Nat × RxStr) => if z.1 = u8 b 0 then 0 else z.2.pool)).sum +
        (if u8 b 1 = 3 then 0 else u8 b 4 * (u16 b 8 + 2 * ptimeS (u8 b 3) (u8 b 2))) ≤ 786432)
    (fun _ _ => [])
    (fun b s t => At {} s.dev.str.rx t.dev.str.rx (u8 b 0) { s.dev.rx (u8 b 0) with
        payload := u8 b 1, rate := u8 b 2, ptime := u8 b 3, chans := u8 b 4, timing := u8 b 5, conceal := u8 b 6, pt := u8 b 7, link := u16 b 8
        tsOff := u32 b 12, legA := rxLegOf b 16, legB := rxLegOf b 32
        pool := if u8 b 1 = 3 then 0 else u8 b 4 * (u16 b 8 + 2 * ptimeS (u8 b 3) (u8 b 2)) } ∧
      t.dev.str.tx = s.dev.str.tx ∧ t.dev.str.inmap = s.dev.str.inmap) ∧
  Reads .streamRxGet 0x0401 (fun b _ => b.length = 4 ∧ uN 3 b 1 = 0) (fun b s => (s.dev.rx (u8 b 0)).bytes (u8 b 0) ++
    le 1 (s.dev.unit 5 (u8 b 0)).st.code ++ zb 3 ++ le 4 (s.dev.rx (u8 b 0)).ssrc.toNat ++ leI 4 (s.dev.rxMargin (u8 b 0))) ∧
  Sets .streamTxConfig 0x0402 [.str] (fun b s => b.length = 72 ∧ u8 b 1 ≤ 2 ∧ u8 b 2 ≤ 5 ∧ u8 b 3 ≤ 3 ∧ 1 ≤ u8 b 4 ∧ u8 b 4 ≤ 64 ∧ u8 b 5 ≤ 63 ∧
      u8 b 6 ≠ 0 ∧ 96 ≤ u8 b 7 ∧ u8 b 7 ≤ 127 ∧ u16 b 14 = 0 ∧ u32 b 20 = 0 ∧ u8 b 25 = 0 ∧ u16 b 30 = 0 ∧ uN 6 b 42 = 0 ∧ u8 b 49 = 0 ∧
      u16 b 54 = 0 ∧ uN 6 b 66 = 0 ∧
      (∀ o ∈ [24, 48], u8 b o = 255 ∨ (u8 b o < 16 ∧ (s.dev.unit 4 (u8 b o)).st ≠ .retired ∧ 58 + (s.dev.port (u8 b o)).tagLen +
        (if u8 b 1 = 3 then 1440 else ptimeS (u8 b 3) (u8 b 2) * u8 b 4 * wordBytes (u8 b 1)) ≤ (s.dev.port (u8 b o)).maxfrm)) ∧
      (s.dev.unit 6 (u8 b 0)).st = .stopped)
    (fun _ _ => [])
    (fun b s t => At {} s.dev.str.tx t.dev.str.tx (u8 b 0) { s.dev.tx (u8 b 0) with
        format := u8 b 1, rate := u8 b 2, ptime := u8 b 3, chans := u8 b 4, dscp := u8 b 5, ttl := u8 b 6, pt := u8 b 7, ssrc := u32 b 8
        seqBase := u16 b 12, tsOff := u32 b 16, legA := txLegOf b 24, legB := txLegOf b 48, nextP := none, fifo := [] } ∧
      t.dev.str.rx = s.dev.str.rx ∧ t.dev.str.inmap = s.dev.str.inmap) ∧
  Reads .streamTxGet 0x0403 (fun b _ => b.length = 4 ∧ uN 3 b 1 = 0) (fun b s => (s.dev.tx (u8 b 0)).bytes (u8 b 0) ++
    le 1 (s.dev.unit 6 (u8 b 0)).st.code ++ zb 3 ++ le 2 (s.dev.tx (u8 b 0)).nextSeq ++ zb 2) ∧
  Sets .inputMapSet 0x0404 [.str] (fun b s => b.length = 4 + 4 * u16 b 2 ∧ 0 < u16 b 2 ∧ u16 b 0 + u16 b 2 ≤ 1088 ∧
      (∀ i, i < u16 b 2 → inEntryBad b i = false) ∧
      (∀ i u, i < u16 b 2 → (inUnit (inEntry b i) = some u ∨ inUnit (tget (0, 0, 0) s.dev.str.inmap (u16 b 0 + i)) = some u) →
        (s.dev.unit u.1 u.2).st = .stopped))
    (fun _ _ => [])
    (fun b s t => (∀ i, i < u16 b 2 → tget (0, 0, 0) t.dev.str.inmap (u16 b 0 + i) = inEntry b i) ∧
      (∀ c, (c < u16 b 0 ∨ u16 b 0 + u16 b 2 ≤ c) → tget (0, 0, 0) t.dev.str.inmap c = tget (0, 0, 0) s.dev.str.inmap c) ∧
      t.dev.str.rx = s.dev.str.rx ∧ t.dev.str.tx = s.dev.str.tx) ∧
  Reads .inputMapGet 0x0405 (fun b _ => b.length = 4 ∧ 0 < u16 b 2 ∧ u16 b 0 + u16 b 2 ≤ 1088) (fun b s =>
    (rangeFrom (u16 b 0) (u16 b 2)).flatMap (fun c => le 1 (tget (0, 0, 0) s.dev.str.inmap c).1 ++ le 1 (tget (0, 0, 0) s.dev.str.inmap c).2.1
      ++ le 1 (tget (0, 0, 0) s.dev.str.inmap c).2.2 ++ zb 1)) ∧
  Reads .streamStatsGet 0x0410 (fun b _ => b.length = 4 ∧ u8 b 0 ≤ 1 ∧ u8 b 2 ≤ 1 ∧ u8 b 3 = 0) (fun b s =>
    le 4 s.dev.tim.snapSeq.toNat ++ (rangeFrom 0 12).flatMap (fun c => le 4 (tget 0 (if u8 b 0 = 0
      then (if u8 b 2 = 1 then (s.dev.rx (u8 b 1)).shd else (s.dev.rx (u8 b 1)).ctr)
      else (if u8 b 2 = 1 then (s.dev.tx (u8 b 1)).shd else (s.dev.tx (u8 b 1)).ctr)) c).toNat))

/-- The commands of the serial audio ports. TDM_CLUSTER_CONFIG and MADI_CONFIG of a STOPPED unit with fields in range store its
settings; the reading commands answer with settings, state and counters and change nothing. -/
def Obligations.SerialCommands : Prop :=
  Sets .tdmClusterConfig 0x0500 [.sap] (fun b s => b.length = 16 ∧ u8 b 0 ≤ 9 ∧ u8 b 1 ≤ 2 ∧ u8 b 2 ≤ 5 ∧ 2 ≤ u8 b 3 ∧ u8 b 3 ≤ 32 ∧
      (u8 b 4 = 16 ∨ u8 b 4 = 24 ∨ u8 b 4 = 32) ∧ (u8 b 5 = 16 ∨ u8 b 5 = 24 ∨ u8 b 5 = 32) ∧ u8 b 5 ≤ u8 b 4 ∧ u8 b 6 ≤ 31 ∧ u8 b 7 ≤ 15 ∧
      -64 ≤ s16 b 8 ∧ s16 b 8 ≤ 64 ∧ uN 6 b 10 = 0 ∧ u8 b 3 * u8 b 4 * ioRate (u8 b 2) ≤ (if u8 b 2 % 2 = 1 then 49152000 else 45158400) ∧
      ¬ (u8 b 1 = 2 ∧ u8 b 7 ≠ 0) ∧ (s.dev.unit 7 (u8 b 0)).st = .stopped)
    (fun _ _ => [])
    (fun b s t => At {} s.dev.sap.tc t.dev.sap.tc (u8 b 0) { s.dev.tc (u8 b 0) with
      role := u8 b 1, rate := u8 b 2, slots := u8 b 3, slotBits := u8 b 4, wordBits := u8 b 5, flags := u8 b 6, dir := u8 b 7, lag := s16 b 8 } ∧
      t.dev.sap.madi = s.dev.sap.madi) ∧
  Reads .tdmClusterGet 0x0501 (fun b _ => b.length = 4 ∧ u8 b 0 ≤ 9 ∧ uN 3 b 1 = 0) (fun b s => (s.dev.tc (u8 b 0)).bytes (u8 b 0) ++
    le 1 (s.dev.unit 7 (u8 b 0)).st.code ++ le 1 (b01 (s.dev.tc (u8 b 0)).clk) ++ zb 2 ++ leI 4 (s.dev.tc (u8 b 0)).phase
    ++ le 4 (s.dev.tc (u8 b 0)).bclk) ∧
  Sets .madiConfig 0x0502 [.sap] (fun b s => b.length = 16 ∧ u8 b 0 ≤ 7 ∧ u8 b 1 ≤ 3 ∧
      (if u8 b 1 < 2 then u8 b 2 ≤ 1 else u8 b 2 = 2 ∨ u8 b 2 = 3) ∧ u8 b 3 ≤ 1 ∧ -64 ≤ s16 b 4 ∧ s16 b 4 ≤ 64 ∧ u8 b 6 ≤ 1 ∧ u8 b 7 ≤ 1 ∧
      u64 b 8 = 0 ∧ (s.dev.unit 8 (u8 b 0)).st = .stopped)
    (fun _ _ => [])
    (fun b s t => At {} s.dev.sap.madi t.dev.sap.madi (u8 b 0) { s.dev.madi (u8 b 0) with
      mode := u8 b 1, rate := u8 b 2, role := u8 b 3, lag := s16 b 4, txEn := u8 b 6 == 1, rxEn := u8 b 7 == 1 } ∧ t.dev.sap.tc = s.dev.sap.tc) ∧
  Reads .madiGet 0x0503 (fun b _ => b.length = 4 ∧ u8 b 0 ≤ 7 ∧ uN 3 b 1 = 0) (fun b s => (s.dev.madi (u8 b 0)).bytes (u8 b 0) ++
    le 1 (s.dev.unit 8 (u8 b 0)).st.code ++ le 1 (b01 (s.dev.madi (u8 b 0)).signal + 2 * b01 (s.dev.madi (u8 b 0)).lock) ++ zb 2
    ++ leI 4 (s.dev.madi (u8 b 0)).phase) ∧
  Reads .sapStatsGet 0x0510 (fun b _ => b.length = 4 ∧ u8 b 0 ≤ 1 ∧ u8 b 1 ≤ (if u8 b 0 = 0 then 9 else 7) ∧ u8 b 2 ≤ 1 ∧ u8 b 3 = 0) (fun b s =>
    le 4 s.dev.tim.snapSeq.toNat ++ (rangeFrom 0 4).flatMap (fun c => le 4 (tget 0 (if u8 b 0 = 0
      then (if u8 b 2 = 1 then (s.dev.tc (u8 b 1)).shd else (s.dev.tc (u8 b 1)).ctr)
      else (if u8 b 2 = 1 then (s.dev.madi (u8 b 1)).shd else (s.dev.madi (u8 b 1)).ctr)) c).toNat))

/-- The events of the filter chain. A sample's mark that a filter engine misses zeroes that sample for the engine's channels, counts,
sets MISSED and strikes the engine. An ASRC group in ACQUIRE within range locks and fades in; a locked group that loses its source
fades out and is LOST. A tone detector's completed block gives LEVEL, PHASE, VALID and PRESENT with its hysteresis, and a change of
PRESENT is reported. -/
def Obligations.FilterEvents : Prop :=
  (∀ s e n, e < 4 → n < 16 → s.dev.acting 3 e = true → Strikable s (1165 + e) → Does (.fltSampleMark e n) [.flt, .hlt] s (fun t =>
    Struck s t (1165 + e) ∧ t.dev.fe e = { s.dev.fe e with miss := (s.dev.fe e).miss + 1 } ∧ t.dev.flt.missed = s.dev.flt.missed ||| 2 ^ e ∧
    (∀ c, tget [] t.dev.flt.cond c = (if (s.dev.inRoute c).engine = e then setAt (tget [] s.dev.flt.cond c) n 0 else tget [] s.dev.flt.cond c)))) ∧
  (∀ s e g, e < 4 → g < 16 → (s.dev.grp e g).st = .acquire → (s.dev.grp e g).rangeErr = false → Does (.asrcLock e g) [.flt] s (fun t =>
    At {} s.dev.flt.grp t.dev.flt.grp (16 * e + g) { s.dev.grp e g with st := .locked, fadeBlk := some s.dev.tim.tick } ∧
    Raises s t 0x8601 e (le 1 g ++ le 1 2 ++ zb 2))) ∧
  (∀ s e g, e < 4 → g < 16 → (s.dev.grp e g).st = .locked → Does (.asrcLost e g) [.flt] s (fun t =>
    At {} s.dev.flt.grp t.dev.flt.grp (16 * e + g) { s.dev.grp e g with st := .lost, fadeBlk := some s.dev.tim.tick } ∧
    Raises s t 0x8601 e (le 1 g ++ le 1 3 ++ zb 2))) ∧
  (∀ s n st bad x lv, n < 64 → (s.dev.tone n).full = some (st, bad, x) →
    lv = (if x.all (· == 0) then -32768 else max (-32768) (satI 16 (Config.toneLevel (s.dev.tone n).freq (s.dev.tone n).n
      (b01 ((s.dev.tone n).window = 1)) s.dev.rate x))) →
    Does (.toneBlockResult n) [.flt] s (fun t => (t.dev.tone n).level = lv ∧ (t.dev.tone n).block = st ∧ (t.dev.tone n).valid = !bad ∧
      (t.dev.tone n).full = none ∧
      (t.dev.tone n).present = (if (s.dev.tone n).thresh ≤ lv then true else if lv < (s.dev.tone n).thresh - (s.dev.tone n).hyst then false
        else (s.dev.tone n).present) ∧
      ((t.dev.tone n).present ≠ (s.dev.tone n).present →
        Raises s t 0x8620 n (le 1 (b01 (t.dev.tone n).present) ++ zb 1 ++ leI 2 lv ++ zb 4 ++ le 8 st))))

/-- The commands of the filter chain. FLT_ENGINE_CONFIG, ASRC_GROUP_CONFIG and TD_CONFIG with fields in range store the settings of a
STOPPED engine, a group of one, or a detector, whose block in progress is discarded. FLT_CHAN_MAP and FLT_PHASE_SET set their run of
routes or phase delays where each engine concerned is STOPPED. The reading commands answer as their tables say and change nothing. -/
def Obligations.FilterCommands : Prop :=
  Sets .fltEngineConfig 0x0600 [.flt] (fun b s => b.length = 8 ∧ u8 b 0 ≤ 5 ∧ (if u8 b 0 < 4 then u8 b 1 ≤ 2 else u8 b 1 = 3) ∧
      ¬ (u8 b 1 = 1 ∧ s.dev.rate < 2) ∧ u8 b 2 ≤ 1 ∧ u8 b 3 ≤ 1 ∧ 1 ≤ u16 b 4 ∧ u16 b 4 ≤ slotLimit (u8 b 1) (u8 b 3) ∧ u16 b 6 = 0 ∧
      s.dev.mappedAbove (u8 b 0) (u16 b 4) = false ∧ (s.dev.unit 3 (u8 b 0)).st = .stopped) (fun _ _ => [])
    (fun b s t => t.dev.fe (u8 b 0) = { s.dev.fe (u8 b 0) with kind := u8 b 1, profile := u8 b 2, align := u8 b 3, slots := u16 b 4 } ∧
      (∀ e, e ≠ u8 b 0 → t.dev.fe e = s.dev.fe e)) ∧
  Reads .fltEngineGet 0x0601 (fun b _ => b.length = 4 ∧ u8 b 0 ≤ 5 ∧ uN 3 b 1 = 0) (fun b s => (s.dev.fe (u8 b 0)).bytes (u8 b 0) ++
    le 1 (s.dev.unit 3 (u8 b 0)).st.code ++ zb 3 ++ words [baseGd (s.dev.fe (u8 b 0)).kind (s.dev.fe (u8 b 0)).profile * 65536,
      (s.dev.fe (u8 b 0)).skewMax, (s.dev.fe (u8 b 0)).miss.toNat, (s.dev.fe (u8 b 0)).clip.toNat]) ∧
  Sets .fltChanMap 0x0602 [.flt] (fun b s => b.length = 8 + 4 * u16 b 4 ∧ u8 b 0 = 0 ∧ u8 b 1 = 0 ∧ u16 b 6 = 0 ∧
      runBad s.dev.rate 0 (u16 b 2) (u16 b 4) = false ∧
      (∀ i, i < u16 b 4 → u8 b (9 + 4 * i) = 0 ∧ (u8 b (8 + 4 * i) = 255 ∨ (u8 b (8 + 4 * i) ≤ 3 ∧ (s.dev.unit 3 (u8 b (8 + 4 * i))).st = .stopped ∧
        u16 b (10 + 4 * i) < (s.dev.fe (u8 b (8 + 4 * i))).slots)) ∧
        ((s.dev.inRoute (u16 b 2 + i)).engine = 15 ∨ (s.dev.unit 3 (s.dev.inRoute (u16 b 2 + i)).engine).st = .stopped ∨
          (s.dev.unit 3 (s.dev.inRoute (u16 b 2 + i)).engine).st = .retired)) ∧
      slotClash (forRun (fun i t => tput {} t (u16 b 2 + i) ((mapRoutes b (u16 b 4)).getD i {})) (rangeFrom 0 (u16 b 4)) s.dev.flt.inmap) = false)
    (fun _ _ => [])
    (fun b s t => (∀ i, i < u16 b 4 → t.dev.inRoute (u16 b 2 + i) = (if u8 b (8 + 4 * i) = 255 then {}
        else { engine := u8 b (8 + 4 * i), slot := u16 b (10 + 4 * i) })) ∧
      (∀ c, (c < u16 b 2 ∨ u16 b 2 + u16 b 4 ≤ c) → t.dev.inRoute c = s.dev.inRoute c) ∧ t.dev.flt.outmap = s.dev.flt.outmap) ∧
  Sets .fltChanMap 0x0602 [.flt] (fun b s => b.length = 8 + 4 * u16 b 4 ∧ u8 b 0 = 1 ∧ u8 b 1 = 0 ∧ u16 b 6 = 0 ∧
      runBad s.dev.rate 1 (u16 b 2) (u16 b 4) = false ∧
      (∀ i, i < u16 b 4 → u8 b (9 + 4 * i) = 0 ∧ (u8 b (8 + 4 * i) = 255 ∨ ((u8 b (8 + 4 * i) = 4 ∨ u8 b (8 + 4 * i) = 5) ∧
        (s.dev.unit 3 (u8 b (8 + 4 * i))).st = .stopped ∧ u16 b (10 + 4 * i) < (s.dev.fe (u8 b (8 + 4 * i))).slots)) ∧
        ((s.dev.outRoute (u16 b 2 + i)).engine = 15 ∨ (s.dev.unit 3 (s.dev.outRoute (u16 b 2 + i)).engine).st = .stopped ∨
          (s.dev.unit 3 (s.dev.outRoute (u16 b 2 + i)).engine).st = .retired)) ∧
      slotClash (forRun (fun i t => tput {} t (u16 b 2 + i) ((mapRoutes b (u16 b 4)).getD i {})) (rangeFrom 0 (u16 b 4)) s.dev.flt.outmap) = false)
    (fun _ _ => [])
    (fun b s t => (∀ i, i < u16 b 4 → t.dev.outRoute (u16 b 2 + i) = (if u8 b (8 + 4 * i) = 255 then {}
        else { engine := u8 b (8 + 4 * i), slot := u16 b (10 + 4 * i) })) ∧
      (∀ c, (c < u16 b 2 ∨ u16 b 2 + u16 b 4 ≤ c) → t.dev.outRoute c = s.dev.outRoute c) ∧ t.dev.flt.inmap = s.dev.flt.inmap) ∧
  Sets .fltPhaseSet 0x0603 [.flt] (fun b s => b.length = 8 + 4 * u16 b 4 ∧ u8 b 0 ≤ 1 ∧ u8 b 1 = 0 ∧ u16 b 6 = 0 ∧
      runBad s.dev.rate (u8 b 0) (u16 b 2) (u16 b 4) = false ∧
      (∀ i r, i < u16 b 4 → r = (if u8 b 0 = 0 then s.dev.inRoute (u16 b 2 + i) else s.dev.outRoute (u16 b 2 + i)) →
        u32 b (8 + 4 * i) ≤ 0x3FFFF ∧ r.engine ≠ 15 ∧ (s.dev.fe r.engine).align ≠ 0 ∧ (s.dev.unit 3 r.engine).st = .stopped))
    (fun _ _ => [])
    (fun b _ t => ∀ i, i < u16 b 4 → tget 0 (if u8 b 0 = 0 then t.dev.flt.inphase else t.dev.flt.outphase) (u16 b 2 + i) = u32 b (8 + 4 * i)) ∧
  Reads .fltDelayGet 0x0604 (fun b s => b.length = 8 ∧ u8 b 0 ≤ 1 ∧ u8 b 1 = 0 ∧ u16 b 6 = 0 ∧ runBad s.dev.rate (u8 b 0) (u16 b 2) (u16 b 4) = false)
    (fun b s => words ((rangeFrom (u16 b 2) (u16 b 4)).map (s.dev.condDelay (u8 b 0)))) ∧
  (∀ s r b x ph tp, Plain s r b → b.length = 4 → u8 b 0 ≤ 1 → u8 b 1 = 0 → runBad s.dev.rate (u8 b 0) (u16 b 2) 1 = false →
    x = (if u8 b 0 = 0 then s.dev.inRoute (u16 b 2) else s.dev.outRoute (u16 b 2)) →
    ph = (if x.engine = 15 then 0 else Config.fltPhases (s.dev.fe x.engine).kind (s.dev.fe x.engine).profile s.dev.rate) →
    tp = (if x.engine = 15 then 0 else Config.fltTaps (s.dev.fe x.engine).kind (s.dev.fe x.engine).profile s.dev.rate) →
    Answers (.fltCoefGet r) 0x0605 r s (le 2 ph ++ le 2 tp ++ (rangeFrom 0 ph).flatMap (fun p => (rangeFrom 0 tp).flatMap (fun q =>
      leI 4 (s.dev.coefOf (u8 b 0) (u16 b 2) p q)))) (Frame [] s)) ∧
  Sets .asrcGroupConfig 0x0610 [.flt] (fun b s => b.length = 16 ∧ u8 b 0 ≤ 3 ∧ u8 b 1 ≤ 15 ∧ asrcSrcOk (u8 b 2) (u16 b 4) = true ∧ u8 b 3 ≤ 6 ∧
      asrcRate (u8 b 3) ≤ frOf s.dev.rate ∧ uN 6 b 10 = 0 ∧ (s.dev.fe (u8 b 0)).kind = 2 ∧ (s.dev.unit 3 (u8 b 0)).st = .stopped ∧
      (u8 b 2 = 0 ∨ (1 ≤ u16 b 8 ∧ u16 b 6 + u16 b 8 ≤ (s.dev.fe (u8 b 0)).slots ∧ ∀ g, g < 16 → g ≠ u8 b 1 → (s.dev.grp (u8 b 0) g).srcKind ≠ 0 →
        overlaps (u16 b 6) (u16 b 8) (s.dev.grp (u8 b 0) g).first (s.dev.grp (u8 b 0) g).count = false)))
    (fun _ _ => [])
    (fun b s t => At {} s.dev.flt.grp t.dev.flt.grp (16 * u8 b 0 + u8 b 1) (if u8 b 2 = 0 then { slips := (s.dev.grp (u8 b 0) (u8 b 1)).slips }
      else { s.dev.grp (u8 b 0) (u8 b 1) with srcKind := u8 b 2, srcId := u16 b 4, rate := u8 b 3, first := u16 b 6, count := u16 b 8 })) ∧
  Reads .asrcGroupStatus 0x0611 (fun b _ => b.length = 4 ∧ u8 b 0 ≤ 3 ∧ u8 b 1 ≤ 15 ∧ u16 b 2 = 0) (fun b s =>
    le 1 (s.dev.grp (u8 b 0) (u8 b 1)).st.code ++ le 1 (b01 (s.dev.grp (u8 b 0) (u8 b 1)).rangeErr) ++ zb 2 ++ leI 4 (s.dev.grp (u8 b 0) (u8 b 1)).dev
    ++ leI 4 (s.dev.grp (u8 b 0) (u8 b 1)).fill ++ le 4 (s.dev.grp (u8 b 0) (u8 b 1)).slips.toNat) ∧
  Sets .tdConfig 0x0620 [.flt] (fun b s => b.length = 24 ∧ u8 b 0 ≤ 63 ∧ u8 b 1 ≤ 1 ∧ u8 b 2 ≤ 2 ∧ u8 b 3 ≤ 1 ∧ u16 b 6 = 0 ∧ u32 b 20 = 0 ∧
      u16 b 4 < (if u8 b 2 = 0 then nObj s.dev.rate else if u8 b 2 = 1 then 64 else 512) ∧ 10 * 65536 ≤ u32 b 8 ∧
      u32 b 8 * 100 ≤ frOf s.dev.rate * 65536 * 45 ∧ 256 ≤ u32 b 12 ∧ u32 b 12 ≤ 65536 ∧ u32 b 12 % 16 = 0) (fun _ _ => [])
    (fun b s t => At {} s.dev.flt.td t.dev.flt.td (u8 b 0) { s.dev.tone (u8 b 0) with
      enable := u8 b 1 == 1, srcKind := u8 b 2, window := u8 b 3, src := u16 b 4, freq := u32 b 8, n := u32 b 12, thresh := s16 b 16
      hyst := u16 b 18, start := none, buf := [], bad := false, full := none, cfgBlk := s.dev.tim.tick + 1 }) ∧
  Reads .tdRead 0x0621 (fun b _ => b.length = 4 ∧ 0 < u8 b 1 ∧ u8 b 0 + u8 b 1 ≤ 64 ∧ u16 b 2 = 0) (fun b s =>
    (rangeFrom (u8 b 0) (u8 b 1)).flatMap (fun n => le 8 (s.dev.tone n).block ++ leI 2 (s.dev.tone n).level ++ le 2 (s.dev.tone n).phase
      ++ le 1 (b01 (s.dev.tone n).present + 2 * b01 (s.dev.tone n).valid) ++ zb 3))

/-- Knots, live gains and the trajectory deadline. KNOT_PUSH applies its records in order at the frontier of the tick of validation,
answers how many came late, doubled or replaced a knot, and is refused with E_NO_RESOURCE where a queue would exceed eight knots. The
first knot of an empty queue, on time, is the queue. OBJ_GAIN_SET sets its object's gain and no other; OBJ_CLEAR empties the queues of
its run. At a missed deadline every path holds its delay and the engine takes a strike. -/
def Obligations.Trajectories : Prop :=
  (∀ s r b d k, Plain s r b → 0 < u32 b 0 → u32 b 0 ≤ 1024 → b.length = 8 + 48 * u32 b 0 → u32 b 4 = 0 →
    (∀ i, i < u32 b 0 → recBad s.dev.rate ((b.drop (8 + 48 * i)).take 48) = false) →
    recsApply s.dev.tim.tick ((rangeFrom 0 (u32 b 0)).map (fun i => recOf ((b.drop (8 + 48 * i)).take 48))) (s.dev, {}) = some (d, k) →
    Answers (.knotPush r) 0x0710 r s (words [k.late, k.dup, k.repl]) (fun t => t.dev.trj = (d.knotCount k).trj ∧ Frame [.trj] s t)) ∧
  (∀ s r b, Plain s r b → 0 < u32 b 0 → u32 b 0 ≤ 1024 → b.length = 8 + 48 * u32 b 0 → u32 b 4 = 0 →
    (∀ i, i < u32 b 0 → recBad s.dev.rate ((b.drop (8 + 48 * i)).take 48) = false) →
    recsApply s.dev.tim.tick ((rangeFrom 0 (u32 b 0)).map (fun i => recOf ((b.drop (8 + 48 * i)).take 48))) (s.dev, {}) = none →
    Refuses (.knotPush r) 0x0710 r s 0x106 [] (fun t => (∀ o, t.dev.obj o = s.dev.obj o) ∧
      tget 0 t.dev.trj.ctr 3 = tget 0 s.dev.trj.ctr 3 + BitVec.ofNat 32 (u32 b 0) ∧ Frame [.trj] s t)) ∧
  (∀ s r b k, Plain s r b → b.length = 56 → u32 b 0 = 1 → u32 b 4 = 0 → recBad s.dev.rate (b.drop 8) = false → k = recOf (b.drop 8) →
    (s.dev.obj k.obj).queue = [] → boundT s.dev.rate (s.dev.tim.tick + 3) ≤ k.time * 65536 →
    Answers (.knotPush r) 0x0710 r s (words [0, 0, 0]) (fun t =>
      At {} s.dev.trj.obj t.dev.trj.obj k.obj { s.dev.obj k.obj with
        queue := [{ r := k, eff := k.time * 65536, synth := false, vel := if k.flags.testBit 1 then some k.vel else none }] } ∧ Frame [.trj] s t)) ∧
  (∀ s r b, Plain s r b → b.length = 8 → u16 b 0 < nObj s.dev.rate → u16 b 2 = 0 → Newest s (4 * u16 b 0) (s.dev.tim.tick + 3) →
    Answers (.objGainSet r) 0x0711 r s [] (fun t =>
      At {} s.dev.trj.obj t.dev.trj.obj (u16 b 0) { s.dev.obj (u16 b 0) with gain := s32 b 4, gainVal := s32 b 4 } ∧ Frame [.trj] s t)) ∧
  Sets .objClear 0x0712 [.trj] (fun b s => b.length = 4 ∧ 0 < u16 b 2 ∧ u16 b 0 + u16 b 2 ≤ nObj s.dev.rate) (fun _ _ => [])
    (fun b s t => ∀ o, t.dev.obj o = (if u16 b 0 ≤ o ∧ o < u16 b 0 + u16 b 2 then { s.dev.obj o with queue := [] } else s.dev.obj o)) ∧
  (∀ s, s.dev.rendering = true → Strikable s 1164 → Does .trjDeadline [.trj, .rnd, .hlt] s (fun t => Struck s t 1164 ∧
    t.dev.trj.missed = true ∧ t.dev.trj.late = true ∧ tget 0 t.dev.trj.ctr 6 = tget 0 s.dev.trj.ctr 6 + 1 ∧
    ∀ k, (tget ({} : PathE) t.dev.rnd.path k).dmidn = (tget ({} : PathE) t.dev.rnd.path k).d1 ∧
      (tget ({} : PathE) t.dev.rnd.path k).d1n = (tget ({} : PathE) t.dev.rnd.path k).d1))

/-- The commands of layouts, loudspeakers, routes and objects. LAYOUT_CONFIG of a STOPPED layout that agrees with its group,
SPEAKER_SET of loudspeakers whose layouts before and after are STOPPED, ROUTE_SET and TRJ_CONFIG store what they carry in the
trajectory engine alone; the reading commands answer with settings, an object's evaluated state and the counters and change nothing. -/
def Obligations.LayoutCommands : Prop :=
  Sets .layoutConfig 0x0700 [.trj] (fun b s => b.length = 40 ∧ u8 b 0 ≤ 31 ∧ u8 b 1 ≤ 3 ∧ u8 b 2 ≤ 3 ∧ u8 b 3 < 2 ^ u8 b 2 ∧ u8 b 6 ≤ 2 ∧ u8 b 7 = 0 ∧
      1 ≤ s32 b 8 ∧ 100 * 65536 ≤ u32 b 16 ∧ u32 b 16 ≤ 1000 * 65536 ∧ u32 b 20 ≤ 0x80000 ∧ u32 b 24 ≠ 0 ∧ u32 b 28 ≠ 0 ∧ 1 ≤ s32 b 32 ∧ u32 b 36 = 0 ∧
      (s.dev.unit 1 (u8 b 0)).st = .stopped ∧
      (∀ j, j < 32 → j ≠ u8 b 0 → s.dev.leadOf j = s.dev.leadOf (u8 b 0) → (s.dev.unit 1 j).st ≠ .stopped →
        (s.dev.layout j).law = u16 b 4 ∧ (s.dev.layout j).period = u8 b 2 ∧ (s.dev.layout j).phase = u8 b 3 ∧ (s.dev.layout j).scale = s32 b 8))
    (fun _ _ => [])
    (fun b s t => At {} s.dev.trj.lay t.dev.trj.lay (u8 b 0) { s.dev.layout (u8 b 0) with
      mode := u8 b 1, period := u8 b 2, phase := u8 b 3, law := u16 b 4, att := u8 b 6, scale := s32 b 8, refDelay := s32 b 12
      speed := u32 b 16, slew := u32 b 20, refDist := u32 b 24, minDist := u32 b 28, attMax := s32 b 32 }) ∧
  Reads .layoutGet 0x0701 (fun b _ => b.length = 4 ∧ u8 b 0 ≤ 31 ∧ uN 3 b 1 = 0) (fun b s => (s.dev.layout (u8 b 0)).bytes (u8 b 0) ++
    le 1 (s.dev.unit 1 (u8 b 0)).st.code ++ zb 3 ++ le 4 (s.dev.layout (u8 b 0)).jobs.toNat) ∧
  Sets .speakerSet 0x0702 [.trj] (fun b s => b.length = 8 + 32 * u16 b 2 ∧ 0 < u16 b 2 ∧ u16 b 0 + u16 b 2 ≤ 512 ∧ u32 b 4 = 0 ∧
      (∀ i, i < u16 b 2 → u8 b (26 + 32 * i) ≤ 31 ∧ u8 b (27 + 32 * i) = 0 ∧ u32 b (36 + 32 * i) = 0 ∧
        (s.dev.unit 1 (s.dev.layOf (u16 b 0 + i))).st = .stopped ∧ (s.dev.unit 1 (u8 b (26 + 32 * i))).st = .stopped)) (fun _ _ => [])
    (fun b s t => (∀ i, i < u16 b 2 → t.dev.spk (u16 b 0 + i) = spkOf ((b.drop (8 + 32 * i)).take 32)) ∧
      (∀ o, (o < u16 b 0 ∨ u16 b 0 + u16 b 2 ≤ o) → t.dev.spk o = s.dev.spk o)) ∧
  Reads .speakerGet 0x0703 (fun b _ => b.length = 4 ∧ 0 < u16 b 2 ∧ u16 b 0 + u16 b 2 ≤ 512)
    (fun b s => (rangeFrom (u16 b 0) (u16 b 2)).flatMap (fun o => (s.dev.spk o).bytes)) ∧
  Sets .routeSet 0x0704 [.trj] (fun b s => b.length = 8 + 4 * u16 b 2 ∧ 0 < u16 b 2 ∧ u16 b 0 + u16 b 2 ≤ 256 ∧ u32 b 4 = 0 ∧
      (∀ i, i < u16 b 2 → Newest s (4 * (u16 b 0 + i) + 1) (s.dev.tim.tick + 3))) (fun _ _ => [])
    (fun b s t => (∀ i, i < u16 b 2 → t.dev.routeWord (u16 b 0 + i) = BitVec.ofNat 32 (u32 b (8 + 4 * i))) ∧
      (∀ w, (w < u16 b 0 ∨ u16 b 0 + u16 b 2 ≤ w) → t.dev.routeWord w = s.dev.routeWord w)) ∧
  Sets .trjConfig 0x0705 [.trj] (fun b s => b.length = 4 ∧ u32 b 0 ≤ 1 ∧ (s.dev.unit 0 0).st = .stopped) (fun _ _ => [])
    (fun b s t => t.dev.trj = { s.dev.trj with fold := u32 b 0 == 1 }) ∧
  (∀ s r b x q, Plain s r b → b.length = 4 → u16 b 0 < nObj s.dev.rate → u16 b 2 = 0 → x = s.dev.obj (u16 b 0) →
    q = qDepth x.queue (boundT s.dev.rate (s.dev.tim.tick + 3)) →
    Answers (.objStateGet r) 0x0713 r s (
      (match s.dev.trj.block with
       | some m => if x.ev.valid then timeValue (boundT s.dev.rate (m + 1) / 65536) (boundT s.dev.rate (m + 1) % 65536) s.dev.tim.quality.code
          else timeValue 0 0 3
       | none => timeValue 0 0 3)
      ++ leI 4 x.ev.pos.x ++ leI 4 x.ev.pos.y ++ leI 4 x.ev.pos.z ++ leI 4 x.ev.vel.x ++ leI 4 x.ev.vel.y ++ leI 4 x.ev.vel.z ++ leI 4 x.ev.gain
      ++ leI 4 x.gainVal ++ le 1 q
      ++ le 1 (b01 x.ev.placed + 2 * b01 (!x.queue.isEmpty && q == 1 && (lastLe (boundT s.dev.rate (s.dev.tim.tick + 3)) x.queue).isSome)
        + 4 * b01 ((x.queue.drop ((lastLe (boundT s.dev.rate (s.dev.tim.tick + 3)) x.queue).getD 0)).head?.elim false Knot.synth))
      ++ le 1 x.ev.prio ++ le 1 x.ev.lay ++ le 4 x.ev.route.toNat ++ le 2 x.ev.ext ++ zb 6) (Frame [] s)) ∧
  Reads .trjStatsGet 0x0720 (fun b _ => b = []) (fun _ s => words ((rangeFrom 0 10).map (fun i => (tget 0 s.dev.trj.ctr i).toNat)))

/-- The commands of the output stage, and the end of a meter's window. OUT_CONFIG stores the entries of a run of outputs whose layouts
are STOPPED and whose trim delays fit the pool; OUT_TRIM_SET and OUT_MUTE_SET set trims and mutes for block k + 2 of the outputs not
retired and count the others; OUT_MAP_SET, GUARD_SET and OUT_METER_CONFIG store their settings; the reading commands answer as their
tables say and change nothing. At the end of the window that holds the block last handed over, PEAK, RMS, block and VALID of the
output are those of the window and the window's sums start anew; no other output changes. -/
def Obligations.OutputCommands : Prop :=
  Sets .outConfig 0x0B00 [.out] (fun b s => b.length = 4 + 32 * u16 b 2 ∧ 0 < u16 b 2 ∧ u16 b 0 + u16 b 2 ≤ 512 ∧
      (∀ i, i < u16 b 2 → entryBad s.dev.rate ((b.drop (4 + 32 * i)).take 32) = false ∧ (s.dev.unit 1 (s.dev.layOf (u16 b 0 + i))).st = .stopped ∧
        ¬ (u8 b (5 + 32 * i) = 2 ∧ s.dev.guarded (u16 b 0 + i) = true)) ∧
      (forRun (fun i d => d.setOut (u16 b 0 + i) (outEntry (d.outCh (u16 b 0 + i)) ((b.drop (4 + 32 * i)).take 32))) (rangeFrom 0 (u16 b 2)) s.dev).poolUsed
        ≤ 131072) (fun _ _ => [])
    (fun b s t => (∀ i, i < u16 b 2 →
        { t.dev.outCh (u16 b 0 + i) with seed := none } = { outEntry (s.dev.outCh (u16 b 0 + i)) ((b.drop (4 + 32 * i)).take 32) with seed := none } ∧
        (t.dev.outCh (u16 b 0 + i)).seedOf (u16 b 0 + i) = u64 b (28 + 32 * i)) ∧
      (∀ o, (o < u16 b 0 ∨ u16 b 0 + u16 b 2 ≤ o) → t.dev.outCh o = s.dev.outCh o)) ∧
  Reads .outConfigGet 0x0B01 (fun b _ => b.length = 4 ∧ 0 < u16 b 2 ∧ u16 b 0 + u16 b 2 ≤ 512)
    (fun b s => (rangeFrom (u16 b 0) (u16 b 2)).flatMap (fun o => (s.dev.outCh o).bytes o)) ∧
  Sets .outTrimSet 0x0B02 [.out] (fun b s => b.length = 4 + 4 * u16 b 2 ∧ 0 < u16 b 2 ∧ u16 b 0 + u16 b 2 ≤ 512 ∧
      (∀ i, i < u16 b 2 → Newest s (4 * (u16 b 0 + i) + 2) (s.dev.tim.tick + 2)))
    (fun b s => le 2 ((rangeFrom (u16 b 0) (u16 b 2)).filter (fun o => s.dev.chRet (68 + o))).length ++ zb 2)
    (fun b s t => (∀ i, i < u16 b 2 → t.dev.outCh (u16 b 0 + i) = (if s.dev.chRet (68 + u16 b 0 + i) then s.dev.outCh (u16 b 0 + i)
        else { s.dev.outCh (u16 b 0 + i) with
          trim := (s.dev.outCh (u16 b 0 + i)).trim.set (s32 b (4 + 4 * i)) (s.dev.liveBlk (u16 b 0 + i) (s.dev.tim.tick + 2)) })) ∧
      (∀ o, (o < u16 b 0 ∨ u16 b 0 + u16 b 2 ≤ o) → t.dev.outCh o = s.dev.outCh o)) ∧
  Sets .outMuteSet 0x0B03 [.out] (fun b s => b.length = 8 ∧ 0 < u16 b 2 ∧ u16 b 0 + u16 b 2 ≤ 512 ∧ u8 b 4 ≤ 1 ∧ u8 b 5 ≤ 10 ∧ u16 b 6 = 0 ∧
      (∀ i, i < u16 b 2 → Newest s (4 * (u16 b 0 + i) + 3) (s.dev.tim.tick + 2)))
    (fun b s => le 2 ((rangeFrom (u16 b 0) (u16 b 2)).filter (fun o => s.dev.chRet (68 + o))).length ++ zb 2)
    (fun b s t => (∀ i, i < u16 b 2 → t.dev.outCh (u16 b 0 + i) = (if s.dev.chRet (68 + u16 b 0 + i) then s.dev.outCh (u16 b 0 + i)
        else { s.dev.outCh (u16 b 0 + i) with
          mute := (s.dev.outCh (u16 b 0 + i)).mute.set (u8 b 4 == 1, u8 b 5) (s.dev.liveBlk (u16 b 0 + i) (s.dev.tim.tick + 2)) })) ∧
      (∀ o, (o < u16 b 0 ∨ u16 b 0 + u16 b 2 ≤ o) → t.dev.outCh o = s.dev.outCh o)) ∧
  Sets .outMapSet 0x0B10 [.out] (fun b s => b.length = 8 + 2 * u16 b 6 ∧ u8 b 0 ≤ 2 ∧ u8 b 1 = 0 ∧ u16 b 2 < (destOf (u8 b 0)).1 ∧ 0 < u16 b 6 ∧
      u16 b 4 + u16 b 6 ≤ (destOf (u8 b 0)).2 ∧ (∀ i, i < u16 b 6 → u16 b (8 + 2 * i) ≤ 511 ∨ u16 b (8 + 2 * i) = 0xFFFF) ∧
      (s.dev.destUnit (u8 b 0) (u16 b 2)).st = .stopped) (fun _ _ => [])
    (fun b s t => (∀ i, i < u16 b 6 → tget 0xFFFF (t.dev.out.map (u8 b 0)) ((destOf (u8 b 0)).2 * u16 b 2 + u16 b 4 + i) = u16 b (8 + 2 * i)) ∧
      (∀ k j, (k ≤ 2 ∧ k ≠ u8 b 0 ∨ k = u8 b 0 ∧ (j < (destOf k).2 * u16 b 2 + u16 b 4 ∨ (destOf k).2 * u16 b 2 + u16 b 4 + u16 b 6 ≤ j)) →
        tget 0xFFFF (t.dev.out.map k) j = tget 0xFFFF (s.dev.out.map k) j) ∧ t.dev.out.ch = s.dev.out.ch ∧ t.dev.out.gs = s.dev.out.gs) ∧
  Reads .outMapGet 0x0B11 (fun b _ => b.length = 4 ∧ u8 b 0 ≤ 2 ∧ u8 b 1 = 0 ∧ u16 b 2 < (destOf (u8 b 0)).1)
    (fun b s => (rangeFrom ((destOf (u8 b 0)).2 * u16 b 2) (destOf (u8 b 0)).2).flatMap (fun i => le 2 (tget 0xFFFF (s.dev.out.map (u8 b 0)) i))) ∧
  Sets .guardSet 0x0B20 [.out] (fun b s => b.length = 4 ∧ u8 b 0 ≤ 31 ∧ u8 b 1 ≤ 1 ∧ u16 b 2 ≤ 511 ∧
      (u8 b 1 = 1 → ∀ x ∈ s.dev.out.gs, x.1 ≠ u8 b 0 → x.2.en = true → x.2.out ≠ u16 b 2) ∧
      (s.dev.unit 1 (s.dev.layOf (tget ({} : Guard) s.dev.out.gs (u8 b 0)).out)).st = .stopped ∧ (s.dev.unit 1 (s.dev.layOf (u16 b 2))).st = .stopped ∧
      (s.dev.outCh (u16 b 2)).dither ≠ 2) (fun _ _ => [])
    (fun b s t => At {} s.dev.out.gs t.dev.out.gs (u8 b 0) { tget ({} : Guard) s.dev.out.gs (u8 b 0) with out := u16 b 2, en := u8 b 1 == 1 } ∧
      t.dev.out.ch = s.dev.out.ch) ∧
  Reads .guardGet 0x0B21 (fun b _ => b = []) (fun _ s => (rangeFrom 0 32).flatMap (fun k => le 2 (tget ({} : Guard) s.dev.out.gs k).out
    ++ le 1 (b01 (tget ({} : Guard) s.dev.out.gs k).en) ++ zb 1 ++ le 4 (tget ({} : Guard) s.dev.out.gs k).crc.toNat
    ++ le 8 (tget ({} : Guard) s.dev.out.gs k).block)) ∧
  Sets .outMeterConfig 0x0B30 [.out] (fun b _ => b.length = 8 ∧ 0 < u16 b 2 ∧ u16 b 0 + u16 b 2 ≤ 512 ∧ 0 < u16 b 4 ∧ u8 b 6 ≤ 2 ∧ u8 b 7 = 0)
    (fun _ _ => [])
    (fun b s t => ∀ o, t.dev.outCh o = (if u16 b 0 ≤ o ∧ o < u16 b 0 + u16 b 2
      then { s.dev.outCh o with mN := u16 b 4, mTap := u8 b 6, mStart := none, mFrom := s.dev.tim.tick + 1 } else s.dev.outCh o)) ∧
  Reads .outMeterRead 0x0B31 (fun b _ => b.length = 4 ∧ 0 < u16 b 2 ∧ u16 b 0 + u16 b 2 ≤ 512) (fun b s =>
    (rangeFrom (u16 b 0) (u16 b 2)).flatMap (fun o => le 8 (s.dev.outCh o).mBlock ++ leI 2 (s.dev.outCh o).peak ++ leI 2 (s.dev.outCh o).rms
      ++ le 2 (s.dev.outCh o).gr ++ le 2 (b01 (s.dev.outCh o).valid + 2 * b01 ((s.dev.outCh o).mute.val (s.dev.tim.tick + 1)).1
        + 4 * b01 (s.dev.chRet (68 + o))) ++ le 4 (s.dev.outCh o).clip.toNat ++ le 4 (s.dev.outCh o).limited.toNat)) ∧
  (∀ s n m w, n < 512 → s.dev.out.block = some m → w = (s.dev.outCh n).window m → (m + 1) % (s.dev.outCh n).mN = 0 → (s.dev.outCh n).mFrom ≤ w →
    (s.dev.outCh n).mStart = some w → Does (.meterWindowEnd n) [.out] s (fun t =>
      (t.dev.outCh n).mBlock = w ∧ (t.dev.outCh n).peak = dbOf ((s.dev.outCh n).mMax * (s.dev.outCh n).mMax) (2 ^ 62) ∧
      (t.dev.outCh n).rms = dbOf (s.dev.outCh n).mSum ((s.dev.outCh n).mN *
        (if (s.dev.outCh n).mTap = 2 ∧ (s.dev.outRoute n).engine ≠ 15 then 8 else 16) * 2 ^ 62) ∧
      ((s.dev.outCh n).mGain ≠ 0 → (t.dev.outCh n).gr = (dbOf (2 ^ 62) ((s.dev.outCh n).mGain * (s.dev.outCh n).mGain)).toNat) ∧
      (t.dev.outCh n).valid = ((s.dev.outCh n).mCnt == (s.dev.outCh n).mN) ∧
      (t.dev.outCh n).mMax = 0 ∧ (t.dev.outCh n).mSum = 0 ∧ (t.dev.outCh n).mCnt = 0 ∧ (∀ o, o ≠ n → t.dev.outCh o = s.dev.outCh o)))

/-- Scratch banks change owner, are tested and read, and windows are set. A write of an owner marks the bank PENDING; the end of the
hand-over gives it the owner, a bank that leaves NONE powered up anew and a hand-over to LAW clearing RETAIN_LOST; SCB_OWNER_SET does
both. A stripe tested without fault passes to the next, one interrupted counts a yield, and one that fails sets FAULTY, records and
reports its address. BW_CONFIG of a window no busy layout uses sets it and clears its fold. -/
def Obligations.ScratchBanks : Prop :=
  (∀ s n v, n < 16 → (s.dev.scb.tActive = false ∨ s.dev.scb.tBank ≠ n) → Does (.scbOwnerWrite n v) [.scb] s (fun t =>
    At {} s.dev.scb.bank t.dev.scb.bank n { s.dev.bank n with pending := some (ownerOf v) })) ∧
  (∀ s n o, n < 16 → (s.dev.bank n).pending = some o → Does (.bankHandoverDone n) [.scb] s (fun t =>
    (∀ j, j ≠ n → t.dev.bank j = s.dev.bank j) ∧ (t.dev.bank n).owner = o ∧ (t.dev.bank n).pending = none ∧
    (t.dev.bank n).lost = ((s.dev.bank n).lost && o != .law) ∧
    (((s.dev.bank n).owner ≠ .none ∨ o = .none) → (t.dev.bank n).words = (s.dev.bank n).words ∧ (t.dev.bank n).gen = (s.dev.bank n).gen) ∧
    ((s.dev.bank n).owner = .none → o ≠ .none → (t.dev.bank n).words = [] ∧ (t.dev.bank n).gen ≠ 0))) ∧
  (∀ s n k, n < 16 → k < 2047 → s.dev.testable n = true → Does (.testStripe n k .pass) [.scb] s (fun t =>
    t.dev.scb = { s.dev.scb with tBank := n, tStripe := k + 1, tActive := false, tPhase := 0 })) ∧
  (∀ s n k, n < 16 → k < 2048 → s.dev.testable n = true → Does (.testStripe n k .yielded) [.scb] s (fun t =>
    t.dev.scb = { s.dev.scb with tBank := n, tStripe := k, tActive := false, tPhase := 0, yields := s.dev.scb.yields + 1 })) ∧
  (∀ s n k w, n < 16 → k < 2048 → s.dev.testable n = true → Does (.testStripe n k (.fail w)) [.scb] s (fun t =>
    At {} s.dev.scb.bank t.dev.scb.bank n { s.dev.bank n with faulty := true } ∧ t.dev.scb.fails = s.dev.scb.fails + 1 ∧
    t.dev.scb.failAddr = n * 0x40000 + k * 128 + 4 * (w % 32) ∧ Raises s t 0x8C01 n (le 4 (n * 0x40000 + k * 128 + 4 * (w % 32))))) ∧
  Sets .scbOwnerSet 0x0C00 [.scb] (fun b s => b.length = 4 ∧ u8 b 0 ≤ 14 ∧ u8 b 1 ≤ 2 ∧ u16 b 2 = 0 ∧
      ((s.dev.bank (u8 b 0)).owner ≠ .law ∨ u8 b 1 = 2 ∨ ∀ l, l < 32 → (s.dev.unit 1 l).st ≠ .stopped → s.dev.usesBank l (u8 b 0) = false))
    (fun _ _ => [])
    (fun b s t => (t.dev.bank (u8 b 0)).owner = ownerOf (u8 b 1) ∧ (t.dev.bank (u8 b 0)).pending = none ∧
      (∀ j, j ≠ u8 b 0 → t.dev.bank j = s.dev.bank j) ∧
      (((s.dev.bank (u8 b 0)).owner ≠ .none ∨ u8 b 1 = 0) → (t.dev.bank (u8 b 0)).words = (s.dev.bank (u8 b 0)).words)) ∧
  Reads .scbStatusGet 0x0C01 (fun b _ => b = []) (fun _ s => (rangeFrom 0 16).flatMap (fun n => le 1 (s.dev.bank n).owner.code
      ++ le 1 (b01 (s.dev.bank n).pending.isSome + 2 * b01 (s.dev.bank n).faulty + 4 * b01 (s.dev.bank n).lost + 8 * b01 (s.dev.bank n).notOwner) ++ zb 2)
    ++ words [s.dev.scb.yields.toNat, s.dev.scb.passes.toNat, s.dev.scb.fails.toNat, s.dev.scb.failAddr, s.dev.scb.eccCorr.toNat,
      s.dev.scb.eccUncorr.toNat]) ∧
  Sets .scbTestConfig 0x0C02 [.scb] (fun b _ => b.length = 4 ∧ u8 b 2 ≤ 1 ∧ u8 b 3 = 0) (fun _ _ => [])
    (fun b s t => t.dev.scb = { s.dev.scb with mask := u16 b 0, testEn := u8 b 2 == 1, tActive := s.dev.scb.tActive && u8 b 2 == 1 }) ∧
  Reads .dpStatsGet 0x0C03 (fun b _ => b.length = 4 ∧ u8 b 0 ≤ 7 ∧ uN 3 b 1 = 0) (fun b s => le 1 (tget 0 s.dev.scb.dpStatus (u8 b 0)) ++ zb 3 ++
    words [(tget 0 s.dev.scb.dpAddr (u8 b 0)).toNat, (tget 0 s.dev.scb.dpBusy (u8 b 0)).toNat, (tget 0 s.dev.scb.dpLost (u8 b 0)).toNat]) ∧
  Sets .bwConfig 0x0C10 [.scb] (fun b s => b.length = 12 ∧ u8 b 0 ≤ 15 ∧ uN 3 b 1 = 0 ∧ u32 b 4 % 4 = 0 ∧ u32 b 4 < 0x400000 ∧ u32 b 8 % 4 = 0 ∧
      u32 b 8 ≤ 0x40000 ∧ (u32 b 8 = 0 ∨ u32 b 4 / 0x40000 = (u32 b 4 + u32 b 8 - 1) / 0x40000) ∧
      (∀ l, l < 32 → (s.dev.unit 1 l).st ≠ .stopped → s.dev.usesWindow l (u8 b 0)
        ((if s.dev.bwL (u8 b 0) = 0 then [] else [s.dev.bwB (u8 b 0) / 0x40000]) ++ (if u32 b 8 = 0 then [] else [u32 b 4 / 0x40000])) = false))
    (fun _ _ => [])
    (fun b s t => At 0 s.dev.scb.bwBase t.dev.scb.bwBase (u8 b 0) (u32 b 4) ∧ At 0 s.dev.scb.bwLen t.dev.scb.bwLen (u8 b 0) (u32 b 8) ∧
      At false s.dev.scb.bwFold t.dev.scb.bwFold (u8 b 0) false ∧ t.dev.scb.bank = s.dev.scb.bank) ∧
  Reads .bwGet 0x0C11 (fun b _ => b.length = 4 ∧ u8 b 0 ≤ 15 ∧ uN 3 b 1 = 0) (fun b s => words [s.dev.bwB (u8 b 0), s.dev.bwL (u8 b 0)]
    ++ le 1 (b01 (tget false s.dev.scb.bwFold (u8 b 0))) ++ zb 3 ++ le 4 (tget 0 s.dev.scb.bwFolds (u8 b 0)).toNat)

/-- The accumulator instructions. Each accumulator instruction that issues, whatever stands beside it in its bundle, puts the exact
result of its table row into its accumulator, saturated with SATA and wrapped without, one bundle on for accumulator operations and
three for moves, sets AOV and a pending AOV where it does not fit in 72 bits, and changes no register before its result lands. -/
def Obligations.AccumulatorOps : Prop :=
  Computes .lawMpy .mpy (fun x f => x.toAcc f.f1 (x.d f.f2 * x.d f.f3) ++ x.aov (x.d f.f2 * x.d f.f3)) ∧
  Computes .lawMac .mac (fun x f => x.toAcc f.f1 (x.accOf f.f1 + x.d f.f2 * x.d f.f3) ++ x.aov (x.accOf f.f1 + x.d f.f2 * x.d f.f3)) ∧
  Computes .lawMsu .msu (fun x f => x.toAcc f.f1 (x.accOf f.f1 - x.d f.f2 * x.d f.f3) ++ x.aov (x.accOf f.f1 - x.d f.f2 * x.d f.f3)) ∧
  Computes .lawAdda .adda (fun x f => x.toAcc f.f1 (x.accOf f.f1 + x.accOf f.f2) ++ x.aov (x.accOf f.f1 + x.accOf f.f2)) ∧
  Computes .lawSuba .suba (fun x f => x.toAcc f.f1 (x.accOf f.f1 - x.accOf f.f2) ++ x.aov (x.accOf f.f1 - x.accOf f.f2)) ∧
  Computes .lawNega .nega (fun x f => x.toAcc f.f1 (-x.accOf f.f2) ++ x.aov (-x.accOf f.f2)) ∧
  Computes .lawAbsa .absa (fun x f => x.toAcc f.f1 (x.accOf f.f2).natAbs ++ x.aov (x.accOf f.f2).natAbs) ∧
  Computes .lawClra .clra (fun x f => x.toAcc f.f1 0) ∧
  Computes .lawShla .shla (fun x f => x.toAcc f.f1 (x.accOf f.f2 * 2 ^ f.f4.toNat) ++ x.aov (x.accOf f.f2 * 2 ^ f.f4.toNat)) ∧
  Computes .lawShra .shra (fun x f => x.toAcc f.f1 (x.accOf f.f2 / 2 ^ f.f4.toNat)) ∧
  Computes .lawMvda .mvda (fun x f => x.toAcc f.f1 (x.d f.f2 * 2 ^ x.scale)) ∧
  Computes .lawExpa .expa (fun x f => [x.toD f.f1 2 ((rsBits 72 (x.slowOf f.f2.toNat) : Int) - 8)]) ∧
  Computes .lawNorma .norma (fun x f =>
    [x.toD f.f3 2 ((rsBits 72 (x.slowOf f.f2.toNat) : Int) - 8)] ++
    (if rsBits 72 (x.accOf f.f2) < 8 then x.toAcc f.f1 (x.accOf f.f2 / 2 ^ (8 - rsBits 72 (x.accOf f.f2)))
     else x.toAcc f.f1 (x.accOf f.f2 * 2 ^ (rsBits 72 (x.accOf f.f2) - 8)))) ∧
  Computes .lawMvad .mvad (fun x f => x.toD f.f1 2 (satI 32 (rne (x.slowOf f.f2.toNat) (2 ^ x.scale)))
    :: x.satSets 2 (rne (x.slowOf f.f2.toNat) (2 ^ x.scale)))

/-- The D register instructions. Each D register instruction that issues, whatever stands beside it in its bundle, puts the result of
its table row into Dd at its latency, sets N, Z, V and C where its row marks them, and AS with a pending AS where a saturating one
saturates. CMP sets flags and no register; NOP sets nothing. -/
def Obligations.RegisterOps : Prop :=
  Computes .lawAdd .add (fun x f => [x.toD f.f1 1 (x.d f.f2 + x.d f.f3),
    x.nzvc (x.d f.f2 + x.d f.f3) (satI 32 (x.d f.f2 + x.d f.f3) != x.d f.f2 + x.d f.f3) (decide (2 ^ 32 ≤ (x.dw f.f2).toNat + (x.dw f.f3).toNat))]) ∧
  Computes .lawSub .sub (fun x f => [x.toD f.f1 1 (x.d f.f2 - x.d f.f3),
    x.nzvc (x.d f.f2 - x.d f.f3) (satI 32 (x.d f.f2 - x.d f.f3) != x.d f.f2 - x.d f.f3) (decide ((x.dw f.f3).toNat ≤ (x.dw f.f2).toNat))]) ∧
  Computes .lawAdds .adds (fun x f => x.toD f.f1 1 (satI 32 (x.d f.f2 + x.d f.f3)) ::
    x.nzvc (satI 32 (x.d f.f2 + x.d f.f3)) (satI 32 (x.d f.f2 + x.d f.f3) != x.d f.f2 + x.d f.f3) (decide (2 ^ 32 ≤ (x.dw f.f2).toNat + (x.dw f.f3).toNat))
    :: x.satSets 2 (x.d f.f2 + x.d f.f3)) ∧
  Computes .lawSubs .subs (fun x f => x.toD f.f1 1 (satI 32 (x.d f.f2 - x.d f.f3)) ::
    x.nzvc (satI 32 (x.d f.f2 - x.d f.f3)) (satI 32 (x.d f.f2 - x.d f.f3) != x.d f.f2 - x.d f.f3) (decide ((x.dw f.f3).toNat ≤ (x.dw f.f2).toNat))
    :: x.satSets 2 (x.d f.f2 - x.d f.f3)) ∧
  Computes .lawAnd .and_ (fun x f => x.nzOnly f.f1 (x.dw f.f2 &&& x.dw f.f3).toInt) ∧
  Computes .lawOr .or_ (fun x f => x.nzOnly f.f1 (x.dw f.f2 ||| x.dw f.f3).toInt) ∧
  Computes .lawXor .xor_ (fun x f => x.nzOnly f.f1 (x.dw f.f2 ^^^ x.dw f.f3).toInt) ∧
  Computes .lawAsr .asr (fun x f => x.nzOnly f.f1 ((x.dw f.f2).sshiftRight f.f4.toNat).toInt) ∧
  Computes .lawLsr .lsr (fun x f => x.nzOnly f.f1 (x.dw f.f2 >>> f.f4.toNat).toInt) ∧
  Computes .lawLsl .lsl (fun x f => x.nzOnly f.f1 (x.dw f.f2 <<< f.f4.toNat).toInt) ∧
  Computes .lawAsrv .asrv (fun x f => if 0 ≤ x.d f.f3 then x.nzOnly f.f1 (x.d f.f2 / 2 ^ (min 31 (x.d f.f3).toNat))
    else x.nzOnly f.f1 (x.d f.f2 * 2 ^ (min 31 (-x.d f.f3).toNat))) ∧
  Computes .lawExp .exp (fun x f => x.nzOnly f.f1 (rsBits 32 (x.d f.f2) : Nat)) ∧
  Computes .lawNorm .norm (fun x f => x.nzOnly f.f1 (x.d f.f2 * 2 ^ rsBits 32 (x.d f.f2))) ∧
  Computes .lawMin .min (fun x f => x.nzOnly f.f1 (min (x.d f.f2) (x.d f.f3))) ∧
  Computes .lawMax .max (fun x f => x.nzOnly f.f1 (max (x.d f.f2) (x.d f.f3))) ∧
  Computes .lawCmp .cmp (fun x f => [x.nzvc (x.d f.f2 - x.d f.f3) (satI 32 (x.d f.f2 - x.d f.f3) != x.d f.f2 - x.d f.f3)
    (decide ((x.dw f.f3).toNat ≤ (x.dw f.f2).toNat))]) ∧
  Computes .lawMov .mov (fun x f => x.nzOnly f.f1 (x.d f.f2)) ∧
  Computes .lawAbs .abs (fun x f => x.toD f.f1 1 (satI 32 (x.d f.f2).natAbs) :: x.satSets 2 (x.d f.f2).natAbs) ∧
  Computes .lawNeg .neg (fun x f => x.toD f.f1 1 (satI 32 (-x.d f.f2)) ::
    x.nzvc (satI 32 (-x.d f.f2)) (satI 32 (-x.d f.f2) != -x.d f.f2) (x.dw f.f2 == 0) :: x.satSets 2 (-x.d f.f2)) ∧
  Computes .lawSel .sel (fun x f => [x.toD f.f1 1 (if condHolds x.sr (BitVec.ofNat 4 f.f4.toNat) then x.d f.f2 else x.d f.f3)]) ∧
  Computes .lawMulq .mulq (fun x f => x.toD f.f1 3 (satI 32 (rne (x.d f.f2 * x.d f.f3) (2 ^ f.f4.toNat))) ::
    x.satSets 3 (rne (x.d f.f2 * x.d f.f3) (2 ^ f.f4.toNat))) ∧
  Computes .lawRcp .rcp (fun x f => x.toD f.f1 8 (satI 32 (rcpRaw (x.d f.f2))) :: x.satSets 8 (rcpRaw (x.d f.f2))) ∧
  Computes .lawRsq .rsq (fun x f => x.toD f.f1 8 (satI 32 (rsqRaw (x.d f.f2))) :: x.satSets 8 (rsqRaw (x.d f.f2))) ∧
  (∀ d : Int, 0 < d → rcpRaw d = rne (2 ^ 59) d.toNat ∧ (d ≤ 2 ^ 28 → satI 32 (rcpRaw d) = 2 ^ 31 - 1)) ∧
  (∀ s e f sd, Issues s e (sd.bundle ⟨.nop, f⟩) → Does (.lawNop e (some (f, sd))) [.law, .scb] s (fun t => Issued s t e)) ∧
  (∀ s e, Issues s e (.ctl .nop) → Does (.lawNop e none) [.law] s (fun t => Issued s t e ∧ (t.dev.eng e).flight = [] ∧ KeepsWords s t e (fun _ => False)))

/-- A result lands at its bundle and not before. At bundle n an engine whose only result in flight is due by then has it in its
register, saturated fields as the register holds them, and nothing in flight; a result due later changes nothing. A rotating register
is D16 to D31 offset by RRB. -/
def Obligations.Landings : Prop :=
  (∀ (x : LawEng) (n : Nat) (l : Land), x.flight = [l] → n < l.due → x.landAt n = x) ∧
  (∀ (x : LawEng) (n k : Nat) (l : Land), x.flight = [l] → l.due ≤ n → l.tgt = .pd k →
    At 0 x.pd (x.landAt n).pd k (BitVec.ofInt 32 l.val) ∧ x.landAt n = { x with pd := (x.landAt n).pd, flight := [] }) ∧
  (∀ (x : LawEng) (n k : Nat) (l : Land), x.flight = [l] → l.due ≤ n → l.tgt = .ptr k →
    At 0 x.p (x.landAt n).p k (BitVec.ofInt 32 l.val) ∧ x.landAt n = { x with p := (x.landAt n).p, flight := [] }) ∧
  (∀ (x : LawEng) (n k : Nat) (l : Land), x.flight = [l] → l.due ≤ n → l.tgt = .mdf k →
    At 0 x.m (x.landAt n).m k (BitVec.ofInt 32 l.val) ∧ x.landAt n = { x with m := (x.landAt n).m, flight := [] }) ∧
  (∀ (x : LawEng) (n k : Nat) (l : Land), x.flight = [l] → l.due ≤ n → l.tgt = .accF k →
    At 0 x.acc (x.landAt n).acc k l.val ∧ x.landAt n = { x with acc := (x.landAt n).acc, flight := [] }) ∧
  (∀ (x : LawEng) (n k : Nat) (l : Land), x.flight = [l] → l.due ≤ n → l.tgt = .acc k →
    At 0 x.accS (x.landAt n).accS k l.val ∧ x.landAt n = { x with accS := (x.landAt n).accS, flight := [] }) ∧
  (∀ (x : LawEng) (n k : Nat) (l : Land), x.flight = [l] → l.due ≤ n → l.tgt = .accW k 0 →
    At 0 x.acc (x.landAt n).acc k l.val ∧ At 0 x.accS (x.landAt n).accS k l.val) ∧
  (∀ (x : LawEng) (n : Nat) (l : Land) (nn z v c : Bool), x.flight = [l] → l.due ≤ n → l.tgt = .flags →
    l.val = ((8 * b01 nn + 4 * b01 z + 2 * b01 v + b01 c : Nat) : Int) → x.sr.toNat < 0x4000 →
    (x.landAt n).sr.getLsbD 3 = nn ∧ (x.landAt n).sr.getLsbD 2 = z ∧ (x.landAt n).sr.getLsbD 1 = v ∧ (x.landAt n).sr.getLsbD 0 = c ∧
    (∀ i, 4 ≤ i → (x.landAt n).sr.getLsbD i = x.sr.getLsbD i)) ∧
  (∀ (x : LawEng) (n : Nat) (l : Land) (a p : Bool), x.flight = [l] → l.due ≤ n → l.tgt = .sticky → l.val = ((2 * b01 a + 8 * b01 p : Nat) : Int) →
    (∀ i, (x.landAt n).sr.getLsbD i = (x.sr.getLsbD i || (decide (i = 5) && a))) ∧
    (∀ i, (x.landAt n).ictl.getLsbD i = (x.ictl.getLsbD i || (decide (i = 9) && p)))) ∧
  (∀ (x : LawEng) (n : Nat) (l : Land) (m v : BitVec 16), x.flight = [l] → l.due ≤ n → l.tgt = .sr → l.val = ((m.toNat * 65536 + v.toNat : Nat) : Int) →
    (x.landAt n).sr = srWrite x.sr m v) ∧
  (∀ (x : LawEng) (k : Nat), k < 16 → x.phys k = k ∧ x.phys (16 + k) = 16 + (k + x.rrb) % 16)

/-- Moves, loads, stores and immediates. An X or Y move that loads lands the word at its pointer in its D register three bundles on,
and one that stores writes its D register there, with the other words of memory unchanged; a pointer with post-modify lands one bundle
on. LD lands its word in any register a bundle may write, six bundles on from scratch; ST writes any readable register. MOVR, ADDI,
LDIS and LDI land their value at the latency of the register written. -/
def Obligations.MoveOps : Prop :=
  (∀ s e c y mv other rot b, mv.store = false → b = (if y then Bundle.par c other (some mv) rot else .par c (some mv) other rot) → Issues s e b →
    Does (.moveLoad e c y mv other rot) [.law, .scb] s (fun t => Issued s t e ∧
      (s.lawEng e).lands 3 (.pd ((s.lawEng e).phys mv.d.toNat)) (s.dev.lawRead (s.lawEng e) (s.dev.moveAccess (s.lawEng e) y mv).at_).toInt
        ∈ (t.dev.eng e).flight ∧
      (mv.am = 0 → (s.lawEng e).lands 1 (.ptr mv.p.toNat) ((((s.lawEng e).ptr mv.p + 4) % 2 ^ 32 : Nat) : Int) ∈ (t.dev.eng e).flight) ∧
      (mv.am = 1 → (s.lawEng e).lands 1 (.ptr mv.p.toNat) ((((s.lawEng e).ptr mv.p : Int) + (s.lawEng e).mdf mv.m) % 2 ^ 32) ∈ (t.dev.eng e).flight) ∧
      (rot = true → (t.dev.eng e).rrb = ((s.lawEng e).rrb + 15) % 16))) ∧
  (∀ s e c y mv other rot b, mv.store = true → b = (if y then Bundle.par c other (some mv) rot else .par c (some mv) other rot) → Issues s e b →
    Does (.moveStore e c y mv other rot) [.law, .scb] s (fun t => Issued s t e ∧
      t.dev.lawRead (t.dev.eng e) (s.dev.moveAccess (s.lawEng e) y mv).at_ = (s.lawEng e).dw mv.d ∧
      (other.all (fun o => !o.store) = true → KeepsWords s t e (fun a => a = (s.dev.moveAccess (s.lawEng e) y mv).at_)) ∧
      (mv.am = 0 → (s.lawEng e).lands 1 (.ptr mv.p.toNat) ((((s.lawEng e).ptr mv.p + 4) % 2 ^ 32 : Nat) : Int) ∈ (t.dev.eng e).flight))) ∧
  (∀ (x : LawEng) (d : Dev) mv, (d.moveAccess x false mv).addr = (match mv.am.toNat with
      | 0 | 1 => x.ptr mv.p
      | 2 => (((x.ptr mv.p : Int) + x.mdf mv.m) % 2 ^ 32).toNat
      | _ => x.ptr mv.p)) ∧
  (∀ s e c a g v, Issues s e (.gen c (.ld a)) → (s.lawEng e).regOf a.reg.toNat = some g →
    v = s.dev.lawRead (s.lawEng e) (s.dev.memAccess (s.lawEng e) a false).at_ →
    Does (.lawLd e c a) [.law, .scb] s (fun t => Issued s t e ∧ KeepsWords s t e (fun _ => False) ∧
      (∃ l ∈ (t.dev.eng e).flight, l.tgt = g ∧ l.val = (s.lawEng e).moveVal g v.toInt ∧
        ((∃ w, (s.dev.memAccess (s.lawEng e) a false).at_ = .s w) → l.due = (s.lawEng e).issued + 6 ∧ l.lock = true) ∧
        ((∀ w, (s.dev.memAccess (s.lawEng e) a false).at_ ≠ .s w) → l.due = (s.lawEng e).issued + moveLatency g true ∧ l.lock = false)))) ∧
  (∀ s e c a, Issues s e (.gen c (.st a)) → Does (.lawSt e c a) [.law, .scb] s (fun t => Issued s t e ∧
    t.dev.lawRead (t.dev.eng e) (s.dev.memAccess (s.lawEng e) a true).at_ = BitVec.ofInt 32 ((s.lawEng e).readCode e a.reg.toNat) ∧
    KeepsWords s t e (fun p => p = (s.dev.memAccess (s.lawEng e) a true).at_))) ∧
  (∀ s e c rd rs g, Issues s e (.gen c (.movr rd rs)) → (s.lawEng e).regOf rd.toNat = some g → Does (.lawMovr e c rd rs) [.law] s (fun t => Issued s t e ∧
    (s.lawEng e).lands (moveLatency g false) g ((s.lawEng e).moveVal g ((s.lawEng e).readCode e rs.toNat)) ∈ (t.dev.eng e).flight)) ∧
  (∀ s e c r i g, Issues s e (.gen c (.addi r i)) → (s.lawEng e).regOf r.toNat = some g → Does (.lawAddi e c r i) [.law] s (fun t => Issued s t e ∧
    (s.lawEng e).lands (moveLatency g false) g ((s.lawEng e).moveVal g ((s.lawEng e).readCode e r.toNat + i.toInt)) ∈ (t.dev.eng e).flight)) ∧
  (∀ s e c r i g, Issues s e (.gen c (.ldis r i)) → (s.lawEng e).regOf r.toNat = some g → Does (.lawLdis e c r i) [.law] s (fun t => Issued s t e ∧
    (s.lawEng e).lands (moveLatency g false) g ((s.lawEng e).moveVal g i.toInt) ∈ (t.dev.eng e).flight)) ∧
  (∀ s e r i g, Issues s e (.ldi r i) → (s.lawEng e).regOf r.toNat = some g → Does (.lawLdi e r i) [.law] s (fun t => Issued s t e ∧
    (s.lawEng e).lands (moveLatency g false) g ((s.lawEng e).moveVal g i.toInt) ∈ (t.dev.eng e).flight))

/-- Branches, delay slots and loops. BR, BRI and CALL, where their condition holds, branch after two delay slots; CALL's return bundle
lands in P7. LOOP sets its count and bounds and arms the loop engine. Of two delay slots the first leads to the second and the second
to the target. At the end of an armed loop's body the PC returns to its start while the count exceeds one, and the loop is disarmed at
the last pass. ROTN rotates the register file. -/
def Obligations.BranchOps : Prop :=
  (∀ s e c t, Issues s e (.ctl (.br c t)) → Does (.lawBr e c t) [.law] s (fun u => (u.dev.eng e).slots = 2 ∧ (u.dev.eng e).pc = (s.lawEng e).pc + 1 ∧
    (u.dev.eng e).target = (if condHolds (s.lawEng e).sr c then some t.toNat else none) ∧ SameRegs (s.lawEng e) (u.dev.eng e))) ∧
  (∀ s e c p, Issues s e (.ctl (.bri c p)) → (s.lawEng e).ptr p ≤ 16383 → Does (.lawBri e c p) [.law] s (fun u => (u.dev.eng e).slots = 2 ∧
    (u.dev.eng e).pc = (s.lawEng e).pc + 1 ∧ (u.dev.eng e).target = (if condHolds (s.lawEng e).sr c then some ((s.lawEng e).ptr p) else none) ∧
    SameRegs (s.lawEng e) (u.dev.eng e))) ∧
  (∀ s e c t, Issues s e (.ctl (.call c t)) → Does (.lawCall e c t) [.law] s (fun u => (u.dev.eng e).slots = 2 ∧ (u.dev.eng e).pc = (s.lawEng e).pc + 1 ∧
    (u.dev.eng e).target = (if condHolds (s.lawEng e).sr c then some t.toNat else none) ∧ SameRegs (s.lawEng e) (u.dev.eng e) ∧
    (condHolds (s.lawEng e).sr c = true → (s.lawEng e).lands 2 (.ptr 7) (((s.lawEng e).pc + 3 : Nat) : Int) ∈ (u.dev.eng e).flight))) ∧
  (∀ s e n a z, Issues s e (.ctl (.loop n a z)) → Does (.lawLoop e n a z) [.law] s (fun u => (u.dev.eng e).slots = 2 ∧ (u.dev.eng e).target = none ∧
    (u.dev.eng e).pc = (s.lawEng e).pc + 1 ∧ (u.dev.eng e).ls = a.toNat ∧ (u.dev.eng e).le = z.toNat ∧ (u.dev.eng e).sr = (s.lawEng e).sr ||| 0x0080 ∧
    (u.dev.eng e).lc = (match n with
      | .imm k => k.toNat
      | .reg r => ((s.lawEng e).dw r).toNat % 65536))) ∧
  (∀ s e, Issues s e (.ctl .nop) → (s.lawEng e).slots = 2 → (s.lawEng e).sr.getLsbD 7 = false → Does (.lawNop e none) [.law] s (fun u =>
    (u.dev.eng e).slots = 1 ∧ (u.dev.eng e).pc = (s.lawEng e).pc + 1 ∧ (u.dev.eng e).target = (s.lawEng e).target)) ∧
  (∀ s e, Issues s e (.ctl .nop) → (s.lawEng e).slots = 1 → (s.lawEng e).sr.getLsbD 7 = false → Does (.lawNop e none) [.law] s (fun u =>
    (u.dev.eng e).slots = 0 ∧ (u.dev.eng e).pc = ((s.lawEng e).target).getD ((s.lawEng e).pc + 1) ∧ (u.dev.eng e).target = none)) ∧
  (∀ s e, Issues s e (.ctl .nop) → (s.lawEng e).slots = 0 → (s.lawEng e).sr.getLsbD 7 = true → (s.lawEng e).pc = (s.lawEng e).le → 1 < (s.lawEng e).lc →
    Does (.lawNop e none) [.law] s (fun u => (u.dev.eng e).pc = (s.lawEng e).ls ∧ (u.dev.eng e).lc = (s.lawEng e).lc - 1 ∧ (u.dev.eng e).sr = (s.lawEng e).sr)) ∧
  (∀ s e, Issues s e (.ctl .nop) → (s.lawEng e).slots = 0 → (s.lawEng e).sr.getLsbD 7 = true → (s.lawEng e).pc = (s.lawEng e).le → (s.lawEng e).lc ≤ 1 →
    Does (.lawNop e none) [.law] s (fun u => (u.dev.eng e).pc = (s.lawEng e).le + 1 ∧ (u.dev.eng e).lc = 0 ∧ (u.dev.eng e).sr.getLsbD 7 = false)) ∧
  (∀ s e k, Issues s e (.ctl (.rotn k)) → Does (.lawRotn e k) [.law] s (fun t => Issued s t e ∧
    (t.dev.eng e).rrb = ((s.lawEng e).rrb + 16 - k.toNat) % 16))

/-- SRSET, JEND, RTI, TRAP, BKPT and SYNC. SRSET lands its bits two bundles on. JEND whose condition holds ends the job: the engine is
idle and the job's frame bank goes to the collector; it waits while another bank drains. RTI restores SR and the PC and enables
interrupts. TRAP enters the handler with its number where interrupts are enabled and is an illegal bundle where they are not. BKPT
halts an engine under debug and is a NOP on any other. SYNC waits until every result has landed. An instruction whose condition fails
only advances. -/
def Obligations.ControlOps : Prop :=
  (∀ s e m v, Issues s e (.ctl (.srset m v)) → Does (.lawSrset e m v) [.law] s (fun t => Issued s t e ∧
    (s.lawEng e).lands 2 .sr ((m.toNat * 65536 + v.toNat : Nat) : Int) ∈ (t.dev.eng e).flight)) ∧
  (∀ s e c j, Issues s e (.ctl (.jend c)) → condHolds (s.lawEng e).sr c = true → (s.lawEng e).run = some j → j.test = none → j.library = false →
    (s.lawEng e).coll = none → Does (.lawJend e c) [.law] s (fun t => (t.dev.eng e).st = .idle ∧ (t.dev.eng e).run = none ∧ (t.dev.eng e).coll = some j ∧
      (t.dev.eng e).frameC = (s.lawEng e).frame ∧ (t.dev.eng e).frame = (s.lawEng e).frameC ∧ ∀ k, k ≠ e → t.dev.eng k = s.dev.eng k)) ∧
  (∀ s e c j k, Issues s e (.ctl (.jend c)) → condHolds (s.lawEng e).sr c = true → (s.lawEng e).run = some j → j.test = none → (s.lawEng e).coll = some k →
    Does (.lawJend e c) [.law] s (fun t => t.dev.eng e = s.lawEng e ∧ ∀ k, k ≠ e → t.dev.eng k = s.dev.eng k)) ∧
  (∀ s e c, Issues s e (.ctl (.jend c)) → condHolds (s.lawEng e).sr c = false → Does (.lawJend e c) [.law] s (fun t => Issued s t e)) ∧
  (∀ s e, Issues s e (.ctl .rti) → Does (.lawRti e) [.law] s (fun t => (t.dev.eng e).st = .job ∧ (t.dev.eng e).inHandler = false ∧
    (t.dev.eng e).sr = (s.lawEng e).esr ∧ (t.dev.eng e).pc = (s.lawEng e).epc ∧ (t.dev.eng e).ictl = (s.lawEng e).ictl ||| 1 ∧
    (t.dev.eng e).pd = (s.lawEng e).pd ∧ (t.dev.eng e).acc = (s.lawEng e).acc)) ∧
  (∀ s e c n v, Issues s e (.ctl (.trap c n)) → condHolds (s.lawEng e).sr c = true → (s.lawEng e).en 0 = true →
    v = ((s.lawEng e).ictl.extractLsb' 16 14).toNat → inWindow (s.lawEng e).protCode v = true → (s.lawEng e).sr.getLsbD 7 = false →
    Does (.lawTrap e c n) [.law] s (fun t => (t.dev.eng e).st = .handler ∧ (t.dev.eng e).ecause = 6 + 256 * n.toNat ∧
      (t.dev.eng e).epc = (s.lawEng e).pc + 1 ∧ (t.dev.eng e).esr = (s.lawEng e).sr ∧ (t.dev.eng e).pc = v ∧
      (t.dev.eng e).ictl = (s.lawEng e).ictl &&& 0xFFFFFFFE ∧ (t.dev.eng e).pd = (s.lawEng e).pd)) ∧
  (∀ s e c n j, Issues s e (.ctl (.trap c n)) → condHolds (s.lawEng e).sr c = true → (s.lawEng e).en 0 = false → (s.lawEng e).run = some j → j.test = none →
    Does (.lawTrap e c n) [.law, .sch] s (fun t => (t.dev.eng e).st = .idle ∧ (t.dev.eng e).run = none ∧ (t.dev.eng e).ecause = 1 ∧
      (t.dev.eng e).faultPc = (s.lawEng e).pc ∧ t.dev.sch.miss = s.dev.sch.miss + 1 ∧
      Raises s t 0x8800 e (le 2 j.law ++ le 2 1 ++ le 4 (s.lawEng e).pc ++ le 4 (s.lawEng e).faultAddr.toNat))) ∧
  (∀ s e c n, Issues s e (.ctl (.trap c n)) → condHolds (s.lawEng e).sr c = false → Does (.lawTrap e c n) [.law] s (fun t => Issued s t e)) ∧
  (∀ s e, Issues s e (.ctl .bkpt) → Does (.lawBkpt e) [.law] s (fun t => Issued s t e)) ∧
  (∀ s e, e < 8 → (s.dev.eng e).active = true → (s.lawEng e).flight = [] → (s.lawEng e).dbg = true → (s.lawEng e).haltReq = false →
    (s.lawEng e).atBreak = false → (s.lawEng e).irqDue = false → (s.lawEng e).slots = 0 → (s.lawEng e).sr.getLsbD 7 = false →
    inWindow (s.lawEng e).protCode (s.lawEng e).pc = true →
    Does (.lawBkpt e) [.law] s (fun t => (t.dev.eng e).st = .halted ∧ (t.dev.eng e).pc = (s.lawEng e).pc + 1)) ∧
  (∀ s e, Issues s e (.ctl .sync) → Does (.lawSync e) [.law] s (fun t => Issued s t e ∧ (t.dev.eng e).flight = [])) ∧
  (∀ s e x, e < 8 → x = s.lawEng e → x.active = true → x.dbg = false → x.irqDue = false → x.slots = 0 → inWindow x.protCode x.pc = true →
    (∀ l ∈ x.flight, l.due ≤ x.issued + 9) →
    Does (.lawSync e) [.law] s (fun t => (t.dev.eng e).flight = []))

/-- A faulting bundle aborts its job. A bundle that is illegal, a PC outside the code window and an access outside the data windows
each abort the engine's job with the cause of their table: the engine is idle, the fault address and bundle are recorded and counted,
the job is missed and EV_LAW_FAULT tells of it. The bundle has no other effect. -/
def Obligations.EngineFaults : Prop :=
  (∀ s e b i j, e < 8 → (s.dev.eng e).active = true → (s.lawEng e).dbg = false → (s.lawEng e).irqDue = false → (s.lawEng e).run = some j → j.test = none →
    inWindow (s.lawEng e).protCode (s.lawEng e).pc = true → bundleOk b = false ∨ (s.lawEng e).placed b = false →
    ((∃ r v, b = .ldi r v ∧ i = .lawLdi e r v) ∨ (∃ f sd, b = sd.bundle ⟨.add, f⟩ ∧ i = .lawAdd e f sd) ∨ (∃ c t, b = .ctl (.br c t) ∧ i = .lawBr e c t)) →
    Does i [.law, .sch] s (fun t => (t.dev.eng e).st = .idle ∧ (t.dev.eng e).run = none ∧ (t.dev.eng e).flight = [] ∧ (t.dev.eng e).ecause = 1 ∧
      (t.dev.eng e).faultPc = (s.lawEng e).pc ∧ (t.dev.eng e).faults = (s.lawEng e).faults + 1 ∧ (t.dev.eng e).x = (s.dev.eng e).x ∧
      t.dev.sch.miss = s.dev.sch.miss + 1 ∧ Raises s t 0x8800 e (le 2 j.law ++ le 2 1 ++ le 4 (s.lawEng e).pc ++ le 4 (s.lawEng e).faultAddr.toNat))) ∧
  (∀ s e j, e < 8 → (s.dev.eng e).active = true → (s.lawEng e).dbg = false → (s.lawEng e).irqDue = false → (s.lawEng e).run = some j → j.test = none →
    inWindow (s.lawEng e).protCode (s.lawEng e).pc = false →
    Does (.lawNop e none) [.law, .sch] s (fun t => (t.dev.eng e).st = .idle ∧ (t.dev.eng e).run = none ∧ (t.dev.eng e).ecause = 2 ∧
      (t.dev.eng e).faultPc = (s.lawEng e).pc ∧ (t.dev.eng e).faultAddr = BitVec.ofNat 32 (s.lawEng e).pc ∧ t.dev.sch.miss = s.dev.sch.miss + 1)) ∧
  (∀ s e c a j x, x = s.lawEng e → e < 8 → (s.dev.eng e).active = true → x.dbg = false → x.irqDue = false → x.run = some j → j.test = none → x.flight = [] →
    (x.lastRcp = none ∨ isRcp (.gen c (.st a)) = false) → inWindow x.protCode x.pc = true → bundleOk (.gen c (.st a)) = true →
    (s.dev.memAccess x a true).at_ = .fault →
    Does (.lawSt e c a) [.law, .sch] s (fun t => (t.dev.eng e).st = .idle ∧ (t.dev.eng e).run = none ∧ (t.dev.eng e).ecause = 3 ∧
      (t.dev.eng e).faultPc = x.pc ∧ (t.dev.eng e).faultAddr = BitVec.ofNat 32 (s.dev.memAccess x a true).addr ∧ t.dev.sch.miss = s.dev.sch.miss + 1 ∧
      KeepsWords s t e (fun _ => False)))

/-- A branch, JEND, RTI, TRAP or BKPT where it may not stand is an ILLEGAL fault. BR, BRI, CALL, LOOP, JEND, RTI, TRAP or BKPT in a
delay slot, and BR, BRI, CALL or LOOP at LE - 2 to LE while SR.LA is 1, each with every operand, is an ILLEGAL fault: it aborts the
engine's job with cause 1 at its PC, the fault is counted, the results in flight are lost, and no other engine changes. -/
def Obligations.BranchPlacement : Prop :=
  ∀ s e i x, x = s.lawEng e → e < 8 → (s.dev.eng e).active = true → (x.dbg && (x.haltReq || (x.atBreak && !x.resumed))) = false → x.irqDue = false →
    inWindow x.protCode x.pc = true →
    ((x.slots ≠ 0 ∧ ((∃ c, i = .lawJend e c) ∨ i = .lawRti e ∨ (∃ c n, i = .lawTrap e c n) ∨ i = .lawBkpt e)) ∨
     ((x.slots ≠ 0 ∨ (x.sr.getLsbD 7 = true ∧ x.le ≤ x.pc + 2 ∧ x.pc ≤ x.le)) ∧
        ((∃ c t, i = .lawBr e c t) ∨ (∃ c p, i = .lawBri e c p) ∨ (∃ c t, i = .lawCall e c t) ∨ (∃ n a z, i = .lawLoop e n a z)))) →
    Completes i s (fun t => (t.dev.eng e).st = .idle ∧ (t.dev.eng e).run = none ∧ (t.dev.eng e).flight = [] ∧ (t.dev.eng e).ecause = 1 ∧
      (t.dev.eng e).faultPc = x.pc ∧ (t.dev.eng e).faults = x.faults + 1 ∧ ∀ k, k ≠ e → t.dev.eng k = s.dev.eng k)

/-- An X move reaches X memory alone, and a Y move Y memory. A bundle with an X move whose address lies outside X memory, or a Y move
whose address lies outside Y memory, load or store, whatever the other slots hold, is a DMEM fault: it aborts the engine's job with
cause 3 at its PC, and no word of memory changes. An aligned address inside the memory of the move and inside the job's window reaches
its word of that memory. -/
def Obligations.MoveWindows : Prop :=
  (∀ s e c y mv other rot b i x, x = s.lawEng e → e < 8 → (s.dev.eng e).active = true →
    (x.dbg && (x.haltReq || (x.atBreak && !x.resumed))) = false → x.irqDue = false → x.flight = [] → (x.lastRcp = none ∨ isRcp b = false) →
    inWindow x.protCode x.pc = true → bundleOk b = true → b = (if y then Bundle.par c other (some mv) rot else .par c (some mv) other rot) →
    i = (if mv.store then Instr.moveStore e c y mv other rot else .moveLoad e c y mv other rot) →
    (y = false → 0x10000 ≤ (s.dev.moveAccess x y mv).addr) →
    (y = true → ((s.dev.moveAccess x y mv).addr < 0x10000 ∨ 0x20000 ≤ (s.dev.moveAccess x y mv).addr)) →
    Completes i s (fun t => (t.dev.eng e).st = .idle ∧ (t.dev.eng e).run = none ∧ (t.dev.eng e).ecause = 3 ∧ (t.dev.eng e).faultPc = x.pc ∧
      (t.dev.eng e).faults = x.faults + 1 ∧ KeepsWords s t e (fun _ => False))) ∧
  (∀ (d : Dev) (x : LawEng) mv, (d.moveAccess x false mv).addr < 0x10000 → (d.moveAccess x false mv).addr % 4 = 0 →
    inWindow x.protX ((d.moveAccess x false mv).addr / 4) = true → (d.moveAccess x false mv).at_ = .x ((d.moveAccess x false mv).addr / 4)) ∧
  (∀ (d : Dev) (x : LawEng) mv, 0x10000 ≤ (d.moveAccess x true mv).addr → (d.moveAccess x true mv).addr < 0x20000 →
    (d.moveAccess x true mv).addr % 4 = 0 → inWindow x.protY ((d.moveAccess x true mv).addr / 4 - 0x4000) = true →
    (d.moveAccess x true mv).at_ = .y ((d.moveAccess x true mv).addr / 4 - 0x4000))

/-- Decisions, dispatch and collection of law jobs. With four engines or fewer enabled a decision gives the engine's free slot the
oldest job of the highest priority, under affinity the oldest of the highest priority among the jobs bound to the engine when none has
waited too long; the job leaves the queue, its descriptor stands in the slot's frame with the gain words zero, and the trace takes the
decision. A decision of an engine whose slot is taken, or with no job, does nothing. Dispatch starts the slot's job with its registers
at their job-start values. Collection makes the gains results of their paths and binds the object to the engine. A job whose age
reaches AFF_WAIT is marked. -/
def Obligations.Scheduling : Prop :=
  (∀ s e c j l1 l2, e < 8 → (s.dev.eng e).enabled = true → (s.dev.eng e).disabling = false → (s.dev.eng e).slot = none → s.dev.affinity = false →
    s.dev.sch.queue = l1 ++ j :: l2 → (∀ k ∈ l1, k.prio < j.prio) → (∀ k ∈ l2, k.prio ≤ j.prio) → (∀ k ∈ l1 ++ l2, k.order ≠ j.order) →
    Does (.schedulerDecision e c) [.law, .sch] s (fun t => (t.dev.eng e).slot = some j ∧ t.dev.sch.queue = l1 ++ l2 ∧
      (∀ i, i < 16 → tget 0 (t.dev.eng e).frameS i = BitVec.ofNat 32 (u32 j.desc (4 * i))) ∧
      (∀ i, 16 ≤ i → i < 528 → tget 0 (t.dev.eng e).frameS i = 0) ∧ (∀ k, k ≠ e → t.dev.eng k = s.dev.eng k) ∧
      (s.dev.sch.traceMode = 1 → s.dev.sch.traceStop = false → tget {} t.dev.sch.trace s.dev.sch.traceWr =
        { tickLo := s.dev.tim.tick % 2 ^ 32, cycle := c, obj := j.obj, layout := j.lead, engPri := e + 8 * j.prio, kind := 0, reason := 0
          qdepth := (l1 ++ l2).length }))) ∧
  (∀ s e c j l1 l2, e < 8 → (s.dev.eng e).enabled = true → (s.dev.eng e).disabling = false → (s.dev.eng e).slot = none → s.dev.affinity = true →
    s.dev.sch.affWait ≠ 0 → (∀ k ∈ s.dev.sch.queue, k.waited = false) → s.dev.sch.queue = l1 ++ j :: l2 → s.dev.affOf j = some e →
    (∀ k ∈ l1, s.dev.affOf k = some e → k.prio < j.prio) → (∀ k ∈ l2, s.dev.affOf k = some e → k.prio ≤ j.prio) →
    (∀ k ∈ l1 ++ l2, k.order ≠ j.order) →
    Does (.schedulerDecision e c) [.law, .sch] s (fun t => (t.dev.eng e).slot = some j ∧ t.dev.sch.queue = l1 ++ l2 ∧
      t.dev.sch.affine = s.dev.sch.affine + 1)) ∧
  (∀ s e c, e < 8 → ((s.dev.eng e).slot ≠ none ∨ (s.dev.eng e).enabled = false ∨ s.dev.sch.queue = []) → Does (.schedulerDecision e c) [] s (fun _ => True)) ∧
  (∀ s o c, (∃ j ∈ s.dev.sch.queue, j.order = o) → (∀ e, e < 8 → (s.dev.eng e).slot ≠ none ∨ (s.dev.eng e).enabled = false) →
    Does (.affWaitReached o c) [.sch] s (fun t =>
      t.dev.sch.queue = s.dev.sch.queue.map (fun j => if j.order = o then { j with waited := true } else j))) ∧
  (∀ s e j, e < 8 → (s.dev.eng e).slot = some j → (s.dev.eng e).st = .idle → (s.dev.eng e).enabled = true → Does (.jobDispatch e) [.law] s (fun t =>
    (t.dev.eng e).run = some j ∧ (t.dev.eng e).st = .job ∧ (t.dev.eng e).slot = none ∧ (t.dev.eng e).frame = (s.dev.eng e).frameS ∧
    (t.dev.eng e).pc = (s.dev.jobProg j.law).entry ∧ (t.dev.eng e).sr = 0x1F40 ∧ (t.dev.eng e).ictl = 0 ∧ (t.dev.eng e).cyc = 0 ∧
    (t.dev.eng e).flight = [] ∧ (∀ n, (t.dev.eng e).dw n = 0 ∧ (t.dev.eng e).accOf n = 0) ∧ (∀ k, k ≠ e → t.dev.eng k = s.dev.eng k))) ∧
  (∀ s e j, e < 8 → (s.dev.eng e).coll = some j → Does (.jobCollectionDone e) [.law, .sch] s (fun t => (t.dev.eng e).coll = none ∧
    t.dev.sch.done = s.dev.sch.done + 1 ∧ At none s.dev.sch.aff t.dev.sch.aff (affKey j.obj j.lead) (some e) ∧
    (∀ i o, i < j.nOut → (s.dev.ranks j.laymask)[i]? = some o →
      tget none t.dev.sch.result (512 * j.obj + o) = some (j.block, (tget 0 (s.dev.eng e).frameC (16 + i)).toInt))))

/-- Deadlines, test runs, loads and disables. At the law-job deadline every queued job for a block up to the next is missed, the
others stay; a test job that reaches MAX_CYC ends with cause 10 and its answer, with no strike; LAW_PROG_LOAD_DONE and
LAW_ENGINE_DISABLE_DONE end their operations; TRACE_CLEAR empties the trace. -/
def Obligations.JobEnds : Prop :=
  (∀ s, (∀ e, e < 8 → (s.dev.eng e).slot = none ∧ (s.dev.eng e).run = none ∧ (s.dev.eng e).coll = none) → (∀ j ∈ s.dev.sch.queue, j.test = none) →
    Does .lawJobDeadline [.sch] s (fun t => t.dev.sch.queue = s.dev.sch.queue.filter (fun j => decide (s.dev.tim.tick + 2 < j.block)) ∧
      t.dev.sch.miss = s.dev.sch.miss + BitVec.ofNat 32 (s.dev.sch.queue.filter (fun j => decide (j.block ≤ s.dev.tim.tick + 2))).length)) ∧
  (∀ s e j m, e < 8 → (s.dev.eng e).run = some j → j.test = some m → Does (.maxCycReached e) [.law] s (fun t => (t.dev.eng e).st = .idle ∧
    (t.dev.eng e).run = none ∧ (t.dev.eng e).ecause = 10 ∧ (t.dev.eng e).cyc = BitVec.ofNat 32 m ∧
    Ends s t 0x0831 e 0 (le 2 10 ++ zb 2 ++ le 4 (BitVec.ofNat 32 m).toNat ++ words ((rangeFrom 16 j.nOut).map (fun w => (tget 0 (s.dev.eng e).frame w).toNat))))) ∧
  (∀ s id, Does (.lawProgLoadDone id) [] s (fun t => Ends s t 0x0802 id 0 (zb 8))) ∧
  (∀ s e, e < 8 → (s.dev.eng e).disabling = true → (s.dev.eng e).run = none → (s.dev.eng e).coll = none → Does (.lawEngineDisableDone e) [.law] s (fun t =>
    At {} s.dev.law t.dev.law e { s.dev.eng e with runEn := false, disabling := false } ∧ Ends s t 0x0830 e 0 [])) ∧
  (∀ s, Does .traceClear [.sch] s (fun t => t.dev.sch = { s.dev.sch with trace := [], traceWr := 0, traceWrapped := false, traceStop := false }))

/-- Interrupts, budgets, doorbells and debug. A due interrupt saves the PC and SR, clears its pending bit and the interrupt enable and
starts the handler at the vector. A budget that expires and a doorbell make their causes pending where they are enabled. Under debug
HALT_REQ halts a running engine at once and an idle one before its next job, RESUME goes on in the job or handler, and STEP issues one
bundle and halts again; where debug does not act they do nothing. -/
def Obligations.EngineEvents : Prop :=
  (∀ s e c bit v, e < 8 → (s.dev.eng e).active = true → (s.lawEng e).irqDue = true → (s.lawEng e).dbg = false → (s.lawEng e).flight = [] →
    (s.lawEng e).pending = some (c, bit) → v = ((s.lawEng e).ictl.extractLsb' 16 14).toNat → inWindow (s.lawEng e).protCode v = true →
    Does (.interruptEntry e) [.law] s (fun t => (t.dev.eng e).st = .handler ∧ (t.dev.eng e).epc = (s.lawEng e).pc ∧
      (t.dev.eng e).esr = (s.lawEng e).sr ∧ (t.dev.eng e).sr = (s.lawEng e).sr &&& 0x3F7F ∧ (t.dev.eng e).pc = v ∧ (t.dev.eng e).ecause = c ∧
      (t.dev.eng e).ictl = (s.lawEng e).ictl &&& ~~~(BitVec.ofNat 32 (2 ^ bit)) &&& 0xFFFFFFFE ∧ (t.dev.eng e).pd = (s.lawEng e).pd)) ∧
  (∀ s e, e < 8 → (s.lawEng e).irqDue = false → Does (.interruptEntry e) [] s (fun t => t.dev.law = s.dev.law)) ∧
  (∀ s e, e < 8 → (s.dev.eng e).active = true → (s.dev.eng e).budget ≠ 0 → Does (.budgetExpiry e) [.law] s (fun t =>
    At {} s.dev.law t.dev.law e { s.dev.eng e with cyc := (s.dev.eng e).budget
                                                   ictl := if (s.dev.eng e).en 3 then (s.dev.eng e).ictl ||| 0x400 else (s.dev.eng e).ictl })) ∧
  (∀ s e, e < 8 → (s.dev.eng e).run ≠ none → (s.dev.eng e).en 4 = true → Does (.lawDoorbell e) [.law] s (fun t =>
    At {} s.dev.law t.dev.law e { s.dev.eng e with ictl := (s.dev.eng e).ictl ||| 0x800 })) ∧
  (∀ s e, e < 8 → (s.dev.eng e).en 4 = false → Does (.lawDoorbell e) [] s (fun _ => True)) ∧
  (∀ s e, e < 8 → (s.dev.eng e).dbg = true → (s.dev.eng e).active = true → (s.dev.eng e).flight = [] → Does (.lawHaltReq e) [.law] s (fun t =>
    (t.dev.eng e).st = .halted ∧ (t.dev.eng e).inHandler = ((s.dev.eng e).st == .handler) ∧ (t.dev.eng e).haltReq = false ∧
    (t.dev.eng e).pc = (s.dev.eng e).pc ∧ SameRegs (s.dev.eng e) (t.dev.eng e) ∧ ∀ k, k ≠ e → t.dev.eng k = s.dev.eng k)) ∧
  (∀ s e, e < 8 → (s.dev.eng e).dbg = true → (s.dev.eng e).st = .idle → Does (.lawHaltReq e) [.law] s (fun t =>
    At {} s.dev.law t.dev.law e { s.dev.eng e with haltReq := true })) ∧
  (∀ s e, e < 8 → (s.dev.eng e).dbg = true → (s.dev.eng e).st = .halted → Does (.lawResume e) [.law] s (fun t =>
    At {} s.dev.law t.dev.law e { s.dev.eng e with st := if (s.dev.eng e).inHandler then .handler else .job, resumed := true })) ∧
  (∀ s e, e < 8 → (s.dev.eng e).dbg = true → (s.dev.eng e).st = .halted → (s.dev.eng e).haltReq = false → (s.dev.eng e).flight = [] →
    (s.dev.eng e).irqDue = false → (s.dev.eng e).slots = 0 → (s.dev.eng e).sr.getLsbD 7 = false →
    inWindow (s.dev.eng e).protCode (s.dev.eng e).pc = true → 4096 ≤ (s.dev.eng e).pc →
    tget 0 (s.dev.eng e).prog (s.dev.eng e).pc = 0x8000000000000000 → Does (.lawStep e) [.law] s (fun t =>
      (t.dev.eng e).st = .halted ∧ (t.dev.eng e).pc = (s.dev.eng e).pc + 1 ∧ SameRegs (s.dev.eng e) (t.dev.eng e) ∧
      ∀ k, k ≠ e → t.dev.eng k = s.dev.eng k)) ∧
  (∀ s e, e < 8 → (s.dev.eng e).dbg = false → Does (.lawHaltReq e) [] s (fun _ => True) ∧ Does (.lawResume e) [] s (fun _ => True) ∧
    Does (.lawStep e) [] s (fun _ => True))

/-- The commands of bindings, programs, tables, engines and the scheduler. LAW_BIND binds a STOPPED layout that agrees with its group
and drops its affinity; LAW_PROG_LOAD of an image that passes every check stores its program and writes it into every engine that is
not RETIRED, its response awaiting LAW_PROG_LOAD_DONE, and refuses any other with the first check that fails; LAW_PROG_UNLOAD removes
it; LAW_TABLE_LOAD writes scratch words owned by the law engines; LAW_ENGINE_SET enables an engine, disables an idle one, and waits
for a busy one; LAW_TEST_RUN starts a job on a disabled engine. The reading commands answer with what the device holds. SCH_CONFIG
stores AFF_WAIT and TRACE_MODE, and clears the trace where it is told to; SCH_STATUS_GET answers with the counts and restarts the
deepest queue; SCH_TRACE_READ answers with trace entries. -/
def Obligations.LawCommands : Prop :=
  Sets .lawBind 0x0800 [.sch] (fun b s => b.length = 16 ∧ u8 b 0 ≤ 31 ∧ u8 b 1 ≤ 31 ∧ u8 b 2 ≤ 1 ∧ u8 b 3 = 0 ∧ u32 b 4 % 4 = 0 ∧ u32 b 8 % 4 = 0 ∧
      u32 b 12 = 0 ∧ (u8 b 1 = u8 b 0 ∨ s.dev.leadOf (u8 b 1) = u8 b 1) ∧
      (u8 b 1 = s.dev.leadOf (u8 b 0) ∨ ∀ j, j < 32 → j ≠ u8 b 0 → s.dev.leadOf j ≠ u8 b 0) ∧ (s.dev.unit 1 (u8 b 0)).st = .stopped ∧
      (∀ j, j < 32 → j ≠ u8 b 0 → s.dev.leadOf j = u8 b 1 → (s.dev.unit 1 j).st ≠ .stopped →
        (s.dev.layout j).law = (s.dev.layout (u8 b 0)).law ∧ (s.dev.layout j).period = (s.dev.layout (u8 b 0)).period ∧
        (s.dev.layout j).phase = (s.dev.layout (u8 b 0)).phase ∧ (s.dev.layout j).scale = (s.dev.layout (u8 b 0)).scale)) (fun _ _ => [])
    (fun b s t => At {} s.dev.sch.bind t.dev.sch.bind (u8 b 0)
        { lead := if u8 b 1 = u8 b 0 then none else some (u8 b 1), split := u8 b 2 == 1, param := u32 b 4, len := u32 b 8 } ∧
      ∀ k, tget none t.dev.sch.aff k = (if k % 32 = u8 b 0 then none else tget none s.dev.sch.aff k)) ∧
  Reads .lawBindGet 0x0801 (fun b _ => b.length = 4 ∧ u8 b 0 ≤ 31 ∧ uN 3 b 1 = 0) (fun b s => (s.dev.bind (u8 b 0)).bytes (u8 b 0)) ∧
  (∀ s r b, Plain s r b → s.dev.imageBad b = none → s.dev.lawBusy (u16 b 4) = false →
    Begins (.lawProgLoad r) 0x0802 r s (0x0802, u16 b 4) (fun t => At none s.dev.sch.prog t.dev.sch.prog (u16 b 4) (some (progOf b)) ∧
      (∀ e, e < 8 → (s.dev.eng e).st ≠ .retired → t.dev.eng e = (s.dev.eng e).loadImage b) ∧
      (∀ e, e < 8 → (s.dev.eng e).st = .retired → t.dev.eng e = s.dev.eng e) ∧ Frame [.law, .sch] s t)) ∧
  (∀ s r b c o st, Plain s r b → s.dev.imageBad b = some (c, o, st) → c ≠ 4 →
    Refuses (.lawProgLoad r) 0x0802 r s st (le 1 c ++ zb 3 ++ le 4 o) (Frame [] s)) ∧
  Sets .lawProgUnload 0x0803 [.sch] (fun b s => b.length = 4 ∧ u16 b 2 = 0 ∧ (s.dev.prog (u16 b 0)).isSome = true ∧
      ∀ l, l < 32 → (s.dev.unit 1 l).st ≠ .stopped → (s.dev.layout l).law ≠ u16 b 0) (fun _ _ => [])
    (fun b s t => At none s.dev.sch.prog t.dev.sch.prog (u16 b 0) none) ∧
  Reads .lawProgList 0x0804 (fun b _ => b = []) (fun _ s => (rangeFrom 0 64).flatMap (fun i => match s.dev.prog (0x100 + i) with
    | some g => le 2 (0x100 + i) ++ le 2 g.version ++ le 2 g.codeBase ++ le 2 g.codeLimit ++ le 4 g.crc.toNat ++ le 4 g.wcet.toNat
    | none => zb 16)) ∧
  Sets .lawTableLoad 0x0810 [.scb] (fun b s => b.length = 8 + u32 b 4 ∧ u32 b 0 % 4 = 0 ∧ 0 < u32 b 4 ∧ u32 b 4 % 4 = 0 ∧ s.dev.lawRegion (u32 b 0) (u32 b 4) = true ∧
      ∀ l, l < 32 → (s.dev.unit 1 l).st ≠ .stopped → ∀ u ∈ [s.dev.tableOf l, s.dev.tableOf (s.dev.leadOf l)],
        u.2 = 0 ∨ u32 b 0 + u32 b 4 ≤ u.1 ∨ u.1 + u.2 ≤ u32 b 0) (fun _ _ => [])
    (fun b s t => (∀ i, i < u32 b 4 / 4 → t.dev.scrWord ((u32 b 0 - 0x100000) / 4 + i) = BitVec.ofNat 32 (u32 b (8 + 4 * i))) ∧
      ∀ w, (w < (u32 b 0 - 0x100000) / 4 ∨ (u32 b 0 - 0x100000) / 4 + u32 b 4 / 4 ≤ w) → t.dev.scrWord w = s.dev.scrWord w) ∧
  (∀ s r b, Plain s r b → b.length = 4 → u8 b 0 ≤ 7 → u8 b 1 = 1 → u16 b 2 = 0 → (s.dev.eng (u8 b 0)).st ≠ .retired →
    Unawaited s (0x0830, u8 b 0) →
    Answers (.lawEngineSet r) 0x0830 r s [] (fun t =>
      At {} s.dev.law t.dev.law (u8 b 0) { s.dev.eng (u8 b 0) with runEn := true, disabling := false } ∧ Frame [.law] s t)) ∧
  (∀ s r b e, Plain s r b → b.length = 4 → e = u8 b 0 → e ≤ 7 → u8 b 1 = 0 → u16 b 2 = 0 → (s.dev.eng e).st ≠ .retired → (s.dev.eng e).runEn = true →
    (∃ k, k < 8 ∧ k ≠ e ∧ (s.dev.eng k).enabled = true ∧ (s.dev.eng k).disabling = false) → (s.dev.eng e).slot = none →
    ((s.dev.eng e).run = none → (s.dev.eng e).coll = none → Answers (.lawEngineSet r) 0x0830 r s [] (fun t =>
      At {} s.dev.law t.dev.law e { s.dev.eng e with slot := none, runEn := false, disabling := false } ∧ Frame [.law] s t)) ∧
    ((s.dev.eng e).run ≠ none → Begins (.lawEngineSet r) 0x0830 r s (0x0830, e) (fun t =>
      At {} s.dev.law t.dev.law e { s.dev.eng e with slot := none, disabling := true } ∧ Frame [.law] s t))) ∧
  (∀ s r b e j, Plain s r b → b.length = 72 → e = u8 b 0 → e ≤ 7 → uN 3 b 1 = 0 → j = jobOfDesc (b.drop 8) (u32 b 4) → 0 < j.nOut → j.nOut ≤ 512 →
    ((1 ≤ j.law ∧ j.law ≤ 6) ∨ (s.dev.prog j.law).isSome = true) → (s.dev.eng e).st = .idle → (s.dev.eng e).runEn = false →
    Begins (.lawTestRun r) 0x0831 r s (0x0831, e) (fun t => (t.dev.eng e).run = some j ∧ (t.dev.eng e).st = .job ∧
      (t.dev.eng e).pc = (s.dev.jobProg j.law).entry ∧ (∀ i, i < 16 → tget 0 (t.dev.eng e).frame i = BitVec.ofNat 32 (u32 b (8 + 4 * i))) ∧ Frame [.law] s t)) ∧
  (∀ s r b e v, Plain s r b → b.length = 12 → e = u8 b 0 → e ≤ 7 → u8 b 1 = 0 → u16 b 2 = 0 → u32 b 4 % 4 = 0 → (s.dev.eng e).reg (u32 b 4) = some v →
    (s.dev.eng e).st ≠ .retired → (s.dev.eng e).runEn = false → Answers (.lawDebug r) 0x0832 r s (le 4 v) (Frame [] s)) ∧
  (∀ s r b e, Plain s r b → b.length = 12 → e = u8 b 0 → e ≤ 7 → u8 b 1 = 1 → u16 b 2 = 0 → (∃ n, n < 32 ∧ u32 b 4 = 0x100 + 4 * n) →
    (s.dev.eng e).st = .halted → (s.dev.eng e).runEn = false → Answers (.lawDebug r) 0x0832 r s (le 4 (u32 b 8)) (fun t =>
      At 0 (s.dev.eng e).pd (t.dev.eng e).pd ((u32 b 4 - 0x100) / 4) (BitVec.ofNat 32 (u32 b 8)) ∧ Frame [.law] s t)) ∧
  (∀ s r b e, Plain s r b → b.length = 12 → e = u8 b 0 → e ≤ 7 → u8 b 1 = 4 → u16 b 2 = 0 → (s.dev.eng e).dbg = true → (s.dev.eng e).st = .halted →
    Answers (.lawDebug r) 0x0832 r s (le 4 0) (fun t =>
      At {} s.dev.law t.dev.law e { s.dev.eng e with st := if (s.dev.eng e).inHandler then .handler else .job, resumed := true } ∧ Frame [.law] s t)) ∧
  Reads .lawStatsGet 0x0833 (fun b _ => b.length = 4 ∧ u8 b 0 ≤ 7 ∧ uN 3 b 1 = 0) (fun b s => le 4 (s.dev.eng (u8 b 0)).st.code
    ++ le 8 (s.dev.eng (u8 b 0)).busy ++ words [(s.dev.eng (u8 b 0)).faults.toNat, (s.dev.eng (u8 b 0)).aovJobs.toNat,
      (s.dev.eng (u8 b 0)).eccCorr.toNat, (s.dev.eng (u8 b 0)).eccUncorr.toNat]) ∧
  Sets .schConfig 0x0820 [.sch] (fun b _ => b.length = 4 ∧ u8 b 2 ≤ 3 ∧ u8 b 3 = 0) (fun _ _ => [])
    (fun b s t => t.dev.sch = { s.dev.sch with affWait := u16 b 0, traceMode := u8 b 2 }) ∧
  Sets .schConfig 0x0820 [.sch] (fun b _ => b.length = 4 ∧ u8 b 2 ≤ 3 ∧ u8 b 3 = 1) (fun _ _ => [])
    (fun b s t => t.dev.sch = { s.dev.sch with affWait := u16 b 0, traceMode := u8 b 2, trace := [], traceWr := 0, traceWrapped := false, traceStop := false }) ∧
  Sets .schStatusGet 0x0821 [.sch] (fun b _ => b = []) (fun _ s => le 1 s.dev.nEn ++ le 1 (b01 (decide (5 ≤ s.dev.nEn))) ++ le 2 s.dev.sch.queue.length
      ++ le 2 s.dev.sch.qMax ++ zb 2 ++ words [s.dev.sch.issued.toNat, s.dev.sch.done.toNat, s.dev.sch.full.toNat, s.dev.sch.miss.toNat,
        s.dev.sch.affine.toNat, s.dev.sch.waited.toNat])
    (fun _ s t => t.dev.sch = { s.dev.sch with qMax := 0 }) ∧
  Reads .schTraceRead 0x0822 (fun b _ => b.length = 4 ∧ 0 < u16 b 2 ∧ u16 b 2 ≤ 2048) (fun b s => le 2 s.dev.sch.traceWr ++ le 2 (b01 s.dev.sch.traceWrapped)
    ++ (rangeFrom (u16 b 0) (u16 b 2)).flatMap (fun i => (tget {} s.dev.sch.trace (i % 2048)).bytes))

/-- Late lanes, memory errors, self-tests and takeovers. A working lane that passes its deadline is late: it is counted, MISSED sets
and the lane takes a strike; a lane that serves nothing passes it unharmed. The scrub counts a corrected word; an uncorrectable path
word silences its path for the block, is given a cold rotation, is counted and strikes the lane. A self-test passed fixes the takeover
block of the migration or attach it was made for, and one failed retires the lane. At its takeover a migration hands the logical lane
to the new lane and idles the old one. -/
def Obligations.LaneEvents : Prop :=
  (∀ s p, p < 68 → (s.dev.lane p).logical ≠ none → (s.dev.lane p).lateNow = false → (s.dev.unit 0 0).emits (s.dev.tim.tick + 1) = true → Strikable s p →
    Does (.rndDeadline p) [.rnd, .hlt] s (fun t => LaneIs s t p { s.dev.lane p with lateNow := true, late := (s.dev.lane p).late + 1 } ∧
      t.dev.rnd.missed = true ∧ Struck s t p)) ∧
  (∀ s p, p < 68 → ((s.dev.lane p).logical = none ∨ (s.dev.lane p).lateNow = true) → Does (.rndDeadline p) [] s (fun _ => True)) ∧
  (∀ s p path addr, p < 68 → addr < laneWords path → s.dev.rnd.scrub = true → (s.dev.lane p).st ≠ .retired → Does (.memoryScrub p path addr .single) [.rnd] s
    (fun t => LaneIs s t p { s.dev.lane p with eccCorr := (s.dev.lane p).eccCorr + 1 })) ∧
  (∀ s p path addr e, p < 68 → addr < laneWords path → (s.dev.rnd.scrub = false ∨ e = .none) → Does (.memoryScrub p path addr e) [] s (fun _ => True)) ∧
  (∀ s p addr l, p < 68 → addr < laneWords true → s.dev.rnd.scrub = true → (s.dev.lane p).st ≠ .retired → (s.dev.lane p).logical = some l →
    (∀ b ∈ (s.dev.lane p).bad, b.1 ≠ 1 ∨ b.2.1 ≠ addr) → Strikable s p →
    Does (.memoryScrub p true addr .double) [.rnd, .hlt] s (fun t => Struck s t p ∧ 8192 * l + addr / 8 ∈ t.dev.rnd.mute ∧ 8192 * l + addr / 8 ∈ t.dev.rnd.cold ∧
      LaneIs s t p { s.dev.lane p with eccUncorr := (s.dev.lane p).eccUncorr + 1, bad := (1, addr, s.dev.tim.now) :: (s.dev.lane p).bad })) ∧
  (∀ s p m, p < 68 → (s.dev.lane p).st = .testing → s.dev.rnd.attachAt = [] → s.dev.rnd.mig = some m → m.new = p → m.block = none → m.done = false →
    Does (.laneSelfTestDone p true) [.rnd] s (fun t => t.dev.rnd = { s.dev.rnd with
      mig := some { m with block := some (if s.dev.now16 ≤ boundT s.dev.rate s.dev.tim.tick then s.dev.tim.tick + 3 else s.dev.tim.tick + 4) } })) ∧
  (∀ s p l, p < 68 → (s.dev.lane p).st = .testing → s.dev.rnd.mig = none → s.dev.rnd.attachAt = [(p, l, none)] → (s.dev.lane p).pathBad = false → (s.dev.lane l).pathBad = false →
    Does (.laneSelfTestDone p true) [.rnd] s (fun t => t.dev.rnd = { s.dev.rnd with attachAt := [(p, l, some (s.dev.tim.tick + 2))] })) ∧
  (∀ s p, p < 68 → (s.dev.lane p).st = .testing → (s.dev.lane p).logical = none → s.dev.rnd.mig = none → s.dev.rnd.attachAt = [] → (s.dev.chan p).retired = false →
    Does (.laneSelfTestDone p false) [.rnd, .hlt, .store, .pair] s (fun t => (t.dev.lane p).st = .retired ∧ (t.dev.chan p).retired = true ∧ (t.dev.chan p).cause = 2 ∧
      Raises s t 0x8F00 9 (le 1 0 ++ le 1 2 ++ le 2 p ++ zb 4 ++ le 8 (s.dev.tim.tick + 2)))) ∧
  (∀ s p ok, p < 68 → (s.dev.lane p).st ≠ .testing → s.dev.rnd.attachAt = [] → Does (.laneSelfTestDone p ok) [] s (fun _ => True)) ∧
  (∀ s m, s.dev.rnd.attachAt = [] → s.dev.rnd.mig = some m → m.done = false → m.block = some (s.dev.tim.tick + 2) → m.old ≠ m.new → m.replan ≠ 1 →
    Does .laneTakeover [.rnd] s (fun t => (t.dev.lane m.old).st = .idle ∧ (t.dev.lane m.old).logical = none ∧ (t.dev.lane m.new).st = .working ∧
      (t.dev.lane m.new).logical = some m.logical ∧ t.dev.rnd.mig = some { m with done := true } ∧
      ∀ q, q ≠ m.old → q ≠ m.new → t.dev.lane q = s.dev.lane q)) ∧
  (∀ s, s.dev.rnd.attachAt = [] → s.dev.rnd.mig = none → Does .laneTakeover [] s (fun _ => True))

/-- The commands of the render fabric. RND_LANE_MAP_SET of a map that names each object once and only slots of the rate gives the map
it carries and clears the path entries of every slot whose object changes, with RENDER STOPPED; RND_MIGRATE tests the lowest free
reserve, or the home lane on the way back, and its response awaits the migration. The reading commands answer with map, lanes, path
entries, coefficients and counts. Every interpolator coefficient set sums to 1.0. -/
def Obligations.RenderCommands : Prop :=
  (∀ s r b (new : Nat → Nat), Plain s r b → (∀ i, new i = (if 16 * u8 b 0 ≤ i ∧ i < 16 * (u8 b 0 + u8 b 1) then u16 b (4 + 2 * (i - 16 * u8 b 0)) else (s.dev.slotObj i).getD 0xFFFF)) →
    b.length = 4 + 32 * u8 b 1 → 0 < u8 b 1 → u8 b 0 + u8 b 1 ≤ 64 → u16 b 2 = 0 → (s.dev.unit 0 0).st = .stopped →
    (∀ i, i < 1024 → new i = 0xFFFF ∨ (new i < nObj s.dev.rate ∧ i % 16 < slotsPerLane s.dev.rate)) →
    (∀ i j, i < 1024 → j < 1024 → new i = new j → new i ≠ 0xFFFF → i = j) →
    Answers (.rndLaneMapSet r) 0x0900 r s [] (fun t => (∀ i, i < 1024 → t.dev.slotObj i = (if new i = 0xFFFF then none else some (new i))) ∧
      (∀ k, k < 524288 → tget ({} : PathE) t.dev.rnd.path k = (if new (k / 512) = (s.dev.slotObj (k / 512)).getD 0xFFFF then tget {} s.dev.rnd.path k else {})) ∧
      Frame [.rnd] s t)) ∧
  Reads .rndLaneMapGet 0x0901 (fun b _ => b.length = 4 ∧ 0 < u8 b 1 ∧ u8 b 0 + u8 b 1 ≤ 64 ∧ u16 b 2 = 0)
    (fun b s => (rangeFrom (16 * u8 b 0) (16 * u8 b 1)).flatMap (fun i => le 2 ((s.dev.slotObj i).getD 0xFFFF))) ∧
  Reads .rndLaneStatus 0x0902 (fun b _ => b = []) (fun _ s => (rangeFrom 0 68).flatMap (fun q =>
    le 1 (s.dev.lane q).st.code ++ le 1 ((s.dev.lane q).logical.getD 255)
    ++ le 1 (b01 (s.dev.lane q).ownDelay + 2 * b01 (s.dev.lane q).ownPath + 4 * b01 (s.dev.lane q).delayBad + 8 * b01 (s.dev.lane q).pathBad) ++ zb 1
    ++ le 2 (s.dev.lane q).clock ++ le 2 (if (s.dev.lane q).logical.isSome && s.dev.rendering then Config.laneLoadPct q s.dev.tim.tick else 0)
    ++ le 4 (s.dev.lane q).redo.toNat ++ le 4 (s.dev.lane q).late.toNat)) ∧
  (∀ s r b l q rest, Plain s r b → b.length = 4 → l = u8 b 0 → l ≤ 63 → u8 b 1 = 0 → u16 b 2 = 0 → s.dev.server l = some l → s.dev.rnd.mig = none →
    s.dev.freeReserves = q :: rest → Begins (.rndMigrate r) 0x0903 r s (0x0903, 0) (fun t => (t.dev.lane q).st = .testing ∧
      t.dev.rnd.mig = some { logical := l, new := q, old := l, replan := 0, block := none, done := false } ∧ Frame [.rnd] s t)) ∧
  (∀ s r b l q, Plain s r b → b.length = 4 → l = u8 b 0 → l ≤ 63 → u8 b 1 = 1 → u16 b 2 = 0 → s.dev.server l = some q → q ≠ l → s.dev.rnd.mig = none →
    (s.dev.lane l).logical = none → (s.dev.lane l).st ≠ .retired → Begins (.rndMigrate r) 0x0903 r s (0x0903, 0) (fun t => (t.dev.lane l).st = .testing ∧
      t.dev.rnd.mig = some { logical := l, new := l, old := q, replan := 0, block := none, done := false } ∧ Frame [.rnd] s t)) ∧
  (∀ s r b i m, Plain s r b → b.length = 8 → u16 b 0 < nObj s.dev.rate → 0 < u16 b 4 → u16 b 2 + u16 b 4 ≤ 512 → u16 b 6 = 0 → s.dev.slotOf (u16 b 0) = some i →
    s.dev.rnd.block = some m → s.dev.rnd.pathFree = none → Answers (.rndPathGet r) 0x0904 r s
      (le 8 m ++ (rangeFrom (u16 b 2) (u16 b 4)).flatMap (fun o => (tget ({} : PathE) s.dev.rnd.path (512 * i + o)).bytes)) (Frame [] s)) ∧
  Reads .rndPathGet 0x0904 (fun b s => b.length = 8 ∧ u16 b 0 < nObj s.dev.rate ∧ 0 < u16 b 4 ∧ u16 b 2 + u16 b 4 ≤ 512 ∧ u16 b 6 = 0 ∧ s.dev.rnd.block = none)
    (fun b _ => zb 8 ++ (rangeFrom (u16 b 2) (u16 b 4)).flatMap (fun _ => zb 32)) ∧
  Reads .rndCoefGet 0x0905 (fun b _ => b.length = 4 ∧ 0 < u16 b 2 ∧ u16 b 0 + u16 b 2 ≤ 1024)
    (fun b _ => (rangeFrom (u16 b 0) (u16 b 2)).flatMap (fun k => (coefSet k).flatMap (leI 4))) ∧
  (∀ p, sumI (coefSet p) = 2 ^ 30 ∧ (coefSet p).length = 24) ∧
  Reads .rndStatsGet 0x0906 (fun b _ => b = []) (fun _ s => words [s.dev.rnd.dclamp.toNat, s.dev.rnd.isat.toNat, s.dev.rnd.pathUncorr.toNat,
      s.dev.rnd.migrations.toNat, s.dev.rnd.migDeferred.toNat] ++ le 1 s.dev.freeReserves.length ++ zb 3 ++ le 2 s.dev.hlt.objectsShed ++ zb 6)

/-- Tier-2 deadlines, banks that become READY and verification. A tier-2 frame that misses its window is counted by 64 and recorded
for its output. A bank whose spectra are ready is READY with its warm block, and its commit completes with its taps; one that needs
tier 2 out of service becomes INCOMPLETE and its commit fails. A verification that ends puts tier 2 in service, and makes INCOMPLETE
each long bank that failed it. -/
def Obligations.CorrectionEvents : Prop :=
  (∀ s o f, o < 512 → s.dev.tim.tick + 2 = 64 * f → s.dev.cnv.t2In = true → (s.dev.cnvo o).t2Late ≠ some f →
    (∃ k, ((s.dev.cnvo o).bank k).live = true ∧ s.dev.needsT2 ((s.dev.cnvo o).bank k) = true) →
    Does (.cnvT2FrameDeadline o f) [.cnv] s (fun t => At {} s.dev.cnv.out t.dev.cnv.out o { s.dev.cnvo o with t2Late := some f } ∧
      tget 0 t.dev.cnv.ctr 0 = tget 0 s.dev.cnv.ctr 0 + 64)) ∧
  (∀ s o f, o < 512 → s.dev.tim.tick + 2 ≠ 64 * f → Does (.cnvT2FrameDeadline o f) [] s (fun _ => True)) ∧
  (∀ s o b k trunc w, o < 512 → b < 2 → k = (s.dev.cnvo o).bank (b == 1) → k.committing = some trunc → (s.dev.needsT2 k = true → s.dev.cnv.t2In = true) →
    w = (if s.dev.needsT2 k then max (8 * ((s.dev.tim.tick + 9) / 8 + 1)) (64 * ((s.dev.tim.tick + 65) / 64 + 1)) else 8 * ((s.dev.tim.tick + 9) / 8 + 1)) →
    Does (.bankReady o b) [.cnv] s (fun t => (t.dev.cnvo o).bank (b == 1) = { k with st := .ready, committing := none, warm := w } ∧
      (t.dev.cnvo o).bank (b != 1) = (s.dev.cnvo o).bank (b != 1) ∧ Ends s t 0x0A12 (2 * o + b) 0 (le 4 k.taps ++ le 4 trunc ++ le 8 w))) ∧
  (∀ s o b k trunc, o < 512 → b < 2 → k = (s.dev.cnvo o).bank (b == 1) → k.committing = some trunc → s.dev.needsT2 k = true → s.dev.cnv.t2In = false →
    Does (.bankReady o b) [.cnv] s (fun t => ((t.dev.cnvo o).bank (b == 1)).st = .incomplete ∧ ((t.dev.cnvo o).bank (b == 1)).t2Lost = true ∧
      Ends s t 0x0A12 (2 * o + b) 0x103 [])) ∧
  (∀ s o b, o < 512 → b < 2 → ((s.dev.cnvo o).bank (b == 1)).committing = none → Does (.bankReady o b) [] s (fun _ => True)) ∧
  (∀ s, s.dev.cnv.verifying = true → Does (.cnvVerifyDone []) [.cnv] s (fun t =>
    t.dev.cnv = { s.dev.cnv with verifying := false, t2In := true, t2Wait := true, t2From := none } ∧ Raises s t 0x8A00 0 (le 1 0 ++ zb 1 ++ le 2 t.dev.degCount))) ∧
  (∀ s o b, s.dev.cnv.verifying = true → o < 512 → b < 2 → ((s.dev.cnvo o).bank (b == 1)).st = .ready → 2048 < ((s.dev.cnvo o).bank (b == 1)).taps →
    Does (.cnvVerifyDone [(o, b)]) [.cnv] s (fun t => t.dev.cnv.t2In = true ∧ ((t.dev.cnvo o).bank (b == 1)).st = .incomplete ∧
      ((t.dev.cnvo o).bank (b == 1)).t2Lost = true ∧ (∀ o', o' ≠ o → t.dev.cnvo o' = s.dev.cnvo o'))) ∧
  (∀ s l, s.dev.cnv.verifying = false → Does (.cnvVerifyDone l) [] s (fun _ => True))

/-- The commands that upload and clear coefficients. CNV_CONFIG with CNV STOPPED sets tier 2's region, and its verification begins
where DRC serves; CNV_COEF_BEGIN makes a bank that is not busy LOADING, CNV_COEF_WRITE stores the next taps, CNV_COEF_COMMIT of a bank
with all its taps and the CRC announced begins the spectra, and with another CRC leaves it INCOMPLETE; CNV_COEF_CLEAR empties it;
CNV_PREEQ_SET stores a table. -/
def Obligations.CorrectionUploads : Prop :=
  Sets .cnvConfig 0x0A00 [.cnv] (fun b s => b.length = 8 ∧ u8 b 0 ≤ 1 ∧ u8 b 1 = 0 ∧ u32 b 4 = 0 ∧ s.dev.regionIn (u16 b 2) = true ∧ (s.dev.unit 2 0).st = .stopped ∧
      s.dev.cnv.t2In = false) (fun _ _ => [])
    (fun b s t => t.dev.cnv = (if s.dev.drc.cond = .inService ∧ (s.dev.unit 9 0).st = .running
      then { s.dev.cnv with t2En := u8 b 0 == 1, t2Base := u16 b 2, verifying := true }
      else { s.dev.cnv with t2En := u8 b 0 == 1, t2Base := u16 b 2, verifying := false, t2Bad := true })) ∧
  (∀ s r b k, Plain s r b → b.length = 16 → u16 b 0 < 512 → k = u8 b 2 → k ≤ 1 → (u8 b 3 ≤ 7 ∨ u8 b 3 = 255) → 0 < u32 b 4 → u32 b 4 ≤ tapsMax s.dev.rate →
    u32 b 12 = 0 → (s.dev.unit 2 0).st ≠ .retired → (s.dev.cnvo (u16 b 0)).busy s.dev.tim.tick (k == 1) = false → Unawaited s (0x0A12, 2 * u16 b 0 + k) →
    Answers (.cnvCoefBegin r) 0x0A10 r s [] (fun t =>
      (t.dev.cnvo (u16 b 0)).bank (k == 1) = { st := .loading, taps := u32 b 4, want := u32 b 4, crc := u32 b 8, preeq := u8 b 3 } ∧
      (t.dev.cnvo (u16 b 0)).bank (k != 1) = (s.dev.cnvo (u16 b 0)).bank (k != 1) ∧ (t.dev.cnvo (u16 b 0)).sel = (s.dev.cnvo (u16 b 0)).sel ∧
      (∀ o, o ≠ u16 b 0 → t.dev.cnvo o = s.dev.cnvo o) ∧ Frame [.cnv] s t)) ∧
  (∀ s r b k x, Plain s r b → b.length = 12 + 4 * u32 b 8 → u16 b 0 < 512 → k = u8 b 2 → k ≤ 1 → u8 b 3 = 0 → 0 < u32 b 8 → (s.dev.unit 2 0).st ≠ .retired →
    x = (s.dev.cnvo (u16 b 0)).bank (k == 1) → (s.dev.cnvo (u16 b 0)).busy s.dev.tim.tick (k == 1) = false → x.st = .loading → x.committing = none →
    u32 b 4 = x.next → u32 b 4 + u32 b 8 ≤ x.want → (u32 b 4 + u32 b 8 ≤ 2048 ∨ s.dev.cnv.t2In = true) →
    Answers (.cnvCoefWrite r) 0x0A11 r s [] (fun t =>
      (∀ i, i < u32 b 8 → tget 0 ((t.dev.cnvo (u16 b 0)).bank (k == 1)).h (u32 b 4 + i) = s32 b (12 + 4 * i)) ∧
      (∀ j, (j < u32 b 4 ∨ u32 b 4 + u32 b 8 ≤ j) → tget 0 ((t.dev.cnvo (u16 b 0)).bank (k == 1)).h j = tget 0 x.h j) ∧
      ((t.dev.cnvo (u16 b 0)).bank (k == 1)).next = u32 b 4 + u32 b 8 ∧ (∀ o, o ≠ u16 b 0 → t.dev.cnvo o = s.dev.cnvo o) ∧ Frame [.cnv] s t)) ∧
  (∀ s r b k x, Plain s r b → b.length = 4 → u16 b 0 < 512 → k = u8 b 2 → k ≤ 1 → u8 b 3 = 0 → (s.dev.unit 2 0).st ≠ .retired →
    x = (s.dev.cnvo (u16 b 0)).bank (k == 1) → (s.dev.cnvo (u16 b 0)).busy s.dev.tim.tick (k == 1) = false → x.st = .loading → x.committing = none →
    x.next = x.want → x.preeq = 255 → x.want ≤ tapsMax s.dev.rate → (x.want ≤ 2048 ∨ s.dev.cnv.t2In = true) →
    (x.tapCrc = x.crc → Begins (.cnvCoefCommit r) 0x0A12 r s (0x0A12, 2 * u16 b 0 + k) (fun t =>
      (t.dev.cnvo (u16 b 0)).bank (k == 1) = { x with taps := x.want, committing := some 0 } ∧ Frame [.cnv] s t)) ∧
    (x.tapCrc ≠ x.crc → Refuses (.cnvCoefCommit r) 0x0A12 r s 0x102 [] (fun t => ((t.dev.cnvo (u16 b 0)).bank (k == 1)).st = .incomplete ∧ Frame [.cnv] s t))) ∧
  (∀ s r b k, Plain s r b → b.length = 4 → u16 b 0 < 512 → k = u8 b 2 → k ≤ 1 → u8 b 3 = 0 → (s.dev.unit 2 0).st ≠ .retired →
    (s.dev.cnvo (u16 b 0)).busy s.dev.tim.tick (k == 1) = false → Unawaited s (0x0A12, 2 * u16 b 0 + k) →
    Answers (.cnvCoefClear r) 0x0A13 r s [] (fun t => (t.dev.cnvo (u16 b 0)).bank (k == 1) = {} ∧
      (t.dev.cnvo (u16 b 0)).bank (k != 1) = (s.dev.cnvo (u16 b 0)).bank (k != 1) ∧ (∀ o, o ≠ u16 b 0 → t.dev.cnvo o = s.dev.cnvo o) ∧ Frame [.cnv] s t)) ∧
  Sets .cnvPreeqSet 0x0A30 [.cnv] (fun b _ => b.length = 4 + 4 * u16 b 2 ∧ u8 b 0 ≤ 7 ∧ u8 b 1 = 0 ∧ 0 < u16 b 2 ∧ u16 b 2 ≤ 256) (fun _ _ => [])
    (fun b s t => At [2 ^ 30] s.dev.cnv.preeq t.dev.cnv.preeq (u8 b 0) ((rangeFrom 0 (u16 b 2)).map (fun i => s32 b (4 + 4 * i))))

/-- Bank switches and the reading commands of room correction. CNV_SWITCH to a bank that is READY and warm, or EMPTY, queues the
switch for block k + 2 on every output of its run that selects the other bank and does not fade; with CNV STOPPED it takes effect at
once; a target that is LOADING or INCOMPLETE refuses the run with E_INCOMPLETE and one not warm by then with E_BUSY; CANCEL drops what
is queued. The reading commands answer with states, counters and twiddles. -/
def Obligations.CorrectionSwitches : Prop :=
  (∀ s r b, Plain s r b → b.length = 8 → 0 < u16 b 2 → u16 b 0 + u16 b 2 ≤ 512 → u8 b 4 ≤ 1 → u8 b 5 = 0 → 0 < u16 b 6 → u16 b 6 ≤ 1024 → (s.dev.unit 2 0).st = .running →
    (∀ o, u16 b 0 ≤ o → o < u16 b 0 + u16 b 2 → (s.dev.cnvo o).sel ≠ u8 b 4 ∧ (s.dev.cnvo o).fade = none ∧
      (((s.dev.cnvo o).bank (u8 b 4 == 1)).st = .empty ∨
        (((s.dev.cnvo o).bank (u8 b 4 == 1)).st = .ready ∧ ((s.dev.cnvo o).bank (u8 b 4 == 1)).warm ≤ s.dev.tim.tick + 2))) →
    Answers (.cnvSwitch r) 0x0A20 r s (le 2 (u16 b 2) ++ zb 6) (fun t =>
      (∀ o, u16 b 0 ≤ o → o < u16 b 0 + u16 b 2 → t.dev.cnvo o = { s.dev.cnvo o with
        queued := some { bank := u8 b 4, block := s.dev.tim.tick + 2, fade := u16 b 6 } }) ∧
      (∀ o, (o < u16 b 0 ∨ u16 b 0 + u16 b 2 ≤ o) → t.dev.cnvo o = s.dev.cnvo o) ∧ Frame [.cnv] s t)) ∧
  (∀ s r b, Plain s r b → b.length = 8 → 0 < u16 b 2 → u16 b 0 + u16 b 2 ≤ 512 → u8 b 4 ≤ 1 → u8 b 5 = 0 → 0 < u16 b 6 → u16 b 6 ≤ 1024 → (s.dev.unit 2 0).st = .stopped →
    (∀ o, u16 b 0 ≤ o → o < u16 b 0 + u16 b 2 → (s.dev.cnvo o).sel ≠ u8 b 4 ∧
      (((s.dev.cnvo o).bank (u8 b 4 == 1)).st = .empty ∨ ((s.dev.cnvo o).bank (u8 b 4 == 1)).st = .ready)) →
    Answers (.cnvSwitch r) 0x0A20 r s (le 2 (u16 b 2) ++ zb 6) (fun t =>
      (∀ o, u16 b 0 ≤ o → o < u16 b 0 + u16 b 2 → t.dev.cnvo o = { s.dev.cnvo o with sel := u8 b 4, fade := none, queued := none }) ∧
      (∀ o, (o < u16 b 0 ∨ u16 b 0 + u16 b 2 ≤ o) → t.dev.cnvo o = s.dev.cnvo o) ∧ Frame [.cnv] s t)) ∧
  (∀ s r b x, Plain s r b → b.length = 8 → 0 < u16 b 2 → u16 b 0 + u16 b 2 ≤ 512 → u8 b 4 ≤ 1 → u8 b 5 = 0 → 0 < u16 b 6 → u16 b 6 ≤ 1024 → (s.dev.unit 2 0).st = .running →
    (s.dev.cnvo (u16 b 0)).sel ≠ u8 b 4 → (s.dev.cnvo (u16 b 0)).fade = none → x = (s.dev.cnvo (u16 b 0)).bank (u8 b 4 == 1) →
    ((x.st = .loading ∨ x.st = .incomplete) → Refuses (.cnvSwitch r) 0x0A20 r s 0x10C [] (Frame [] s)) ∧
    (x.st = .ready → s.dev.tim.tick + 2 < x.warm → Refuses (.cnvSwitch r) 0x0A20 r s 0x104 [] (Frame [] s))) ∧
  (∀ s r b, Plain s r b → b.length = 8 → 0 < u16 b 2 → u16 b 0 + u16 b 2 ≤ 512 → u8 b 4 ≤ 1 → u8 b 5 = 1 → 0 < u16 b 6 → u16 b 6 ≤ 1024 → (s.dev.unit 2 0).st ≠ .retired →
    Answers (.cnvSwitch r) 0x0A20 r s (zb 6 ++ le 2 ((rangeFrom (u16 b 0) (u16 b 2)).filter (fun o => (s.dev.cnvo o).queued.isSome)).length) (fun t =>
      (∀ o, u16 b 0 ≤ o → o < u16 b 0 + u16 b 2 → t.dev.cnvo o = { s.dev.cnvo o with queued := none }) ∧
      (∀ o, (o < u16 b 0 ∨ u16 b 0 + u16 b 2 ≤ o) → t.dev.cnvo o = s.dev.cnvo o) ∧ Frame [.cnv] s t)) ∧
  Reads .cnvStatusGet 0x0A01 (fun b _ => b = []) (fun _ s => words (s.dev.cnvStatus :: (rangeFrom 0 8).map (fun i => (tget 0 s.dev.cnv.ctr i).toNat)
    ++ [if (s.dev.unit 2 0).emits s.dev.tim.tick then Config.cnvLoad s.dev.tim.tick % 2 ^ 32 else 0])) ∧
  Reads .cnvOutStatus 0x0A21 (fun b _ => b.length = 4 ∧ 0 < u16 b 2 ∧ u16 b 0 + u16 b 2 ≤ 512) (fun b s => (rangeFrom (u16 b 0) (u16 b 2)).flatMap (fun o =>
    le 4 (s.dev.cnvOutState o) ++ le 2 (s.dev.cnvo o).a.taps ++ le 2 (s.dev.cnvo o).b.taps ++ le 8 (match (s.dev.cnvo o).queued with
      | some q => q.block
      | none => 0) ++ le 4 (s.dev.cnvo o).a.crc ++ le 4 (s.dev.cnvo o).b.crc)) ∧
  Reads .cnvTwiddleGet 0x0A31 (fun b _ => b.length = 4 ∧ 0 < u16 b 2 ∧ u16 b 0 + u16 b 2 ≤ 1024)
    (fun b _ => (rangeFrom (u16 b 0) (u16 b 2)).flatMap (fun m => leI 4 (twiddle m).1 ++ leI 4 (twiddle m).2)) ∧
  twiddle 0 = (2 ^ 30, 0) ∧ twiddle 512 = (0, 2 ^ 30)

/-- Requests, refreshes, freezes, starts, training, drift and switches of the DRAM controller. At a command slot a refresh that is due
goes first and closes its bank's row; else, in service, a lone request of the channel is served: a write's bytes stand in memory,
every other byte as it was, and its row stays open where IDLE_CLOSE lets it. A read whose burst has an uncorrectable error freezes the
controller: the record is kept, the queues are emptied, the condition is FROZEN and DRC takes a strike. REFRESH makes the next bank of
the rank due. The temperature poll sets the refresh rate, and a new HOT episode is reported and strikes. A start whose training passes
puts DRC RUNNING and IN_SERVICE with its set point trained; other memory stops it, and a failure retires it. A run that passes enters
IN_SERVICE and its command completes; one that fails, the fifth or less within 60 s, restores the last good set, counts, plans a retry
in 10 s and enters UNTRAINED; a retry begins a run. Drift beyond DRIFT_MAX begins a run, drift within it moves the targets of the
write delays, and each step moves one tap toward its target. A switch that is done enters service at a trained set point and trains at
another. A frozen controller resumes by itself. -/
def Obligations.DramEvents : Prop :=
  (∀ s c k a, c < 4 → (s.dev.unit 9 0).st = .running → s.dev.drc.due = [k] → k / 64 = c → a ≠ .parity → Does (.drcCommandSlot c a) [.drc] s (fun t =>
    t.dev.drc.due = [] ∧ At none s.dev.drc.open_ t.dev.drc.open_ k none ∧ t.dev.drc.queue = s.dev.drc.queue ∧ t.dev.drc.mem = s.dev.drc.mem)) ∧
  (∀ s c r, c < 4 → (s.dev.unit 9 0).st = .running → s.dev.drc.due = [] → s.dev.drc.cond = .inService → s.dev.drc.switch = none → s.dev.drcQ c = [r] → r.write = true →
    Does (.drcCommandSlot c .ok) [.drc] s (fun t => At [] s.dev.drc.queue t.dev.drc.queue c [] ∧
      (∀ a, t.dev.dramByte a = (if r.addr ≤ a ∧ a < r.addr + r.data.length then r.data.getD (a - r.addr) 0 else s.dev.dramByte a)) ∧
      tget none t.dev.drc.open_ (s.dev.drcKey r.addr) = (if s.dev.drc.idleClose = 0 then none else some (s.dev.drcRow r.addr)))) ∧
  (∀ s c r, c < 4 → (s.dev.unit 9 0).st = .running → s.dev.drc.due = [] → s.dev.drc.cond = .inService → s.dev.drc.switch = none → s.dev.drcQ c = [r] → r.write = false → r.src = 1 →
    Does (.drcCommandSlot c .ok) [.drc] s (fun t => At [] s.dev.drc.queue t.dev.drc.queue c [] ∧
      t.dev.hst.diagData = BitVec.ofNat 32 (u32 (s.dev.dramRead r.addr 4) 0) ∧ ∀ a, t.dev.dramByte a = s.dev.dramByte a)) ∧
  (∀ s c r syn dat chk, c < 4 → (s.dev.unit 9 0).st = .running → s.dev.drc.due = [] → s.dev.drc.cond = .inService → s.dev.drc.switch = none → s.dev.drc.run = none →
    s.dev.drcQ c = [r] → r.write = false → Strikable s 1171 →
    Does (.drcCommandSlot c (.uncorr syn dat chk)) [.drc, .cnv, .hlt] s (fun t => t.dev.drc.cond = .frozen ∧ t.dev.drc.queue = [] ∧ t.dev.drc.frozenBy = 1 ∧
      (∃ f, t.dev.drc.frz = some f ∧ f.cause = 1 ∧ f.addr = r.addr / 64 * 64 ∧ f.syndrome = syn ∧ f.data = dat ∧ f.check = chk ∧ f.tick = s.dev.tim.tick) ∧
      tget 0 t.dev.drc.ctr 1 = tget 0 s.dev.drc.ctr 1 + 1 ∧ Struck s t 1171 ∧ Raises s t 0x8D00 0 (le 1 4 ++ le 1 2 ++ zb 2))) ∧
  (∀ s c a, c < 4 → (s.dev.unit 9 0).st ≠ .running → Does (.drcCommandSlot c a) [] s (fun _ => True)) ∧
  (∀ s c k b, c < 4 → k < 2 → (s.dev.unit 9 0).st = .running → (k = 0 ∨ s.dev.drc.ranks2 = true) → b = tget 0 s.dev.drc.nextBank (2 * c + k) →
    Does (.refresh c k) [.drc] s (fun t => t.dev.drc.due = s.dev.drc.due ++ [64 * c + 16 * k + b] ∧
      At 0 s.dev.drc.nextBank t.dev.drc.nextBank (2 * c + k) ((b + 1) % 16))) ∧
  (∀ s c k, c < 4 → k < 2 → (s.dev.unit 9 0).st ≠ .running → Does (.refresh c k) [] s (fun _ => True)) ∧
  (∀ s n, n < 2 → (s.dev.unit 9 0).st = .running → Does (.temperaturePoll n) [.drc] s (fun t => t.dev.drc.temp = n ∧ t.dev.drc.ref2x = (n != 0) ∧
    t.dev.drc.hot = s.dev.drc.hot ∧ t.dev.drc.episode = false ∧
    tget 0 t.dev.drc.ctr 6 = (if s.dev.drc.ref2x then tget 0 s.dev.drc.ctr 6 + 16 else tget 0 s.dev.drc.ctr 6))) ∧
  (∀ s, (s.dev.unit 9 0).st = .running → s.dev.drc.episode = false → Strikable s 1171 → Does (.temperaturePoll 2) [.drc, .hlt] s (fun t =>
    t.dev.drc.hot = true ∧ t.dev.drc.ref2x = true ∧ t.dev.drc.episode = true ∧ Raises s t 0x8D04 0 (le 1 2 ++ zb 3) ∧ Struck s t 1171)) ∧
  (∀ s, (s.dev.unit 9 0).st = .starting → Does (.drcStartDone (.trained (.pass [] [] []))) [.units, .drc, .cnv, .store] s (fun t =>
    (t.dev.unit 9 0).st = .running ∧ t.dev.drc.cond = .inService ∧ t.dev.drc.run = none ∧ t.dev.drc.trnDone = true ∧
    t.dev.drc.trained = s.dev.drc.trained ||| 2 ^ s.dev.drc.sp ∧ t.dev.drc.fails = [] ∧ t.dev.drc.retries = [])) ∧
  (∀ s r n, (s.dev.unit 9 0).st = .starting → Does (.drcStartDone (.other r n)) [.units, .drc] s (fun t => (t.dev.unit 9 0).st = .stopped ∧
    Raises s t 0x8D05 0 (le 1 r ++ le 1 n ++ zb 2))) ∧
  (∀ s, (s.dev.unit 9 0).st = .starting → (s.dev.chan 1171).retired = false → Completes (.drcStartDone .failed) s (fun t =>
    (t.dev.unit 9 0).st = .retired ∧ t.dev.drc.cond = .off ∧ (t.dev.chan 1171).retired = true)) ∧
  (∀ s r, (s.dev.unit 9 0).st ≠ .starting → Does (.drcStartDone r) [] s (fun _ => True)) ∧
  (∀ s, (s.dev.unit 9 0).st = .stopping → Does .drcStopDone [.units, .drc] s (fun t => (t.dev.unit 9 0).st = .stopped ∧ t.dev.drc.queue = [] ∧ t.dev.drc.open_ = [] ∧
    t.dev.drc.due = [])) ∧
  (∀ s r k v, s.dev.drc.run = some r → (s.dev.unit 9 0).st = .running → k < 8192 → k % 4 = r.sp → v < 1024 → Does (.trainingRunDone (.pass [(k, v)] [] [])) [.drc, .cnv, .store] s (fun t =>
    t.dev.drc.cond = .inService ∧ t.dev.drc.run = none ∧ At 0 s.dev.drc.dly t.dev.drc.dly k v ∧ tget 0 t.dev.drc.good k = v ∧
    t.dev.drc.trained = s.dev.drc.trained ||| 2 ^ r.sp ∧ (r.op ≠ 0 → Ends s t r.op 0 0 (le 1 2 ++ zb 3)))) ∧
  (∀ s r p c k, s.dev.drc.run = some r → (s.dev.unit 9 0).st = .running → s.dev.drcFails.length < 5 → Does (.trainingRunDone (.fail p c k)) [.drc, .cnv] s (fun t =>
    t.dev.drc.cond = .untrained ∧ t.dev.drc.run = none ∧ t.dev.drc.fails = s.dev.drcFails ++ [s.dev.tim.now] ∧
    t.dev.drc.retries = s.dev.drc.retries ++ [s.dev.tim.now + 10 ^ 10 * 2 ^ 40] ∧ tget 0 t.dev.drc.ctr 3 = tget 0 s.dev.drc.ctr 3 + 1 ∧
    (r.op ≠ 0 → Ends s t r.op 0 0 (le 1 3 ++ zb 3)) ∧
    Raises s t 0x8D01 0 (le 1 r.sp ++ le 1 p ++ le 1 c ++ le 1 k ++ le 1 (s.dev.drcFails.length + 1) ++ zb 3))) ∧
  (∀ s r, s.dev.drc.run = none → Does (.trainingRunDone r) [] s (fun _ => True)) ∧
  (∀ s v, s.dev.drc.stepBusy = true → Does (.trainingStepDone v) [.drc] s (fun t =>
    t.dev.drc = { s.dev.drc with stepBusy := false, stepDone := true, trnResult := v % 2 ^ 19 })) ∧
  (∀ s i l, s.dev.drc.retries = i :: l → s.dev.drc.cond = .untrained → s.dev.drc.run = none → s.dev.drc.switch = none → (s.dev.unit 9 0).st = .running →
    Does .trainingRetry [.tim, .drc, .cnv] s (fun t => t.dev.tim = { s.dev.tim with now := max s.dev.tim.now i } ∧ t.dev.drc.cond = .training ∧ t.dev.drc.retries = l ∧
      t.dev.drc.run = some { sp := s.dev.drc.sp, phase := 0, channel := 0, rank := 0, op := 0 } ∧ tget 0 t.dev.drc.ctr 2 = tget 0 s.dev.drc.ctr 2 + 1)) ∧
  (∀ s, s.dev.drc.retries = [] → Does .trainingRetry [] s (fun _ => True)) ∧
  (∀ s c, c < 4 → s.dev.drc.cond = .training → Does (.trainHeldTimeout c) [.drc] s (fun t => At [] s.dev.drc.queue t.dev.drc.queue c ((s.dev.drcQ c).drop 1))) ∧
  (∀ s l, (s.dev.unit 9 0).st = .running → s.dev.drc.driftEn = true → s.dev.drc.cond = .inService → s.dev.drc.switch = none →
    (∃ x ∈ l, s.dev.drc.driftMax < (s.dev.driftOf x).natAbs) → Does (.driftMeasure l) [.drc, .cnv] s (fun t => t.dev.drc.cond = .training ∧
      t.dev.drc.run = some { sp := s.dev.drc.sp, phase := 0, channel := 0, rank := 0, op := 0 })) ∧
  (∀ s x y, (s.dev.unit 9 0).st = .running → s.dev.drc.driftEn = true → s.dev.drc.cond = .inService → s.dev.drc.switch = none → y < 2 →
    (s.dev.driftOf x).natAbs ≤ s.dev.drc.driftMax → Does (.driftMeasure [x]) [.drc] s (fun t => t.dev.drc.dly = s.dev.drc.dly ∧
      tget none t.dev.drc.target (dqSel s.dev.drc.sp (x.1 / 2 % 4) (x.1 % 2) y) =
        some (min 1023 (((tget 0 s.dev.drc.good (dqSel s.dev.drc.sp (x.1 / 2 % 4) (x.1 % 2) y) : Nat) : Int) + s.dev.driftOf x).toNat))) ∧
  (∀ s l, s.dev.drc.driftEn = false → Does (.driftMeasure l) [] s (fun _ => True)) ∧
  (∀ s k i, tget none s.dev.drc.target k = some i → tget 0 s.dev.drc.dly k ≠ i → Does (.driftTapStep k) [.drc] s (fun t =>
    At 0 s.dev.drc.dly t.dev.drc.dly k (if tget 0 s.dev.drc.dly k < i then tget 0 s.dev.drc.dly k + 1 else tget 0 s.dev.drc.dly k - 1) ∧
    tget 0 t.dev.drc.ctr 5 = tget 0 s.dev.drc.ctr 5 + 1)) ∧
  (∀ s k, tget none s.dev.drc.target k = none → Does (.driftTapStep k) [] s (fun _ => True)) ∧
  (∀ s p, s.dev.drc.switch = some p → s.dev.drc.trained / 2 ^ p % 2 = 1 → Does (.freqSwitchDone true) [.drc, .cnv] s (fun t => t.dev.drc.sp = p ∧ t.dev.drc.switch = none ∧
    t.dev.drc.cond = .inService ∧ t.dev.drc.retries = [] ∧ Ends s t 0x0D02 0 0 (le 1 2 ++ zb 3))) ∧
  (∀ s p, s.dev.drc.switch = some p → (s.dev.unit 9 0).st = .running → Does (.freqSwitchDone false) [.drc, .cnv] s (fun t => t.dev.drc.sp = p ∧ t.dev.drc.switch = none ∧
    t.dev.drc.cond = .training ∧ t.dev.drc.run = some { sp := p, phase := 0, channel := 0, rank := 0, op := 0x0D02 })) ∧
  (∀ s, (s.dev.unit 9 0).st = .running → s.dev.drc.cond = .frozen → s.dev.drc.hold ≠ 0 → s.dev.drc.frozenBy ≠ 2 → Does .freezeAutoResume [.drc, .cnv] s (fun t =>
    t.dev.drc.cond = .inService ∧ t.dev.drc.frozenBy = 0 ∧ t.dev.drc.frz = s.dev.drc.frz)) ∧
  (∀ s, (s.dev.unit 9 0).st = .running → s.dev.drc.cond = .frozen → s.dev.drc.hold ≠ 0 → s.dev.drc.frozenBy = 2 → Does .freezeAutoResume [.drc, .cnv] s (fun t =>
    t.dev.drc.cond = .training ∧ t.dev.drc.run = some { sp := s.dev.drc.sp, phase := 0, channel := 0, rank := 0, op := 0 })) ∧
  (∀ s (v : W32), v.getLsbD 0 = true → Does (.drcTrnGo v) [.drc] s (fun t => t.dev.drc.stepBusy = true ∧ t.dev.drc.trnCtrl = (v.extractLsb' 1 8).toNat ∧
    t.dev.drc.dly = s.dev.drc.dly)) ∧
  (∀ s (v : W32), Does (.drcDlyValWrite v) [.drc] s (fun t => At 0 s.dev.drc.dly t.dev.drc.dly s.dev.drc.dlySel (v.toNat % 1024)))

/-- The commands of the DRAM controller. DRC_CONFIG of a STOPPED controller stores its settings and its capacity; DRC_FREQ_SET and
DRC_TRAIN in service begin a switch and a run that their responses await, and are refused with E_BUSY while one is in progress;
DRC_RESUME of a frozen controller enters service or trains, and of another is refused with E_STATE; the reading commands answer with
status, freeze record and counts. -/
def Obligations.DramCommands : Prop :=
  Sets .drcConfig 0x0D00 [.drc] (fun b s => b.length = 16 ∧ 1 ≤ u8 b 0 ∧ u8 b 0 ≤ 2 ∧ u8 b 1 ≤ 4 ∧ u8 b 2 ≤ 3 ∧ u8 b 3 ≤ 1 ∧ 16 ≤ u16 b 4 ∧ 4 ≤ u8 b 7 ∧ u8 b 7 ≤ 31 ∧
      16 ≤ u16 b 8 ∧ u16 b 8 ≤ 1000 ∧ u32 b 12 = 0 ∧ (s.dev.unit 9 0).st = .stopped) (fun _ _ => [])
    (fun b s t => t.dev.drc = { s.dev.drc with
      ranks2 := u8 b 0 == 2, density := u8 b 1, sp := u8 b 2, spread := u8 b 3 == 1, ageMax := u16 b 4, idleClose := u8 b 6, driftMax := u8 b 7
      dqsosc := u16 b 8, hold := u16 b 10, capacity := usableMiB (u8 b 1) (u8 b 0 == 2) }) ∧
  Reads .drcStatusGet 0x0D01 (fun b _ => b = []) (fun _ s => words [s.dev.drcStatus, s.dev.drc.capacity] ++ le 2 s.dev.drcDepth ++ le 1 s.dev.drcFails.length
    ++ zb 1 ++ le 4 s.dev.retryMs) ∧
  (∀ s r b, Plain s r b → b.length = 4 → u8 b 0 ≤ 3 → uN 3 b 1 = 0 → (s.dev.unit 9 0).st ≠ .retired → s.dev.drc.run = none → s.dev.drc.switch = none →
    (s.dev.drc.cond = .inService ∨ s.dev.drc.cond = .untrained) → Begins (.drcFreqSet r) 0x0D02 r s (0x0D02, 0) (fun t =>
      t.dev.drc = { s.dev.drc with switch := some (u8 b 0) } ∧ Frame [.drc] s t)) ∧
  (∀ s r b, Plain s r b → b.length = 4 → u8 b 0 ≤ 3 → uN 3 b 1 = 0 → (s.dev.unit 9 0).st ≠ .retired → (s.dev.drc.run ≠ none ∨ s.dev.drc.switch ≠ none) →
    Refuses (.drcFreqSet r) 0x0D02 r s 0x104 [] (Frame [] s) ∧ Refuses (.drcTrain r) 0x0D03 r s 0x104 [] (Frame [] s)) ∧
  (∀ s r b, Plain s r b → b.length = 4 → (u8 b 0 ≤ 3 ∨ u8 b 0 = 255) → uN 3 b 1 = 0 → (s.dev.unit 9 0).st = .running → s.dev.drc.run = none → s.dev.drc.switch = none →
    s.dev.drc.cond = .inService → Begins (.drcTrain r) 0x0D03 r s (0x0D03, 0) (fun t => t.dev.drc.cond = .training ∧
      t.dev.drc.run = some { sp := if u8 b 0 = 255 then s.dev.drc.sp else u8 b 0, phase := 0, channel := 0, rank := 0, op := 0x0D03 } ∧ Frame [.drc, .cnv] s t)) ∧
  (∀ s r b, Plain s r b → b.length = 4 → u8 b 0 = 0 → uN 3 b 1 = 0 → (s.dev.unit 9 0).st ≠ .retired → s.dev.drc.cond = .frozen →
    Answers (.drcResume r) 0x0D04 r s (le 1 2 ++ zb 3) (fun t => t.dev.drc.cond = .inService ∧ t.dev.drc.frozenBy = 0 ∧ Frame [.drc, .cnv] s t)) ∧
  (∀ s r b, Plain s r b → b.length = 4 → u8 b 0 = 1 → uN 3 b 1 = 0 → (s.dev.unit 9 0).st = .running → s.dev.drc.cond = .frozen →
    Begins (.drcResume r) 0x0D04 r s (0x0D04, 0) (fun t => t.dev.drc.cond = .training ∧
      t.dev.drc.run = some { sp := s.dev.drc.sp, phase := 0, channel := 0, rank := 0, op := 0x0D04 } ∧ Frame [.drc, .cnv] s t)) ∧
  (∀ s r b, Plain s r b → b.length = 4 → u8 b 0 ≤ 1 → uN 3 b 1 = 0 → (s.dev.unit 9 0).st ≠ .retired → s.dev.drc.cond ≠ .frozen →
    Refuses (.drcResume r) 0x0D04 r s 0x103 [] (Frame [] s)) ∧
  Reads .drcFreezeGet 0x0D05 (fun b _ => b.length = 4 ∧ u32 b 0 = 0) (fun _ s => s.dev.freezeRec) ∧
  Sets .drcFreezeGet 0x0D05 [.drc] (fun b _ => b.length = 4 ∧ u32 b 0 = 1) (fun _ s => s.dev.freezeRec)
    (fun _ s t => t.dev.drc = { s.dev.drc with frz := none, overwritten := false }) ∧
  Reads .drcStatsGet 0x0D06 (fun b _ => b = []) (fun _ s => words ((rangeFrom 0 8).map (fun i => (tget 0 s.dev.drc.ctr i).toNat)) ++ le 8 s.dev.drc.lastCorr)

/-- Tick boundaries, the handover of an output block and the boundary of timed commands. While the time unit and the stages run,
TICK_BOUNDARY makes the tick in progress the next one, whatever else falls on it; in RESET, DOZE and HIBERNATE it does nothing. A
boundary that names a unit the device does not have is refused as a fault of the sender. OUT_BLOCK_HANDOVER hands block k + 1 over
once: while the stages run and no record is awaited it becomes the block last handed over, and a second one does nothing. At its
boundary a waiting timed OBJ_GAIN_SET is checked again and sets its object's gain; one whose payload no longer passes is dropped, and
EV_TIMED_DROPPED says why; with none due nothing happens. -/
def Obligations.Boundaries : Prop :=
  (∀ s i, (∀ x ∈ i.tdm, x.1 < 1280) → i.faults = [] → s.dev.ticking = true → Completes (.tickBoundary i) s (fun t =>
    t.dev.tim.tick = s.dev.tim.tick + 1 ∧ t.pending = s.pending)) ∧
  (∀ s i, (∀ x ∈ i.tdm, x.1 < 1280) → i.faults = [] → s.dev.ticking = false → Does (.tickBoundary i) [] s (fun _ => True)) ∧
  (∀ s i, (∃ x ∈ i.tdm, 1280 ≤ x.1) → exec (.tickBoundary i) s = .fault .noSuchUnit) ∧
  (∀ s, s.dev.ticking = true → s.dev.out.block ≠ some (s.dev.tim.tick + 1) → s.dev.pair.waitRec = none →
    Completes .outBlockHandover s (fun t => t.dev.out.block = some (s.dev.tim.tick + 1) ∧ t.dev.tim = s.dev.tim ∧ t.dev.law = s.dev.law ∧ t.dev.sch = s.dev.sch)) ∧
  (∀ s, (s.dev.ticking = false ∨ s.dev.out.block = some (s.dev.tim.tick + 1) ∨ s.dev.pair.waitRec ≠ none) → Does .outBlockHandover [] s (fun _ => True)) ∧
  (∀ s c, s.dev.hst.timed = [c] → c.op = 0x0711 → c.block ≤ s.dev.tim.tick + 3 → c.payload.length = 8 → u16 c.payload 0 < nObj s.dev.rate → u16 c.payload 2 = 0 →
    (∀ b o, tget none s.dev.hst.lastSet (4 * u16 c.payload 0) = some (b, o) → ¬ (b = c.block ∧ c.ord < o)) →
    Does .timedCommandBoundary [.tim, .trj] s (fun t => t.dev.hst.timed = [] ∧ t.dev.tim.tick = s.dev.tim.tick ∧
      At {} s.dev.trj.obj t.dev.trj.obj (u16 c.payload 0) { s.dev.obj (u16 c.payload 0) with gain := s32 c.payload 4 })) ∧
  (∀ s c, s.dev.hst.timed = [c] → c.op = 0x0711 → c.block ≤ s.dev.tim.tick + 3 → c.payload.length ≠ 8 →
    Does .timedCommandBoundary [.tim] s (fun t => t.dev.hst.timed = [] ∧ t.dev.tim.tick = s.dev.tim.tick ∧
      Raises s t 0x8110 0 (le 1 c.tag ++ le 1 3 ++ le 2 0x0711 ++ le 4 c.seq ++ le 8 c.block ++ le 2 0x101 ++ zb 6))) ∧
  (∀ s, (∀ c ∈ s.dev.hst.timed, s.dev.tim.tick + 1 + leadOf c.op < c.block) → Does .timedCommandBoundary [] s (fun _ => True))

/-- The doorbell takes the entry of the command ring, ring commits and HEAD writes keep their rules, and responses and events reach
their rings. A doorbell over a ring that holds one ECHO takes it: HEAD meets TAIL, CMD_SPACE sets and the echo is answered. A doorbell
or a HEAD write that is out of rule changes no ring and sets RING_ERR. A ring commit enables the ring empty at the BASE written,
disables it for SIZE 0, and is refused with RING_ERR when it is out of rule. RESPONSE_WRITE and EVENT_WRITE move the oldest response
or event into its ring, byte for byte at TAIL, advance TAIL past it, change no other byte of mailbox SRAM and set RSP or EVT. Before
READY, with nothing to write or with no room nothing happens. -/
def Obligations.HostRings : Prop :=
  (∀ s v r b, Plain s r b → b.length ≤ 256 → s.dev.hst.resetDue = none → s.dev.pwr.entryDue = none → s.dev.hst.halted = false →
    16 ≤ s.dev.hst.cmd.size → v.toNat % 2 ^ 18 % 8 = 0 → v.toNat % 2 ^ 18 < s.dev.hst.cmd.size →
    entryOf (Memory.ringRead s.mbox s.dev.hst.cmd.base s.dev.hst.cmd.size s.dev.hst.cmd.head 16)
      (Memory.ringRead s.mbox s.dev.hst.cmd.base s.dev.hst.cmd.size (s.dev.hst.cmd.head + 16)
        (u32 (Memory.ringRead s.mbox s.dev.hst.cmd.base s.dev.hst.cmd.size s.dev.hst.cmd.head 16) 4)) = (0x0102, r) →
    (v.toNat % 2 ^ 18 + s.dev.hst.cmd.size - s.dev.hst.cmd.head) % s.dev.hst.cmd.size
      = (16 + u32 (Memory.ringRead s.mbox s.dev.hst.cmd.base s.dev.hst.cmd.size s.dev.hst.cmd.head 16) 4 + 7) / 8 * 8 →
    Completes (.doorbell v) s (fun t => t.dev.hst.rspQ = s.dev.hst.rspQ ++ [replyTo 0x0102 r 0 b] ∧ t.dev.hst.irq = s.dev.hst.irq ||| 4 ∧
      t.dev.hst.cmd = { s.dev.hst.cmd with head := v.toNat % 2 ^ 18, tail := v.toNat % 2 ^ 18 } ∧ Frame [.rings, .irq] s t)) ∧
  (∀ s v, s.dev.hostOn = true → s.dev.hst.cmd.size = 0 ∨ v.toNat % 2 ^ 18 % 8 ≠ 0 ∨ s.dev.hst.cmd.size ≤ v.toNat % 2 ^ 18 →
    Does (.doorbell v) [.irq] s (fun t => t.dev.hst.irq = s.dev.hst.irq ||| 16)) ∧
  (∀ s v, s.dev.boot.st ≠ .ready → Does (.doorbell v) [] s (fun _ => True)) ∧
  (∀ s v k, k < 3 → s.dev.hostOn = true → v.toNat % 2 ^ 19 = 0 →
    Does (.ringCommit k v) [.rings] s (fun t => t.dev.hring k = { s.dev.hring k with size := 0 } ∧ ∀ j, j < 3 → j ≠ k → t.dev.hring j = s.dev.hring j)) ∧
  (∀ s v k, k < 3 → s.dev.hostOn = true → (v.toNat % 2 ^ 19) ∈ [4096, 8192, 16384, 32768, 65536, 131072, 262144] →
    (s.dev.hring k).baseReg % 4096 = 0 → (s.dev.hring k).baseReg + v.toNat % 2 ^ 19 ≤ 0xF0000 →
    (∀ j, j < 3 → j ≠ k → (s.dev.hring j).size ≠ 0 →
      (s.dev.hring k).baseReg + v.toNat % 2 ^ 19 ≤ (s.dev.hring j).base ∨ (s.dev.hring j).base + (s.dev.hring j).size ≤ (s.dev.hring k).baseReg) →
    Does (.ringCommit k v) [.rings] s (fun t =>
      t.dev.hring k = { s.dev.hring k with base := (s.dev.hring k).baseReg, size := v.toNat % 2 ^ 19, head := 0, tail := 0 } ∧
      (k = 0 → t.dev.hst.halted = false) ∧ ∀ j, j < 3 → j ≠ k → t.dev.hring j = s.dev.hring j)) ∧
  (∀ s v k, k < 3 → s.dev.hostOn = true → v.toNat % 2 ^ 19 ≠ 0 →
    (v.toNat % 2 ^ 19) ∉ [4096, 8192, 16384, 32768, 65536, 131072, 262144] ∨ (s.dev.hring k).baseReg % 4096 ≠ 0 ∨
      0xF0000 < (s.dev.hring k).baseReg + v.toNat % 2 ^ 19 →
    Does (.ringCommit k v) [.rings, .irq] s (fun t => t.dev.hring k = { s.dev.hring k with size := 0 } ∧ t.dev.hst.irq = s.dev.hst.irq ||| 16 ∧
      ∀ j, j < 3 → j ≠ k → t.dev.hring j = s.dev.hring j)) ∧
  (∀ s v k, k = 1 ∨ k = 2 → s.dev.hostOn = true → (s.dev.hring k).size ≠ 0 → v.toNat % 2 ^ 18 % 8 = 0 → v.toNat % 2 ^ 18 < (s.dev.hring k).size →
    (v.toNat % 2 ^ 18 + (s.dev.hring k).size - (s.dev.hring k).head) % (s.dev.hring k).size ≤ (s.dev.hring k).used →
    Does (.ringHeadWrite k v) [.rings] s (fun t => t.dev.hring k = { s.dev.hring k with head := v.toNat % 2 ^ 18 } ∧
      ∀ j, j < 3 → j ≠ k → t.dev.hring j = s.dev.hring j)) ∧
  (∀ s v k, k = 1 ∨ k = 2 → s.dev.hostOn = true → (s.dev.hring k).size = 0 ∨ v.toNat % 2 ^ 18 % 8 ≠ 0 ∨ (s.dev.hring k).size ≤ v.toNat % 2 ^ 18 ∨
      (s.dev.hring k).used < (v.toNat % 2 ^ 18 + (s.dev.hring k).size - (s.dev.hring k).head) % (s.dev.hring k).size →
    Does (.ringHeadWrite k v) [.irq] s (fun t => t.dev.hst.irq = s.dev.hst.irq ||| 16)) ∧
  (∀ s r q, s.dev.hostOn = true → s.dev.hst.rspQ = r :: q → r.cont = none → r.payload.length ≤ s.dev.rspLimit → s.dev.hst.resetDue = none →
    s.dev.pwr.entryDue = none → s.dev.hst.holdoff = 0 → Memory.wf s.mbox = true → s.dev.hst.rsp.base + s.dev.hst.rsp.size ≤ 0xF0000 →
    s.dev.hst.rsp.room ((16 + r.payload.length + 7) / 8 * 8) = true →
    Does .responseWrite [.rings, .irq, .mbox] s (fun t => t.dev.hst.rspQ = q ∧ t.dev.hst.irq = s.dev.hst.irq ||| 1 ∧
      t.dev.hst.rsp = { s.dev.hst.rsp with tail := (s.dev.hst.rsp.tail + (16 + r.payload.length + 7) / 8 * 8) % s.dev.hst.rsp.size } ∧
      Memory.ringRead t.mbox s.dev.hst.rsp.base s.dev.hst.rsp.size s.dev.hst.rsp.tail ((16 + r.payload.length + 7) / 8 * 8)
        = le 2 r.op ++ le 1 r.tag ++ le 1 r.flags ++ le 2 r.status ++ zb 2 ++ le 4 (if r.payload = [] then r.len else r.payload.length) ++ le 4 r.seq
          ++ padTo 8 r.payload ∧
      ∀ a, (∀ i, i < (16 + r.payload.length + 7) / 8 * 8 → a ≠ s.dev.hst.rsp.base + (s.dev.hst.rsp.tail + i) % s.dev.hst.rsp.size) →
        Memory.get t.mbox a = Memory.get s.mbox a)) ∧
  (∀ s, s.dev.hostOn = false ∨ s.dev.hst.rspQ = [] ∨ s.dev.hst.rsp.size = 0 → Does .responseWrite [] s (fun t => t.dev.hst.rspQ = s.dev.hst.rspQ)) ∧
  (∀ s e q, s.dev.hostOn = true → s.dev.hst.evq = e :: q → e.code ≠ 0x8112 → s.dev.runs = [] → s.dev.hst.holdoff = 0 → Memory.wf s.mbox = true →
    s.dev.hst.evt.base + s.dev.hst.evt.size ≤ 0xF0000 → s.dev.hst.evt.room (evLen e) = true →
    Does .eventWrite [.rings, .irq, .mbox] s (fun t => t.dev.hst.evq = q ∧ t.dev.hst.irq = s.dev.hst.irq ||| 2 ∧
      t.dev.hst.evt = { s.dev.hst.evt with tail := (s.dev.hst.evt.tail + evLen e) % s.dev.hst.evt.size } ∧
      Memory.ringRead t.mbox s.dev.hst.evt.base s.dev.hst.evt.size s.dev.hst.evt.tail (evLen e)
        = le 2 e.code ++ le 1 e.inst ++ le 1 (e.code / 256 - 0x80) ++ le 4 e.payload.length ++ le 8 e.ns ++ le 2 e.frac ++ le 1 e.sev ++ zb 5
          ++ padTo 8 e.payload ∧
      ∀ a, (∀ i, i < evLen e → a ≠ s.dev.hst.evt.base + (s.dev.hst.evt.tail + i) % s.dev.hst.evt.size) → Memory.get t.mbox a = Memory.get s.mbox a)) ∧
  (∀ s, s.dev.hostOn = false ∨ s.dev.hst.evq = [] ∨ s.dev.hst.evt.size = 0 → Does .eventWrite [] s (fun _ => True))

/-- Interrupt status, the diagnostic window, latching and clearing reads, register writes, fetched payloads and result buffers.
IRQ_STATUS_WRITE clears the bits written as 1, and the end of HOLDOFF sets what waited for it. DIAG_ADDR_WRITE starts a fetch, whose
end holds the word of scratch memory, of mailbox SRAM or of a register, and DIAG_DATA_READ returns it and sets DIAG_ERR where the
fetch gave none. A read of HOST_STATUS clears DIAG_ERR, the two highest-depth registers clear on read, and a read of a LO register
latches its partners. REGISTER_WRITE stores the enables and HOLDOFF, Bus Master Enable, a scratch word of a bank the control processor
owns, and a word of mailbox SRAM below 0xF_0000. A fetched ECHO is answered as if it had been inline; a fetch that fails or takes too
long is refused with E_RANGE and EV_HOST_DMA_ERROR. A written result buffer leaves a response without inline bytes, and an expiry
releases what its tag retains. -/
def Obligations.HostRegisters : Prop :=
  (∀ s v, s.dev.hostOn = true → Does (.irqStatusWrite v) [.rings, .irq] s (fun t => t.dev.hst.irq = s.dev.hst.irq &&& ~~~(v.setWidth 6) ∧
    t.dev.hst.irqEn = s.dev.hst.irqEn ∧ t.dev.hst.rspHeld = (s.dev.hst.rspHeld && !v.getLsbD 0) ∧ t.dev.hst.evtHeld = (s.dev.hst.evtHeld && !v.getLsbD 1))) ∧
  (∀ s v, s.dev.hostOn = false → Does (.irqStatusWrite v) [] s (fun _ => True)) ∧
  (∀ s, s.dev.hst.evtHeld = true → Does (.irqHoldoffExpiry true) [.rings, .irq] s (fun t => t.dev.hst.irq = s.dev.hst.irq ||| 2 ∧ t.dev.hst.evtHeld = false)) ∧
  (∀ s, s.dev.hst.rspHeld = true → Does (.irqHoldoffExpiry false) [.rings, .irq] s (fun t => t.dev.hst.irq = s.dev.hst.irq ||| 1 ∧ t.dev.hst.rspHeld = false)) ∧
  (∀ s, s.dev.hst.evtHeld = false → Does (.irqHoldoffExpiry true) [] s (fun _ => True)) ∧
  (∀ s, s.dev.hst.rspHeld = false → Does (.irqHoldoffExpiry false) [] s (fun _ => True)) ∧
  (∀ s v, s.dev.hostOn = true → v.toNat < 0x80000000 → Does (.diagAddrWrite v) [] s (fun t =>
    t.dev.hst.diagAddr = v &&& 0xFFFFFFFD ∧ t.dev.hst.diagBusy = true)) ∧
  (∀ s, s.dev.hst.diagBusy = true → 0x20000000 ≤ s.dev.diagAt → s.dev.diagAt < 0x20400000 → Does .diagFetchDone [] s (fun t =>
    t.dev.hst.diagBusy = false ∧ t.dev.hst.diagBad = false ∧ t.dev.hst.diagData = s.dev.scrWord ((s.dev.diagAt - 0x20000000) / 4))) ∧
  (∀ s, s.dev.hst.diagBusy = true → 0x30000000 ≤ s.dev.diagAt → s.dev.diagAt < 0x30100000 → Does .diagFetchDone [] s (fun t =>
    t.dev.hst.diagBusy = false ∧ t.dev.hst.diagBad = false ∧
    t.dev.hst.diagData = BitVec.ofNat 32 (leNat (Memory.read s.mbox (s.dev.diagAt - 0x30000000) 4)))) ∧
  (∀ s, s.dev.hst.diagBusy = true → 0x40000000 ≤ s.dev.diagAt → s.dev.diagAt < 0x41000000 → isLatched s.dev.diagAt = false → Does .diagFetchDone [] s (fun t =>
    t.dev.hst.diagBusy = false ∧ t.dev.hst.diagBad = false ∧ t.dev.hst.diagData = BitVec.ofNat 32 (s.dev.blkReg s.dev.diagAt) ∧ t.dev.hst.latch = s.dev.hst.latch)) ∧
  (∀ s, s.dev.hst.diagBusy = true → s.dev.diagRegion s.dev.diagAt = none → Does .diagFetchDone [] s (fun t =>
    t.dev.hst.diagBusy = false ∧ t.dev.hst.diagBad = true ∧ t.dev.hst.diagData = 0xFFFFFFFF)) ∧
  (∀ s, s.dev.hostOn = true → s.dev.hst.diagBusy = false → s.dev.hst.diagAddr.getLsbD 0 = false → Does .diagDataRead [] s (fun t =>
    t.dev.hst.readData = s.dev.hst.diagData ∧ t.dev.hst.diagErr = (s.dev.hst.diagErr || s.dev.hst.diagBad) ∧ t.dev.hst.diagAddr = s.dev.hst.diagAddr)) ∧
  (∀ s, s.dev.hostOn = true → s.dev.hst.diagBusy = false → s.dev.hst.diagAddr.getLsbD 0 = true → Completes .diagDataRead s (fun t =>
    t.dev.hst.readData = s.dev.hst.diagData ∧ t.dev.hst.diagAddr = s.dev.hst.diagAddr + 4 ∧ t.dev.hst.diagBusy = true)) ∧
  (∀ s, Does (.rcRegisterRead 0x10) [] s (fun t => t.dev.hst.readData = BitVec.ofNat 32 s.dev.hostStatus ∧ t.dev.hst.diagErr = false)) ∧
  (∀ s, Does (.rcRegisterRead 0x40600008) [.sch] s (fun t => t.dev.hst.readData = BitVec.ofNat 32 s.dev.sch.qMax ∧ t.dev.sch.qMax = 0)) ∧
  (∀ s, Does (.rcRegisterRead 0x40C00024) [.drc] s (fun t => t.dev.hst.readData = BitVec.ofNat 32 (s.dev.blkReg 0x40C00024) ∧ t.dev.drc.qMax = 0)) ∧
  (∀ s a, latchedBy a ≠ [] → a ≠ 0x40F00018 → Does (.latchingRead a) [] s (fun t => t.dev.hst.readData = BitVec.ofNat 32 (s.dev.blkReg a) ∧
    ∀ h ∈ latchedBy a, tget 0 t.dev.hst.latch h = BitVec.ofNat 32 (s.dev.blkReg h))) ∧
  (∀ s v, s.dev.hostOn = true → Does (.registerWrite .host 0x18 v) [.irq] s (fun t => t.dev.hst.irqEn = v.setWidth 6 ∧
    t.dev.hst.holdoff = v.toNat / 65536 % 256 ∧ t.dev.hst.irq = s.dev.hst.irq)) ∧
  (∀ s a v, a % 4 ≠ 0 → Does (.registerWrite .host a v) [] s (fun _ => True) ∧ Does (.registerWrite .fw a v) [] s (fun _ => True)) ∧
  (∀ s v, s.dev.hst.hspi = false → Does (.registerWrite .config 0 v) [] s (fun t => t.dev.hst.busMaster = v.getLsbD 0)) ∧
  (∀ s a v, a % 4 = 0 → 0x20000000 ≤ a → a < 0x20400000 → (s.dev.bank ((a - 0x20000000) / 4 / 65536)).owner = .cp →
    Does (.registerWrite .fw a v) [.scb] s (fun t => t.dev.scrWord ((a - 0x20000000) / 4) = v ∧
      ∀ w, w ≠ (a - 0x20000000) / 4 → t.dev.scrWord w = s.dev.scrWord w)) ∧
  (∀ s a v, a % 4 = 0 → 0x20000000 ≤ a → a < 0x20400000 → (s.dev.bank ((a - 0x20000000) / 4 / 65536)).owner ≠ .cp →
    Does (.registerWrite .fw a v) [.scb] s (fun t => (∀ w, t.dev.scrWord w = s.dev.scrWord w) ∧
      (t.dev.bank ((a - 0x20000000) / 4 / 65536)).notOwner = true)) ∧
  (∀ s a v, s.dev.boot.st ≠ .reset → s.dev.validates = true → a + 4 ≤ 0xF0000 → Memory.wf s.mbox = true →
    Does (.registerWrite .mailbox a v) [.mbox] s (fun t => Memory.read t.mbox a 4 = le 4 v.toNat ∧
      ∀ k, (k < a ∨ a + 4 ≤ k) → Memory.get t.mbox k = Memory.get s.mbox k)) ∧
  (∀ s a v, s.dev.boot.st = .reset ∨ (s.dev.validates = true ∧ 0xF0000 ≤ a) → Does (.registerWrite .mailbox a v) [] s (fun _ => True)) ∧
  (∀ s r x, s.dev.hst.fetch = some (0x0102, r) → r.flags = 2 → s.dev.boot.st = .ready → s.dev.pwr.st = .active → s.dev.pair.st = .off →
    s.dev.pair.serving = false → s.dev.hst.hspi = false → s.dev.hst.busMaster = true → x.length = u32 r.inl 8 → x.length ≤ 256 →
    s.dev.hst.waitCmd = [] → s.dev.hst.resetDue = none → s.dev.pwr.entryDue = none →
    Does (.indirectFetchDone true x) [] s (fun t => t.dev.hst.fetch = none ∧ t.dev.hst.rspQ = s.dev.hst.rspQ ++ [replyTo 0x0102 r 0 x])) ∧
  (∀ s op r, s.dev.hst.fetch = some (op, r) → (cmdOf op).isSome = true → r.flags = 2 → s.dev.hst.waitCmd = [] → s.dev.hst.resetDue = none →
    s.dev.pwr.entryDue = none → ∀ i ∈ [Instr.indirectFetchDone false [], .fetchTimeout], Does i [] s (fun t => t.dev.hst.fetch = none ∧
      t.dev.hst.rspQ = s.dev.hst.rspQ ++ [replyTo op r 0x102 []] ∧
      Raises s t 0x8111 0 (le 1 r.tag.toNat ++ le 1 0 ++ le 2 op ++ le 4 r.seq.toNat ++ le 8 (u64 r.inl 0)))) ∧
  (∀ s, s.dev.hst.fetch = none → Does .fetchTimeout [] s (fun _ => True)) ∧
  (∀ s w q, s.dev.hst.rbWait = w :: q → s.dev.hst.hspi = false → s.dev.hst.busMaster = true → w.addr % 4 = 0 → w.r.cont = none → w.full.length ≤ w.cap →
    Does (.resultBufferWrite true) [] s (fun t => t.dev.hst.rbWait = q ∧
      t.dev.hst.rspQ = s.dev.hst.rspQ ++ [{ w.r with len := w.cap, payload := [] }])) ∧
  (∀ s n, n < 256 → Does (.retainedResponseExpiry n) [] s (fun t => t.dev.hst.retained = s.dev.hst.retained.filter (fun x => x.tag != n))) ∧
  (∀ s n, 256 ≤ n → exec (.retainedResponseExpiry n) s = .fault .noSuchUnit)

/-- How ACP commands are taken: repeats, busy tags, reserved flags, payloads to be fetched, a sleeping device and suppressed
responses. Before READY an ACP command does nothing. While the device sleeps or fetches a payload it waits its turn. A repeat of the
last command of its tag is answered from the tag table with REPEAT, and does nothing more; another SEQ under a tag in flight is
refused with E_BUSY. Reserved flags are refused with E_RANGE. An INDIRECT command of the right form starts a fetch. NOREPLY suppresses
the response of an accepted command, and its tag is free at once. Shown of ECHO, which answers what it carries. -/
def Obligations.CommandRules : Prop :=
  (∀ s r, s.dev.boot.st ≠ .ready → Does (.echo r) [] s (fun t => t.dev.hst.rspQ = s.dev.hst.rspQ ∧ t.dev.hst.waitCmd = s.dev.hst.waitCmd)) ∧
  (∀ s r, s.dev.boot.st = .ready → (s.dev.validates = false ∨ s.dev.hst.fetch ≠ none) →
    Does (.echo r) [] s (fun t => t.dev.hst.rspQ = s.dev.hst.rspQ ∧ t.dev.hst.waitCmd = s.dev.hst.waitCmd ++ [(0x0102, r)])) ∧
  (∀ s r, s.dev.boot.st = .ready → s.dev.validates = true → s.dev.hst.fetch = none → tget none s.dev.hst.inflight r.tag.toNat = none →
    (tget {} s.dev.hst.tags r.tag.toNat).used = true → (tget {} s.dev.hst.tags r.tag.toNat).seq = r.seq.toNat →
    (tget {} s.dev.hst.tags r.tag.toNat).op = 0x0102 → r.flags.getLsbD 2 = false →
    Does (.echo r) [] s (fun t => t.dev.hst.rspQ = s.dev.hst.rspQ ++ [{
      op := 0x0102, tag := r.tag.toNat, flags := (tget {} s.dev.hst.tags r.tag.toNat).flags ||| 4
      status := (tget {} s.dev.hst.tags r.tag.toNat).status, seq := r.seq.toNat, len := 0, payload := [] }])) ∧
  (∀ s r q, s.dev.boot.st = .ready → s.dev.validates = true → s.dev.hst.fetch = none → tget none s.dev.hst.inflight r.tag.toNat = some q →
    q ≠ r.seq.toNat → ¬ ((tget {} s.dev.hst.tags r.tag.toNat).used = true ∧ (tget {} s.dev.hst.tags r.tag.toNat).seq = r.seq.toNat) →
    r.isRb = false → Does (.echo r) [] s (fun t => t.dev.hst.rspQ = s.dev.hst.rspQ ++ [replyTo 0x0102 r 0x104 []])) ∧
  (∀ s r b, Plain s { r with flags := 0 } b → 16 ≤ r.flags.toNat → r.isTimed = false → r.isRb = false →
    r.isInd = false → Does (.echo r) [] s (fun t => t.dev.hst.rspQ = s.dev.hst.rspQ ++ [replyTo 0x0102 r 0x102 []])) ∧
  (∀ s r b, Plain s { r with flags := 0 } b → r.flags = 2 → b.length = 16 → u32 b 12 = 0 → 0 < u32 b 8 → u32 b 8 ≤ 16777216 → u64 b 0 % 4 = 0 →
    s.dev.hst.hspi = false → s.dev.hst.busMaster = true →
    Does (.echo r) [] s (fun t => t.dev.hst.rspQ = s.dev.hst.rspQ ∧ t.dev.hst.fetch = some (0x0102, r) ∧
      tget none t.dev.hst.inflight r.tag.toNat = some r.seq.toNat)) ∧
  (∀ s r b, Plain s { r with flags := 0 } b → r.flags = 4 → b.length ≤ 256 → Does (.echo r) [] s (fun t => t.dev.hst.rspQ = s.dev.hst.rspQ ∧
    tget none t.dev.hst.inflight r.tag.toNat = none ∧ (tget {} t.dev.hst.tags r.tag.toNat).seq = r.seq.toNat ∧
    (tget {} t.dev.hst.tags r.tag.toNat).op = 0x0102 ∧ (tget {} t.dev.hst.tags r.tag.toNat).status = 0))

/-- HOST_RESET acts only with its key: CHIP resets as RESET_N does, WARM performs a warm reset, and either kind empties the host
interface. On a device out of reset whose firmware answers its host interface, a write of HOST_RESET without the key 0x5EED is
ignored. With CHIP it leaves what RESET_N leaves, but for the cause and for the pin itself; with WARM and no CHIP it performs a warm
reset: where firmware runs, the state that the watchdog's warm reset leaves but for the cause. Either disables the three rings and
empties the tag table, the waiting timed commands, the retained responses and the held events. A write with neither bit changes
nothing. -/
def Obligations.HostReset : Prop :=
  ∀ s v, s.dev.validates = true → s.dev.boot.st ≠ .reset → ∀ i ∈ [Instr.hostResetChip v, .hostResetWarm v],
    (v.toNat / 65536 ≠ 0x5EED → Does i [] s (fun _ => True)) ∧
    (v.toNat / 65536 = 0x5EED → v.getLsbD 0 = false → v.getLsbD 1 = false → Does i [] s (fun _ => True)) ∧
    (v.toNat / 65536 = 0x5EED → v.getLsbD 1 = true → Completes i s (fun t => t.dev.pwr.cause = 2 ∧
      Completes .resetNAssert s (fun u => { t.dev with pwr := { t.dev.pwr with cause := 1, held := true } } = u.dev ∧ t.mbox = u.mbox))) ∧
    (v.toNat / 65536 = 0x5EED → v.getLsbD 1 = false → v.getLsbD 0 = true → Completes i s (fun t => t.dev.pwr.cause = 4 ∧
      (s.dev.boot.st = .init ∨ s.dev.boot.st = .ready →
        Completes .watchdogExpiry s (fun u => { t.dev with pwr := { t.dev.pwr with cause := 7 } } = u.dev ∧ t.mbox = u.mbox)))) ∧
    (v.toNat / 65536 = 0x5EED → v.getLsbD 0 = true ∨ v.getLsbD 1 = true → Completes i s (fun t =>
      t.dev.hst.cmd.size = 0 ∧ t.dev.hst.rsp.size = 0 ∧ t.dev.hst.evt.size = 0 ∧ t.dev.hst.tags = [] ∧ t.dev.hst.timed = [] ∧ t.dev.hst.retained = [] ∧
      t.dev.hst.evq = []))

/-- A standby receives the frames of a tick record in order, commits or rejects the record at its SEAL, and loads splice sections. A
frame that is not next in order, or that comes over a Lanyard that carries none, does nothing. OPEN begins a record; ITEM, ASRC,
PATCH, GUARD and WARM add to it and count in it; BULK keeps a payload ahead of its item and does not count. At SEAL a re-warming
standby commits the record that follows its last one and sends STATUS, its ITEM of an OBJ_GAIN_SET sets the gain and enters the tag
table; a STALE standby notes that it has seen one, a standby in BULK keeps it; a following standby whose record does not match rejects
it and enters STALE with EV_PAIR_STALE cause 2. A SPLICE section of the snapshot is held until all four have come, and a bulk section
is loaded at once. A standby in LAPSE that misses its second record in succession enters STALE at COMMIT_DEADLINE. -/
def Obligations.PairRecords : Prop :=
  (∀ s n k e b, Framed s n → s.dev.takesRec = true → k < 2 ^ 64 → e < 2 ^ 32 → b < 2 ^ 64 → Does (.recOpen n k e b) [.pair] s (fun t =>
    PairIs s t { s.dev.pair with rxSeq := some n, rcv := some {
      tick := k, epoch := e, base := b, items := [], asrc := [], patch := [], guard := none, warm := none, frames := 1, bytes := 24
      crc := crcGo 0xFFFFFFFF (le 8 k ++ le 4 e ++ zb 4 ++ le 8 b) } })) ∧
  (∀ s n k e b, n < 2 ^ 32 → k < 2 ^ 64 → e < 2 ^ 32 → b < 2 ^ 64 → s.dev.lanyardOk = false ∨ (∃ q, s.dev.pair.rxSeq = some q ∧ n ≠ (q + 1) % 2 ^ 32) →
    Does (.recOpen n k e b) [] s (fun _ => True)) ∧
  (∀ o k x, o < 2 ^ 32 → k < 2 → x.length ≤ 2040 → AddsTo (.recItem · o k x) (le 4 o ++ le 1 k ++ zb 3 ++ x)
    (fun r => { r with items := tput (0, []) r.items o (k, (tget (0, []) r.items o).2 ++ x) })) ∧
  (∀ l, l.length ≤ 128 → (∀ x ∈ l, x.1 < 4 ∧ x.2.1 < 16 ∧ x.2.2.2 < 2 ^ 64) → AddsTo (.recAsrc · l)
    (l.flatMap (fun (x : Nat × Nat × Int × Nat) => le 1 x.1 ++ le 1 x.2.1 ++ zb 2 ++ leI 4 x.2.2.1 ++ le 8 x.2.2.2)) (fun r => { r with asrc := r.asrc ++ l })) ∧
  (∀ k i f c x, 1 ≤ k → k ≤ 3 → i < 256 → f < 256 → 1 ≤ c → c < 256 → x.length ≤ 510 → x.length % c = 0 → AddsTo (.recPatch · k i f c x)
    (le 1 k ++ le 1 i ++ le 1 f ++ le 1 c ++ le 2 (x.length / c) ++ zb 2 ++ x.flatMap (leI 4)) (fun r => { r with patch := r.patch ++ [(k, i, f, c, x)] })) ∧
  (∀ b m l, b < 2 ^ 64 → m < 2 ^ 32 → l.length = 32 → (∀ c ∈ l, c < 2 ^ 32) → AddsTo (.recGuard · b m l) (le 8 b ++ le 4 m ++ zb 4 ++ words l)
    (fun r => { r with guard := some (b, m, l) })) ∧
  (∀ l, l.length = 32 → (∀ c ∈ l, c < 2 ^ 32) → AddsTo (.recWarm · l) (l.flatMap (fun x => le 4 x ++ zb 4)) (fun r => { r with warm := some l })) ∧
  (∀ s n h x, Framed s n → s.dev.takesRec = true → h < 2 ^ 32 → x.length ≤ 2040 → (tget [] s.dev.pair.bulk h).length < 2 ^ 32 →
    Does (.recBulk n h (tget [] s.dev.pair.bulk h).length x) [.pair] s (fun t =>
      PairIs s t { s.dev.pair with rxSeq := some n, bulk := tput [] s.dev.pair.bulk h (tget [] s.dev.pair.bulk h ++ x) })) ∧
  (∀ s n r, Framed s n → s.dev.pair.st = .rewarming → s.dev.pair.caughtUp = false → s.dev.pair.waitRec = none → s.dev.pair.rcv = some r →
    r.tick < 2 ^ 64 → r.epoch < 2 ^ 32 → r.frames < 2 ^ 32 → r.bytes < 2 ^ 32 → r.crc < 2 ^ 32 → r.items = [] → r.asrc = [] →
    r.epoch = s.dev.pair.epoch ∨ s.dev.pair.epochNew = true → r.base = s.dev.pair.lastCommit → s.dev.pair.warmTick ≠ some (r.tick + 1) →
    Does (.recSeal n r.tick r.epoch r.frames r.bytes (r.crc ^^^ 0xFFFFFFFF)) [.pair] s (fun t =>
      t.dev.pair.lastCommit = r.tick ∧ t.dev.pair.epoch = r.epoch ∧ t.dev.pair.epochNew = false ∧ t.dev.pair.missed = 0 ∧ t.dev.pair.rcv = none ∧
      t.dev.pair.st = .rewarming ∧ tget 0 t.dev.pair.ctr 1 = tget 0 s.dev.pair.ctr 1 + 1 ∧
      ∃ p, t.dev.pair.tx = s.dev.pair.tx ++ [{ fseq := s.dev.pair.txSeq, typ := 0x10, payload := le 8 r.tick ++ p, tries := 0 }])) ∧
  (∀ s n r w o g q u, Framed s n → s.dev.pair.st = .rewarming → s.dev.pair.caughtUp = false → s.dev.pair.waitRec = none → s.dev.pair.rcv = some r →
    r.tick < 2 ^ 64 → r.epoch < 2 ^ 32 → r.frames < 2 ^ 32 → r.bytes < 2 ^ 32 → r.crc < 2 ^ 32 → r.asrc = [] → o < nObj s.dev.rate → w < 256 → q < 2 ^ 32 →
    r.items = [(0, 0, le 2 0x0711 ++ le 1 w ++ zb 1 ++ le 4 8 ++ le 4 q ++ zb 4 ++ le 2 u ++ zb 6 ++ (le 2 o ++ zb 2 ++ leI 4 g))] → -(2 ^ 31) ≤ g → g < 2 ^ 31 →
    u < 2 ^ 16 → r.epoch = s.dev.pair.epoch ∨ s.dev.pair.epochNew = true → r.base = s.dev.pair.lastCommit → s.dev.pair.warmTick ≠ some (r.tick + 1) →
    Newest s (4 * o) (r.tick + 3) →
    Does (.recSeal n r.tick r.epoch r.frames r.bytes (r.crc ^^^ 0xFFFFFFFF)) [.pair, .trj] s (fun t => t.dev.pair.lastCommit = r.tick ∧
      At {} s.dev.trj.obj t.dev.trj.obj o { s.dev.obj o with gain := g, gainVal := g } ∧
      tget {} t.dev.hst.tags w = { used := true, seq := q, op := 0x0711, status := u, flags := 2 })) ∧
  (∀ s n r, Framed s n → s.dev.pair.st = .stale → s.dev.pair.rcv = some r →
    r.tick < 2 ^ 64 → r.epoch < 2 ^ 32 → r.frames < 2 ^ 32 → r.bytes < 2 ^ 32 → r.crc < 2 ^ 32 →
    Does (.recSeal n r.tick r.epoch r.frames r.bytes (r.crc ^^^ 0xFFFFFFFF)) [.pair] s (fun t =>
      PairIs s t { s.dev.pair with rxSeq := some n, rcv := none, bulk := [], sawRec := true })) ∧
  (∀ s n r, Framed s n → s.dev.pair.st = .bulk → s.dev.pair.rcv = some r → r.items = [] →
    r.tick < 2 ^ 64 → r.epoch < 2 ^ 32 → r.frames < 2 ^ 32 → r.bytes < 2 ^ 32 → r.crc < 2 ^ 32 →
    Does (.recSeal n r.tick r.epoch r.frames r.bytes (r.crc ^^^ 0xFFFFFFFF)) [.pair] s (fun t =>
      PairIs s t { s.dev.pair with rxSeq := some n, rcv := none, bulk := [], recBuf := s.dev.pair.recBuf ++ [r] })) ∧
  (∀ s n k e f b c, Framed s n → s.dev.pair.st = .following → s.dev.pair.waitRec.isSome = true → s.dev.pair.take = none → s.dev.pair.roleNext = none →
    k < 2 ^ 64 → e < 2 ^ 32 → f < 2 ^ 32 → b < 2 ^ 32 → c < 2 ^ 32 →
    (∀ r, s.dev.pair.rcv = some r → ¬ (r.tick = k ∧ r.epoch = e ∧ r.frames = f ∧ r.bytes = b ∧ r.crc ^^^ 0xFFFFFFFF = c)) →
    Does (.recSeal n k e f b c) [.pair, .irq] s (fun t => t.dev.pair.st = .stale ∧ t.dev.pair.lastCommit = s.dev.pair.lastCommit ∧ t.dev.pair.rcv = none ∧
      tget 0 t.dev.pair.ctr 3 = tget 0 s.dev.pair.ctr 3 + 1 ∧ tget 0 t.dev.pair.ctr 13 = tget 0 s.dev.pair.ctr 13 + 1 ∧
      Raises s t 0x8E01 0 (le 1 1 ++ le 1 2 ++ zb 6 ++ le 8 s.dev.pair.lastCommit))) ∧
  (∀ s n z x, Framed s n → z < 2 ^ 32 → s.dev.pair.st = .bulk → s.dev.pair.snapGot.testBit 10 = false → s.dev.pair.snapGot ||| 1024 ≠ 0x1E00 →
    Does (.recSplice n z (.objects x)) [.pair] s (fun t => PairIs s t { s.dev.pair with
      rxSeq := some n, bulkBytes := s.dev.pair.bulkBytes + z, phase := 2, snapGot := s.dev.pair.snapGot ||| 1024
      latched := s.dev.pair.latched ++ [.objects x] })) ∧
  (∀ s n z x b, Framed s n → z < 2 ^ 32 → s.dev.pair.st = .bulk → Does (.recSplice n z (.layouts x b)) [.pair, .trj, .sch] s (fun t =>
    PairIs s t { s.dev.pair with rxSeq := some n, bulkBytes := s.dev.pair.bulkBytes + z } ∧
    t.dev.trj.spk = x.spk ∧ t.dev.trj.fold = x.fold ∧ t.dev.sch.bind = b ∧ t.dev.trj.obj = s.dev.trj.obj)) ∧
  (∀ s n z x, Framed s n → z < 2 ^ 32 → s.dev.pair.st ≠ .bulk → Does (.recSplice n z x) [.pair] s (fun t => PairIs s t { s.dev.pair with rxSeq := some n })) ∧
  (∀ s, s.dev.pair.waitRec = none → s.dev.pair.st = .lapse → s.dev.pair.lastCommit + 3 ≤ s.dev.tim.tick → s.dev.pair.staleHeld = none →
    s.dev.pair.take = none → s.dev.pair.roleNext = none → Does .commitDeadline [.pair, .irq] s (fun t => t.dev.pair.st = .stale ∧
      tget 0 t.dev.pair.ctr 2 = tget 0 s.dev.pair.ctr 2 + 1 ∧ tget 0 t.dev.pair.ctr 13 = tget 0 s.dev.pair.ctr 13 + 1 ∧
      Raises s t 0x8E01 0 (le 1 1 ++ le 1 (if s.dev.pair.rejected then 2 else 0) ++ zb 6 ++ le 8 s.dev.pair.lastCommit))) ∧
  (∀ s, s.dev.pair.waitRec = none → s.dev.pair.st ≠ .lapse → Does .commitDeadline [] s (fun _ => True))

/-- The Lanyard's acknowledgements, resends, lanes and time, the splice's phases, and the pair commands. A STATUS frame of a following
peer acknowledges its record: the responses that waited for it complete with REPLICATED. TIME computes the peer's offset and judges
it. LINK_ACK releases the frames it covers; a frame not acknowledged is sent again twice, then dropped with a strike on the Lanyard. A
lane gained or lost moves the link, with its event, counter and strike; 10 s without one retire the Lanyard. At ACK_DEADLINE a device
that is not active completes what waited without replication, and the active counts a record its standby did not acknowledge and
judges it STALE at the second. A mismatch is held for MISMATCH_HOLD ticks. A splice starts on a STALE standby that is ready, the
active fixes S after the bulk and latches four sections at T_S. The pair commands configure, report and start a splice. -/
def Obligations.PairLink : Prop :=
  (∀ s n k c h, Framed s n → k < 2 ^ 64 → c < 2 ^ 64 → s.dev.pair.st = .active → s.dev.pair.serving = false →
    Does (.lnkStatus n k 5 h 0 c) [.pair] s (fun t =>
      PairIs s t { s.dev.pair with rxSeq := some n, peerSt := 5, peerId := c, both := false, peerOk := true, acked := some k, unacked := 0 } ∧
      ∀ w ∈ s.dev.hst.wait, ∀ q, w.ackTick = some q → q ≤ k → w.key = (0, 0) → w.flags = 0 → w.rb = none →
        ({ op := w.op, tag := w.tag, flags := 2, status := w.status, seq := w.seq, len := 0, payload := w.payload } : Rsp) ∈ t.dev.hst.rspQ)) ∧
  (∀ s n k c h m, Framed s n → k < 2 ^ 64 → c < 2 ^ 64 → m < 2 ^ 32 → s.dev.pair.st = .following →
    Does (.lnkStatus n k 3 h m c) [.pair] s (fun t => PairIs s t { s.dev.pair with rxSeq := some n, peerSt := 3, peerId := c })) ∧
  (∀ s n (a b c d : Nat), Framed s n → a < 2 ^ 80 → b < 2 ^ 80 → c < 2 ^ 80 → d < 2 ^ 80 → s.dev.pair.timeTx.isSome = true → b ≠ 0 ∨ c ≠ 0 →
    s.dev.pair.diverged = false → s.dev.pair.timeLimit < 2 ^ 31 →
    ((((c : Int) - (b : Int)) - ((d : Int) - (a : Int))).natAbs ≤ s.dev.pair.timeLimit * 512 → Does (.lnkTime n a b c d) [.pair] s (fun t => PairIs s t { s.dev.pair with
      rxSeq := some n, timeRx := some (a, d), offset := rne (((c : Int) - (b : Int)) - ((d : Int) - (a : Int))) 512, divRun := 0 })) ∧
    (s.dev.pair.timeLimit * 512 < (((c : Int) - (b : Int)) - ((d : Int) - (a : Int))).natAbs → s.dev.pair.divRun = 7 → Does (.lnkTime n a b c d) [.pair] s (fun t =>
      t.dev.pair.diverged = true ∧ t.dev.pair.divRun = 0 ∧ tget 0 t.dev.pair.ctr 14 = tget 0 s.dev.pair.ctr 14 + 1))) ∧
  (∀ s n a d, Framed s n → a < 2 ^ 80 → d < 2 ^ 80 → Does (.lnkTime n a 0 0 d) [.pair] s (fun t =>
    PairIs s t { s.dev.pair with rxSeq := some n, timeRx := some (a, d) })) ∧
  (∀ s n, n < 2 ^ 32 → s.dev.lanyardOk = true → Does (.lnkAck n 0) [.pair] s (fun t =>
    PairIs s t { s.dev.pair with tx := s.dev.pair.tx.filter (fun f => decide ((f.fseq + 2 ^ 32 - n - 1) % 2 ^ 32 < 2 ^ 31)) })) ∧
  (∀ s n f, n < 2 ^ 32 → s.dev.lanyardOk = true → s.dev.pair.tx.find? (fun f => f.fseq == n) = some f → f.tries < 2 →
    Does (.frameResendTimeout n) [.pair] s (fun t => t.dev.pair.tx = s.dev.pair.tx.map (fun g => if g.fseq = n then { g with tries := g.tries + 1 } else g) ∧
      tget 0 t.dev.pair.ctr 5 = tget 0 s.dev.pair.ctr 5 + 1)) ∧
  (∀ s n f, n < 2 ^ 32 → s.dev.lanyardOk = true → s.dev.pair.tx.find? (fun f => f.fseq == n) = some f → 2 ≤ f.tries → Strikable s 1172 →
    Does (.frameResendTimeout n) [.pair, .hlt] s (fun t => Struck s t 1172 ∧ PairIs s t { s.dev.pair with tx := s.dev.pair.tx.filter (fun g => g.fseq != n) })) ∧
  (∀ s n, n < 2 ^ 32 → s.dev.lanyardOk = false ∨ s.dev.pair.tx.find? (fun f => f.fseq == n) = none → Does (.frameResendTimeout n) [] s (fun _ => True)) ∧
  (∀ s l, l < 2 → s.dev.pair.lanes = 0 → Does (.lanyardLinkChange l true) [.pair] s (fun t => PairIs s t { s.dev.pair with lanes := 2 ^ l, downTick := none } ∧
    Raises s t 0x8E02 0 (le 1 1 ++ le 1 (2 ^ l) ++ zb 6 ++ le 8 s.dev.pair.peerId))) ∧
  (∀ s l, l < 2 → s.dev.pair.lanes = 3 → Strikable s 1172 → Does (.lanyardLinkChange l false) [.pair, .hlt] s (fun t => Struck s t 1172 ∧
    PairIs s t { s.dev.pair with lanes := 3 - 2 ^ l })) ∧
  (∀ s l, l < 2 → s.dev.pair.lanes = 2 ^ l → s.dev.pair.st = .following → Strikable s 1172 → Does (.lanyardLinkChange l false) [.pair, .hlt] s (fun t =>
    Struck s t 1172 ∧ t.dev.pair.lanes = 0 ∧ t.dev.pair.downTick = some s.dev.tim.tick ∧ t.dev.pair.tx = [] ∧ t.dev.pair.rxSeq = none ∧
    t.dev.pair.rcv = none ∧ t.dev.pair.st = .following ∧ tget 0 t.dev.pair.ctr 6 = tget 0 s.dev.pair.ctr 6 + 1 ∧
    Raises s t 0x8E02 0 (le 1 0 ++ le 1 0 ++ zb 6 ++ le 8 s.dev.pair.peerId))) ∧
  (∀ s, s.dev.pair.lanes = 0 → s.dev.pair.downTick.isSome = true → Completes .lanyardAbsent10s s (fun t => t.dev.chRet 1172 = true)) ∧
  (∀ s, s.dev.pair.lanes ≠ 0 ∨ s.dev.pair.downTick = none → Does .lanyardAbsent10s [] s (fun _ => True)) ∧
  (∀ s, s.dev.pair.st ≠ .active → Does .ackDeadline [] s (fun t => ∀ w ∈ s.dev.hst.wait, w.ackTick ≠ none → w.key = (0, 0) → w.flags = 0 → w.rb = none →
    ({ op := w.op, tag := w.tag, flags := 0, status := 2, seq := w.seq, len := 0, payload := w.payload } : Rsp) ∈ t.dev.hst.rspQ)) ∧
  (∀ s, s.dev.pair.st = .active → s.dev.pair.peerOk = true → s.dev.pair.serving = false → (∀ a, s.dev.pair.acked = some a → a < s.dev.pair.lastSealed) →
    Does .ackDeadline [.pair] s (fun t => tget 0 t.dev.pair.ctr 4 = tget 0 s.dev.pair.ctr 4 + 1 ∧
      (s.dev.pair.unacked = 0 → t.dev.pair.unacked = 1 ∧ t.dev.pair.peerOk = true) ∧
      (s.dev.pair.unacked = 1 → t.dev.pair.unacked = 0 ∧ t.dev.pair.peerOk = false))) ∧
  (∀ s k, s.dev.pair.mmTick = some k → Does .mismatchHoldExpiry [.pair] s (fun t =>
    PairIs s t { s.dev.pair with mmTick := if k + s.dev.pair.mmHold ≤ s.dev.tim.tick then none else some k })) ∧
  (∀ s, s.dev.spliceReady = true → s.dev.pair.autoSplice = true → Does .spliceAutoStart [.pair] s (fun t =>
    t.dev.pair.st = .bulk ∧ t.dev.pair.phase = 1 ∧ t.dev.pair.snapGot = 0 ∧ t.dev.pair.rcv = none)) ∧
  (∀ s, s.dev.spliceReady = false → Does .spliceAutoStart [] s (fun _ => True)) ∧
  (∀ s, s.dev.pair.st = .active → s.dev.pair.serving = true → s.dev.pair.phase = 1 → Does .spliceBulkDone [.pair] s (fun t =>
    PairIs s t { s.dev.pair with phase := 2, snap := some (s.dev.tim.tick + 1) })) ∧
  (∀ s k, s.dev.pair.st = .active → s.dev.pair.phase = 2 → s.dev.pair.snap = some k → k ≤ s.dev.tim.tick + 1 → s.dev.pair.latched = [] →
    Does .spliceSnapshot [.pair] s (fun t => PairIs s t { s.dev.pair with
      warmTick := some (k + if s.dev.rate < 2 then 2560 else 3072)
      latched := [.units k (if s.dev.pair.base.isSome then s.dev.pair.epoch % 0xFFFFFFFF + 1 else s.dev.pair.epoch) s.dev.units, .objects s.dev.trj,
        .live s.dev.out s.dev.cnv.out, .host s.dev.tim.slots s.dev.hst.timed s.dev.hst.tags] })) ∧
  (∀ s, s.dev.pair.snap = none → Does .spliceSnapshot [] s (fun _ => True)) ∧
  Sets .pairConfig 0x0E00 [.pair] (fun b s => b.length = 16 ∧ u8 b 0 ≤ 2 ∧ u8 b 1 ≤ 3 ∧ 16 ≤ u16 b 2 ∧ u16 b 2 ≤ 4000 ∧ u16 b 4 ≠ 0 ∧ u16 b 6 = 0 ∧
      256 ≤ u32 b 8 ∧ u32 b 8 ≤ 256000 ∧ u32 b 12 = 0 ∧ s.dev.pair.phase = 0) (fun _ _ => [])
    (fun b s t => PairIs s t { s.dev.pair with
      autoSplice := u8 b 1 % 2 == 1, hbEn := decide (2 ≤ u8 b 1), filter := u16 b 2, mmHold := u16 b 4, timeLimit := u32 b 8
      modeNext := if u8 b 0 = s.dev.pair.mode then none else some (u8 b 0) }) ∧
  Reads .pairStatusGet 0x0E01 (fun b _ => b = []) (fun _ s => le 1 s.dev.pair.st.code
    ++ le 1 (b01 s.dev.linkUp + 2 * b01 s.dev.pair.act + 4 * b01 s.dev.pair.flt + 8 * b01 (s.dev.pair.phase != 0) + 16 * b01 s.dev.pair.diverged)
    ++ le 1 s.dev.pair.lanes ++ le 1 s.dev.pair.peerSt ++ le 4 s.dev.pair.epoch ++ le 8 s.dev.pair.lastSealed ++ le 8 s.dev.pair.lastCommit
    ++ le 8 s.dev.pair.peerId ++ leI 4 s.dev.pair.offset ++ le 1 s.dev.pair.phase ++ zb 3 ++ le 8 (s.dev.pair.warmTick.getD 0)) ∧
  Reads .pairGuardStatus 0x0E02 (fun b _ => b = []) (fun _ s => (rangeFrom 0 32).flatMap (fun k =>
    le 2 (tget ({} : Guard) s.dev.out.gs k).out ++ le 1 (b01 (tget ({} : Guard) s.dev.out.gs k).en + 4 * b01 (tget false s.dev.pair.lastMm k)) ++ zb 1
    ++ le 4 (tget ({} : Guard) s.dev.out.gs k).crc.toNat ++ le 4 (tget 0 s.dev.pair.peerCrc k) ++ le 4 (tget 0 s.dev.pair.mm k).toNat
    ++ le 8 (tget 0 s.dev.pair.mmBlock k))) ∧
  Reads .pairStatsGet 0x0E04 (fun b _ => b = []) (fun _ s => (rangeFrom 0 15).flatMap (fun k => le 4 (tget 0 s.dev.pair.ctr k).toNat)) ∧
  (∀ s r, Plain { s with dev := { s.dev with pair := { s.dev.pair with st := .off } } } r [] → s.dev.pair.st = .stale → s.dev.chRet 1172 = false →
    (∀ w ∈ s.dev.hst.wait, w.key ≠ (0x0E03, 0)) →
    Begins (.pairSpliceStart r) 0x0E03 r s (0x0E03, 0) (fun t => Frame [.pair] s t ∧ t.dev.pair.st = if s.dev.spliceReady then .bulk else .stale)) ∧
  (∀ s r, Plain s r [] → s.dev.chRet 1172 = false → Refuses (.pairSpliceStart r) 0x0E03 r s 0x103 [] (Frame [] s))

/-- Sweeps of the Sloe rings, the end of a trim's rise, and the health commands. SWEEP and SWEEP_NOW begin a sweep unless one runs.
SWEEP_DONE stores the normalised count and the ratio of the ring measured, counts the sweep and ends it. TRIM_SLEW_DONE of an island
that is no lane completes its plan with EV_REPLAN_DONE; with no trim on the rise it does nothing. The health commands report the
state, the log, the strikes and the islands, and HLT_REPLAN_CONFIG sets what it carries. -/
def Obligations.Health : Prop :=
  (∀ s, ∀ i ∈ [Instr.sweep, .sweepNow],
    (s.dev.hlt.sweepBusy = false → Does i [.hlt] s (fun t => t.dev.hlt.sweepBusy = true ∧ t.dev.hlt.ring = 0 ∧ t.dev.hlt.ch = s.dev.hlt.ch)) ∧
    (s.dev.hlt.sweepBusy = true → Does i [] s (fun _ => True))) ∧
  (∀ s m, m.ring < 96 → s.dev.hlt.sweepBusy = true → s.dev.hlt.noBirth = true → s.dev.hlt.prove = false → s.dev.hlt.proving = [] →
    (∀ x ∈ s.dev.hlt.isl, x.2.plan = none) → Does (.sweepDone [m]) [.hlt] s (fun t => t.dev.hlt.sweepBusy = false ∧
      t.dev.hlt.sweeps = s.dev.hlt.sweeps + 1 ∧ t.dev.hlt.ring = m.ring ∧ t.dev.hlt.ringR = s.dev.hlt.ringR ∧
      At 0 s.dev.hlt.ringN t.dev.hlt.ringN m.ring
        (BitVec.ofNat 32 (rne ((m.count : Int) * (2 ^ 28 + Config.alpha m.ring * (m.temp - 85 * 256))) (2 ^ 28)).toNat))) ∧
  (∀ s m, m.ring < 96 → s.dev.hlt.sweepBusy = true → s.dev.hlt.noBirth = false → s.dev.hlt.auto = false → s.dev.hlt.prove = false →
    s.dev.hlt.proving = [] → (∀ x ∈ s.dev.hlt.isl, x.2.plan = none) → Completes (.sweepDone [m]) s (fun t => t.dev.hlt.sweepBusy = false ∧
      t.dev.hlt.sweeps = s.dev.hlt.sweeps + 1 ∧ tget 0x8000 t.dev.hlt.ringR m.ring = min 65535 (2 ^ 15 *
        (rne ((m.count : Int) * (2 ^ 28 + Config.alpha m.ring * (m.temp - 85 * 256))) (2 ^ 28)).toNat / Config.nBirth m.ring))) ∧
  (∀ s l, (∀ m ∈ l, m.ring < 96) → s.dev.hlt.sweepBusy = false → Does (.sweepDone l) [] s (fun _ => True)) ∧
  (∀ s l, (∃ m ∈ l, 96 ≤ m.ring) → exec (.sweepDone l) s = .fault .noSuchUnit) ∧
  (∀ s j a b c, 68 ≤ j → j < 87 → (s.dev.isl j).slewing = true → (s.dev.isl j).plan = some (a, b, c) → Does (.trimSlewDone j) [.hlt] s (fun t =>
    t.dev.isl j = { s.dev.isl j with slewing := false, plan := none, deferred := false } ∧ (∀ k, k ≠ j → t.dev.isl k = s.dev.isl k) ∧
    t.dev.hlt.replans = s.dev.hlt.replans + 1 ∧
    Raises s t 0x8F03 j (le 1 j ++ le 1 a ++ le 1 (s.dev.isl j).trim ++ zb 1 ++ le 2 b ++ le 2 c))) ∧
  (∀ s j, j < 87 → (s.dev.isl j).slewing = false → Does (.trimSlewDone j) [] s (fun _ => True)) ∧
  Reads .hltReportGet 0x0F00 (fun b _ => b = []) (fun _ s => le 4 s.dev.hltFlags ++ (rangeFrom 0 15).flatMap (fun k => le 2 (s.dev.nRet k))
    ++ le 1 s.dev.freeReserves.length ++ le 1 s.dev.rnd.shed.length ++ le 2 s.dev.hlt.objectsShed ++ le 1 s.dev.worstIsland ++ le 1 s.dev.worstChannel.2
    ++ leI 2 (s.dev.isl s.dev.worstIsland).margin ++ le 2 s.dev.worstChannel.1 ++ le 4 s.dev.hlt.logWr ++ le 4 (tget 0 s.dev.pair.ctr 5).toNat
    ++ le 4 (tget 0 s.dev.pair.ctr 9).toNat ++ leI 4 (q248 s.dev.tim.offset) ++ zb 4) ∧
  Reads .hltLogRead 0x0F01 (fun b _ => b.length = 4 ∧ u16 b 0 < 512 ∧ 0 < u16 b 2 ∧ u16 b 2 ≤ 512) (fun b s => le 2 s.dev.hlt.logWr
    ++ le 2 (b01 s.dev.hlt.wrapped) ++ (rangeFrom (u16 b 0) (u16 b 2)).flatMap (fun e => (tget {} s.dev.hlt.log (e % 512)).bytes)) ∧
  Reads .hltStrikesGet 0x0F02 (fun b _ => b.length = 8 ∧ 0 < u16 b 2 ∧ u16 b 0 + u16 b 2 ≤ 1176 ∧ u8 b 4 ≤ 1 ∧ uN 3 b 5 = 0) (fun b s =>
    le 4 s.dev.tim.snapSeq.toNat ++ (rangeFrom (u16 b 0) (u16 b 2)).flatMap (fun c => le 1 (s.dev.chan c).level ++ le 1 (b01 (s.dev.chan c).retired)
      ++ le 1 (s.dev.chan c).cause ++ zb 1 ++ le 4 (if u8 b 4 = 0 then (s.dev.chan c).strikes else (s.dev.chan c).shadow).toNat)) ∧
  Reads .hltAgeingGet 0x0F03 (fun b _ => b.length = 4 ∧ 0 < u8 b 1 ∧ u8 b 0 + u8 b 1 ≤ 87 ∧ u16 b 2 = 0) (fun b s =>
    (rangeFrom (u8 b 0) (u8 b 1)).flatMap (fun j => le 1 j ++ le 1 (s.dev.isl j).trim
      ++ le 1 (b01 (islPlanned j) + 2 * b01 (s.dev.isl j).floorLost + 4 * b01 (s.dev.isl j).deferred) ++ zb 1 ++ le 2 (s.dev.islMhz j)
      ++ le 2 (s.dev.isl j).allowed ++ leI 2 (s.dev.isl j).margin ++ le 2 (s.dev.islRatio j) ++ le 4 s.dev.hlt.sweeps.toNat)) ∧
  Sets .hltReplanConfig 0x0F04 [.hlt] (fun b _ => b.length = 16 ∧ u8 b 0 ≤ 3 ∧ u8 b 1 = 0 ∧ 512 ≤ u16 b 2 ∧ u16 b 2 ≤ 5120 ∧ u16 b 4 ≤ 12800 ∧
      u16 b 6 = 0 ∧ 60 ≤ u32 b 8 ∧ u32 b 8 ≤ 86400) (fun _ _ => [])
    (fun b s t => { t.dev.hlt with flags := s.dev.hlt.flags } = { s.dev.hlt with
      auto := u8 b 0 % 2 == 1, prove := decide (2 ≤ u8 b 0), guard := u16 b 2, marginWarn := u16 b 4, period := u32 b 8
      arbMask := BitVec.ofNat 32 (u32 b 12) })

/-- IDLE, the entry into DOZE and HIBERNATE, the wake sources, the exit, and the power commands. IDLE_ENTRY makes an idle device IDLE.
DOZE_TIMER begins entry when nothing blocks it, and reports a mask that is not 0 once. DOZE_COMMIT_POINT records the time, the count
and ρ, and the device sleeps. A wake source is latched while the latch is open; the first enabled one abandons an entry, wakes a
device in DOZE, whose time restarts from the counts passed, and resets one in HIBERNATE. DOZE_EXIT_DONE makes the device IDLE, closes
the latch, completes the wake record and raises EV_WAKE; banks that lost their contents pass to the control processor, and a lost bank
16 means a warm reset. RTC_CLOCK_STOP in DOZE is recorded in the wake record. The power commands configure, report, and ask for entry. -/
def Obligations.Sleep : Prop :=
  (∀ s, s.dev.boot.st = .ready → s.dev.pwr.st = .active → s.dev.pwr.idleEn = true → s.dev.audioStopped = true → s.dev.opBusy = false →
    Does .idleEntry [.pwr, .irq] s (fun t => t.dev.pwr = { s.dev.pwr with st := .idle, idleAt := s.dev.tim.now, timerOut := false } ∧
      t.dev.hst.irq = s.dev.hst.irq ||| 8)) ∧
  (∀ s, s.dev.pwr.st ≠ .active ∨ s.dev.pwr.idleEn = false ∨ s.dev.audioStopped = false ∨ s.dev.opBusy = true → Does .idleEntry [] s (fun _ => True)) ∧
  (∀ s, s.dev.pwr.st = .idle → s.dev.pwr.dozeEn = true → s.dev.pwrBlock none false ≠ 0 → s.dev.pwr.timerOut = false → Does .dozeTimer [.pwr] s (fun t =>
    t.dev.pwr = { s.dev.pwr with timerOut := true } ∧ Raises s t 0x9002 0 (le 4 (s.dev.pwrBlock none false) ++ le 1 0 ++ zb 3))) ∧
  (∀ s, s.dev.pwr.st = .idle → s.dev.pwr.dozeEn = true → s.dev.pwrBlock none false = 0 → Completes .dozeTimer s (fun t => t.dev.pwr.st = .entering false ∧
    t.dev.pwr.latchOpen = true ∧ t.dev.pwr.latch = [] ∧ t.dev.pwr.latchN = 0 ∧ t.dev.pwr.first = none ∧ t.dev.pwr.dropped = 0 ∧ t.dev.tim.ppsOut = false)) ∧
  (∀ s, s.dev.pwr.st ≠ .idle ∨ s.dev.pwr.dozeEn = false → Does .dozeTimer [] s (fun _ => True)) ∧
  (∀ s c r e h, s.dev.pwr.st = .entering h → s.dev.youngAt s.dev.now16 = false → 0 < r → r < 2 ^ 64 → Does (.dozeCommitPoint c r e) [.pwr, .tim, .irq] s (fun t =>
    t.dev.pwr.st = (if h then .hibernate else .doze) ∧ t.dev.pwr.dozeCount = s.dev.pwr.dozeCount + 1 ∧ t.dev.pwr.rtc = c % 2 ^ 48 ∧
    t.dev.pwr.t0 = s.dev.now16 ∧ t.dev.pwr.wrec.c0 = c % 2 ^ 48 ∧ t.dev.pwr.wrec.rho = r ∧ t.dev.pwr.wrec.entryUs = e % 65536 ∧
    t.dev.pwr.wrec.flags = (if h then 9 else 1) ∧ t.dev.pwr.seqEn = (if h then 0 else 11) ∧ (h = true → t.dev.pwr.mask = 0) ∧
    t.dev.hst.irq = s.dev.hst.irq ||| 8 ∧ t.dev.tim.now = s.dev.tim.now ∧ t.dev.tim.tick = s.dev.tim.tick)) ∧
  (∀ s c r e, (∀ h, s.dev.pwr.st ≠ .entering h) → Does (.dozeCommitPoint c r e) [] s (fun _ => True)) ∧
  (∀ s c h, s.dev.pwr.st = .entering h → s.dev.pwr.latchOpen = true → s.dev.pwr.wakeNEn = true → s.dev.pwr.first = none → s.dev.pwr.latch.length < 16 →
    Does (.wakeNAssert c) [.pwr, .irq] s (fun t => t.dev.pwr.st = .waking ∧ t.dev.pwr.lastWake = (1, 0) ∧ t.dev.pwr.first = some (1, 0, c % 2 ^ 48) ∧
      t.dev.pwr.latch = s.dev.pwr.latch ++ [{ count := c % 2 ^ 48, source := 1, detail := 0, value := 0 }] ∧ t.dev.pwr.latchN = s.dev.pwr.latchN + 1 ∧
      t.dev.pwr.wrec = { version := 1, flags := 3, source := 1, c1 := c % 2 ^ 48, count := s.dev.pwr.dozeCount.toNat, latched := s.dev.pwr.latchN + 1 })) ∧
  (∀ s c, s.dev.pwr.st = .doze → s.dev.pwr.latchOpen = true → s.dev.pwr.wakeNEn = true → s.dev.pwr.first = none → s.dev.pwr.wrec.flags / 4 % 2 = 0 →
    u8 s.dev.pwr.wrec.t0 10 ≠ 3 → Completes (.wakeNAssert c) s (fun t => t.dev.pwr.st = .waking ∧ t.dev.pwr.wrec.source = 1 ∧ t.dev.pwr.seqEn = 15 ∧
      t.dev.tim.quality = .coarse ∧ t.dev.tim.now = (s.dev.pwr.t0 + rneN ((c % 2 ^ 48 + 2 ^ 48 - s.dev.pwr.wrec.c0) % 2 ^ 48 * s.dev.pwr.wrec.rho) 65536) * 2 ^ 24)) ∧
  (∀ s c, s.dev.pwr.st = .hibernate → s.dev.pwr.latchOpen = true → s.dev.pwr.wakeNEn = true → s.dev.pwr.first = none → Completes (.wakeNAssert c) s (fun t =>
    t.dev.boot.st = .reset ∧ t.dev.pwr.st = .active ∧ t.dev.pwr.cause = 8 ∧ t.dev.pwr.wrec.source = 1)) ∧
  (∀ s c, s.dev.pwr.latchOpen = true → s.dev.pwr.wakeNEn = false → Does (.wakeNAssert c) [.pwr] s (fun t => t.dev.pwr = { s.dev.pwr with
    rtc := c % 2 ^ 48, latchN := s.dev.pwr.latchN + 1
    latch := if s.dev.pwr.latch.length < 16 then s.dev.pwr.latch ++ [{ count := c % 2 ^ 48, source := 1, detail := 0, value := 0 }] else s.dev.pwr.latch })) ∧
  (∀ s c, s.dev.pwr.latchOpen = false → Does (.wakeNAssert c) [] s (fun _ => True) ∧ Does (.mailboxWriteDropped c) [] s (fun _ => True)) ∧
  (∀ s m c h, m < 32 → (s.dev.slot m).armed = true → (s.dev.slot m).action = 7 → s.dev.pwr.st = .entering h → s.dev.pwr.latchOpen = true →
    s.dev.pwr.first = none → Does (.wakeAlarmDue m c) [.pwr, .irq] s (fun t => t.dev.pwr.st = .waking ∧ t.dev.pwr.lastWake = (4, m) ∧
      t.dev.pwr.wrec.source = 4 ∧ t.dev.pwr.wrec.detail = m)) ∧
  (∀ s m c, m < 32 → (s.dev.slot m).armed = false ∨ (s.dev.slot m).action ≠ 7 → Does (.wakeAlarmDue m c) [] s (fun _ => True)) ∧
  (∀ s k v c, k < 4 → s.dev.pwr.st = .entering false → s.dev.pwr.latchOpen = true → s.dev.pwr.hostWakeEn = true → s.dev.pwr.first = none →
    s.dev.pwr.latch.length < 16 → Does (.hostDozeWrite k v c) [.pwr, .irq] s (fun t => t.dev.pwr.st = .waking ∧ t.dev.pwr.lastWake = (5, k) ∧
      t.dev.pwr.latch = s.dev.pwr.latch ++ [{ count := c % 2 ^ 48, source := 5, detail := k, value := v.toNat }])) ∧
  (∀ s k v c, k < 4 → s.dev.pwr.latchOpen = false ∨ s.dev.pwr.st = .hibernate → Does (.hostDozeWrite k v c) [] s (fun _ => True)) ∧
  (∀ s c, s.dev.pwr.latchOpen = true → s.dev.pwr.st = .doze → s.dev.pwr.hostWakeEn = false → Does (.mailboxWriteDropped c) [.pwr] s (fun t =>
    t.dev.pwr = { s.dev.pwr with
      rtc := c % 2 ^ 48, latchN := s.dev.pwr.latchN + 1, dropped := s.dev.pwr.dropped + 1
      latch := if s.dev.pwr.latch.length < 16 then s.dev.pwr.latch ++ [{ count := c % 2 ^ 48, source := 6, detail := 0, value := 0 }] else s.dev.pwr.latch })) ∧
  (∀ s e, s.dev.pwr.st = .waking → s.dev.pwr.wrec.flags.testBit 1 = false → s.dev.pwr.latch = [] → s.dev.hst.waitCmd = [] →
    Completes (.dozeExitDone 0 e) s (fun t => t.dev.pwr.st = .idle ∧ t.dev.pwr.latchOpen = false ∧ t.dev.pwr.wrec.exitUs = e % 65536 ∧ t.dev.pwr.wrec.lost = 0 ∧
      t.dev.pwr.hostRec = t.dev.pwr.wrec.bytes ∧ t.dev.hst.irq.getLsbD 5 = true ∧ t.dev.rnd.pathFree.isSome = true ∧
      (s.dev.hst.evq.length ≤ 30 → ∃ x ∈ t.dev.hst.evq, x.code = 0x9000))) ∧
  (∀ s e, s.dev.pwr.st = .waking → s.dev.pwr.wrec.flags.testBit 1 = true → s.dev.pwr.latch = [] → s.dev.hst.waitCmd = [] →
    Completes (.dozeExitDone 0 e) s (fun t => t.dev.pwr.st = .idle ∧ t.dev.pwr.latchOpen = false ∧ t.dev.pwr.wrec.exitUs = e % 65536 ∧
      (s.dev.mboxClear = false → t.mbox = s.mbox))) ∧
  (∀ s e, s.dev.pwr.st = .waking → s.dev.pwr.wrec.flags.testBit 1 = false → s.dev.pwr.latch = [] → s.dev.hst.waitCmd = [] → s.dev.pwr.mask.getLsbD 4 = true →
    Completes (.dozeExitDone 16 e) s (fun t => t.dev.pwr.st = .idle ∧ (t.dev.bank 4).owner = .cp ∧ (t.dev.bank 4).lost = true ∧ t.dev.pwr.wrec.lost = 16 ∧
      t.dev.pwr.lost = s.dev.pwr.lost ||| 16)) ∧
  (∀ s e, s.dev.pwr.st = .waking → s.dev.pwr.wrec.flags.testBit 1 = false → s.dev.pwr.mask.getLsbD 16 = true → s.dev.boot.st = .ready →
    Completes (.dozeExitDone 65536 e) s (fun t => t.dev.pwr.cause = 9 ∧ t.dev.pwr.st = .active ∧ t.dev.hst.cmd.size = 0)) ∧
  (∀ s l e, s.dev.pwr.st ≠ .waking → Does (.dozeExitDone l e) [] s (fun _ => True)) ∧
  (∀ s, s.dev.pwr.st = .doze → s.dev.pwr.wrec.flags / 4 % 2 = 0 → Does .rtcClockStop [.pwr] s (fun t =>
    t.dev.pwr = { s.dev.pwr with rtcRun := false, wrec := { s.dev.pwr.wrec with flags := s.dev.pwr.wrec.flags + 4 } })) ∧
  (∀ s, s.dev.pwr.st = .active → Does .rtcClockStop [.pwr] s (fun t => t.dev.pwr = { s.dev.pwr with rtcRun := false })) ∧
  Sets .pwrConfig 0x1000 [.pwr] (fun b _ => b.length = 16 ∧ u8 b 0 ≤ 15 ∧ u8 b 1 = 0 ∧ 16 ≤ u16 b 2 ∧ u16 b 2 ≤ 4000 ∧ 0 < u32 b 4 ∧ u32 b 4 ≤ 3600000 ∧
      0 < u32 b 8 ∧ u32 b 8 ≤ 86400 ∧ u32 b 12 = 0) (fun _ _ => [])
    (fun b s t => t.dev.pwr = { s.dev.pwr with
      idleEn := u8 b 0 % 2 == 1, dozeEn := u8 b 0 / 2 % 2 == 1, wakeNEn := u8 b 0 / 4 % 2 == 1, hostWakeEn := decide (8 ≤ u8 b 0)
      wakeFilt := u16 b 2, idleMs := u32 b 4, dozeS := u32 b 8 }) ∧
  Reads .pwrStateGet 0x1001 (fun b s => b = [] ∧ s.dev.pwr.rtcRun = false ∧ s.dev.pwr.rtc < 2 ^ 48) (fun _ s => le 1 0 ++ le 1 s.dev.boot.slot
    ++ le 1 s.dev.pwr.cause ++ zb 1 ++ le 4 (s.dev.pwrBlock none false ||| 8) ++ le 8 s.dev.pwr.rtc ++ le 4 s.dev.pwr.dozeCount.toNat ++ le 4 0) ∧
  Reads .pwrWakeRecGet 0x1004 (fun b _ => b = []) (fun _ s => s.dev.pwr.wrec.bytes ++
    (s.dev.pwr.latch.flatMap (fun l => le 8 l.count ++ le 1 l.source ++ le 1 l.detail ++ zb 2 ++ le 4 l.value) ++ zb 256).take 256) ∧
  Sets .pwrDoze 0x1002 [.pwr] (fun b s => b = [] ∧ s.dev.pwrBlock none false % 64 = 0) (fun _ _ => le 4 0)
    (fun _ s t => t.dev.pwr = { s.dev.pwr with entryDue := some false }) ∧
  Sets .pwrHibernate 0x1003 [.pwr] (fun b s => b.length = 4 ∧ u16 b 0 = 0x5EED ∧ u16 b 2 = 0 ∧ s.dev.pwrBlock none true % 64 = 0) (fun _ _ => le 4 0)
    (fun _ s t => t.dev.pwr = { s.dev.pwr with entryDue := some true }) ∧
  (∀ s r, Plain s r [] → s.dev.pwr.entryDue = none → s.dev.pwrBlock (some r.tag.toNat) false % 64 ≠ 0 →
    Refuses (.pwrDoze r) 0x1002 r s 0x103 (le 4 (s.dev.pwrBlock (some r.tag.toNat) false % 64)) (Frame [] s))

/-- Resets, the supply sequence and the boot. A power-on reset leaves the device at reset, with the flash, the fuses and nothing else;
RESET_N holds it with cause 1, and its release, or PGOOD at the end of the sequence, samples BOOT_MODE and HOST_SEL and begins the
load. A supply fault and a thermal shutdown reset the device and take the enables low until the sequence is repeated or the device has
cooled. A function-level reset under PCI Express and the watchdog are warm resets of causes 6 and 7. An image that passes runs; one
that fails passes the turn to the next slot, and the last leaves FAILED. The host's load word runs the image in mailbox SRAM when it
passes, and is cleared when it does not. BOOT_READY hands scratch banks 0 to 14 to the law engines, sets their RUN_EN, retires the
channels that failed and raises EV_BOOT_READY. -/
def Obligations.ResetsAndBoot : Prop :=
  (∀ s, ∀ i ∈ [Instr.powerOn, .vddAonFall], Completes i s (fun t => t.dev.boot.st = .reset ∧ t.dev.boot.minSec = s.dev.boot.minSec ∧ t.dev.pwr.cause = 0 ∧
    t.dev.pwr.st = .active ∧ t.dev.pwr.held = s.dev.pwr.held ∧ t.dev.pwr.rtcRun = false ∧ t.dev.rate = 1 ∧ t.dev.units = [] ∧ t.dev.scb = {} ∧ t.dev.law = [] ∧
    t.dev.hst.evq = [] ∧ t.dev.hst.cmd.size = 0 ∧ t.mbox = [] ∧ t.dev.store.blob = s.dev.store.blob ∧ t.dev.store.h0 = s.dev.store.h0 ∧
    t.dev.store.h1 = s.dev.store.h1 ∧ t.dev.store.slotA = s.dev.store.slotA ∧ t.dev.store.slotB = s.dev.store.slotB)) ∧
  (∀ s, Completes .resetNAssert s (fun t => t.dev.boot.st = .reset ∧ t.dev.pwr.cause = 1 ∧ t.dev.pwr.held = true ∧ t.dev.pwr.st = .active ∧
    t.dev.pwr.rtc = s.dev.pwr.rtc ∧ t.dev.pwr.rtcRun = s.dev.pwr.rtcRun ∧ t.dev.pwr.wrec = s.dev.pwr.wrec ∧ t.dev.hst.cmd.size = 0 ∧ t.mbox = [] ∧
    t.dev.units = [] ∧ t.dev.store.blob = s.dev.store.blob)) ∧
  (∀ s h m, s.dev.pwr.held = false → Does (.resetNRelease h m) [] s (fun _ => True)) ∧
  (∀ s h, s.dev.pwr.held = true → s.dev.boot.st = .reset → s.dev.pwr.retry = false → s.dev.pwr.hot = false → s.dev.pwr.seqEn = 15 →
    Does (.resetNRelease h 2) [.boot, .pwr, .irq] s (fun t => t.dev.pwr = { s.dev.pwr with held := false, bootMode := 2 } ∧
      t.dev.boot = { s.dev.boot with st := .loading, tryList := [] } ∧ t.dev.hst.hspi = h)) ∧
  (∀ s h, s.dev.pwr.held = true → s.dev.pwr.seqEn ≠ 15 → Does (.resetNRelease h 0) [.pwr] s (fun t => t.dev.pwr = { s.dev.pwr with held := false })) ∧
  (∀ s h m, s.dev.boot.st ≠ .reset ∨ s.dev.pwr.retry = true ∨ s.dev.pwr.hot = true → ∀ g, Does (.pgoodSample g h m) [] s (fun _ => True)) ∧
  (∀ s h m, s.dev.boot.st = .reset → s.dev.pwr.retry = false → s.dev.pwr.hot = false →
    Does (.pgoodSample false h m) [.pwr] s (fun t => t.dev.pwr = { s.dev.pwr with seqEn := 0, retry := true })) ∧
  (∀ s h, s.dev.boot.st = .reset → s.dev.pwr.retry = false → s.dev.pwr.hot = false → s.dev.pwr.held = false → s.dev.store.slotA.valid = true →
    s.dev.store.slotB.valid = false → Does (.pgoodSample true h 0) [.boot, .pwr, .irq] s (fun t => t.dev.pwr.seqEn = 15 ∧ t.dev.pwr.bootMode = 0 ∧
      t.dev.boot = { s.dev.boot with st := .loading, tryList := [0] } ∧ t.dev.hst.hspi = h)) ∧
  (∀ s h, s.dev.boot.st = .reset → s.dev.pwr.retry = false → s.dev.pwr.hot = false → s.dev.pwr.held = false → s.dev.store.slotA.valid = false →
    s.dev.store.slotB.valid = false → Does (.pgoodSample true h 0) [.boot, .pwr, .irq] s (fun t => t.dev.boot = { s.dev.boot with st := .failed })) ∧
  (∀ s, s.dev.pwr.seqEn = 0 → Does .supplyFault [] s (fun _ => True)) ∧
  (∀ s, s.dev.pwr.seqEn ≠ 0 → Completes .supplyFault s (fun t => t.dev.boot.st = .reset ∧ t.dev.pwr.cause = 1 ∧ t.dev.pwr.seqEn = 0 ∧
    t.dev.pwr.retry = true ∧ t.mbox = [])) ∧
  (∀ s, Completes .thermalShutdown s (fun t => t.dev.boot.st = .reset ∧ t.dev.pwr.cause = 1 ∧ t.dev.pwr.seqEn = 0 ∧ t.dev.pwr.hot = true ∧ t.mbox = [])) ∧
  (∀ s, Does .sequenceRetry [.pwr] s (fun t => t.dev.pwr = { s.dev.pwr with retry := false }) ∧
    Does .thermalRecovery [.pwr] s (fun t => t.dev.pwr = { s.dev.pwr with hot := false })) ∧
  (∀ s, s.dev.hst.hspi = true → Does .functionLevelReset [] s (fun _ => True)) ∧
  (∀ s, s.dev.hst.hspi = false → s.dev.boot.st = .ready → s.dev.boot.slot = 0 → Completes .functionLevelReset s (fun t => t.dev.pwr.cause = 6 ∧
    t.dev.hst.busMaster = false ∧ t.dev.hst.msiEn = false ∧ t.dev.boot.st = .loading ∧ t.dev.boot.tryList = [0] ∧ t.dev.hst.tags = [])) ∧
  (∀ s, s.dev.boot.st = .ready → s.dev.pwr.st = .active → s.dev.boot.slot = 1 → Completes .watchdogExpiry s (fun t => t.dev.pwr.cause = 7 ∧
    t.dev.boot.st = .loading ∧ t.dev.boot.tryList = [1] ∧ t.dev.tim.now = s.dev.tim.now ∧ t.dev.hst.tags = [] ∧ t.mbox = [])) ∧
  (∀ s, s.dev.cpRuns = false → Does .watchdogExpiry [] s (fun _ => True)) ∧
  (∀ s k l, s.dev.boot.st = .loading → s.dev.boot.tryList = k :: l → Completes (.bootImageChecked true) s (fun t => t.dev.boot.st = .init ∧ t.dev.boot.slot = k ∧
    t.dev.boot.fw = (if k = 0 then s.dev.store.slotA else s.dev.store.slotB).id ∧ t.dev.boot.hostImg = false ∧ t.mbox = [] ∧ t.dev.units = s.dev.units)) ∧
  (∀ s k l, s.dev.boot.st = .loading → s.dev.boot.tryList = k :: l → l ≠ [] → Does (.bootImageChecked false) [.boot] s (fun t =>
    t.dev.boot = { s.dev.boot with tryList := l })) ∧
  (∀ s k, s.dev.boot.st = .loading → s.dev.boot.tryList = [k] → Does (.bootImageChecked false) [.boot, .irq] s (fun t =>
    t.dev.boot = { s.dev.boot with st := .failed, tryList := [] } ∧ t.dev.hst.irq = s.dev.hst.irq ||| 8)) ∧
  (∀ s g, s.dev.boot.st ≠ .loading ∨ s.dev.boot.tryList = [] → Does (.bootImageChecked g) [] s (fun _ => True)) ∧
  (∀ s, s.dev.boot.st = .loading → s.dev.pwr.bootMode = 2 → s.dev.validates = true →
    Completes (.hostLoadGo 0x6C6F6164 true) s (fun t => t.dev.boot.st = .init ∧ t.dev.boot.slot = 255 ∧ t.dev.boot.hostImg = true ∧
      t.dev.boot.fw = (u8 (Memory.read s.mbox 0 24) 8, u8 (Memory.read s.mbox 0 24) 9, u32 (Memory.read s.mbox 0 24) 12, u16 (Memory.read s.mbox 0 24) 16,
        u16 (Memory.read s.mbox 0 24) 6 % 2 == 1) ∧ t.mbox = []) ∧
    (Memory.wf s.mbox = true → Does (.hostLoadGo 0x6C6F6164 false) [.mbox] s (fun t => Memory.read t.mbox 0xEFFFC 4 = zb 4 ∧
      ∀ a, (a < 0xEFFFC ∨ 0xF0000 ≤ a) → Memory.get t.mbox a = Memory.get s.mbox a))) ∧
  (∀ s v g, s.dev.boot.st ≠ .reset → s.dev.boot.st ≠ .loading → s.dev.validates = true → Memory.wf s.mbox = true → Does (.hostLoadGo v g) [.mbox] s (fun t =>
    Memory.read t.mbox 0xEFFFC 4 = le 4 v.toNat ∧ ∀ a, (a < 0xEFFFC ∨ 0xF0000 ≤ a) → Memory.get t.mbox a = Memory.get s.mbox a)) ∧
  (∀ s v g, s.dev.validates = false → Does (.hostLoadGo v g) [] s (fun _ => True)) ∧
  (∀ s, s.dev.boot.st = .init → Completes (.bootReady []) s (fun t => t.dev.boot.st = .ready ∧ t.dev.hst.acp = 0x0104 ∧ t.dev.tim.ppsGate = true ∧
    (∀ n, n < 15 → (t.dev.bank n).owner = .law) ∧ (∀ e, e < 8 → (t.dev.eng e).runEn = true) ∧
    t.dev.boot.minSec = (if s.dev.boot.fw.2.2.2.2 then max s.dev.boot.minSec s.dev.boot.fw.2.2.2.1 else s.dev.boot.minSec) ∧
    Raises s t 0x8100 0 (le 1 s.dev.boot.slot ++ le 1 s.dev.pwr.cause ++ zb 6))) ∧
  (∀ s c, s.dev.boot.st = .init → c < 1176 → Completes (.bootReady [c]) s (fun t => t.dev.boot.st = .ready ∧ t.dev.chRet c = true)) ∧
  (∀ s, s.dev.boot.st ≠ .init → Does (.bootReady []) [] s (fun _ => True)) ∧
  (∀ s c, 1176 ≤ c → exec (.bootReady [c]) s = .fault .noSuchUnit)

/-- The journal, its compaction, blobs, and the firmware update. JOURNAL_APPEND programs the oldest append in the active half, asks
for a compaction when the half is nearly full, and on a failure keeps the append, reports EV_STORE_ERROR and asks for one. COMPACTION
goes on step by step: the other half is erased, takes the records kept, its header and its commit, and the old half is erased with
EV_STORE_COMPACTED. FLASH_OP_DONE ends the operation in progress: an update's begin, or its commit, which makes the slot valid and
raises EV_FW_SLOT_READY. The store commands report, write, read and delete blobs, start a compaction, and open, fill and commit an
update. -/
def Obligations.ConfigurationStore : Prop :=
  (∀ s k a p l, s.dev.store.appends = (k, a, p) :: l → s.dev.store.compacting ≠ some 3 → s.dev.store.compacting ≠ some 4 → s.dev.store.brim p.length = false →
    Does (.journalAppend true) [.store] s (fun t => t.dev.store.appends = l ∧ t.dev.store.ops = s.dev.store.ops ∧
      t.dev.store.active.recs = s.dev.store.active.recs ++ [{ kind := k, key := a, payload := p, done := true }] ∧ t.dev.store.other = s.dev.store.other)) ∧
  (∀ s k a p l, s.dev.store.appends = (k, a, p) :: l → s.dev.store.compacting = none → s.dev.store.compacts = false → s.dev.store.brim p.length = true →
    Does (.journalAppend true) [.store] s (fun t => t.dev.store.appends = l ∧ t.dev.store.ops = s.dev.store.ops ++ [.compact false] ∧
      t.dev.store.compacting = some 1 ∧ t.dev.store.active.recs = s.dev.store.active.recs ++ [{ kind := k, key := a, payload := p, done := true }])) ∧
  (∀ s k a p l, s.dev.store.appends = (k, a, p) :: l → s.dev.store.compacting = none → s.dev.store.compacts = false → s.dev.store.brim p.length = false →
    Does (.journalAppend false) [.store] s (fun t => t.dev.store.appends = (k, a, p) :: l ∧ t.dev.store.ops = s.dev.store.ops ++ [.compact false] ∧
      t.dev.store.active.recs = s.dev.store.active.recs ++ [{ kind := k, key := a, payload := p, done := false }] ∧
      Raises s t 0x9101 0 (le 1 0 ++ zb 3 ++ le 4 s.dev.store.nextAddr))) ∧
  (∀ s g, s.dev.store.appends = [] ∨ s.dev.store.compacting = some 3 ∨ s.dev.store.compacting = some 4 → Does (.journalAppend g) [] s (fun _ => True)) ∧
  (∀ s c l, s.dev.store.ops = .compact c :: l →
    (s.dev.store.compacting = some 1 → Does (.compaction 1) [.store] s (fun t => t.dev.store.other = {} ∧ t.dev.store.active = s.dev.store.active ∧
      t.dev.store.compacting = some 2 ∧ t.dev.store.ops = s.dev.store.ops)) ∧
    (s.dev.store.compacting = some 2 → Does (.compaction 2) [.store] s (fun t => t.dev.store.other = { recs := s.dev.store.active.kept } ∧
      t.dev.store.active = s.dev.store.active ∧ t.dev.store.compacting = some 3)) ∧
    (s.dev.store.compacting = some 3 → Does (.compaction 3) [.store] s (fun t =>
      t.dev.store.other = { s.dev.store.other with gen := if s.dev.store.active.gen = 0xFFFFFFFE then 1 else s.dev.store.active.gen + 1 } ∧
      t.dev.store.compacting = some 4)) ∧
    (s.dev.store.compacting = some 4 → Does (.compaction 4) [.store] s (fun t => t.dev.store.half = !s.dev.store.half ∧
      t.dev.store.active = { s.dev.store.other with valid := true } ∧ t.dev.store.other = s.dev.store.active ∧ t.dev.store.compacting = some 5)) ∧
    (s.dev.store.compacting = some 5 → Does (.compaction 5) [.store] s (fun t => t.dev.store.other = {} ∧ t.dev.store.active = s.dev.store.active ∧
      t.dev.store.ops = l ∧ (c = true → Ends s t 0x1104 0 0 (le 4 s.dev.store.active.gen)) ∧
      Raises s t 0x9100 0 (le 4 s.dev.store.active.gen ++ le 4 s.dev.store.active.used)))) ∧
  (∀ s k, 1 ≤ k → k ≤ 5 → s.dev.store.ops = [] ∨ s.dev.store.compacting ≠ some k → Does (.compaction k) [] s (fun _ => True)) ∧
  (∀ s k l e a, s.dev.store.ops = .fwBegin k :: l → k < 2 → Does (.flashOpDone true e a) [.store] s (fun t => t.dev.store.ops = l ∧ t.dev.store.slot k = {} ∧
    t.dev.store.slot (1 - k) = s.dev.store.slot (1 - k) ∧ Ends s t 0x1110 0 0 (le 1 k ++ zb 3))) ∧
  (∀ s k l e a, s.dev.store.ops = .fwCommit k :: l → k < 2 → Does (.flashOpDone true e a) [.store] s (fun t => t.dev.store.ops = l ∧
    t.dev.store.slot k = { s.dev.store.slot k with valid := true } ∧ t.dev.store.slot (1 - k) = s.dev.store.slot (1 - k) ∧
    Ends s t 0x1112 0 0 (le 1 k ++ zb 3 ++ le 4 (s.dev.store.slot k).gen) ∧
    Raises s t 0x9102 k (le 1 k ++ zb 3 ++ le 4 (s.dev.store.slot k).gen ++ le 4 (s.dev.store.slot k).build ++ le 2 (s.dev.store.slot k).secver ++ zb 2))) ∧
  (∀ s k l e a, s.dev.store.ops = .fwCommit k :: l → k < 2 → Does (.flashOpDone false e a) [.store] s (fun t => t.dev.store.ops = l ∧
    t.dev.store.slot k = s.dev.store.slot k ∧ Ends s t 0x1112 0 0x106 [] ∧ Raises s t 0x9101 0 (le 1 (b01 e) ++ zb 3 ++ le 4 a))) ∧
  (∀ s e a, s.dev.store.ops = [] → Does (.flashOpDone true e a) [] s (fun _ => True)) ∧
  Reads .storeStatusGet 0x1100 (fun b _ => b = []) (fun _ s => le 2 s.dev.store.mib ++ le 1 (b01 s.dev.store.octal) ++ le 1 (b01 s.dev.store.half)
    ++ le 4 s.dev.store.active.gen ++ le 4 s.dev.store.active.used ++ le 4 (64 * s.dev.store.freeBlocks) ++ le 2 s.dev.store.blob.length
    ++ le 2 (b01 s.dev.store.compacting.isSome + 2 * b01 s.dev.store.upd.isSome + 4 * b01 s.dev.store.cal)
    ++ [s.dev.store.slotA, s.dev.store.slotB].flatMap (fun x => if x.valid then le 4 x.gen ++ le 4 x.build ++ le 1 x.major ++ le 1 x.minor ++ le 2 x.secver else zb 12)
    ++ le 1 s.dev.boot.slot ++ zb 3) ∧
  Reads .storeBlobRead 0x1103 (fun b s => b.length = 12 ∧ uN 3 b 1 = 0 ∧ 0 < u32 b 8 ∧ ∃ x, tget none s.dev.store.blob (u8 b 0) = some x ∧ u32 b 4 + u32 b 8 ≤ x.total)
    (fun b s => match tget none s.dev.store.blob (u8 b 0) with
      | some x => le 4 x.total ++ le 4 x.crc ++ (x.data.drop (u32 b 4)).take (u32 b 8)
      | none => []) ∧
  Sets .storeBlobWrite 0x1102 [.store] (fun b s => b.length = 20 + u32 b 12 ∧ u8 b 0 < 255 ∧ u8 b 1 = 3 ∧ u16 b 2 = 0 ∧ 0 < u32 b 4 ∧ u32 b 4 ≤ 8388608 ∧
      u32 b 8 = 0 ∧ u32 b 12 = u32 b 4 ∧ u32 b 16 = crc32 (b.drop 20) ∧ (s.dev.store.place (u8 b 0) ((u32 b 4 + 64 + 65535) / 65536)).isSome = true)
    (fun _ _ => [])
    (fun b s t => (∃ x, tget none t.dev.store.blob (u8 b 0) = some x ∧ x.total = u32 b 4 ∧ x.data = b.drop 20 ∧ x.crc = u32 b 16 ∧
        some x.block = s.dev.store.place (u8 b 0) ((u32 b 4 + 64 + 65535) / 65536)) ∧
      (∀ k, k ≠ u8 b 0 → tget none t.dev.store.blob k = tget none s.dev.store.blob k) ∧ tget none t.dev.store.blobW (u8 b 0) = none) ∧
  Sets .storeBlobWrite 0x1102 [.store] (fun b _ => b.length = 20 ∧ u8 b 1 = 4 ∧ u16 b 2 = 0 ∧ u32 b 12 = 0) (fun _ _ => [])
    (fun b s t => At none s.dev.store.blob t.dev.store.blob (u8 b 0) none) ∧
  (∀ s r, Plain s r [] → s.dev.store.ops = [] → s.dev.store.compacting = none → Begins (.storeCompact r) 0x1104 r s (0x1104, 0) (fun t => Frame [.store] s t ∧
    t.dev.store.ops = [.compact true] ∧ t.dev.store.compacting = some 1)) ∧
  (∀ s r b, Plain s r b → b.length = 8 → 260 ≤ u32 b 0 → u32 b 0 ≤ 983036 → u32 b 4 = 0 → s.dev.boot.slot = 0 → s.dev.store.ops = [] →
    Begins (.fwUpdateBegin r) 0x1110 r s (0x1110, 0) (fun t => Frame [.store] s t ∧ t.dev.store.upd = some (1, u32 b 0, []) ∧
      t.dev.store.slotB.valid = false ∧ t.dev.store.slotA = s.dev.store.slotA ∧ t.dev.store.ops = [.fwBegin 1])) ∧
  (∀ s r b k n w, Plain s r b → b.length = 8 + u32 b 4 → 0 < u32 b 4 → s.dev.store.upd = some (k, n, w) → u32 b 0 = w.length → w.length + u32 b 4 ≤ n →
    Answers (.fwUpdateWrite r) 0x1111 r s [] (fun t => Frame [.store] s t ∧ t.dev.store.upd = some (k, n, w ++ b.drop 8))) ∧
  (∀ s r, Plain s r [] → s.dev.store.upd = none → Refuses (.fwUpdateCommit r) 0x1112 r s 0x103 [] (Frame [] s)) ∧
  (∀ s r k n w, Plain s r [] → s.dev.store.upd = some (k, n, w) → s.dev.store.ops = [] → n ≤ w.length → imageGood w = true → k < 2 →
    if Config.secureEn = true ∧ s.dev.imageAuth w = false then
      Refuses (.fwUpdateCommit r) 0x1112 r s 0x10A [] (fun t => Frame [.store] s t ∧ t.dev.store.upd = none)
    else Begins (.fwUpdateCommit r) 0x1112 r s (0x1112, 0) (fun t => Frame [.store] s t ∧ t.dev.store.ops = [.fwCommit k] ∧
      (t.dev.store.slot k).valid = false ∧ (t.dev.store.slot k).img = w ∧ (t.dev.store.slot k).build = u32 w 12 ∧
      t.dev.store.slot (1 - k) = s.dev.store.slot (1 - k)))

/-- A step runs the command at the front of the queue. With a command at the front of its queue, a step is that command's meaning on
the state with the rest of the queue, for every command and every state. With an empty queue the device idles (the model's choice, log
5). -/
def Obligations.StepRunsFront : Prop :=
  (∀ (c : Instr) (q : List Instr) (s : State), step { s with pending := c :: q } = exec c { s with pending := q }) ∧
  (∀ s : State, s.pending = [] → step s = .next s)

/-- The state at reset, and that it has what every step keeps. At reset BOOT reads RESET, no command waits, mailbox SRAM lists
nothing, the three rings are disabled, no interrupt is pending, every function unit is STOPPED, TIM_INC is 2.0 ns, the pair is OFF,
and ARB_FLT is high. The state has what every step keeps. -/
def Obligations.ResetState : Prop :=
  State.reset.Inv ∧ State.reset.dev.boot.st = .reset ∧ State.reset.pending = [] ∧ State.reset.mbox = [] ∧ State.reset.dev.hst.cmd.size = 0 ∧
  State.reset.dev.hst.rsp.size = 0 ∧ State.reset.dev.hst.evt.size = 0 ∧ State.reset.dev.hst.irq = 0 ∧ State.reset.dev.hst.irqEn = 0 ∧
  (∀ k i, (State.reset.dev.unit k i).st = .stopped) ∧ State.reset.dev.tim.inc = 0x020000000000 ∧ State.reset.dev.tim.tick = 0 ∧
  State.reset.dev.pair.st = .off ∧ State.reset.dev.pair.flt = true ∧ State.reset.dev.hlt.arbMask = 0x00010889 ∧ (∀ c, State.reset.dev.chRet c = false)

/-- A well-formed command always answers a next state, and no other does. A well-formed command, whose operands name units the device
has, answers a next state in every state: it never faults and is never refused; the bytes that INDIRECT_FETCH_DONE brings must be as
many as its descriptor asks for. Any other command is a fault of the sender (log 4). -/
def Obligations.WellFormedRuns : Prop :=
  ∀ (i : Instr) (s : State),
    (i.wf = true → (∀ g x, i = .indirectFetchDone g x → fetchLen g x s.dev = true) → ∃ t, exec i s = .next t) ∧
    (i.wf = false → exec i s = .fault .noSuchUnit)

/-- Every step keeps mailbox SRAM canonical, the interrupt pins with the pending set, and ARB_FLT high before READY. From every state
that has the invariant, whatever command stands at the front of its queue, a step that answers a next state leaves one that has it:
mailbox SRAM lists rising addresses inside its 1 MiB and no byte that reads 0 (log 2), IRQ_N is low and INTA is asserted just as the
pending set, the interface and MSI say, ARB_FLT is high while BOOT is not READY (log 3), and the queue has lost that command and
nothing else. -/
def Obligations.StepInvariant : Prop :=
  ∀ s t : State, s.Inv → step s = .next t → t.Inv ∧ t.pending = s.pending.tail

/-- Every law bundle and its word stand for one another. For every bundle, with every operand at every value its field admits, the
decoder reads from the bundle's 64-bit word that bundle and no other; and whatever word the decoder reads as a bundle is the word of
that bundle, so that no set bit of a word is dropped and a word with a reserved bit set is no bundle. -/
def Obligations.BundleEncoding : Prop :=
  (∀ b : Bundle, decodeBundle (encodeBundle b) = some b) ∧ (∀ (w : BitVec 64) (b : Bundle), decodeBundle w = some b → encodeBundle b = w)

/-- RTI restores SR, enables interrupts and goes on at EPC at once. RTI that issues sets SR to ESR and ICTL.IE to 1, every other bit
of ICTL as it was; the next bundle is EPC, with no delay slot, and the job goes on. SR of ESR with LA set re-arms the loop as LS, LE
and LC stand. No other register, no other engine and no other kind of state changes. -/
def Obligations.ReturnFromHandler : Prop :=
  ∀ s e, Issues s e (.ctl .rti) → Does (.lawRti e) [.law] s (fun t =>
    (t.dev.eng e).sr = (s.lawEng e).esr ∧ (t.dev.eng e).ictl = (s.lawEng e).ictl ||| 1 ∧ (t.dev.eng e).pc = (s.lawEng e).epc ∧
    (t.dev.eng e).slots = 0 ∧ (t.dev.eng e).inHandler = false ∧ (t.dev.eng e).st = .job ∧ (t.dev.eng e).run = (s.lawEng e).run ∧
    SameRegs { s.lawEng e with sr := (s.lawEng e).esr, ictl := (s.lawEng e).ictl ||| 1 } (t.dev.eng e) ∧ (t.dev.eng e).rrb = (s.lawEng e).rrb ∧
    ∀ k, k ≠ e → t.dev.eng k = s.dev.eng k)
end

