-- ==== Sys2Proof/Laws/Settle.lean ====
section
/-! SUPPORT. What raising an event and settling change, and what they leave alone. -/

namespace Sys2Proof.Machine

/-- Holding an event changes the queue of events and the count of lost ones alone. -/
theorem Dev.hold_eq (d : Dev) (e : EvRec) : ∃ q n, d.hold e = { d with hst := { d.hst with evq := q, evLost := n } } := by
  unfold Dev.hold
  extract_lets h free
  by_cases hc : evUnfit free (h.evq.filter (fun x => x.code != 0x8112) ++ [e]) ≤ 64
  · exact ⟨h.evq ++ [e], h.evLost, by rw [if_pos hc]⟩
  · exact ⟨_, h.evLost + 1, by rw [if_neg hc]⟩

/-- Raising an event changes the queue of events and the count of lost ones alone. -/
theorem Dev.raise_eq (d : Dev) (c i : Nat) (p : Bytes) : ∃ q n, d.raise c i p = { d with hst := { d.hst with evq := q, evLost := n } } :=
  Dev.hold_eq _ _

/-- Reaping runs changes the list of runs and the queue of events alone. -/
theorem reapGo_eq (l k : List FuncRun) (d : Dev) :
    ∃ rs q n, reapGo l k d = { d with runs := rs, hst := { d.hst with evq := q, evLost := n } } := by
  induction l generalizing k d with
  | nil => exact ⟨k, d.hst.evq, d.hst.evLost, rfl⟩
  | cons r rs ih =>
    unfold reapGo; split
    · exact ih _ _
    · obtain ⟨q, n, hq⟩ := Dev.raise_eq d 0x8101 r.kind _
      obtain ⟨a, b, c, h⟩ := ih k (d.funcDone r)
      rw [h]; unfold Dev.funcDone; dsimp only; rw [hq]
      exact ⟨a, b, c, rfl⟩

/-- Settling changes the runs, HLT_FLAGS, ARB_FLT, the queue of events and the interrupt pins alone. -/
theorem settle_eq (d : Dev) : ∃ rs q n fl ft p ia ms, settle d = { d with
    runs := rs, hlt := { d.hlt with flags := fl }, pair := { d.pair with flt := ft }
    hst := { d.hst with evq := q, evLost := n, irqN := p, inta := ia, msi := ms } } := by
  unfold settle Dev.reapRuns
  obtain ⟨rs, q, n, h⟩ := reapGo_eq d.runs [] d
  rw [h]
  exact ⟨rs, q, n, _, _, _, _, _, rfl⟩

@[simp] theorem settle_tim (d : Dev) : (settle d).tim = d.tim := by
  obtain ⟨_, _, _, _, _, _, _, _, h⟩ := settle_eq d; rw [h]
@[simp] theorem settle_trj (d : Dev) : (settle d).trj = d.trj := by
  obtain ⟨_, _, _, _, _, _, _, _, h⟩ := settle_eq d; rw [h]
@[simp] theorem settle_flt (d : Dev) : (settle d).flt = d.flt := by
  obtain ⟨_, _, _, _, _, _, _, _, h⟩ := settle_eq d; rw [h]
@[simp] theorem settle_law (d : Dev) : (settle d).law = d.law := by
  obtain ⟨_, _, _, _, _, _, _, _, h⟩ := settle_eq d; rw [h]
@[simp] theorem settle_sch (d : Dev) : (settle d).sch = d.sch := by
  obtain ⟨_, _, _, _, _, _, _, _, h⟩ := settle_eq d; rw [h]
@[simp] theorem settle_rnd (d : Dev) : (settle d).rnd = d.rnd := by
  obtain ⟨_, _, _, _, _, _, _, _, h⟩ := settle_eq d; rw [h]
@[simp] theorem settle_cnv (d : Dev) : (settle d).cnv = d.cnv := by
  obtain ⟨_, _, _, _, _, _, _, _, h⟩ := settle_eq d; rw [h]
@[simp] theorem settle_out (d : Dev) : (settle d).out = d.out := by
  obtain ⟨_, _, _, _, _, _, _, _, h⟩ := settle_eq d; rw [h]
@[simp] theorem settle_net (d : Dev) : (settle d).net = d.net := by
  obtain ⟨_, _, _, _, _, _, _, _, h⟩ := settle_eq d; rw [h]
@[simp] theorem settle_str (d : Dev) : (settle d).str = d.str := by
  obtain ⟨_, _, _, _, _, _, _, _, h⟩ := settle_eq d; rw [h]
@[simp] theorem settle_sap (d : Dev) : (settle d).sap = d.sap := by
  obtain ⟨_, _, _, _, _, _, _, _, h⟩ := settle_eq d; rw [h]
@[simp] theorem settle_scb (d : Dev) : (settle d).scb = d.scb := by
  obtain ⟨_, _, _, _, _, _, _, _, h⟩ := settle_eq d; rw [h]
@[simp] theorem settle_drc (d : Dev) : (settle d).drc = d.drc := by
  obtain ⟨_, _, _, _, _, _, _, _, h⟩ := settle_eq d; rw [h]
@[simp] theorem settle_pwr (d : Dev) : (settle d).pwr = d.pwr := by
  obtain ⟨_, _, _, _, _, _, _, _, h⟩ := settle_eq d; rw [h]
@[simp] theorem settle_boot (d : Dev) : (settle d).boot = d.boot := by
  obtain ⟨_, _, _, _, _, _, _, _, h⟩ := settle_eq d; rw [h]
@[simp] theorem settle_store (d : Dev) : (settle d).store = d.store := by
  obtain ⟨_, _, _, _, _, _, _, _, h⟩ := settle_eq d; rw [h]
@[simp] theorem settle_units (d : Dev) : (settle d).units = d.units := by
  obtain ⟨_, _, _, _, _, _, _, _, h⟩ := settle_eq d; rw [h]
@[simp] theorem settle_rate (d : Dev) : (settle d).rate = d.rate := by
  obtain ⟨_, _, _, _, _, _, _, _, h⟩ := settle_eq d; rw [h]
@[simp] theorem settle_undo (d : Dev) : (settle d).undo = d.undo := by
  obtain ⟨_, _, _, _, _, _, _, _, h⟩ := settle_eq d; rw [h]
@[simp] theorem settle_free (d : Dev) : (settle d).free = d.free := by
  obtain ⟨_, _, _, _, _, _, _, _, h⟩ := settle_eq d; rw [h]
@[simp] theorem settle_mboxClear (d : Dev) : (settle d).mboxClear = d.mboxClear := by
  obtain ⟨_, _, _, _, _, _, _, _, h⟩ := settle_eq d; rw [h]
@[simp] theorem settle_hst_hspi (d : Dev) : (settle d).hst.hspi = d.hst.hspi := by
  obtain ⟨_, _, _, _, _, _, _, _, h⟩ := settle_eq d; rw [h]
@[simp] theorem settle_hst_pcieGen (d : Dev) : (settle d).hst.pcieGen = d.hst.pcieGen := by
  obtain ⟨_, _, _, _, _, _, _, _, h⟩ := settle_eq d; rw [h]
@[simp] theorem settle_hst_pcieWidth (d : Dev) : (settle d).hst.pcieWidth = d.hst.pcieWidth := by
  obtain ⟨_, _, _, _, _, _, _, _, h⟩ := settle_eq d; rw [h]
@[simp] theorem settle_hst_acp (d : Dev) : (settle d).hst.acp = d.hst.acp := by
  obtain ⟨_, _, _, _, _, _, _, _, h⟩ := settle_eq d; rw [h]
@[simp] theorem settle_hst_cmd (d : Dev) : (settle d).hst.cmd = d.hst.cmd := by
  obtain ⟨_, _, _, _, _, _, _, _, h⟩ := settle_eq d; rw [h]
@[simp] theorem settle_hst_rsp (d : Dev) : (settle d).hst.rsp = d.hst.rsp := by
  obtain ⟨_, _, _, _, _, _, _, _, h⟩ := settle_eq d; rw [h]
@[simp] theorem settle_hst_evt (d : Dev) : (settle d).hst.evt = d.hst.evt := by
  obtain ⟨_, _, _, _, _, _, _, _, h⟩ := settle_eq d; rw [h]
@[simp] theorem settle_hst_halted (d : Dev) : (settle d).hst.halted = d.hst.halted := by
  obtain ⟨_, _, _, _, _, _, _, _, h⟩ := settle_eq d; rw [h]
@[simp] theorem settle_hst_irq (d : Dev) : (settle d).hst.irq = d.hst.irq := by
  obtain ⟨_, _, _, _, _, _, _, _, h⟩ := settle_eq d; rw [h]
@[simp] theorem settle_hst_irqEn (d : Dev) : (settle d).hst.irqEn = d.hst.irqEn := by
  obtain ⟨_, _, _, _, _, _, _, _, h⟩ := settle_eq d; rw [h]
@[simp] theorem settle_hst_holdoff (d : Dev) : (settle d).hst.holdoff = d.hst.holdoff := by
  obtain ⟨_, _, _, _, _, _, _, _, h⟩ := settle_eq d; rw [h]
@[simp] theorem settle_hst_rspHeld (d : Dev) : (settle d).hst.rspHeld = d.hst.rspHeld := by
  obtain ⟨_, _, _, _, _, _, _, _, h⟩ := settle_eq d; rw [h]
@[simp] theorem settle_hst_evtHeld (d : Dev) : (settle d).hst.evtHeld = d.hst.evtHeld := by
  obtain ⟨_, _, _, _, _, _, _, _, h⟩ := settle_eq d; rw [h]
@[simp] theorem settle_hst_msiEn (d : Dev) : (settle d).hst.msiEn = d.hst.msiEn := by
  obtain ⟨_, _, _, _, _, _, _, _, h⟩ := settle_eq d; rw [h]
@[simp] theorem settle_hst_busMaster (d : Dev) : (settle d).hst.busMaster = d.hst.busMaster := by
  obtain ⟨_, _, _, _, _, _, _, _, h⟩ := settle_eq d; rw [h]
@[simp] theorem settle_hst_diagAddr (d : Dev) : (settle d).hst.diagAddr = d.hst.diagAddr := by
  obtain ⟨_, _, _, _, _, _, _, _, h⟩ := settle_eq d; rw [h]
@[simp] theorem settle_hst_diagBusy (d : Dev) : (settle d).hst.diagBusy = d.hst.diagBusy := by
  obtain ⟨_, _, _, _, _, _, _, _, h⟩ := settle_eq d; rw [h]
@[simp] theorem settle_hst_diagErr (d : Dev) : (settle d).hst.diagErr = d.hst.diagErr := by
  obtain ⟨_, _, _, _, _, _, _, _, h⟩ := settle_eq d; rw [h]
@[simp] theorem settle_hst_diagData (d : Dev) : (settle d).hst.diagData = d.hst.diagData := by
  obtain ⟨_, _, _, _, _, _, _, _, h⟩ := settle_eq d; rw [h]
@[simp] theorem settle_hst_diagBad (d : Dev) : (settle d).hst.diagBad = d.hst.diagBad := by
  obtain ⟨_, _, _, _, _, _, _, _, h⟩ := settle_eq d; rw [h]
@[simp] theorem settle_hst_diagLatch (d : Dev) : (settle d).hst.diagLatch = d.hst.diagLatch := by
  obtain ⟨_, _, _, _, _, _, _, _, h⟩ := settle_eq d; rw [h]
@[simp] theorem settle_hst_latch (d : Dev) : (settle d).hst.latch = d.hst.latch := by
  obtain ⟨_, _, _, _, _, _, _, _, h⟩ := settle_eq d; rw [h]
@[simp] theorem settle_hst_readData (d : Dev) : (settle d).hst.readData = d.hst.readData := by
  obtain ⟨_, _, _, _, _, _, _, _, h⟩ := settle_eq d; rw [h]
@[simp] theorem settle_hst_tags (d : Dev) : (settle d).hst.tags = d.hst.tags := by
  obtain ⟨_, _, _, _, _, _, _, _, h⟩ := settle_eq d; rw [h]
@[simp] theorem settle_hst_inflight (d : Dev) : (settle d).hst.inflight = d.hst.inflight := by
  obtain ⟨_, _, _, _, _, _, _, _, h⟩ := settle_eq d; rw [h]
@[simp] theorem settle_hst_fetch (d : Dev) : (settle d).hst.fetch = d.hst.fetch := by
  obtain ⟨_, _, _, _, _, _, _, _, h⟩ := settle_eq d; rw [h]
@[simp] theorem settle_hst_waitCmd (d : Dev) : (settle d).hst.waitCmd = d.hst.waitCmd := by
  obtain ⟨_, _, _, _, _, _, _, _, h⟩ := settle_eq d; rw [h]
@[simp] theorem settle_hst_timed (d : Dev) : (settle d).hst.timed = d.hst.timed := by
  obtain ⟨_, _, _, _, _, _, _, _, h⟩ := settle_eq d; rw [h]
@[simp] theorem settle_hst_ord (d : Dev) : (settle d).hst.ord = d.hst.ord := by
  obtain ⟨_, _, _, _, _, _, _, _, h⟩ := settle_eq d; rw [h]
@[simp] theorem settle_hst_lastSet (d : Dev) : (settle d).hst.lastSet = d.hst.lastSet := by
  obtain ⟨_, _, _, _, _, _, _, _, h⟩ := settle_eq d; rw [h]
@[simp] theorem settle_hst_wait (d : Dev) : (settle d).hst.wait = d.hst.wait := by
  obtain ⟨_, _, _, _, _, _, _, _, h⟩ := settle_eq d; rw [h]
@[simp] theorem settle_hst_rbWait (d : Dev) : (settle d).hst.rbWait = d.hst.rbWait := by
  obtain ⟨_, _, _, _, _, _, _, _, h⟩ := settle_eq d; rw [h]
@[simp] theorem settle_hst_rspQ (d : Dev) : (settle d).hst.rspQ = d.hst.rspQ := by
  obtain ⟨_, _, _, _, _, _, _, _, h⟩ := settle_eq d; rw [h]
@[simp] theorem settle_hst_retained (d : Dev) : (settle d).hst.retained = d.hst.retained := by
  obtain ⟨_, _, _, _, _, _, _, _, h⟩ := settle_eq d; rw [h]
@[simp] theorem settle_hst_resetDue (d : Dev) : (settle d).hst.resetDue = d.hst.resetDue := by
  obtain ⟨_, _, _, _, _, _, _, _, h⟩ := settle_eq d; rw [h]
@[simp] theorem settle_pair_hbEn (d : Dev) : (settle d).pair.hbEn = d.pair.hbEn := by
  obtain ⟨_, _, _, _, _, _, _, _, h⟩ := settle_eq d; rw [h]
@[simp] theorem settle_pair_autoSplice (d : Dev) : (settle d).pair.autoSplice = d.pair.autoSplice := by
  obtain ⟨_, _, _, _, _, _, _, _, h⟩ := settle_eq d; rw [h]
@[simp] theorem settle_pair_mode (d : Dev) : (settle d).pair.mode = d.pair.mode := by
  obtain ⟨_, _, _, _, _, _, _, _, h⟩ := settle_eq d; rw [h]
@[simp] theorem settle_pair_modeNext (d : Dev) : (settle d).pair.modeNext = d.pair.modeNext := by
  obtain ⟨_, _, _, _, _, _, _, _, h⟩ := settle_eq d; rw [h]
@[simp] theorem settle_pair_st (d : Dev) : (settle d).pair.st = d.pair.st := by
  obtain ⟨_, _, _, _, _, _, _, _, h⟩ := settle_eq d; rw [h]
@[simp] theorem settle_pair_filter (d : Dev) : (settle d).pair.filter = d.pair.filter := by
  obtain ⟨_, _, _, _, _, _, _, _, h⟩ := settle_eq d; rw [h]
@[simp] theorem settle_pair_mmHold (d : Dev) : (settle d).pair.mmHold = d.pair.mmHold := by
  obtain ⟨_, _, _, _, _, _, _, _, h⟩ := settle_eq d; rw [h]
@[simp] theorem settle_pair_epoch (d : Dev) : (settle d).pair.epoch = d.pair.epoch := by
  obtain ⟨_, _, _, _, _, _, _, _, h⟩ := settle_eq d; rw [h]
@[simp] theorem settle_pair_lastSealed (d : Dev) : (settle d).pair.lastSealed = d.pair.lastSealed := by
  obtain ⟨_, _, _, _, _, _, _, _, h⟩ := settle_eq d; rw [h]
@[simp] theorem settle_pair_lastCommit (d : Dev) : (settle d).pair.lastCommit = d.pair.lastCommit := by
  obtain ⟨_, _, _, _, _, _, _, _, h⟩ := settle_eq d; rw [h]
@[simp] theorem settle_pair_offset (d : Dev) : (settle d).pair.offset = d.pair.offset := by
  obtain ⟨_, _, _, _, _, _, _, _, h⟩ := settle_eq d; rw [h]
@[simp] theorem settle_pair_timeLimit (d : Dev) : (settle d).pair.timeLimit = d.pair.timeLimit := by
  obtain ⟨_, _, _, _, _, _, _, _, h⟩ := settle_eq d; rw [h]
@[simp] theorem settle_pair_ctr (d : Dev) : (settle d).pair.ctr = d.pair.ctr := by
  obtain ⟨_, _, _, _, _, _, _, _, h⟩ := settle_eq d; rw [h]
@[simp] theorem settle_pair_peerCrc (d : Dev) : (settle d).pair.peerCrc = d.pair.peerCrc := by
  obtain ⟨_, _, _, _, _, _, _, _, h⟩ := settle_eq d; rw [h]
@[simp] theorem settle_pair_mm (d : Dev) : (settle d).pair.mm = d.pair.mm := by
  obtain ⟨_, _, _, _, _, _, _, _, h⟩ := settle_eq d; rw [h]
@[simp] theorem settle_pair_mmBlock (d : Dev) : (settle d).pair.mmBlock = d.pair.mmBlock := by
  obtain ⟨_, _, _, _, _, _, _, _, h⟩ := settle_eq d; rw [h]
@[simp] theorem settle_pair_lastMm (d : Dev) : (settle d).pair.lastMm = d.pair.lastMm := by
  obtain ⟨_, _, _, _, _, _, _, _, h⟩ := settle_eq d; rw [h]
@[simp] theorem settle_pair_hb (d : Dev) : (settle d).pair.hb = d.pair.hb := by
  obtain ⟨_, _, _, _, _, _, _, _, h⟩ := settle_eq d; rw [h]
@[simp] theorem settle_pair_act (d : Dev) : (settle d).pair.act = d.pair.act := by
  obtain ⟨_, _, _, _, _, _, _, _, h⟩ := settle_eq d; rw [h]
@[simp] theorem settle_pair_sample (d : Dev) : (settle d).pair.sample = d.pair.sample := by
  obtain ⟨_, _, _, _, _, _, _, _, h⟩ := settle_eq d; rw [h]
@[simp] theorem settle_pair_first (d : Dev) : (settle d).pair.first = d.pair.first := by
  obtain ⟨_, _, _, _, _, _, _, _, h⟩ := settle_eq d; rw [h]
@[simp] theorem settle_pair_take (d : Dev) : (settle d).pair.take = d.pair.take := by
  obtain ⟨_, _, _, _, _, _, _, _, h⟩ := settle_eq d; rw [h]
@[simp] theorem settle_pair_roleNext (d : Dev) : (settle d).pair.roleNext = d.pair.roleNext := by
  obtain ⟨_, _, _, _, _, _, _, _, h⟩ := settle_eq d; rw [h]
@[simp] theorem settle_pair_role (d : Dev) : (settle d).pair.role = d.pair.role := by
  obtain ⟨_, _, _, _, _, _, _, _, h⟩ := settle_eq d; rw [h]
@[simp] theorem settle_pair_soloOn (d : Dev) : (settle d).pair.soloOn = d.pair.soloOn := by
  obtain ⟨_, _, _, _, _, _, _, _, h⟩ := settle_eq d; rw [h]
@[simp] theorem settle_pair_fadeIn (d : Dev) : (settle d).pair.fadeIn = d.pair.fadeIn := by
  obtain ⟨_, _, _, _, _, _, _, _, h⟩ := settle_eq d; rw [h]
@[simp] theorem settle_pair_fullFrom (d : Dev) : (settle d).pair.fullFrom = d.pair.fullFrom := by
  obtain ⟨_, _, _, _, _, _, _, _, h⟩ := settle_eq d; rw [h]
@[simp] theorem settle_pair_lanes (d : Dev) : (settle d).pair.lanes = d.pair.lanes := by
  obtain ⟨_, _, _, _, _, _, _, _, h⟩ := settle_eq d; rw [h]
@[simp] theorem settle_pair_downTick (d : Dev) : (settle d).pair.downTick = d.pair.downTick := by
  obtain ⟨_, _, _, _, _, _, _, _, h⟩ := settle_eq d; rw [h]
@[simp] theorem settle_pair_missed (d : Dev) : (settle d).pair.missed = d.pair.missed := by
  obtain ⟨_, _, _, _, _, _, _, _, h⟩ := settle_eq d; rw [h]
@[simp] theorem settle_pair_staleHeld (d : Dev) : (settle d).pair.staleHeld = d.pair.staleHeld := by
  obtain ⟨_, _, _, _, _, _, _, _, h⟩ := settle_eq d; rw [h]
@[simp] theorem settle_pair_diverged (d : Dev) : (settle d).pair.diverged = d.pair.diverged := by
  obtain ⟨_, _, _, _, _, _, _, _, h⟩ := settle_eq d; rw [h]
@[simp] theorem settle_pair_divRun (d : Dev) : (settle d).pair.divRun = d.pair.divRun := by
  obtain ⟨_, _, _, _, _, _, _, _, h⟩ := settle_eq d; rw [h]
@[simp] theorem settle_pair_timeTx (d : Dev) : (settle d).pair.timeTx = d.pair.timeTx := by
  obtain ⟨_, _, _, _, _, _, _, _, h⟩ := settle_eq d; rw [h]
@[simp] theorem settle_pair_timeRx (d : Dev) : (settle d).pair.timeRx = d.pair.timeRx := by
  obtain ⟨_, _, _, _, _, _, _, _, h⟩ := settle_eq d; rw [h]
@[simp] theorem settle_pair_peerSt (d : Dev) : (settle d).pair.peerSt = d.pair.peerSt := by
  obtain ⟨_, _, _, _, _, _, _, _, h⟩ := settle_eq d; rw [h]
@[simp] theorem settle_pair_peerId (d : Dev) : (settle d).pair.peerId = d.pair.peerId := by
  obtain ⟨_, _, _, _, _, _, _, _, h⟩ := settle_eq d; rw [h]
@[simp] theorem settle_pair_mmTick (d : Dev) : (settle d).pair.mmTick = d.pair.mmTick := by
  obtain ⟨_, _, _, _, _, _, _, _, h⟩ := settle_eq d; rw [h]
@[simp] theorem settle_pair_both (d : Dev) : (settle d).pair.both = d.pair.both := by
  obtain ⟨_, _, _, _, _, _, _, _, h⟩ := settle_eq d; rw [h]
@[simp] theorem settle_pair_peerOk (d : Dev) : (settle d).pair.peerOk = d.pair.peerOk := by
  obtain ⟨_, _, _, _, _, _, _, _, h⟩ := settle_eq d; rw [h]
@[simp] theorem settle_pair_acked (d : Dev) : (settle d).pair.acked = d.pair.acked := by
  obtain ⟨_, _, _, _, _, _, _, _, h⟩ := settle_eq d; rw [h]
@[simp] theorem settle_pair_unacked (d : Dev) : (settle d).pair.unacked = d.pair.unacked := by
  obtain ⟨_, _, _, _, _, _, _, _, h⟩ := settle_eq d; rw [h]
@[simp] theorem settle_pair_phase (d : Dev) : (settle d).pair.phase = d.pair.phase := by
  obtain ⟨_, _, _, _, _, _, _, _, h⟩ := settle_eq d; rw [h]
@[simp] theorem settle_pair_serving (d : Dev) : (settle d).pair.serving = d.pair.serving := by
  obtain ⟨_, _, _, _, _, _, _, _, h⟩ := settle_eq d; rw [h]
@[simp] theorem settle_pair_snap (d : Dev) : (settle d).pair.snap = d.pair.snap := by
  obtain ⟨_, _, _, _, _, _, _, _, h⟩ := settle_eq d; rw [h]
@[simp] theorem settle_pair_warmTick (d : Dev) : (settle d).pair.warmTick = d.pair.warmTick := by
  obtain ⟨_, _, _, _, _, _, _, _, h⟩ := settle_eq d; rw [h]
@[simp] theorem settle_pair_caughtUp (d : Dev) : (settle d).pair.caughtUp = d.pair.caughtUp := by
  obtain ⟨_, _, _, _, _, _, _, _, h⟩ := settle_eq d; rw [h]
@[simp] theorem settle_pair_bulkBytes (d : Dev) : (settle d).pair.bulkBytes = d.pair.bulkBytes := by
  obtain ⟨_, _, _, _, _, _, _, _, h⟩ := settle_eq d; rw [h]
@[simp] theorem settle_pair_snapGot (d : Dev) : (settle d).pair.snapGot = d.pair.snapGot := by
  obtain ⟨_, _, _, _, _, _, _, _, h⟩ := settle_eq d; rw [h]
@[simp] theorem settle_pair_rcv (d : Dev) : (settle d).pair.rcv = d.pair.rcv := by
  obtain ⟨_, _, _, _, _, _, _, _, h⟩ := settle_eq d; rw [h]
@[simp] theorem settle_pair_recBuf (d : Dev) : (settle d).pair.recBuf = d.pair.recBuf := by
  obtain ⟨_, _, _, _, _, _, _, _, h⟩ := settle_eq d; rw [h]
@[simp] theorem settle_pair_sawRec (d : Dev) : (settle d).pair.sawRec = d.pair.sawRec := by
  obtain ⟨_, _, _, _, _, _, _, _, h⟩ := settle_eq d; rw [h]
@[simp] theorem settle_pair_rejected (d : Dev) : (settle d).pair.rejected = d.pair.rejected := by
  obtain ⟨_, _, _, _, _, _, _, _, h⟩ := settle_eq d; rw [h]
@[simp] theorem settle_pair_bulk (d : Dev) : (settle d).pair.bulk = d.pair.bulk := by
  obtain ⟨_, _, _, _, _, _, _, _, h⟩ := settle_eq d; rw [h]
@[simp] theorem settle_pair_items (d : Dev) : (settle d).pair.items = d.pair.items := by
  obtain ⟨_, _, _, _, _, _, _, _, h⟩ := settle_eq d; rw [h]
@[simp] theorem settle_pair_epochNew (d : Dev) : (settle d).pair.epochNew = d.pair.epochNew := by
  obtain ⟨_, _, _, _, _, _, _, _, h⟩ := settle_eq d; rw [h]
@[simp] theorem settle_pair_base (d : Dev) : (settle d).pair.base = d.pair.base := by
  obtain ⟨_, _, _, _, _, _, _, _, h⟩ := settle_eq d; rw [h]
@[simp] theorem settle_pair_latched (d : Dev) : (settle d).pair.latched = d.pair.latched := by
  obtain ⟨_, _, _, _, _, _, _, _, h⟩ := settle_eq d; rw [h]
@[simp] theorem settle_pair_txSeq (d : Dev) : (settle d).pair.txSeq = d.pair.txSeq := by
  obtain ⟨_, _, _, _, _, _, _, _, h⟩ := settle_eq d; rw [h]
@[simp] theorem settle_pair_tx (d : Dev) : (settle d).pair.tx = d.pair.tx := by
  obtain ⟨_, _, _, _, _, _, _, _, h⟩ := settle_eq d; rw [h]
@[simp] theorem settle_pair_rxSeq (d : Dev) : (settle d).pair.rxSeq = d.pair.rxSeq := by
  obtain ⟨_, _, _, _, _, _, _, _, h⟩ := settle_eq d; rw [h]
@[simp] theorem settle_pair_mmBits (d : Dev) : (settle d).pair.mmBits = d.pair.mmBits := by
  obtain ⟨_, _, _, _, _, _, _, _, h⟩ := settle_eq d; rw [h]
@[simp] theorem settle_pair_words (d : Dev) : (settle d).pair.words = d.pair.words := by
  obtain ⟨_, _, _, _, _, _, _, _, h⟩ := settle_eq d; rw [h]
@[simp] theorem settle_pair_waitRec (d : Dev) : (settle d).pair.waitRec = d.pair.waitRec := by
  obtain ⟨_, _, _, _, _, _, _, _, h⟩ := settle_eq d; rw [h]
@[simp] theorem settle_pair_waitFaults (d : Dev) : (settle d).pair.waitFaults = d.pair.waitFaults := by
  obtain ⟨_, _, _, _, _, _, _, _, h⟩ := settle_eq d; rw [h]
@[simp] theorem settle_hlt_ch (d : Dev) : (settle d).hlt.ch = d.hlt.ch := by
  obtain ⟨_, _, _, _, _, _, _, _, h⟩ := settle_eq d; rw [h]
@[simp] theorem settle_hlt_log (d : Dev) : (settle d).hlt.log = d.hlt.log := by
  obtain ⟨_, _, _, _, _, _, _, _, h⟩ := settle_eq d; rw [h]
@[simp] theorem settle_hlt_logWr (d : Dev) : (settle d).hlt.logWr = d.hlt.logWr := by
  obtain ⟨_, _, _, _, _, _, _, _, h⟩ := settle_eq d; rw [h]
@[simp] theorem settle_hlt_wrapped (d : Dev) : (settle d).hlt.wrapped = d.hlt.wrapped := by
  obtain ⟨_, _, _, _, _, _, _, _, h⟩ := settle_eq d; rw [h]
@[simp] theorem settle_hlt_auto (d : Dev) : (settle d).hlt.auto = d.hlt.auto := by
  obtain ⟨_, _, _, _, _, _, _, _, h⟩ := settle_eq d; rw [h]
@[simp] theorem settle_hlt_prove (d : Dev) : (settle d).hlt.prove = d.hlt.prove := by
  obtain ⟨_, _, _, _, _, _, _, _, h⟩ := settle_eq d; rw [h]
@[simp] theorem settle_hlt_sweepBusy (d : Dev) : (settle d).hlt.sweepBusy = d.hlt.sweepBusy := by
  obtain ⟨_, _, _, _, _, _, _, _, h⟩ := settle_eq d; rw [h]
@[simp] theorem settle_hlt_noBirth (d : Dev) : (settle d).hlt.noBirth = d.hlt.noBirth := by
  obtain ⟨_, _, _, _, _, _, _, _, h⟩ := settle_eq d; rw [h]
@[simp] theorem settle_hlt_ring (d : Dev) : (settle d).hlt.ring = d.hlt.ring := by
  obtain ⟨_, _, _, _, _, _, _, _, h⟩ := settle_eq d; rw [h]
@[simp] theorem settle_hlt_arbMask (d : Dev) : (settle d).hlt.arbMask = d.hlt.arbMask := by
  obtain ⟨_, _, _, _, _, _, _, _, h⟩ := settle_eq d; rw [h]
@[simp] theorem settle_hlt_period (d : Dev) : (settle d).hlt.period = d.hlt.period := by
  obtain ⟨_, _, _, _, _, _, _, _, h⟩ := settle_eq d; rw [h]
@[simp] theorem settle_hlt_guard (d : Dev) : (settle d).hlt.guard = d.hlt.guard := by
  obtain ⟨_, _, _, _, _, _, _, _, h⟩ := settle_eq d; rw [h]
@[simp] theorem settle_hlt_marginWarn (d : Dev) : (settle d).hlt.marginWarn = d.hlt.marginWarn := by
  obtain ⟨_, _, _, _, _, _, _, _, h⟩ := settle_eq d; rw [h]
@[simp] theorem settle_hlt_sweeps (d : Dev) : (settle d).hlt.sweeps = d.hlt.sweeps := by
  obtain ⟨_, _, _, _, _, _, _, _, h⟩ := settle_eq d; rw [h]
@[simp] theorem settle_hlt_replans (d : Dev) : (settle d).hlt.replans = d.hlt.replans := by
  obtain ⟨_, _, _, _, _, _, _, _, h⟩ := settle_eq d; rw [h]
@[simp] theorem settle_hlt_ringN (d : Dev) : (settle d).hlt.ringN = d.hlt.ringN := by
  obtain ⟨_, _, _, _, _, _, _, _, h⟩ := settle_eq d; rw [h]
@[simp] theorem settle_hlt_ringR (d : Dev) : (settle d).hlt.ringR = d.hlt.ringR := by
  obtain ⟨_, _, _, _, _, _, _, _, h⟩ := settle_eq d; rw [h]
@[simp] theorem settle_hlt_isl (d : Dev) : (settle d).hlt.isl = d.hlt.isl := by
  obtain ⟨_, _, _, _, _, _, _, _, h⟩ := settle_eq d; rw [h]
@[simp] theorem settle_hlt_objectsShed (d : Dev) : (settle d).hlt.objectsShed = d.hlt.objectsShed := by
  obtain ⟨_, _, _, _, _, _, _, _, h⟩ := settle_eq d; rw [h]
@[simp] theorem settle_hlt_servoBad (d : Dev) : (settle d).hlt.servoBad = d.hlt.servoBad := by
  obtain ⟨_, _, _, _, _, _, _, _, h⟩ := settle_eq d; rw [h]
@[simp] theorem settle_hlt_proving (d : Dev) : (settle d).hlt.proving = d.hlt.proving := by
  obtain ⟨_, _, _, _, _, _, _, _, h⟩ := settle_eq d; rw [h]
@[simp] theorem Dev.raise_tim (d : Dev) (c i : Nat) (p : Bytes) : (d.raise c i p).tim = d.tim := by
  obtain ⟨_, _, h⟩ := Dev.raise_eq d c i p; rw [h]
@[simp] theorem Dev.raise_trj (d : Dev) (c i : Nat) (p : Bytes) : (d.raise c i p).trj = d.trj := by
  obtain ⟨_, _, h⟩ := Dev.raise_eq d c i p; rw [h]
@[simp] theorem Dev.raise_flt (d : Dev) (c i : Nat) (p : Bytes) : (d.raise c i p).flt = d.flt := by
  obtain ⟨_, _, h⟩ := Dev.raise_eq d c i p; rw [h]
@[simp] theorem Dev.raise_law (d : Dev) (c i : Nat) (p : Bytes) : (d.raise c i p).law = d.law := by
  obtain ⟨_, _, h⟩ := Dev.raise_eq d c i p; rw [h]
@[simp] theorem Dev.raise_sch (d : Dev) (c i : Nat) (p : Bytes) : (d.raise c i p).sch = d.sch := by
  obtain ⟨_, _, h⟩ := Dev.raise_eq d c i p; rw [h]
@[simp] theorem Dev.raise_rnd (d : Dev) (c i : Nat) (p : Bytes) : (d.raise c i p).rnd = d.rnd := by
  obtain ⟨_, _, h⟩ := Dev.raise_eq d c i p; rw [h]
@[simp] theorem Dev.raise_cnv (d : Dev) (c i : Nat) (p : Bytes) : (d.raise c i p).cnv = d.cnv := by
  obtain ⟨_, _, h⟩ := Dev.raise_eq d c i p; rw [h]
@[simp] theorem Dev.raise_out (d : Dev) (c i : Nat) (p : Bytes) : (d.raise c i p).out = d.out := by
  obtain ⟨_, _, h⟩ := Dev.raise_eq d c i p; rw [h]
@[simp] theorem Dev.raise_net (d : Dev) (c i : Nat) (p : Bytes) : (d.raise c i p).net = d.net := by
  obtain ⟨_, _, h⟩ := Dev.raise_eq d c i p; rw [h]
@[simp] theorem Dev.raise_str (d : Dev) (c i : Nat) (p : Bytes) : (d.raise c i p).str = d.str := by
  obtain ⟨_, _, h⟩ := Dev.raise_eq d c i p; rw [h]
@[simp] theorem Dev.raise_sap (d : Dev) (c i : Nat) (p : Bytes) : (d.raise c i p).sap = d.sap := by
  obtain ⟨_, _, h⟩ := Dev.raise_eq d c i p; rw [h]
@[simp] theorem Dev.raise_scb (d : Dev) (c i : Nat) (p : Bytes) : (d.raise c i p).scb = d.scb := by
  obtain ⟨_, _, h⟩ := Dev.raise_eq d c i p; rw [h]
@[simp] theorem Dev.raise_drc (d : Dev) (c i : Nat) (p : Bytes) : (d.raise c i p).drc = d.drc := by
  obtain ⟨_, _, h⟩ := Dev.raise_eq d c i p; rw [h]
@[simp] theorem Dev.raise_pair (d : Dev) (c i : Nat) (p : Bytes) : (d.raise c i p).pair = d.pair := by
  obtain ⟨_, _, h⟩ := Dev.raise_eq d c i p; rw [h]
@[simp] theorem Dev.raise_hlt (d : Dev) (c i : Nat) (p : Bytes) : (d.raise c i p).hlt = d.hlt := by
  obtain ⟨_, _, h⟩ := Dev.raise_eq d c i p; rw [h]
@[simp] theorem Dev.raise_pwr (d : Dev) (c i : Nat) (p : Bytes) : (d.raise c i p).pwr = d.pwr := by
  obtain ⟨_, _, h⟩ := Dev.raise_eq d c i p; rw [h]
@[simp] theorem Dev.raise_boot (d : Dev) (c i : Nat) (p : Bytes) : (d.raise c i p).boot = d.boot := by
  obtain ⟨_, _, h⟩ := Dev.raise_eq d c i p; rw [h]
@[simp] theorem Dev.raise_store (d : Dev) (c i : Nat) (p : Bytes) : (d.raise c i p).store = d.store := by
  obtain ⟨_, _, h⟩ := Dev.raise_eq d c i p; rw [h]
@[simp] theorem Dev.raise_units (d : Dev) (c i : Nat) (p : Bytes) : (d.raise c i p).units = d.units := by
  obtain ⟨_, _, h⟩ := Dev.raise_eq d c i p; rw [h]
@[simp] theorem Dev.raise_runs (d : Dev) (c i : Nat) (p : Bytes) : (d.raise c i p).runs = d.runs := by
  obtain ⟨_, _, h⟩ := Dev.raise_eq d c i p; rw [h]
@[simp] theorem Dev.raise_rate (d : Dev) (c i : Nat) (p : Bytes) : (d.raise c i p).rate = d.rate := by
  obtain ⟨_, _, h⟩ := Dev.raise_eq d c i p; rw [h]
@[simp] theorem Dev.raise_undo (d : Dev) (c i : Nat) (p : Bytes) : (d.raise c i p).undo = d.undo := by
  obtain ⟨_, _, h⟩ := Dev.raise_eq d c i p; rw [h]
@[simp] theorem Dev.raise_free (d : Dev) (c i : Nat) (p : Bytes) : (d.raise c i p).free = d.free := by
  obtain ⟨_, _, h⟩ := Dev.raise_eq d c i p; rw [h]
@[simp] theorem Dev.raise_mboxClear (d : Dev) (c i : Nat) (p : Bytes) : (d.raise c i p).mboxClear = d.mboxClear := by
  obtain ⟨_, _, h⟩ := Dev.raise_eq d c i p; rw [h]
@[simp] theorem Dev.raise_hst_hspi (d : Dev) (c i : Nat) (p : Bytes) : (d.raise c i p).hst.hspi = d.hst.hspi := by
  obtain ⟨_, _, h⟩ := Dev.raise_eq d c i p; rw [h]
@[simp] theorem Dev.raise_hst_pcieGen (d : Dev) (c i : Nat) (p : Bytes) : (d.raise c i p).hst.pcieGen = d.hst.pcieGen := by
  obtain ⟨_, _, h⟩ := Dev.raise_eq d c i p; rw [h]
@[simp] theorem Dev.raise_hst_pcieWidth (d : Dev) (c i : Nat) (p : Bytes) : (d.raise c i p).hst.pcieWidth = d.hst.pcieWidth := by
  obtain ⟨_, _, h⟩ := Dev.raise_eq d c i p; rw [h]
@[simp] theorem Dev.raise_hst_acp (d : Dev) (c i : Nat) (p : Bytes) : (d.raise c i p).hst.acp = d.hst.acp := by
  obtain ⟨_, _, h⟩ := Dev.raise_eq d c i p; rw [h]
@[simp] theorem Dev.raise_hst_cmd (d : Dev) (c i : Nat) (p : Bytes) : (d.raise c i p).hst.cmd = d.hst.cmd := by
  obtain ⟨_, _, h⟩ := Dev.raise_eq d c i p; rw [h]
@[simp] theorem Dev.raise_hst_rsp (d : Dev) (c i : Nat) (p : Bytes) : (d.raise c i p).hst.rsp = d.hst.rsp := by
  obtain ⟨_, _, h⟩ := Dev.raise_eq d c i p; rw [h]
@[simp] theorem Dev.raise_hst_evt (d : Dev) (c i : Nat) (p : Bytes) : (d.raise c i p).hst.evt = d.hst.evt := by
  obtain ⟨_, _, h⟩ := Dev.raise_eq d c i p; rw [h]
@[simp] theorem Dev.raise_hst_halted (d : Dev) (c i : Nat) (p : Bytes) : (d.raise c i p).hst.halted = d.hst.halted := by
  obtain ⟨_, _, h⟩ := Dev.raise_eq d c i p; rw [h]
@[simp] theorem Dev.raise_hst_irq (d : Dev) (c i : Nat) (p : Bytes) : (d.raise c i p).hst.irq = d.hst.irq := by
  obtain ⟨_, _, h⟩ := Dev.raise_eq d c i p; rw [h]
@[simp] theorem Dev.raise_hst_irqEn (d : Dev) (c i : Nat) (p : Bytes) : (d.raise c i p).hst.irqEn = d.hst.irqEn := by
  obtain ⟨_, _, h⟩ := Dev.raise_eq d c i p; rw [h]
@[simp] theorem Dev.raise_hst_holdoff (d : Dev) (c i : Nat) (p : Bytes) : (d.raise c i p).hst.holdoff = d.hst.holdoff := by
  obtain ⟨_, _, h⟩ := Dev.raise_eq d c i p; rw [h]
@[simp] theorem Dev.raise_hst_rspHeld (d : Dev) (c i : Nat) (p : Bytes) : (d.raise c i p).hst.rspHeld = d.hst.rspHeld := by
  obtain ⟨_, _, h⟩ := Dev.raise_eq d c i p; rw [h]
@[simp] theorem Dev.raise_hst_evtHeld (d : Dev) (c i : Nat) (p : Bytes) : (d.raise c i p).hst.evtHeld = d.hst.evtHeld := by
  obtain ⟨_, _, h⟩ := Dev.raise_eq d c i p; rw [h]
@[simp] theorem Dev.raise_hst_msiEn (d : Dev) (c i : Nat) (p : Bytes) : (d.raise c i p).hst.msiEn = d.hst.msiEn := by
  obtain ⟨_, _, h⟩ := Dev.raise_eq d c i p; rw [h]
@[simp] theorem Dev.raise_hst_msi (d : Dev) (c i : Nat) (p : Bytes) : (d.raise c i p).hst.msi = d.hst.msi := by
  obtain ⟨_, _, h⟩ := Dev.raise_eq d c i p; rw [h]
@[simp] theorem Dev.raise_hst_irqN (d : Dev) (c i : Nat) (p : Bytes) : (d.raise c i p).hst.irqN = d.hst.irqN := by
  obtain ⟨_, _, h⟩ := Dev.raise_eq d c i p; rw [h]
@[simp] theorem Dev.raise_hst_inta (d : Dev) (c i : Nat) (p : Bytes) : (d.raise c i p).hst.inta = d.hst.inta := by
  obtain ⟨_, _, h⟩ := Dev.raise_eq d c i p; rw [h]
@[simp] theorem Dev.raise_hst_busMaster (d : Dev) (c i : Nat) (p : Bytes) : (d.raise c i p).hst.busMaster = d.hst.busMaster := by
  obtain ⟨_, _, h⟩ := Dev.raise_eq d c i p; rw [h]
@[simp] theorem Dev.raise_hst_diagAddr (d : Dev) (c i : Nat) (p : Bytes) : (d.raise c i p).hst.diagAddr = d.hst.diagAddr := by
  obtain ⟨_, _, h⟩ := Dev.raise_eq d c i p; rw [h]
@[simp] theorem Dev.raise_hst_diagBusy (d : Dev) (c i : Nat) (p : Bytes) : (d.raise c i p).hst.diagBusy = d.hst.diagBusy := by
  obtain ⟨_, _, h⟩ := Dev.raise_eq d c i p; rw [h]
@[simp] theorem Dev.raise_hst_diagErr (d : Dev) (c i : Nat) (p : Bytes) : (d.raise c i p).hst.diagErr = d.hst.diagErr := by
  obtain ⟨_, _, h⟩ := Dev.raise_eq d c i p; rw [h]
@[simp] theorem Dev.raise_hst_diagData (d : Dev) (c i : Nat) (p : Bytes) : (d.raise c i p).hst.diagData = d.hst.diagData := by
  obtain ⟨_, _, h⟩ := Dev.raise_eq d c i p; rw [h]
@[simp] theorem Dev.raise_hst_diagBad (d : Dev) (c i : Nat) (p : Bytes) : (d.raise c i p).hst.diagBad = d.hst.diagBad := by
  obtain ⟨_, _, h⟩ := Dev.raise_eq d c i p; rw [h]
@[simp] theorem Dev.raise_hst_diagLatch (d : Dev) (c i : Nat) (p : Bytes) : (d.raise c i p).hst.diagLatch = d.hst.diagLatch := by
  obtain ⟨_, _, h⟩ := Dev.raise_eq d c i p; rw [h]
@[simp] theorem Dev.raise_hst_latch (d : Dev) (c i : Nat) (p : Bytes) : (d.raise c i p).hst.latch = d.hst.latch := by
  obtain ⟨_, _, h⟩ := Dev.raise_eq d c i p; rw [h]
@[simp] theorem Dev.raise_hst_readData (d : Dev) (c i : Nat) (p : Bytes) : (d.raise c i p).hst.readData = d.hst.readData := by
  obtain ⟨_, _, h⟩ := Dev.raise_eq d c i p; rw [h]
@[simp] theorem Dev.raise_hst_tags (d : Dev) (c i : Nat) (p : Bytes) : (d.raise c i p).hst.tags = d.hst.tags := by
  obtain ⟨_, _, h⟩ := Dev.raise_eq d c i p; rw [h]
@[simp] theorem Dev.raise_hst_inflight (d : Dev) (c i : Nat) (p : Bytes) : (d.raise c i p).hst.inflight = d.hst.inflight := by
  obtain ⟨_, _, h⟩ := Dev.raise_eq d c i p; rw [h]
@[simp] theorem Dev.raise_hst_fetch (d : Dev) (c i : Nat) (p : Bytes) : (d.raise c i p).hst.fetch = d.hst.fetch := by
  obtain ⟨_, _, h⟩ := Dev.raise_eq d c i p; rw [h]
@[simp] theorem Dev.raise_hst_waitCmd (d : Dev) (c i : Nat) (p : Bytes) : (d.raise c i p).hst.waitCmd = d.hst.waitCmd := by
  obtain ⟨_, _, h⟩ := Dev.raise_eq d c i p; rw [h]
@[simp] theorem Dev.raise_hst_timed (d : Dev) (c i : Nat) (p : Bytes) : (d.raise c i p).hst.timed = d.hst.timed := by
  obtain ⟨_, _, h⟩ := Dev.raise_eq d c i p; rw [h]
@[simp] theorem Dev.raise_hst_ord (d : Dev) (c i : Nat) (p : Bytes) : (d.raise c i p).hst.ord = d.hst.ord := by
  obtain ⟨_, _, h⟩ := Dev.raise_eq d c i p; rw [h]
@[simp] theorem Dev.raise_hst_lastSet (d : Dev) (c i : Nat) (p : Bytes) : (d.raise c i p).hst.lastSet = d.hst.lastSet := by
  obtain ⟨_, _, h⟩ := Dev.raise_eq d c i p; rw [h]
@[simp] theorem Dev.raise_hst_wait (d : Dev) (c i : Nat) (p : Bytes) : (d.raise c i p).hst.wait = d.hst.wait := by
  obtain ⟨_, _, h⟩ := Dev.raise_eq d c i p; rw [h]
@[simp] theorem Dev.raise_hst_rbWait (d : Dev) (c i : Nat) (p : Bytes) : (d.raise c i p).hst.rbWait = d.hst.rbWait := by
  obtain ⟨_, _, h⟩ := Dev.raise_eq d c i p; rw [h]
@[simp] theorem Dev.raise_hst_rspQ (d : Dev) (c i : Nat) (p : Bytes) : (d.raise c i p).hst.rspQ = d.hst.rspQ := by
  obtain ⟨_, _, h⟩ := Dev.raise_eq d c i p; rw [h]
@[simp] theorem Dev.raise_hst_retained (d : Dev) (c i : Nat) (p : Bytes) : (d.raise c i p).hst.retained = d.hst.retained := by
  obtain ⟨_, _, h⟩ := Dev.raise_eq d c i p; rw [h]
@[simp] theorem Dev.raise_hst_resetDue (d : Dev) (c i : Nat) (p : Bytes) : (d.raise c i p).hst.resetDue = d.hst.resetDue := by
  obtain ⟨_, _, h⟩ := Dev.raise_eq d c i p; rw [h]

end Sys2Proof.Machine
end

