-- ==== Sys2Proof/Laws/Acp.lean ====
section
/-! SUPPORT. What taking an ACP command plainly comes to. -/

namespace Sys2Proof.Machine

/-- The device as a plain command's body finds it: the tag is in flight and the command has its place in the order. -/
def taken (d : Dev) (r : AcpReq) : Dev :=
  { d with hst := { d.hst with
      retained := d.hst.retained.filter (fun x => x.tag != r.tag.toNat || x.seq == r.seq.toNat)
      inflight := tput none d.hst.inflight r.tag.toNat (some r.seq.toNat), ord := d.hst.ord + 1 } }

/-- What a plain command's body sees of its validation. -/
def plainCtx (op : Nat) (d : Dev) (r : AcpReq) (m : List Host.Cell) : Ctx :=
  { op := op, tag := r.tag.toNat, seq := r.seq.toNat, vt := d.tim.tick, blk := none, slot := none, ord := d.hst.ord + 1, mem := m }

/-- A completed response with no flag set. -/
def answered (d : Dev) (op : Nat) (r : AcpReq) (st : Nat) (p : Bytes) : Dev :=
  { d with hst := { d.hst with
      tags := tput {} d.hst.tags r.tag.toNat { used := true, seq := r.seq.toNat, op := op, status := st, flags := 0 }
      rspQ := d.hst.rspQ ++ [replyTo op r st p] } }

theorem emit_plain (d : Dev) (op : Nat) (r : AcpReq) (st : Nat) (p : Bytes) :
    d.emit op r.tag.toNat r.seq.toNat 0 none st p false = answered d op r st p := by
  simp [Dev.emit, Dev.tagDone, answered, replyTo, rspFlags, b01]

theorem wakeActive_active {d : Dev} (h : d.pwr.st = .active) : d.wakeActive = d := by
  simp [Dev.wakeActive, h]

/-- The body of an untimed command on an unpaired device that is ACTIVE. -/
theorem acpBody_plain {c : Cmd} {r : AcpReq} {own : Bytes} {d : Dev} {m : List Host.Cell} (ht : r.isTimed = false) (ha : d.pwr.st = .active)
    (hp : d.pair.st = .off) (hs : d.pair.serving = false) :
    acpBody c r own d m =
      (let p := c.body { op := c.op, tag := r.tag.toNat, seq := r.seq.toNat, vt := d.tim.tick, blk := none, slot := none, ord := d.hst.ord + 1, mem := m }
         own { d with hst := { d.hst with ord := d.hst.ord + 1 } }
       if 256 ≤ p.st then p.dev.refuse c.op r p.st p.data
       else Dev.complete c r (c.classA own { d with hst := { d.hst with ord := d.hst.ord + 1 } }) own p) := by
  rw [acpBody, wakeActive_active ha]
  dsimp only
  have h1 : Dev.standby { d with hst := { d.hst with ord := d.hst.ord + 1 } } = false := by simp [Dev.standby, hp]
  have h2 : Dev.replicates { d with hst := { d.hst with ord := d.hst.ord + 1 } } = false := by simp [Dev.replicates, hp]
  rw [h1, h2, hs, ht]
  simp only [Bool.and_false, Bool.false_and, Bool.false_eq_true, if_false]

/-- A plain command's body runs on `taken`, and a refusal is answered at once. -/
theorem acpTake_plain {s : State} {r : AcpReq} {own : Bytes} (h : Plain s r own) (c : Cmd) (m : List Host.Cell) :
    acpTake c r s.dev m =
      (let p := c.body (plainCtx c.op s.dev r m) own (taken s.dev r)
       if 256 ≤ p.st then p.dev.refuse c.op r p.st p.data else Dev.complete c r (c.classA own (taken s.dev r)) own p) := by
  obtain ⟨h1, h2, h3, h4, h5, h6, h7, h8, h9, h10, h11, _⟩ := h
  have hi : r.isInd = false := by simp [AcpReq.isInd, h6]
  have ht : r.isTimed = false := by simp [AcpReq.isTimed, h6]
  have hr : r.isRb = false := by simp [AcpReq.isRb, h6]
  have ho : r.ownOff = 0 := by simp [AcpReq.ownOff, AcpReq.rbOff, ht, hr]
  have hm : acpMatch c.op r s.dev = none := by
    simp only [acpMatch, h4]
    have : ((tget {} s.dev.hst.tags r.tag.toNat).used && (tget {} s.dev.hst.tags r.tag.toNat).seq == r.seq.toNat) = false := by
      simpa [Bool.and_eq_false_iff, not_and] using h5
    simp [this]
  have hv : s.dev.validates = true := by simp [Dev.validates, h2]
  have he : ∀ d : Dev, d.inlineLimit = s.dev.inlineLimit → headErr c r d = none := by
    intro d hd
    simp [headErr, firstErr, h6, h7, hr, hi, ht, ho, hd, AcpReq.own, h8, Nat.not_lt.mpr h9]
  rw [acpTake, if_neg (by simp [h1]), if_neg (by simp [hv, h3]), acpValidate]
  simp only [hm]
  rw [he ((s.dev.dropRetained r.tag.toNat r.seq.toNat).tagTake r.tag.toNat r.seq.toNat) rfl]
  simp only [hi, Bool.false_eq_true, if_false]
  have ho' : r.own = own := by simp [AcpReq.own, ho, h8]
  rw [ho', acpBody_plain ht (by exact h2) (by exact h10) (by exact h11)]
  rfl

/-- An accepted command that awaits nothing, with the device unpaired, is answered at once. -/
theorem complete_plain (c : Cmd) (r : AcpReq) (a : Bool) (own : Bytes) (p : Rep) (hf : r.flags = 0) (hd : p.defer = none) (hc : p.cont = none)
    (hs : p.dev.pair.st = .off) : Dev.complete c r a own p = answered p.dev c.op r p.st p.data := by
  have hr : r.rb = none := by simp [AcpReq.rb, AcpReq.isRb, hf]
  simp [Dev.complete, hs, hd, hc, hf, hr, emit_plain]

/-- A refusal of a plain command is answered at once. -/
theorem refuse_plain (d : Dev) (op : Nat) (r : AcpReq) (st : Nat) (p : Bytes) (hf : r.flags = 0) : d.refuse op r st p = answered d op r st p := by
  have hr : r.rb = none := by simp [AcpReq.rb, AcpReq.isRb, hf]
  simp [Dev.refuse, hf, hr, emit_plain]

/-- The state a plain command leaves with device `d`. -/
def leaves (s : State) (d : Dev) : State :=
  { s with dev := { settle d with mboxClear := false }, mbox := if d.mboxClear then [] else s.mbox }

theorem run_true (f : Dev → Dev) (s : State) : run true f s = .next (leaves s (f s.dev)) := by
  simp [run, leaves]

/-- A plain command whose body accepts and awaits nothing. -/
theorem plain_done {s : State} {r : AcpReq} {own : Bytes} (h : Plain s r own) (c : Cmd) (d : Dev) (p : Bytes)
    (hb : c.body (plainCtx c.op s.dev r []) own (taken s.dev r) = { st := 0, data := p, dev := d, defer := none })
    (hs : d.pair.st = .off) : run true (acpTake c r) s = .next (leaves s (answered d c.op r 0 p)) := by
  rw [run_true]
  have := acpTake_plain h c []
  simp only [hb] at this
  rw [this]
  rw [if_neg (by decide), complete_plain _ _ _ _ _ h.flags rfl rfl hs]

/-! ## Fields -/

@[simp] theorem taken_tim (d : Dev) (r : AcpReq) : (taken d r).tim = d.tim := rfl
@[simp] theorem answered_tim (d : Dev) (op : Nat) (r : AcpReq) (st : Nat) (p : Bytes) : (answered d op r st p).tim = d.tim := rfl
@[simp] theorem taken_trj (d : Dev) (r : AcpReq) : (taken d r).trj = d.trj := rfl
@[simp] theorem answered_trj (d : Dev) (op : Nat) (r : AcpReq) (st : Nat) (p : Bytes) : (answered d op r st p).trj = d.trj := rfl
@[simp] theorem taken_flt (d : Dev) (r : AcpReq) : (taken d r).flt = d.flt := rfl
@[simp] theorem answered_flt (d : Dev) (op : Nat) (r : AcpReq) (st : Nat) (p : Bytes) : (answered d op r st p).flt = d.flt := rfl
@[simp] theorem taken_law (d : Dev) (r : AcpReq) : (taken d r).law = d.law := rfl
@[simp] theorem answered_law (d : Dev) (op : Nat) (r : AcpReq) (st : Nat) (p : Bytes) : (answered d op r st p).law = d.law := rfl
@[simp] theorem taken_sch (d : Dev) (r : AcpReq) : (taken d r).sch = d.sch := rfl
@[simp] theorem answered_sch (d : Dev) (op : Nat) (r : AcpReq) (st : Nat) (p : Bytes) : (answered d op r st p).sch = d.sch := rfl
@[simp] theorem taken_rnd (d : Dev) (r : AcpReq) : (taken d r).rnd = d.rnd := rfl
@[simp] theorem answered_rnd (d : Dev) (op : Nat) (r : AcpReq) (st : Nat) (p : Bytes) : (answered d op r st p).rnd = d.rnd := rfl
@[simp] theorem taken_cnv (d : Dev) (r : AcpReq) : (taken d r).cnv = d.cnv := rfl
@[simp] theorem answered_cnv (d : Dev) (op : Nat) (r : AcpReq) (st : Nat) (p : Bytes) : (answered d op r st p).cnv = d.cnv := rfl
@[simp] theorem taken_out (d : Dev) (r : AcpReq) : (taken d r).out = d.out := rfl
@[simp] theorem answered_out (d : Dev) (op : Nat) (r : AcpReq) (st : Nat) (p : Bytes) : (answered d op r st p).out = d.out := rfl
@[simp] theorem taken_net (d : Dev) (r : AcpReq) : (taken d r).net = d.net := rfl
@[simp] theorem answered_net (d : Dev) (op : Nat) (r : AcpReq) (st : Nat) (p : Bytes) : (answered d op r st p).net = d.net := rfl
@[simp] theorem taken_str (d : Dev) (r : AcpReq) : (taken d r).str = d.str := rfl
@[simp] theorem answered_str (d : Dev) (op : Nat) (r : AcpReq) (st : Nat) (p : Bytes) : (answered d op r st p).str = d.str := rfl
@[simp] theorem taken_sap (d : Dev) (r : AcpReq) : (taken d r).sap = d.sap := rfl
@[simp] theorem answered_sap (d : Dev) (op : Nat) (r : AcpReq) (st : Nat) (p : Bytes) : (answered d op r st p).sap = d.sap := rfl
@[simp] theorem taken_scb (d : Dev) (r : AcpReq) : (taken d r).scb = d.scb := rfl
@[simp] theorem answered_scb (d : Dev) (op : Nat) (r : AcpReq) (st : Nat) (p : Bytes) : (answered d op r st p).scb = d.scb := rfl
@[simp] theorem taken_drc (d : Dev) (r : AcpReq) : (taken d r).drc = d.drc := rfl
@[simp] theorem answered_drc (d : Dev) (op : Nat) (r : AcpReq) (st : Nat) (p : Bytes) : (answered d op r st p).drc = d.drc := rfl
@[simp] theorem taken_pair (d : Dev) (r : AcpReq) : (taken d r).pair = d.pair := rfl
@[simp] theorem answered_pair (d : Dev) (op : Nat) (r : AcpReq) (st : Nat) (p : Bytes) : (answered d op r st p).pair = d.pair := rfl
@[simp] theorem taken_hlt (d : Dev) (r : AcpReq) : (taken d r).hlt = d.hlt := rfl
@[simp] theorem answered_hlt (d : Dev) (op : Nat) (r : AcpReq) (st : Nat) (p : Bytes) : (answered d op r st p).hlt = d.hlt := rfl
@[simp] theorem taken_pwr (d : Dev) (r : AcpReq) : (taken d r).pwr = d.pwr := rfl
@[simp] theorem answered_pwr (d : Dev) (op : Nat) (r : AcpReq) (st : Nat) (p : Bytes) : (answered d op r st p).pwr = d.pwr := rfl
@[simp] theorem taken_boot (d : Dev) (r : AcpReq) : (taken d r).boot = d.boot := rfl
@[simp] theorem answered_boot (d : Dev) (op : Nat) (r : AcpReq) (st : Nat) (p : Bytes) : (answered d op r st p).boot = d.boot := rfl
@[simp] theorem taken_store (d : Dev) (r : AcpReq) : (taken d r).store = d.store := rfl
@[simp] theorem answered_store (d : Dev) (op : Nat) (r : AcpReq) (st : Nat) (p : Bytes) : (answered d op r st p).store = d.store := rfl
@[simp] theorem taken_units (d : Dev) (r : AcpReq) : (taken d r).units = d.units := rfl
@[simp] theorem answered_units (d : Dev) (op : Nat) (r : AcpReq) (st : Nat) (p : Bytes) : (answered d op r st p).units = d.units := rfl
@[simp] theorem taken_runs (d : Dev) (r : AcpReq) : (taken d r).runs = d.runs := rfl
@[simp] theorem answered_runs (d : Dev) (op : Nat) (r : AcpReq) (st : Nat) (p : Bytes) : (answered d op r st p).runs = d.runs := rfl
@[simp] theorem taken_rate (d : Dev) (r : AcpReq) : (taken d r).rate = d.rate := rfl
@[simp] theorem answered_rate (d : Dev) (op : Nat) (r : AcpReq) (st : Nat) (p : Bytes) : (answered d op r st p).rate = d.rate := rfl
@[simp] theorem taken_undo (d : Dev) (r : AcpReq) : (taken d r).undo = d.undo := rfl
@[simp] theorem answered_undo (d : Dev) (op : Nat) (r : AcpReq) (st : Nat) (p : Bytes) : (answered d op r st p).undo = d.undo := rfl
@[simp] theorem taken_free (d : Dev) (r : AcpReq) : (taken d r).free = d.free := rfl
@[simp] theorem answered_free (d : Dev) (op : Nat) (r : AcpReq) (st : Nat) (p : Bytes) : (answered d op r st p).free = d.free := rfl
@[simp] theorem taken_mboxClear (d : Dev) (r : AcpReq) : (taken d r).mboxClear = d.mboxClear := rfl
@[simp] theorem answered_mboxClear (d : Dev) (op : Nat) (r : AcpReq) (st : Nat) (p : Bytes) : (answered d op r st p).mboxClear = d.mboxClear := rfl
@[simp] theorem taken_hst_hspi (d : Dev) (r : AcpReq) : (taken d r).hst.hspi = d.hst.hspi := rfl
@[simp] theorem answered_hst_hspi (d : Dev) (op : Nat) (r : AcpReq) (st : Nat) (p : Bytes) : (answered d op r st p).hst.hspi = d.hst.hspi := rfl
@[simp] theorem taken_hst_pcieGen (d : Dev) (r : AcpReq) : (taken d r).hst.pcieGen = d.hst.pcieGen := rfl
@[simp] theorem answered_hst_pcieGen (d : Dev) (op : Nat) (r : AcpReq) (st : Nat) (p : Bytes) : (answered d op r st p).hst.pcieGen = d.hst.pcieGen := rfl
@[simp] theorem taken_hst_pcieWidth (d : Dev) (r : AcpReq) : (taken d r).hst.pcieWidth = d.hst.pcieWidth := rfl
@[simp] theorem answered_hst_pcieWidth (d : Dev) (op : Nat) (r : AcpReq) (st : Nat) (p : Bytes) : (answered d op r st p).hst.pcieWidth = d.hst.pcieWidth := rfl
@[simp] theorem taken_hst_acp (d : Dev) (r : AcpReq) : (taken d r).hst.acp = d.hst.acp := rfl
@[simp] theorem answered_hst_acp (d : Dev) (op : Nat) (r : AcpReq) (st : Nat) (p : Bytes) : (answered d op r st p).hst.acp = d.hst.acp := rfl
@[simp] theorem taken_hst_cmd (d : Dev) (r : AcpReq) : (taken d r).hst.cmd = d.hst.cmd := rfl
@[simp] theorem answered_hst_cmd (d : Dev) (op : Nat) (r : AcpReq) (st : Nat) (p : Bytes) : (answered d op r st p).hst.cmd = d.hst.cmd := rfl
@[simp] theorem taken_hst_rsp (d : Dev) (r : AcpReq) : (taken d r).hst.rsp = d.hst.rsp := rfl
@[simp] theorem answered_hst_rsp (d : Dev) (op : Nat) (r : AcpReq) (st : Nat) (p : Bytes) : (answered d op r st p).hst.rsp = d.hst.rsp := rfl
@[simp] theorem taken_hst_evt (d : Dev) (r : AcpReq) : (taken d r).hst.evt = d.hst.evt := rfl
@[simp] theorem answered_hst_evt (d : Dev) (op : Nat) (r : AcpReq) (st : Nat) (p : Bytes) : (answered d op r st p).hst.evt = d.hst.evt := rfl
@[simp] theorem taken_hst_halted (d : Dev) (r : AcpReq) : (taken d r).hst.halted = d.hst.halted := rfl
@[simp] theorem answered_hst_halted (d : Dev) (op : Nat) (r : AcpReq) (st : Nat) (p : Bytes) : (answered d op r st p).hst.halted = d.hst.halted := rfl
@[simp] theorem taken_hst_irq (d : Dev) (r : AcpReq) : (taken d r).hst.irq = d.hst.irq := rfl
@[simp] theorem answered_hst_irq (d : Dev) (op : Nat) (r : AcpReq) (st : Nat) (p : Bytes) : (answered d op r st p).hst.irq = d.hst.irq := rfl
@[simp] theorem taken_hst_irqEn (d : Dev) (r : AcpReq) : (taken d r).hst.irqEn = d.hst.irqEn := rfl
@[simp] theorem answered_hst_irqEn (d : Dev) (op : Nat) (r : AcpReq) (st : Nat) (p : Bytes) : (answered d op r st p).hst.irqEn = d.hst.irqEn := rfl
@[simp] theorem taken_hst_holdoff (d : Dev) (r : AcpReq) : (taken d r).hst.holdoff = d.hst.holdoff := rfl
@[simp] theorem answered_hst_holdoff (d : Dev) (op : Nat) (r : AcpReq) (st : Nat) (p : Bytes) : (answered d op r st p).hst.holdoff = d.hst.holdoff := rfl
@[simp] theorem taken_hst_rspHeld (d : Dev) (r : AcpReq) : (taken d r).hst.rspHeld = d.hst.rspHeld := rfl
@[simp] theorem answered_hst_rspHeld (d : Dev) (op : Nat) (r : AcpReq) (st : Nat) (p : Bytes) : (answered d op r st p).hst.rspHeld = d.hst.rspHeld := rfl
@[simp] theorem taken_hst_evtHeld (d : Dev) (r : AcpReq) : (taken d r).hst.evtHeld = d.hst.evtHeld := rfl
@[simp] theorem answered_hst_evtHeld (d : Dev) (op : Nat) (r : AcpReq) (st : Nat) (p : Bytes) : (answered d op r st p).hst.evtHeld = d.hst.evtHeld := rfl
@[simp] theorem taken_hst_msiEn (d : Dev) (r : AcpReq) : (taken d r).hst.msiEn = d.hst.msiEn := rfl
@[simp] theorem answered_hst_msiEn (d : Dev) (op : Nat) (r : AcpReq) (st : Nat) (p : Bytes) : (answered d op r st p).hst.msiEn = d.hst.msiEn := rfl
@[simp] theorem taken_hst_msi (d : Dev) (r : AcpReq) : (taken d r).hst.msi = d.hst.msi := rfl
@[simp] theorem answered_hst_msi (d : Dev) (op : Nat) (r : AcpReq) (st : Nat) (p : Bytes) : (answered d op r st p).hst.msi = d.hst.msi := rfl
@[simp] theorem taken_hst_irqN (d : Dev) (r : AcpReq) : (taken d r).hst.irqN = d.hst.irqN := rfl
@[simp] theorem answered_hst_irqN (d : Dev) (op : Nat) (r : AcpReq) (st : Nat) (p : Bytes) : (answered d op r st p).hst.irqN = d.hst.irqN := rfl
@[simp] theorem taken_hst_inta (d : Dev) (r : AcpReq) : (taken d r).hst.inta = d.hst.inta := rfl
@[simp] theorem answered_hst_inta (d : Dev) (op : Nat) (r : AcpReq) (st : Nat) (p : Bytes) : (answered d op r st p).hst.inta = d.hst.inta := rfl
@[simp] theorem taken_hst_busMaster (d : Dev) (r : AcpReq) : (taken d r).hst.busMaster = d.hst.busMaster := rfl
@[simp] theorem answered_hst_busMaster (d : Dev) (op : Nat) (r : AcpReq) (st : Nat) (p : Bytes) : (answered d op r st p).hst.busMaster = d.hst.busMaster := rfl
@[simp] theorem taken_hst_diagAddr (d : Dev) (r : AcpReq) : (taken d r).hst.diagAddr = d.hst.diagAddr := rfl
@[simp] theorem answered_hst_diagAddr (d : Dev) (op : Nat) (r : AcpReq) (st : Nat) (p : Bytes) : (answered d op r st p).hst.diagAddr = d.hst.diagAddr := rfl
@[simp] theorem taken_hst_diagBusy (d : Dev) (r : AcpReq) : (taken d r).hst.diagBusy = d.hst.diagBusy := rfl
@[simp] theorem answered_hst_diagBusy (d : Dev) (op : Nat) (r : AcpReq) (st : Nat) (p : Bytes) : (answered d op r st p).hst.diagBusy = d.hst.diagBusy := rfl
@[simp] theorem taken_hst_diagErr (d : Dev) (r : AcpReq) : (taken d r).hst.diagErr = d.hst.diagErr := rfl
@[simp] theorem answered_hst_diagErr (d : Dev) (op : Nat) (r : AcpReq) (st : Nat) (p : Bytes) : (answered d op r st p).hst.diagErr = d.hst.diagErr := rfl
@[simp] theorem taken_hst_diagData (d : Dev) (r : AcpReq) : (taken d r).hst.diagData = d.hst.diagData := rfl
@[simp] theorem answered_hst_diagData (d : Dev) (op : Nat) (r : AcpReq) (st : Nat) (p : Bytes) : (answered d op r st p).hst.diagData = d.hst.diagData := rfl
@[simp] theorem taken_hst_diagBad (d : Dev) (r : AcpReq) : (taken d r).hst.diagBad = d.hst.diagBad := rfl
@[simp] theorem answered_hst_diagBad (d : Dev) (op : Nat) (r : AcpReq) (st : Nat) (p : Bytes) : (answered d op r st p).hst.diagBad = d.hst.diagBad := rfl
@[simp] theorem taken_hst_diagLatch (d : Dev) (r : AcpReq) : (taken d r).hst.diagLatch = d.hst.diagLatch := rfl
@[simp] theorem answered_hst_diagLatch (d : Dev) (op : Nat) (r : AcpReq) (st : Nat) (p : Bytes) : (answered d op r st p).hst.diagLatch = d.hst.diagLatch := rfl
@[simp] theorem taken_hst_latch (d : Dev) (r : AcpReq) : (taken d r).hst.latch = d.hst.latch := rfl
@[simp] theorem answered_hst_latch (d : Dev) (op : Nat) (r : AcpReq) (st : Nat) (p : Bytes) : (answered d op r st p).hst.latch = d.hst.latch := rfl
@[simp] theorem taken_hst_readData (d : Dev) (r : AcpReq) : (taken d r).hst.readData = d.hst.readData := rfl
@[simp] theorem answered_hst_readData (d : Dev) (op : Nat) (r : AcpReq) (st : Nat) (p : Bytes) : (answered d op r st p).hst.readData = d.hst.readData := rfl
@[simp] theorem taken_hst_tags (d : Dev) (r : AcpReq) : (taken d r).hst.tags = d.hst.tags := rfl
@[simp] theorem answered_hst_inflight (d : Dev) (op : Nat) (r : AcpReq) (st : Nat) (p : Bytes) : (answered d op r st p).hst.inflight = d.hst.inflight := rfl
@[simp] theorem taken_hst_fetch (d : Dev) (r : AcpReq) : (taken d r).hst.fetch = d.hst.fetch := rfl
@[simp] theorem answered_hst_fetch (d : Dev) (op : Nat) (r : AcpReq) (st : Nat) (p : Bytes) : (answered d op r st p).hst.fetch = d.hst.fetch := rfl
@[simp] theorem taken_hst_waitCmd (d : Dev) (r : AcpReq) : (taken d r).hst.waitCmd = d.hst.waitCmd := rfl
@[simp] theorem answered_hst_waitCmd (d : Dev) (op : Nat) (r : AcpReq) (st : Nat) (p : Bytes) : (answered d op r st p).hst.waitCmd = d.hst.waitCmd := rfl
@[simp] theorem taken_hst_timed (d : Dev) (r : AcpReq) : (taken d r).hst.timed = d.hst.timed := rfl
@[simp] theorem answered_hst_timed (d : Dev) (op : Nat) (r : AcpReq) (st : Nat) (p : Bytes) : (answered d op r st p).hst.timed = d.hst.timed := rfl
@[simp] theorem answered_hst_ord (d : Dev) (op : Nat) (r : AcpReq) (st : Nat) (p : Bytes) : (answered d op r st p).hst.ord = d.hst.ord := rfl
@[simp] theorem taken_hst_lastSet (d : Dev) (r : AcpReq) : (taken d r).hst.lastSet = d.hst.lastSet := rfl
@[simp] theorem answered_hst_lastSet (d : Dev) (op : Nat) (r : AcpReq) (st : Nat) (p : Bytes) : (answered d op r st p).hst.lastSet = d.hst.lastSet := rfl
@[simp] theorem taken_hst_wait (d : Dev) (r : AcpReq) : (taken d r).hst.wait = d.hst.wait := rfl
@[simp] theorem answered_hst_wait (d : Dev) (op : Nat) (r : AcpReq) (st : Nat) (p : Bytes) : (answered d op r st p).hst.wait = d.hst.wait := rfl
@[simp] theorem taken_hst_rbWait (d : Dev) (r : AcpReq) : (taken d r).hst.rbWait = d.hst.rbWait := rfl
@[simp] theorem answered_hst_rbWait (d : Dev) (op : Nat) (r : AcpReq) (st : Nat) (p : Bytes) : (answered d op r st p).hst.rbWait = d.hst.rbWait := rfl
@[simp] theorem taken_hst_rspQ (d : Dev) (r : AcpReq) : (taken d r).hst.rspQ = d.hst.rspQ := rfl
@[simp] theorem answered_hst_retained (d : Dev) (op : Nat) (r : AcpReq) (st : Nat) (p : Bytes) : (answered d op r st p).hst.retained = d.hst.retained := rfl
@[simp] theorem taken_hst_evq (d : Dev) (r : AcpReq) : (taken d r).hst.evq = d.hst.evq := rfl
@[simp] theorem answered_hst_evq (d : Dev) (op : Nat) (r : AcpReq) (st : Nat) (p : Bytes) : (answered d op r st p).hst.evq = d.hst.evq := rfl
@[simp] theorem taken_hst_evLost (d : Dev) (r : AcpReq) : (taken d r).hst.evLost = d.hst.evLost := rfl
@[simp] theorem answered_hst_evLost (d : Dev) (op : Nat) (r : AcpReq) (st : Nat) (p : Bytes) : (answered d op r st p).hst.evLost = d.hst.evLost := rfl
@[simp] theorem taken_hst_resetDue (d : Dev) (r : AcpReq) : (taken d r).hst.resetDue = d.hst.resetDue := rfl
@[simp] theorem answered_hst_resetDue (d : Dev) (op : Nat) (r : AcpReq) (st : Nat) (p : Bytes) : (answered d op r st p).hst.resetDue = d.hst.resetDue := rfl
@[simp] theorem taken_hst_ord (d : Dev) (r : AcpReq) : (taken d r).hst.ord = d.hst.ord + 1 := rfl
@[simp] theorem answered_hst_rspQ (d : Dev) (op : Nat) (r : AcpReq) (st : Nat) (p : Bytes) :
    (answered d op r st p).hst.rspQ = d.hst.rspQ ++ [replyTo op r st p] := rfl
theorem leaves_dev (s : State) (d : Dev) : (leaves s d).dev = { settle d with mboxClear := false } := rfl
@[simp] theorem leaves_tim (s : State) (d : Dev) : (leaves s d).dev.tim = d.tim := by rw [leaves_dev]; exact settle_tim d
@[simp] theorem leaves_trj (s : State) (d : Dev) : (leaves s d).dev.trj = d.trj := by rw [leaves_dev]; exact settle_trj d
@[simp] theorem leaves_flt (s : State) (d : Dev) : (leaves s d).dev.flt = d.flt := by rw [leaves_dev]; exact settle_flt d
@[simp] theorem leaves_law (s : State) (d : Dev) : (leaves s d).dev.law = d.law := by rw [leaves_dev]; exact settle_law d
@[simp] theorem leaves_sch (s : State) (d : Dev) : (leaves s d).dev.sch = d.sch := by rw [leaves_dev]; exact settle_sch d
@[simp] theorem leaves_rnd (s : State) (d : Dev) : (leaves s d).dev.rnd = d.rnd := by rw [leaves_dev]; exact settle_rnd d
@[simp] theorem leaves_cnv (s : State) (d : Dev) : (leaves s d).dev.cnv = d.cnv := by rw [leaves_dev]; exact settle_cnv d
@[simp] theorem leaves_out (s : State) (d : Dev) : (leaves s d).dev.out = d.out := by rw [leaves_dev]; exact settle_out d
@[simp] theorem leaves_net (s : State) (d : Dev) : (leaves s d).dev.net = d.net := by rw [leaves_dev]; exact settle_net d
@[simp] theorem leaves_str (s : State) (d : Dev) : (leaves s d).dev.str = d.str := by rw [leaves_dev]; exact settle_str d
@[simp] theorem leaves_sap (s : State) (d : Dev) : (leaves s d).dev.sap = d.sap := by rw [leaves_dev]; exact settle_sap d
@[simp] theorem leaves_scb (s : State) (d : Dev) : (leaves s d).dev.scb = d.scb := by rw [leaves_dev]; exact settle_scb d
@[simp] theorem leaves_drc (s : State) (d : Dev) : (leaves s d).dev.drc = d.drc := by rw [leaves_dev]; exact settle_drc d
@[simp] theorem leaves_pwr (s : State) (d : Dev) : (leaves s d).dev.pwr = d.pwr := by rw [leaves_dev]; exact settle_pwr d
@[simp] theorem leaves_boot (s : State) (d : Dev) : (leaves s d).dev.boot = d.boot := by rw [leaves_dev]; exact settle_boot d
@[simp] theorem leaves_store (s : State) (d : Dev) : (leaves s d).dev.store = d.store := by rw [leaves_dev]; exact settle_store d
@[simp] theorem leaves_units (s : State) (d : Dev) : (leaves s d).dev.units = d.units := by rw [leaves_dev]; exact settle_units d
@[simp] theorem leaves_rate (s : State) (d : Dev) : (leaves s d).dev.rate = d.rate := by rw [leaves_dev]; exact settle_rate d
@[simp] theorem leaves_undo (s : State) (d : Dev) : (leaves s d).dev.undo = d.undo := by rw [leaves_dev]; exact settle_undo d
@[simp] theorem leaves_free (s : State) (d : Dev) : (leaves s d).dev.free = d.free := by rw [leaves_dev]; exact settle_free d
@[simp] theorem leaves_hst_hspi (s : State) (d : Dev) : (leaves s d).dev.hst.hspi = d.hst.hspi := by rw [leaves_dev]; exact settle_hst_hspi d
@[simp] theorem leaves_hst_pcieGen (s : State) (d : Dev) : (leaves s d).dev.hst.pcieGen = d.hst.pcieGen := by rw [leaves_dev]; exact settle_hst_pcieGen d
@[simp] theorem leaves_hst_pcieWidth (s : State) (d : Dev) : (leaves s d).dev.hst.pcieWidth = d.hst.pcieWidth := by rw [leaves_dev]; exact settle_hst_pcieWidth d
@[simp] theorem leaves_hst_acp (s : State) (d : Dev) : (leaves s d).dev.hst.acp = d.hst.acp := by rw [leaves_dev]; exact settle_hst_acp d
@[simp] theorem leaves_hst_cmd (s : State) (d : Dev) : (leaves s d).dev.hst.cmd = d.hst.cmd := by rw [leaves_dev]; exact settle_hst_cmd d
@[simp] theorem leaves_hst_rsp (s : State) (d : Dev) : (leaves s d).dev.hst.rsp = d.hst.rsp := by rw [leaves_dev]; exact settle_hst_rsp d
@[simp] theorem leaves_hst_evt (s : State) (d : Dev) : (leaves s d).dev.hst.evt = d.hst.evt := by rw [leaves_dev]; exact settle_hst_evt d
@[simp] theorem leaves_hst_halted (s : State) (d : Dev) : (leaves s d).dev.hst.halted = d.hst.halted := by rw [leaves_dev]; exact settle_hst_halted d
@[simp] theorem leaves_hst_irq (s : State) (d : Dev) : (leaves s d).dev.hst.irq = d.hst.irq := by rw [leaves_dev]; exact settle_hst_irq d
@[simp] theorem leaves_hst_irqEn (s : State) (d : Dev) : (leaves s d).dev.hst.irqEn = d.hst.irqEn := by rw [leaves_dev]; exact settle_hst_irqEn d
@[simp] theorem leaves_hst_holdoff (s : State) (d : Dev) : (leaves s d).dev.hst.holdoff = d.hst.holdoff := by rw [leaves_dev]; exact settle_hst_holdoff d
@[simp] theorem leaves_hst_rspHeld (s : State) (d : Dev) : (leaves s d).dev.hst.rspHeld = d.hst.rspHeld := by rw [leaves_dev]; exact settle_hst_rspHeld d
@[simp] theorem leaves_hst_evtHeld (s : State) (d : Dev) : (leaves s d).dev.hst.evtHeld = d.hst.evtHeld := by rw [leaves_dev]; exact settle_hst_evtHeld d
@[simp] theorem leaves_hst_msiEn (s : State) (d : Dev) : (leaves s d).dev.hst.msiEn = d.hst.msiEn := by rw [leaves_dev]; exact settle_hst_msiEn d
@[simp] theorem leaves_hst_busMaster (s : State) (d : Dev) : (leaves s d).dev.hst.busMaster = d.hst.busMaster := by rw [leaves_dev]; exact settle_hst_busMaster d
@[simp] theorem leaves_hst_diagAddr (s : State) (d : Dev) : (leaves s d).dev.hst.diagAddr = d.hst.diagAddr := by rw [leaves_dev]; exact settle_hst_diagAddr d
@[simp] theorem leaves_hst_diagBusy (s : State) (d : Dev) : (leaves s d).dev.hst.diagBusy = d.hst.diagBusy := by rw [leaves_dev]; exact settle_hst_diagBusy d
@[simp] theorem leaves_hst_diagErr (s : State) (d : Dev) : (leaves s d).dev.hst.diagErr = d.hst.diagErr := by rw [leaves_dev]; exact settle_hst_diagErr d
@[simp] theorem leaves_hst_diagData (s : State) (d : Dev) : (leaves s d).dev.hst.diagData = d.hst.diagData := by rw [leaves_dev]; exact settle_hst_diagData d
@[simp] theorem leaves_hst_diagBad (s : State) (d : Dev) : (leaves s d).dev.hst.diagBad = d.hst.diagBad := by rw [leaves_dev]; exact settle_hst_diagBad d
@[simp] theorem leaves_hst_diagLatch (s : State) (d : Dev) : (leaves s d).dev.hst.diagLatch = d.hst.diagLatch := by rw [leaves_dev]; exact settle_hst_diagLatch d
@[simp] theorem leaves_hst_latch (s : State) (d : Dev) : (leaves s d).dev.hst.latch = d.hst.latch := by rw [leaves_dev]; exact settle_hst_latch d
@[simp] theorem leaves_hst_readData (s : State) (d : Dev) : (leaves s d).dev.hst.readData = d.hst.readData := by rw [leaves_dev]; exact settle_hst_readData d
@[simp] theorem leaves_hst_tags (s : State) (d : Dev) : (leaves s d).dev.hst.tags = d.hst.tags := by rw [leaves_dev]; exact settle_hst_tags d
@[simp] theorem leaves_hst_inflight (s : State) (d : Dev) : (leaves s d).dev.hst.inflight = d.hst.inflight := by rw [leaves_dev]; exact settle_hst_inflight d
@[simp] theorem leaves_hst_fetch (s : State) (d : Dev) : (leaves s d).dev.hst.fetch = d.hst.fetch := by rw [leaves_dev]; exact settle_hst_fetch d
@[simp] theorem leaves_hst_waitCmd (s : State) (d : Dev) : (leaves s d).dev.hst.waitCmd = d.hst.waitCmd := by rw [leaves_dev]; exact settle_hst_waitCmd d
@[simp] theorem leaves_hst_timed (s : State) (d : Dev) : (leaves s d).dev.hst.timed = d.hst.timed := by rw [leaves_dev]; exact settle_hst_timed d
@[simp] theorem leaves_hst_ord (s : State) (d : Dev) : (leaves s d).dev.hst.ord = d.hst.ord := by rw [leaves_dev]; exact settle_hst_ord d
@[simp] theorem leaves_hst_lastSet (s : State) (d : Dev) : (leaves s d).dev.hst.lastSet = d.hst.lastSet := by rw [leaves_dev]; exact settle_hst_lastSet d
@[simp] theorem leaves_hst_wait (s : State) (d : Dev) : (leaves s d).dev.hst.wait = d.hst.wait := by rw [leaves_dev]; exact settle_hst_wait d
@[simp] theorem leaves_hst_rbWait (s : State) (d : Dev) : (leaves s d).dev.hst.rbWait = d.hst.rbWait := by rw [leaves_dev]; exact settle_hst_rbWait d
@[simp] theorem leaves_hst_rspQ (s : State) (d : Dev) : (leaves s d).dev.hst.rspQ = d.hst.rspQ := by rw [leaves_dev]; exact settle_hst_rspQ d
@[simp] theorem leaves_hst_retained (s : State) (d : Dev) : (leaves s d).dev.hst.retained = d.hst.retained := by rw [leaves_dev]; exact settle_hst_retained d
@[simp] theorem leaves_hst_resetDue (s : State) (d : Dev) : (leaves s d).dev.hst.resetDue = d.hst.resetDue := by rw [leaves_dev]; exact settle_hst_resetDue d
@[simp] theorem leaves_pair_hbEn (s : State) (d : Dev) : (leaves s d).dev.pair.hbEn = d.pair.hbEn := by rw [leaves_dev]; exact settle_pair_hbEn d
@[simp] theorem leaves_pair_autoSplice (s : State) (d : Dev) : (leaves s d).dev.pair.autoSplice = d.pair.autoSplice := by rw [leaves_dev]; exact settle_pair_autoSplice d
@[simp] theorem leaves_pair_mode (s : State) (d : Dev) : (leaves s d).dev.pair.mode = d.pair.mode := by rw [leaves_dev]; exact settle_pair_mode d
@[simp] theorem leaves_pair_modeNext (s : State) (d : Dev) : (leaves s d).dev.pair.modeNext = d.pair.modeNext := by rw [leaves_dev]; exact settle_pair_modeNext d
@[simp] theorem leaves_pair_st (s : State) (d : Dev) : (leaves s d).dev.pair.st = d.pair.st := by rw [leaves_dev]; exact settle_pair_st d
@[simp] theorem leaves_pair_filter (s : State) (d : Dev) : (leaves s d).dev.pair.filter = d.pair.filter := by rw [leaves_dev]; exact settle_pair_filter d
@[simp] theorem leaves_pair_mmHold (s : State) (d : Dev) : (leaves s d).dev.pair.mmHold = d.pair.mmHold := by rw [leaves_dev]; exact settle_pair_mmHold d
@[simp] theorem leaves_pair_epoch (s : State) (d : Dev) : (leaves s d).dev.pair.epoch = d.pair.epoch := by rw [leaves_dev]; exact settle_pair_epoch d
@[simp] theorem leaves_pair_lastSealed (s : State) (d : Dev) : (leaves s d).dev.pair.lastSealed = d.pair.lastSealed := by rw [leaves_dev]; exact settle_pair_lastSealed d
@[simp] theorem leaves_pair_lastCommit (s : State) (d : Dev) : (leaves s d).dev.pair.lastCommit = d.pair.lastCommit := by rw [leaves_dev]; exact settle_pair_lastCommit d
@[simp] theorem leaves_pair_offset (s : State) (d : Dev) : (leaves s d).dev.pair.offset = d.pair.offset := by rw [leaves_dev]; exact settle_pair_offset d
@[simp] theorem leaves_pair_timeLimit (s : State) (d : Dev) : (leaves s d).dev.pair.timeLimit = d.pair.timeLimit := by rw [leaves_dev]; exact settle_pair_timeLimit d
@[simp] theorem leaves_pair_ctr (s : State) (d : Dev) : (leaves s d).dev.pair.ctr = d.pair.ctr := by rw [leaves_dev]; exact settle_pair_ctr d
@[simp] theorem leaves_pair_peerCrc (s : State) (d : Dev) : (leaves s d).dev.pair.peerCrc = d.pair.peerCrc := by rw [leaves_dev]; exact settle_pair_peerCrc d
@[simp] theorem leaves_pair_mm (s : State) (d : Dev) : (leaves s d).dev.pair.mm = d.pair.mm := by rw [leaves_dev]; exact settle_pair_mm d
@[simp] theorem leaves_pair_mmBlock (s : State) (d : Dev) : (leaves s d).dev.pair.mmBlock = d.pair.mmBlock := by rw [leaves_dev]; exact settle_pair_mmBlock d
@[simp] theorem leaves_pair_lastMm (s : State) (d : Dev) : (leaves s d).dev.pair.lastMm = d.pair.lastMm := by rw [leaves_dev]; exact settle_pair_lastMm d
@[simp] theorem leaves_pair_hb (s : State) (d : Dev) : (leaves s d).dev.pair.hb = d.pair.hb := by rw [leaves_dev]; exact settle_pair_hb d
@[simp] theorem leaves_pair_act (s : State) (d : Dev) : (leaves s d).dev.pair.act = d.pair.act := by rw [leaves_dev]; exact settle_pair_act d
@[simp] theorem leaves_pair_sample (s : State) (d : Dev) : (leaves s d).dev.pair.sample = d.pair.sample := by rw [leaves_dev]; exact settle_pair_sample d
@[simp] theorem leaves_pair_first (s : State) (d : Dev) : (leaves s d).dev.pair.first = d.pair.first := by rw [leaves_dev]; exact settle_pair_first d
@[simp] theorem leaves_pair_take (s : State) (d : Dev) : (leaves s d).dev.pair.take = d.pair.take := by rw [leaves_dev]; exact settle_pair_take d
@[simp] theorem leaves_pair_roleNext (s : State) (d : Dev) : (leaves s d).dev.pair.roleNext = d.pair.roleNext := by rw [leaves_dev]; exact settle_pair_roleNext d
@[simp] theorem leaves_pair_role (s : State) (d : Dev) : (leaves s d).dev.pair.role = d.pair.role := by rw [leaves_dev]; exact settle_pair_role d
@[simp] theorem leaves_pair_soloOn (s : State) (d : Dev) : (leaves s d).dev.pair.soloOn = d.pair.soloOn := by rw [leaves_dev]; exact settle_pair_soloOn d
@[simp] theorem leaves_pair_fadeIn (s : State) (d : Dev) : (leaves s d).dev.pair.fadeIn = d.pair.fadeIn := by rw [leaves_dev]; exact settle_pair_fadeIn d
@[simp] theorem leaves_pair_fullFrom (s : State) (d : Dev) : (leaves s d).dev.pair.fullFrom = d.pair.fullFrom := by rw [leaves_dev]; exact settle_pair_fullFrom d
@[simp] theorem leaves_pair_lanes (s : State) (d : Dev) : (leaves s d).dev.pair.lanes = d.pair.lanes := by rw [leaves_dev]; exact settle_pair_lanes d
@[simp] theorem leaves_pair_downTick (s : State) (d : Dev) : (leaves s d).dev.pair.downTick = d.pair.downTick := by rw [leaves_dev]; exact settle_pair_downTick d
@[simp] theorem leaves_pair_missed (s : State) (d : Dev) : (leaves s d).dev.pair.missed = d.pair.missed := by rw [leaves_dev]; exact settle_pair_missed d
@[simp] theorem leaves_pair_staleHeld (s : State) (d : Dev) : (leaves s d).dev.pair.staleHeld = d.pair.staleHeld := by rw [leaves_dev]; exact settle_pair_staleHeld d
@[simp] theorem leaves_pair_diverged (s : State) (d : Dev) : (leaves s d).dev.pair.diverged = d.pair.diverged := by rw [leaves_dev]; exact settle_pair_diverged d
@[simp] theorem leaves_pair_divRun (s : State) (d : Dev) : (leaves s d).dev.pair.divRun = d.pair.divRun := by rw [leaves_dev]; exact settle_pair_divRun d
@[simp] theorem leaves_pair_timeTx (s : State) (d : Dev) : (leaves s d).dev.pair.timeTx = d.pair.timeTx := by rw [leaves_dev]; exact settle_pair_timeTx d
@[simp] theorem leaves_pair_timeRx (s : State) (d : Dev) : (leaves s d).dev.pair.timeRx = d.pair.timeRx := by rw [leaves_dev]; exact settle_pair_timeRx d
@[simp] theorem leaves_pair_peerSt (s : State) (d : Dev) : (leaves s d).dev.pair.peerSt = d.pair.peerSt := by rw [leaves_dev]; exact settle_pair_peerSt d
@[simp] theorem leaves_pair_peerId (s : State) (d : Dev) : (leaves s d).dev.pair.peerId = d.pair.peerId := by rw [leaves_dev]; exact settle_pair_peerId d
@[simp] theorem leaves_pair_mmTick (s : State) (d : Dev) : (leaves s d).dev.pair.mmTick = d.pair.mmTick := by rw [leaves_dev]; exact settle_pair_mmTick d
@[simp] theorem leaves_pair_both (s : State) (d : Dev) : (leaves s d).dev.pair.both = d.pair.both := by rw [leaves_dev]; exact settle_pair_both d
@[simp] theorem leaves_pair_peerOk (s : State) (d : Dev) : (leaves s d).dev.pair.peerOk = d.pair.peerOk := by rw [leaves_dev]; exact settle_pair_peerOk d
@[simp] theorem leaves_pair_acked (s : State) (d : Dev) : (leaves s d).dev.pair.acked = d.pair.acked := by rw [leaves_dev]; exact settle_pair_acked d
@[simp] theorem leaves_pair_unacked (s : State) (d : Dev) : (leaves s d).dev.pair.unacked = d.pair.unacked := by rw [leaves_dev]; exact settle_pair_unacked d
@[simp] theorem leaves_pair_phase (s : State) (d : Dev) : (leaves s d).dev.pair.phase = d.pair.phase := by rw [leaves_dev]; exact settle_pair_phase d
@[simp] theorem leaves_pair_serving (s : State) (d : Dev) : (leaves s d).dev.pair.serving = d.pair.serving := by rw [leaves_dev]; exact settle_pair_serving d
@[simp] theorem leaves_pair_snap (s : State) (d : Dev) : (leaves s d).dev.pair.snap = d.pair.snap := by rw [leaves_dev]; exact settle_pair_snap d
@[simp] theorem leaves_pair_warmTick (s : State) (d : Dev) : (leaves s d).dev.pair.warmTick = d.pair.warmTick := by rw [leaves_dev]; exact settle_pair_warmTick d
@[simp] theorem leaves_pair_caughtUp (s : State) (d : Dev) : (leaves s d).dev.pair.caughtUp = d.pair.caughtUp := by rw [leaves_dev]; exact settle_pair_caughtUp d
@[simp] theorem leaves_pair_bulkBytes (s : State) (d : Dev) : (leaves s d).dev.pair.bulkBytes = d.pair.bulkBytes := by rw [leaves_dev]; exact settle_pair_bulkBytes d
@[simp] theorem leaves_pair_snapGot (s : State) (d : Dev) : (leaves s d).dev.pair.snapGot = d.pair.snapGot := by rw [leaves_dev]; exact settle_pair_snapGot d
@[simp] theorem leaves_pair_rcv (s : State) (d : Dev) : (leaves s d).dev.pair.rcv = d.pair.rcv := by rw [leaves_dev]; exact settle_pair_rcv d
@[simp] theorem leaves_pair_recBuf (s : State) (d : Dev) : (leaves s d).dev.pair.recBuf = d.pair.recBuf := by rw [leaves_dev]; exact settle_pair_recBuf d
@[simp] theorem leaves_pair_sawRec (s : State) (d : Dev) : (leaves s d).dev.pair.sawRec = d.pair.sawRec := by rw [leaves_dev]; exact settle_pair_sawRec d
@[simp] theorem leaves_pair_rejected (s : State) (d : Dev) : (leaves s d).dev.pair.rejected = d.pair.rejected := by rw [leaves_dev]; exact settle_pair_rejected d
@[simp] theorem leaves_pair_bulk (s : State) (d : Dev) : (leaves s d).dev.pair.bulk = d.pair.bulk := by rw [leaves_dev]; exact settle_pair_bulk d
@[simp] theorem leaves_pair_items (s : State) (d : Dev) : (leaves s d).dev.pair.items = d.pair.items := by rw [leaves_dev]; exact settle_pair_items d
@[simp] theorem leaves_pair_epochNew (s : State) (d : Dev) : (leaves s d).dev.pair.epochNew = d.pair.epochNew := by rw [leaves_dev]; exact settle_pair_epochNew d
@[simp] theorem leaves_pair_base (s : State) (d : Dev) : (leaves s d).dev.pair.base = d.pair.base := by rw [leaves_dev]; exact settle_pair_base d
@[simp] theorem leaves_pair_latched (s : State) (d : Dev) : (leaves s d).dev.pair.latched = d.pair.latched := by rw [leaves_dev]; exact settle_pair_latched d
@[simp] theorem leaves_pair_txSeq (s : State) (d : Dev) : (leaves s d).dev.pair.txSeq = d.pair.txSeq := by rw [leaves_dev]; exact settle_pair_txSeq d
@[simp] theorem leaves_pair_tx (s : State) (d : Dev) : (leaves s d).dev.pair.tx = d.pair.tx := by rw [leaves_dev]; exact settle_pair_tx d
@[simp] theorem leaves_pair_rxSeq (s : State) (d : Dev) : (leaves s d).dev.pair.rxSeq = d.pair.rxSeq := by rw [leaves_dev]; exact settle_pair_rxSeq d
@[simp] theorem leaves_pair_mmBits (s : State) (d : Dev) : (leaves s d).dev.pair.mmBits = d.pair.mmBits := by rw [leaves_dev]; exact settle_pair_mmBits d
@[simp] theorem leaves_pair_words (s : State) (d : Dev) : (leaves s d).dev.pair.words = d.pair.words := by rw [leaves_dev]; exact settle_pair_words d
@[simp] theorem leaves_pair_waitRec (s : State) (d : Dev) : (leaves s d).dev.pair.waitRec = d.pair.waitRec := by rw [leaves_dev]; exact settle_pair_waitRec d
@[simp] theorem leaves_pair_waitFaults (s : State) (d : Dev) : (leaves s d).dev.pair.waitFaults = d.pair.waitFaults := by rw [leaves_dev]; exact settle_pair_waitFaults d
@[simp] theorem leaves_hlt_ch (s : State) (d : Dev) : (leaves s d).dev.hlt.ch = d.hlt.ch := by rw [leaves_dev]; exact settle_hlt_ch d
@[simp] theorem leaves_hlt_log (s : State) (d : Dev) : (leaves s d).dev.hlt.log = d.hlt.log := by rw [leaves_dev]; exact settle_hlt_log d
@[simp] theorem leaves_hlt_logWr (s : State) (d : Dev) : (leaves s d).dev.hlt.logWr = d.hlt.logWr := by rw [leaves_dev]; exact settle_hlt_logWr d
@[simp] theorem leaves_hlt_wrapped (s : State) (d : Dev) : (leaves s d).dev.hlt.wrapped = d.hlt.wrapped := by rw [leaves_dev]; exact settle_hlt_wrapped d
@[simp] theorem leaves_hlt_auto (s : State) (d : Dev) : (leaves s d).dev.hlt.auto = d.hlt.auto := by rw [leaves_dev]; exact settle_hlt_auto d
@[simp] theorem leaves_hlt_prove (s : State) (d : Dev) : (leaves s d).dev.hlt.prove = d.hlt.prove := by rw [leaves_dev]; exact settle_hlt_prove d
@[simp] theorem leaves_hlt_sweepBusy (s : State) (d : Dev) : (leaves s d).dev.hlt.sweepBusy = d.hlt.sweepBusy := by rw [leaves_dev]; exact settle_hlt_sweepBusy d
@[simp] theorem leaves_hlt_noBirth (s : State) (d : Dev) : (leaves s d).dev.hlt.noBirth = d.hlt.noBirth := by rw [leaves_dev]; exact settle_hlt_noBirth d
@[simp] theorem leaves_hlt_ring (s : State) (d : Dev) : (leaves s d).dev.hlt.ring = d.hlt.ring := by rw [leaves_dev]; exact settle_hlt_ring d
@[simp] theorem leaves_hlt_arbMask (s : State) (d : Dev) : (leaves s d).dev.hlt.arbMask = d.hlt.arbMask := by rw [leaves_dev]; exact settle_hlt_arbMask d
@[simp] theorem leaves_hlt_period (s : State) (d : Dev) : (leaves s d).dev.hlt.period = d.hlt.period := by rw [leaves_dev]; exact settle_hlt_period d
@[simp] theorem leaves_hlt_guard (s : State) (d : Dev) : (leaves s d).dev.hlt.guard = d.hlt.guard := by rw [leaves_dev]; exact settle_hlt_guard d
@[simp] theorem leaves_hlt_marginWarn (s : State) (d : Dev) : (leaves s d).dev.hlt.marginWarn = d.hlt.marginWarn := by rw [leaves_dev]; exact settle_hlt_marginWarn d
@[simp] theorem leaves_hlt_sweeps (s : State) (d : Dev) : (leaves s d).dev.hlt.sweeps = d.hlt.sweeps := by rw [leaves_dev]; exact settle_hlt_sweeps d
@[simp] theorem leaves_hlt_replans (s : State) (d : Dev) : (leaves s d).dev.hlt.replans = d.hlt.replans := by rw [leaves_dev]; exact settle_hlt_replans d
@[simp] theorem leaves_hlt_ringN (s : State) (d : Dev) : (leaves s d).dev.hlt.ringN = d.hlt.ringN := by rw [leaves_dev]; exact settle_hlt_ringN d
@[simp] theorem leaves_hlt_ringR (s : State) (d : Dev) : (leaves s d).dev.hlt.ringR = d.hlt.ringR := by rw [leaves_dev]; exact settle_hlt_ringR d
@[simp] theorem leaves_hlt_isl (s : State) (d : Dev) : (leaves s d).dev.hlt.isl = d.hlt.isl := by rw [leaves_dev]; exact settle_hlt_isl d
@[simp] theorem leaves_hlt_objectsShed (s : State) (d : Dev) : (leaves s d).dev.hlt.objectsShed = d.hlt.objectsShed := by rw [leaves_dev]; exact settle_hlt_objectsShed d
@[simp] theorem leaves_hlt_servoBad (s : State) (d : Dev) : (leaves s d).dev.hlt.servoBad = d.hlt.servoBad := by rw [leaves_dev]; exact settle_hlt_servoBad d
@[simp] theorem leaves_hlt_proving (s : State) (d : Dev) : (leaves s d).dev.hlt.proving = d.hlt.proving := by rw [leaves_dev]; exact settle_hlt_proving d
@[simp] theorem leaves_pending (s : State) (d : Dev) : (leaves s d).pending = s.pending := rfl

/-- A plain command whose body accepts and awaits nothing answers OK. -/
theorem answers_plain {s : State} {r : AcpReq} {own : Bytes} (h : Plain s r own) (c : Cmd) (i : Instr) (d : Dev) (p : Bytes)
    (hi : exec i s = run true (acpTake c r) s)
    (hb : c.body (plainCtx c.op s.dev r []) own (taken s.dev r) = { st := 0, data := p, dev := d, defer := none })
    (hs : d.pair.st = .off) (hq : d.hst.rspQ = s.dev.hst.rspQ) (P : State → Prop) (hP : P (leaves s (answered d c.op r 0 p))) :
    Answers i c.op r s p P :=
  ⟨_, hi.trans (plain_done h c d p hb hs), by simp [hq], hP⟩

theorem leaves_mbox (s : State) (d : Dev) (h : d.mboxClear = false) : (leaves s d).mbox = s.mbox := by simp [leaves, h]

/-! ## Frames -/

/-- What a meaning leaves, beside its device. -/
theorem frame_leaves {w : List Part} {s : State} {d : Dev} (hm : d.mboxClear = s.dev.mboxClear) (h0 : s.dev.mboxClear = false)
    (h : ∀ p, p ∉ w → p.same s { s with dev := d }) : Frame w s (leaves s d) := by
  refine ⟨rfl, fun p hp => ?_⟩
  have hq := h p hp
  obtain ⟨_, _, _, _, _, _, _, _, e⟩ := settle_eq d
  cases p <;> first
    | (simp only [Part.same, leaves_dev, e] at hq ⊢; exact hq)
    | (simp only [Part.same]; rw [leaves_mbox s d (hm.trans h0)]; simp)

/-- Answering changes no kind of state. -/
theorem same_answered {s : State} {d : Dev} {op : Nat} {r : AcpReq} {st : Nat} {p : Bytes} {k : Part}
    (h : k.same s { s with dev := d }) : k.same s { s with dev := answered d op r st p } := by
  cases k <;> exact h


end Sys2Proof.Machine
end

