-- ==== Sys2Proof/Laws/Memory.lean ====
section
/-! SUPPORT. Mailbox SRAM: every operation keeps the canonical form, a read after a write gives the value written, and a write leaves
every other byte alone. -/

namespace Sys2Proof.Machine

/-! ## One byte -/

theorem Memory.wfFrom_mono {lo lo' : Nat} (m : List Host.Cell) (h : lo' ≤ lo) (w : Memory.wfFrom lo m = true) : Memory.wfFrom lo' m = true := by
  cases m with
  | nil => rfl
  | cons x r =>
    obtain ⟨a, b⟩ := x
    simp only [Memory.wfFrom, Bool.and_eq_true, decide_eq_true_eq] at w ⊢
    exact ⟨⟨⟨h.trans w.1.1.1, w.1.1.2⟩, w.1.2⟩, w.2⟩

/-- No address below the first one is listed. -/
theorem Memory.get_below {lo k : Nat} (m : List Host.Cell) (w : Memory.wfFrom lo m = true) (h : k < lo) : Memory.get m k = 0 := by
  induction m generalizing lo with
  | nil => rfl
  | cons x r ih =>
    obtain ⟨a, b⟩ := x
    simp only [Memory.wfFrom, Bool.and_eq_true, decide_eq_true_eq] at w
    simp only [Memory.get]
    rw [if_neg (by omega)]
    exact ih w.2 (by omega)

theorem Memory.wfFrom_put {lo k : Nat} (m : List Host.Cell) (v : Byte) (h : lo ≤ k) (hk : k < 0x100000) (w : Memory.wfFrom lo m = true) :
    Memory.wfFrom lo (Memory.put m k v) = true := by
  induction m generalizing lo with
  | nil =>
    simp only [Memory.put]
    split
    · rfl
    · simp_all [Memory.wfFrom]
  | cons x r ih =>
    obtain ⟨a, b⟩ := x
    simp only [Memory.wfFrom, Bool.and_eq_true, decide_eq_true_eq] at w
    simp only [Memory.put]
    split
    · simp only [Memory.wfFrom, Bool.and_eq_true, decide_eq_true_eq]
      exact ⟨w.1, ih (by omega) w.2⟩
    · split
      · split
        · exact Memory.wfFrom_mono r (by omega) w.2
        · subst_vars
          simp_all [Memory.wfFrom]
      · split
        · simp_all [Memory.wfFrom]
        · simp only [Memory.wfFrom, Bool.and_eq_true, decide_eq_true_eq]
          exact ⟨⟨⟨h, hk⟩, ‹_›⟩, ⟨⟨⟨by omega, w.1.1.2⟩, w.1.2⟩, w.2⟩⟩

theorem Memory.get_put_self {lo k : Nat} (m : List Host.Cell) (v : Byte) (w : Memory.wfFrom lo m = true) : Memory.get (Memory.put m k v) k = v := by
  induction m generalizing lo with
  | nil =>
    simp only [Memory.put]
    split
    · simp_all [Memory.get]
    · simp [Memory.get]
  | cons x r ih =>
    obtain ⟨a, b⟩ := x
    simp only [Memory.wfFrom, Bool.and_eq_true, decide_eq_true_eq] at w
    simp only [Memory.put]
    split
    · simp only [Memory.get]
      rw [if_neg (by omega)]
      exact ih w.2
    · split
      · split
        · subst_vars
          exact Memory.get_below r w.2 (by omega)
        · simp [Memory.get]
      · split
        · subst_vars
          simp only [Memory.get]
          rw [if_neg (by omega)]
          exact Memory.get_below r w.2 (by omega)
        · simp [Memory.get]

theorem Memory.get_put_other {k j : Nat} (m : List Host.Cell) (v : Byte) (h : j ≠ k) : Memory.get (Memory.put m k v) j = Memory.get m j := by
  induction m with
  | nil =>
    simp only [Memory.put]
    split
    · rfl
    · simp [Memory.get, Ne.symm h]
  | cons x r ih =>
    obtain ⟨a, b⟩ := x
    simp only [Memory.put]
    split
    · simp only [Memory.get]
      rw [ih]
    · split
      · subst_vars
        split <;> simp [Memory.get, Ne.symm h]
      · split <;> simp [Memory.get, Ne.symm h]

theorem Memory.wf_set (m : List Host.Cell) (k : Nat) (v : Byte) (w : Memory.wf m = true) : Memory.wf (Memory.set m k v) = true := by
  simp only [Memory.set]
  split
  · exact Memory.wfFrom_put m v (Nat.zero_le k) ‹_› w
  · exact w

theorem Memory.get_set_self (m : List Host.Cell) (k : Nat) (v : Byte) (w : Memory.wf m = true) (h : k < 0x100000) :
    Memory.get (Memory.set m k v) k = v := by
  rw [Memory.set, if_pos h]
  exact Memory.get_put_self m v w

theorem Memory.get_set_other {k j : Nat} (m : List Host.Cell) (v : Byte) (h : j ≠ k) : Memory.get (Memory.set m k v) j = Memory.get m j := by
  simp only [Memory.set]
  split
  · exact Memory.get_put_other m v h
  · rfl

/-! ## Byte strings -/

theorem Memory.wf_write (m : List Host.Cell) (a : Nat) (b : Bytes) (w : Memory.wf m = true) : Memory.wf (Memory.write m a b) = true := by
  induction b generalizing m a with
  | nil => exact w
  | cons x r ih => exact ih _ _ (Memory.wf_set m a x w)

theorem Memory.get_write_other (m : List Host.Cell) (a k : Nat) (b : Bytes) (h : k < a ∨ a + b.length ≤ k) :
    Memory.get (Memory.write m a b) k = Memory.get m k := by
  induction b generalizing m a with
  | nil => rfl
  | cons x r ih =>
    simp only [List.length_cons] at h
    rw [Memory.write, ih _ _ (by omega), Memory.get_set_other _ _ (by omega)]

theorem Memory.read_write (m : List Host.Cell) (a : Nat) (b : Bytes) (w : Memory.wf m = true) (h : a + b.length ≤ 0x100000) :
    Memory.read (Memory.write m a b) a b.length = b := by
  induction b generalizing m a with
  | nil => rfl
  | cons x r ih =>
    simp only [List.length_cons] at h
    simp only [List.length_cons, Memory.read, Memory.write]
    rw [ih _ _ (Memory.wf_set m a x w) (by omega), Memory.get_write_other _ _ _ _ (Or.inl (by omega)), Memory.get_set_self _ _ _ w (by omega)]

/-! ## Rings -/

theorem Memory.wf_ringWrite (base size o : Nat) (m : List Host.Cell) (b : Bytes) (w : Memory.wf m = true) :
    Memory.wf (Memory.ringWrite base size m o b) = true := by
  induction b generalizing m o with
  | nil => exact w
  | cons x r ih => exact ih _ _ (Memory.wf_set m _ x w)

theorem Memory.get_ringWrite_other (base size o k : Nat) (m : List Host.Cell) (b : Bytes) (h : ∀ i, i < b.length → k ≠ base + (o + i) % size) :
    Memory.get (Memory.ringWrite base size m o b) k = Memory.get m k := by
  induction b generalizing m o with
  | nil => rfl
  | cons x r ih =>
    rw [Memory.ringWrite, ih _ _ (fun i hi => by have := h (i + 1) (by simp; omega); rwa [show o + (i + 1) = o + 1 + i by omega] at this)]
    exact Memory.get_set_other _ _ (by simpa using h 0 (by simp))

/-- Two offsets less than a ring's size apart lie at different bytes. -/
theorem ring_apart {size o i : Nat} (h0 : 0 < i) (h : i < size) : o % size ≠ (o + i) % size := by
  intro he
  have h1 := Nat.div_add_mod o size
  have h2 := Nat.div_add_mod (o + i) size
  have h3 : size * ((o + i) / size) = size * (o / size) + i := by omega
  have h4 : i = size * ((o + i) / size - o / size) := by rw [Nat.mul_sub]; omega
  rcases Nat.eq_zero_or_pos ((o + i) / size - o / size) with h5 | h5
  · rw [h5] at h4; omega
  · have := Nat.le_mul_of_pos_right size h5
    omega

theorem Memory.ringRead_ringWrite (base size o : Nat) (m : List Host.Cell) (b : Bytes) (w : Memory.wf m = true) (hs : b.length ≤ size)
    (hb : base + size ≤ 0x100000) : Memory.ringRead (Memory.ringWrite base size m o b) base size o b.length = b := by
  induction b generalizing m o with
  | nil => rfl
  | cons x r ih =>
    simp only [List.length_cons] at hs
    have hm : o % size < size := Nat.mod_lt _ (by omega)
    simp only [List.length_cons, Memory.ringRead, Memory.ringWrite]
    rw [ih _ _ (Memory.wf_set m _ x w) (by omega)]
    rw [Memory.get_ringWrite_other _ _ _ _ _ _ (fun i hi he => ring_apart (size := size) (o := o) (i := i + 1) (by omega) (by omega)
      (by rw [show o + (i + 1) = o + 1 + i by omega]; omega)), Memory.get_set_self _ _ _ w (by omega)]

end Sys2Proof.Machine
end

