-- ==== Sys2Proof/Laws/Exec.lean ====
section
/-! SUPPORT. What every meaning does around its own effect: one that does not stop settles the device, and what it leaves meets the
invariant of Safety; and the smallest frames. -/

namespace Sys2Proof.Machine

/-- Settling drives IRQ_N from the pending set (14 R381). -/
theorem settle_irqN (d : Dev) : (settle d).hst.irqN = !((settle d).hst.irq &&& (settle d).hst.irqEn != 0) := by
  unfold settle; rfl

/-- Settling drives INTA from the pending set (14 R381). -/
theorem settle_inta (d : Dev) : (settle d).hst.inta =
    (((settle d).hst.irq &&& (settle d).hst.irqEn != 0) && !(settle d).hst.hspi && !(settle d).hst.msiEn) := by
  unfold settle; rfl

/-- Settling holds ARB_FLT high before READY (log 3). -/
theorem settle_flt_boot (d : Dev) (h : d.boot.st ≠ .ready) : (settle d).pair.flt = true := by
  have hb : (settle d).boot.st ≠ .ready := by simpa using h
  unfold settle at hb ⊢
  dsimp only [Dev.driveIrq] at hb ⊢
  unfold Dev.arbFlt
  split
  · rfl
  · next hc => exact absurd (by simpa using hc) hb

theorem bne_pos (x : BitVec 6) : (x != 0) = decide (x ≠ 0) := by by_cases h : x = 0#6 <;> simp [h, bne, BEq.beq]

theorem bne_zero (x : BitVec 6) : (!(x != 0)) = decide (x = 0) := by rw [bne_pos]; simp

/-- What a meaning leaves meets the invariant, where the memory it leaves is canonical. -/
theorem inv_leaves (d : Dev) (m : List Host.Cell) (q : List Instr) (h : Memory.wf m = true) :
    ({ dev := { settle d with mboxClear := false }, mbox := if (settle d).mboxClear then [] else m, pending := q } : State).Inv where
  canonical := by dsimp only; split; · rfl
                  · exact h
  irqN := by dsimp only; rw [settle_irqN]; exact bne_zero _
  inta := by dsimp only; rw [settle_inta, bne_pos]
  fault := fun hb => settle_flt_boot d (by simpa using hb)
  calm := rfl

/-- A meaning of the device alone keeps the invariant. -/
theorem run_inv {ok : Bool} {f : Dev → Dev} {s t : State} (h : run ok f s = .next t) (hs : Memory.wf s.mbox = true) : t.Inv := by
  unfold run at h
  split at h
  · injection h with h; subst h; exact inv_leaves _ _ _ hs
  · cases h

/-- A meaning that also writes the mailbox SRAM keeps the invariant, where its writes keep the memory's form. -/
theorem runM_inv {ok : Bool} {f : Dev → List Host.Cell → Dev × List Host.Cell} {s t : State} (h : runM ok f s = .next t)
    (hf : Memory.wf (f s.dev s.mbox).2 = true) : t.Inv := by
  unfold runM at h
  split at h
  · injection h with h; subst h; exact inv_leaves _ _ _ hf
  · cases h

/-- A meaning of the device alone leaves the queue of commands. -/
theorem run_pending {ok : Bool} {f : Dev → Dev} {s t : State} (h : run ok f s = .next t) : t.pending = s.pending := by
  unfold run at h
  split at h
  · injection h with h; subst h; rfl
  · cases h

/-- A meaning that also writes the mailbox SRAM leaves the queue of commands. -/
theorem runM_pending {ok : Bool} {f : Dev → List Host.Cell → Dev × List Host.Cell} {s t : State} (h : runM ok f s = .next t) :
    t.pending = s.pending := by
  unfold runM at h
  split at h
  · injection h with h; subst h; rfl
  · cases h

/-- Where the units a command names exist, its meaning completes. -/
theorem run_completes (f : Dev → Dev) (s : State) : ∃ t, run true f s = .next t := ⟨_, rfl⟩

/-- Where the units a command names exist, its meaning completes. -/
theorem runM_completes (f : Dev → List Host.Cell → Dev × List Host.Cell) (s : State) : ∃ t, runM true f s = .next t := ⟨_, rfl⟩

/-- A step with a command in front runs it on the rest of the queue. -/
theorem step_cons (s : State) (c : Instr) (q : List Instr) (h : s.pending = c :: q) : step s = exec c { s with pending := q } := by
  unfold step; rw [h]

/-- A step of an empty queue idles. -/
theorem step_nil (s : State) (h : s.pending = []) : step s = .next s := by unfold step; rw [h]

/-- A state is framed by itself. -/
theorem frame_self (w : List Part) (s : State) : Frame w s s := ⟨rfl, fun p _ => by cases p <;> simp [Part.same]⟩

end Sys2Proof.Machine
end

