-- ==== Sys2Proof/Laws/Tbl.lean ====
section
/-! SUPPORT. Reading a sparse table after it is written. -/

namespace Sys2Proof.Machine

variable {α : Type}

theorem tget_tdel_self (d : α) (t : Tbl α) (k : Nat) : tget d (tdel t k) k = d := by
  induction t with
  | nil => rfl
  | cons x r ih =>
    obtain ⟨j, v⟩ := x
    by_cases h : j = k <;> simp [tdel, tget, h, ih]

theorem tget_tdel_other (d : α) (t : Tbl α) {k j : Nat} (h : j ≠ k) : tget d (tdel t k) j = tget d t j := by
  induction t with
  | nil => rfl
  | cons x r ih =>
    obtain ⟨i, v⟩ := x
    by_cases hi : i = k
    · subst hi; simp [tdel, tget, ih, Ne.symm h]
    · by_cases hj : i = j <;> simp [tdel, tget, hi, hj, ih]
      all_goals (subst hj; simp [tget, hi])

theorem tget_tins_self (d : α) (t : Tbl α) (k : Nat) (v : α) : tget d (tins t k v) k = v := by
  induction t with
  | nil => simp [tins, tget]
  | cons x r ih =>
    obtain ⟨j, w⟩ := x
    by_cases h : j < k
    · simp [tins, tget, h, ih, Nat.ne_of_lt h]
    · simp [tins, tget, h]

theorem tget_tins_other (d : α) (t : Tbl α) {k j : Nat} (v : α) (h : j ≠ k) : tget d (tins t k v) j = tget d t j := by
  induction t with
  | nil => simp [tins, tget, Ne.symm h]
  | cons x r ih =>
    obtain ⟨i, w⟩ := x
    by_cases hi : i < k
    · by_cases hj : i = j <;> simp [tins, tget, hi, hj, ih]
      all_goals (subst hj; simp [tget, hi])
    · by_cases hj : i = j <;> simp [tins, tget, hi, Ne.symm h]

/-- A key just written reads what was written. -/
@[simp] theorem tget_tput_self [DecidableEq α] (d : α) (t : Tbl α) (k : Nat) (v : α) : tget d (tput d t k v) k = v := by
  unfold tput; split
  · next h => rw [tget_tdel_self, h]
  · exact tget_tins_self _ _ _ _

/-- Writing one key leaves the others. -/
theorem tget_tput_other [DecidableEq α] (d : α) (t : Tbl α) {k j : Nat} (v : α) (h : j ≠ k) : tget d (tput d t k v) j = tget d t j := by
  unfold tput; split
  · exact tget_tdel_other _ _ h
  · rw [tget_tins_other _ _ _ h, tget_tdel_other _ _ h]

/-- Writing one key leaves the others, whichever value each of the two keys reads when unlisted. -/
theorem tget_tput_apart [DecidableEq α] (d e : α) (t : Tbl α) {k j : Nat} (v : α) (h : j ≠ k) : tget d (tput e t k v) j = tget d t j := by
  unfold tput; split
  · exact tget_tdel_other _ _ h
  · rw [tget_tins_other _ _ _ h, tget_tdel_other _ _ h]

/-- A write to one key is read at that key alone. -/
theorem tget_tput [DecidableEq α] (d : α) (t : Tbl α) (k j : Nat) (v : α) : tget d (tput d t k v) j = if j = k then v else tget d t j := by
  split
  · next h => subst h; exact tget_tput_self _ _ _ _
  · next h => exact tget_tput_other _ _ _ h

end Sys2Proof.Machine
end

