-- ==== Sys2Proof/Laws/State.lean ====
section
/-! SUPPORT. What each update of one element of the state changes, and what it leaves: one lemma per field of the device and update, and
the element read back. -/

namespace Sys2Proof.Machine

/-! Dev.setIrq -/

@[simp] theorem Dev.setIrq_tim (d : Dev) (b : Nat) : (d.setIrq b).tim = d.tim := rfl
@[simp] theorem Dev.setIrq_trj (d : Dev) (b : Nat) : (d.setIrq b).trj = d.trj := rfl
@[simp] theorem Dev.setIrq_flt (d : Dev) (b : Nat) : (d.setIrq b).flt = d.flt := rfl
@[simp] theorem Dev.setIrq_law (d : Dev) (b : Nat) : (d.setIrq b).law = d.law := rfl
@[simp] theorem Dev.setIrq_sch (d : Dev) (b : Nat) : (d.setIrq b).sch = d.sch := rfl
@[simp] theorem Dev.setIrq_rnd (d : Dev) (b : Nat) : (d.setIrq b).rnd = d.rnd := rfl
@[simp] theorem Dev.setIrq_cnv (d : Dev) (b : Nat) : (d.setIrq b).cnv = d.cnv := rfl
@[simp] theorem Dev.setIrq_out (d : Dev) (b : Nat) : (d.setIrq b).out = d.out := rfl
@[simp] theorem Dev.setIrq_net (d : Dev) (b : Nat) : (d.setIrq b).net = d.net := rfl
@[simp] theorem Dev.setIrq_str (d : Dev) (b : Nat) : (d.setIrq b).str = d.str := rfl
@[simp] theorem Dev.setIrq_sap (d : Dev) (b : Nat) : (d.setIrq b).sap = d.sap := rfl
@[simp] theorem Dev.setIrq_scb (d : Dev) (b : Nat) : (d.setIrq b).scb = d.scb := rfl
@[simp] theorem Dev.setIrq_drc (d : Dev) (b : Nat) : (d.setIrq b).drc = d.drc := rfl
@[simp] theorem Dev.setIrq_pair (d : Dev) (b : Nat) : (d.setIrq b).pair = d.pair := rfl
@[simp] theorem Dev.setIrq_hlt (d : Dev) (b : Nat) : (d.setIrq b).hlt = d.hlt := rfl
@[simp] theorem Dev.setIrq_pwr (d : Dev) (b : Nat) : (d.setIrq b).pwr = d.pwr := rfl
@[simp] theorem Dev.setIrq_boot (d : Dev) (b : Nat) : (d.setIrq b).boot = d.boot := rfl
@[simp] theorem Dev.setIrq_store (d : Dev) (b : Nat) : (d.setIrq b).store = d.store := rfl
@[simp] theorem Dev.setIrq_units (d : Dev) (b : Nat) : (d.setIrq b).units = d.units := rfl
@[simp] theorem Dev.setIrq_runs (d : Dev) (b : Nat) : (d.setIrq b).runs = d.runs := rfl
@[simp] theorem Dev.setIrq_rate (d : Dev) (b : Nat) : (d.setIrq b).rate = d.rate := rfl
@[simp] theorem Dev.setIrq_undo (d : Dev) (b : Nat) : (d.setIrq b).undo = d.undo := rfl
@[simp] theorem Dev.setIrq_free (d : Dev) (b : Nat) : (d.setIrq b).free = d.free := rfl
@[simp] theorem Dev.setIrq_mboxClear (d : Dev) (b : Nat) : (d.setIrq b).mboxClear = d.mboxClear := rfl

/-! Dev.setUnit -/

@[simp] theorem Dev.setUnit_tim (d : Dev) (k i : Nat) (u : FUnit) : (d.setUnit k i u).tim = d.tim := rfl
@[simp] theorem Dev.setUnit_trj (d : Dev) (k i : Nat) (u : FUnit) : (d.setUnit k i u).trj = d.trj := rfl
@[simp] theorem Dev.setUnit_flt (d : Dev) (k i : Nat) (u : FUnit) : (d.setUnit k i u).flt = d.flt := rfl
@[simp] theorem Dev.setUnit_law (d : Dev) (k i : Nat) (u : FUnit) : (d.setUnit k i u).law = d.law := rfl
@[simp] theorem Dev.setUnit_sch (d : Dev) (k i : Nat) (u : FUnit) : (d.setUnit k i u).sch = d.sch := rfl
@[simp] theorem Dev.setUnit_rnd (d : Dev) (k i : Nat) (u : FUnit) : (d.setUnit k i u).rnd = d.rnd := rfl
@[simp] theorem Dev.setUnit_cnv (d : Dev) (k i : Nat) (u : FUnit) : (d.setUnit k i u).cnv = d.cnv := rfl
@[simp] theorem Dev.setUnit_out (d : Dev) (k i : Nat) (u : FUnit) : (d.setUnit k i u).out = d.out := rfl
@[simp] theorem Dev.setUnit_net (d : Dev) (k i : Nat) (u : FUnit) : (d.setUnit k i u).net = d.net := rfl
@[simp] theorem Dev.setUnit_str (d : Dev) (k i : Nat) (u : FUnit) : (d.setUnit k i u).str = d.str := rfl
@[simp] theorem Dev.setUnit_sap (d : Dev) (k i : Nat) (u : FUnit) : (d.setUnit k i u).sap = d.sap := rfl
@[simp] theorem Dev.setUnit_scb (d : Dev) (k i : Nat) (u : FUnit) : (d.setUnit k i u).scb = d.scb := rfl
@[simp] theorem Dev.setUnit_drc (d : Dev) (k i : Nat) (u : FUnit) : (d.setUnit k i u).drc = d.drc := rfl
@[simp] theorem Dev.setUnit_hst (d : Dev) (k i : Nat) (u : FUnit) : (d.setUnit k i u).hst = d.hst := rfl
@[simp] theorem Dev.setUnit_pair (d : Dev) (k i : Nat) (u : FUnit) : (d.setUnit k i u).pair = d.pair := rfl
@[simp] theorem Dev.setUnit_hlt (d : Dev) (k i : Nat) (u : FUnit) : (d.setUnit k i u).hlt = d.hlt := rfl
@[simp] theorem Dev.setUnit_pwr (d : Dev) (k i : Nat) (u : FUnit) : (d.setUnit k i u).pwr = d.pwr := rfl
@[simp] theorem Dev.setUnit_boot (d : Dev) (k i : Nat) (u : FUnit) : (d.setUnit k i u).boot = d.boot := rfl
@[simp] theorem Dev.setUnit_store (d : Dev) (k i : Nat) (u : FUnit) : (d.setUnit k i u).store = d.store := rfl
@[simp] theorem Dev.setUnit_runs (d : Dev) (k i : Nat) (u : FUnit) : (d.setUnit k i u).runs = d.runs := rfl
@[simp] theorem Dev.setUnit_rate (d : Dev) (k i : Nat) (u : FUnit) : (d.setUnit k i u).rate = d.rate := rfl
@[simp] theorem Dev.setUnit_undo (d : Dev) (k i : Nat) (u : FUnit) : (d.setUnit k i u).undo = d.undo := rfl
@[simp] theorem Dev.setUnit_free (d : Dev) (k i : Nat) (u : FUnit) : (d.setUnit k i u).free = d.free := rfl
@[simp] theorem Dev.setUnit_mboxClear (d : Dev) (k i : Nat) (u : FUnit) : (d.setUnit k i u).mboxClear = d.mboxClear := rfl
@[simp] theorem Dev.setUnit_unit (d : Dev) (k i : Nat) (u : FUnit) : (d.setUnit k i u).unit k i = u := tget_tput_self _ _ _ _
theorem Dev.setUnit_unit_other (d : Dev) {k i k' i' : Nat} (u : FUnit) (h : 4096 * k' + i' ≠ 4096 * k + i) :
    (d.setUnit k i u).unit k' i' = d.unit k' i' := tget_tput_other _ _ _ h

/-! Dev.setEng -/

@[simp] theorem Dev.setEng_tim (d : Dev) (e : Nat) (x : LawEng) : (d.setEng e x).tim = d.tim := rfl
@[simp] theorem Dev.setEng_trj (d : Dev) (e : Nat) (x : LawEng) : (d.setEng e x).trj = d.trj := rfl
@[simp] theorem Dev.setEng_flt (d : Dev) (e : Nat) (x : LawEng) : (d.setEng e x).flt = d.flt := rfl
@[simp] theorem Dev.setEng_sch (d : Dev) (e : Nat) (x : LawEng) : (d.setEng e x).sch = d.sch := rfl
@[simp] theorem Dev.setEng_rnd (d : Dev) (e : Nat) (x : LawEng) : (d.setEng e x).rnd = d.rnd := rfl
@[simp] theorem Dev.setEng_cnv (d : Dev) (e : Nat) (x : LawEng) : (d.setEng e x).cnv = d.cnv := rfl
@[simp] theorem Dev.setEng_out (d : Dev) (e : Nat) (x : LawEng) : (d.setEng e x).out = d.out := rfl
@[simp] theorem Dev.setEng_net (d : Dev) (e : Nat) (x : LawEng) : (d.setEng e x).net = d.net := rfl
@[simp] theorem Dev.setEng_str (d : Dev) (e : Nat) (x : LawEng) : (d.setEng e x).str = d.str := rfl
@[simp] theorem Dev.setEng_sap (d : Dev) (e : Nat) (x : LawEng) : (d.setEng e x).sap = d.sap := rfl
@[simp] theorem Dev.setEng_scb (d : Dev) (e : Nat) (x : LawEng) : (d.setEng e x).scb = d.scb := rfl
@[simp] theorem Dev.setEng_drc (d : Dev) (e : Nat) (x : LawEng) : (d.setEng e x).drc = d.drc := rfl
@[simp] theorem Dev.setEng_hst (d : Dev) (e : Nat) (x : LawEng) : (d.setEng e x).hst = d.hst := rfl
@[simp] theorem Dev.setEng_pair (d : Dev) (e : Nat) (x : LawEng) : (d.setEng e x).pair = d.pair := rfl
@[simp] theorem Dev.setEng_hlt (d : Dev) (e : Nat) (x : LawEng) : (d.setEng e x).hlt = d.hlt := rfl
@[simp] theorem Dev.setEng_pwr (d : Dev) (e : Nat) (x : LawEng) : (d.setEng e x).pwr = d.pwr := rfl
@[simp] theorem Dev.setEng_boot (d : Dev) (e : Nat) (x : LawEng) : (d.setEng e x).boot = d.boot := rfl
@[simp] theorem Dev.setEng_store (d : Dev) (e : Nat) (x : LawEng) : (d.setEng e x).store = d.store := rfl
@[simp] theorem Dev.setEng_units (d : Dev) (e : Nat) (x : LawEng) : (d.setEng e x).units = d.units := rfl
@[simp] theorem Dev.setEng_runs (d : Dev) (e : Nat) (x : LawEng) : (d.setEng e x).runs = d.runs := rfl
@[simp] theorem Dev.setEng_rate (d : Dev) (e : Nat) (x : LawEng) : (d.setEng e x).rate = d.rate := rfl
@[simp] theorem Dev.setEng_undo (d : Dev) (e : Nat) (x : LawEng) : (d.setEng e x).undo = d.undo := rfl
@[simp] theorem Dev.setEng_free (d : Dev) (e : Nat) (x : LawEng) : (d.setEng e x).free = d.free := rfl
@[simp] theorem Dev.setEng_mboxClear (d : Dev) (e : Nat) (x : LawEng) : (d.setEng e x).mboxClear = d.mboxClear := rfl
@[simp] theorem Dev.setEng_eng (d : Dev) (e : Nat) (x : LawEng) : (d.setEng e x).eng e = x := tget_tput_self _ _ _ _
theorem Dev.setEng_eng_other (d : Dev) {i j : Nat} (x : LawEng) (h : j ≠ i) : (d.setEng i x).eng j = d.eng j := tget_tput_other _ _ _ h

/-! Dev.setLane -/

@[simp] theorem Dev.setLane_tim (d : Dev) (p : Nat) (l : Lane) : (d.setLane p l).tim = d.tim := rfl
@[simp] theorem Dev.setLane_trj (d : Dev) (p : Nat) (l : Lane) : (d.setLane p l).trj = d.trj := rfl
@[simp] theorem Dev.setLane_flt (d : Dev) (p : Nat) (l : Lane) : (d.setLane p l).flt = d.flt := rfl
@[simp] theorem Dev.setLane_law (d : Dev) (p : Nat) (l : Lane) : (d.setLane p l).law = d.law := rfl
@[simp] theorem Dev.setLane_sch (d : Dev) (p : Nat) (l : Lane) : (d.setLane p l).sch = d.sch := rfl
@[simp] theorem Dev.setLane_cnv (d : Dev) (p : Nat) (l : Lane) : (d.setLane p l).cnv = d.cnv := rfl
@[simp] theorem Dev.setLane_out (d : Dev) (p : Nat) (l : Lane) : (d.setLane p l).out = d.out := rfl
@[simp] theorem Dev.setLane_net (d : Dev) (p : Nat) (l : Lane) : (d.setLane p l).net = d.net := rfl
@[simp] theorem Dev.setLane_str (d : Dev) (p : Nat) (l : Lane) : (d.setLane p l).str = d.str := rfl
@[simp] theorem Dev.setLane_sap (d : Dev) (p : Nat) (l : Lane) : (d.setLane p l).sap = d.sap := rfl
@[simp] theorem Dev.setLane_scb (d : Dev) (p : Nat) (l : Lane) : (d.setLane p l).scb = d.scb := rfl
@[simp] theorem Dev.setLane_drc (d : Dev) (p : Nat) (l : Lane) : (d.setLane p l).drc = d.drc := rfl
@[simp] theorem Dev.setLane_hst (d : Dev) (p : Nat) (l : Lane) : (d.setLane p l).hst = d.hst := rfl
@[simp] theorem Dev.setLane_pair (d : Dev) (p : Nat) (l : Lane) : (d.setLane p l).pair = d.pair := rfl
@[simp] theorem Dev.setLane_hlt (d : Dev) (p : Nat) (l : Lane) : (d.setLane p l).hlt = d.hlt := rfl
@[simp] theorem Dev.setLane_pwr (d : Dev) (p : Nat) (l : Lane) : (d.setLane p l).pwr = d.pwr := rfl
@[simp] theorem Dev.setLane_boot (d : Dev) (p : Nat) (l : Lane) : (d.setLane p l).boot = d.boot := rfl
@[simp] theorem Dev.setLane_store (d : Dev) (p : Nat) (l : Lane) : (d.setLane p l).store = d.store := rfl
@[simp] theorem Dev.setLane_units (d : Dev) (p : Nat) (l : Lane) : (d.setLane p l).units = d.units := rfl
@[simp] theorem Dev.setLane_runs (d : Dev) (p : Nat) (l : Lane) : (d.setLane p l).runs = d.runs := rfl
@[simp] theorem Dev.setLane_rate (d : Dev) (p : Nat) (l : Lane) : (d.setLane p l).rate = d.rate := rfl
@[simp] theorem Dev.setLane_undo (d : Dev) (p : Nat) (l : Lane) : (d.setLane p l).undo = d.undo := rfl
@[simp] theorem Dev.setLane_free (d : Dev) (p : Nat) (l : Lane) : (d.setLane p l).free = d.free := rfl
@[simp] theorem Dev.setLane_mboxClear (d : Dev) (p : Nat) (l : Lane) : (d.setLane p l).mboxClear = d.mboxClear := rfl
@[simp] theorem Dev.setLane_lane (d : Dev) (p : Nat) (l : Lane) : (d.setLane p l).lane p = l := tget_tput_self _ _ _ _
theorem Dev.setLane_lane_other (d : Dev) {i j : Nat} (x : Lane) (h : j ≠ i) : (d.setLane i x).lane j = d.lane j := tget_tput_apart _ _ _ _ h

/-! Dev.setBank -/

@[simp] theorem Dev.setBank_tim (d : Dev) (n : Nat) (b : SBank) : (d.setBank n b).tim = d.tim := rfl
@[simp] theorem Dev.setBank_trj (d : Dev) (n : Nat) (b : SBank) : (d.setBank n b).trj = d.trj := rfl
@[simp] theorem Dev.setBank_flt (d : Dev) (n : Nat) (b : SBank) : (d.setBank n b).flt = d.flt := rfl
@[simp] theorem Dev.setBank_law (d : Dev) (n : Nat) (b : SBank) : (d.setBank n b).law = d.law := rfl
@[simp] theorem Dev.setBank_sch (d : Dev) (n : Nat) (b : SBank) : (d.setBank n b).sch = d.sch := rfl
@[simp] theorem Dev.setBank_rnd (d : Dev) (n : Nat) (b : SBank) : (d.setBank n b).rnd = d.rnd := rfl
@[simp] theorem Dev.setBank_cnv (d : Dev) (n : Nat) (b : SBank) : (d.setBank n b).cnv = d.cnv := rfl
@[simp] theorem Dev.setBank_out (d : Dev) (n : Nat) (b : SBank) : (d.setBank n b).out = d.out := rfl
@[simp] theorem Dev.setBank_net (d : Dev) (n : Nat) (b : SBank) : (d.setBank n b).net = d.net := rfl
@[simp] theorem Dev.setBank_str (d : Dev) (n : Nat) (b : SBank) : (d.setBank n b).str = d.str := rfl
@[simp] theorem Dev.setBank_sap (d : Dev) (n : Nat) (b : SBank) : (d.setBank n b).sap = d.sap := rfl
@[simp] theorem Dev.setBank_drc (d : Dev) (n : Nat) (b : SBank) : (d.setBank n b).drc = d.drc := rfl
@[simp] theorem Dev.setBank_hst (d : Dev) (n : Nat) (b : SBank) : (d.setBank n b).hst = d.hst := rfl
@[simp] theorem Dev.setBank_pair (d : Dev) (n : Nat) (b : SBank) : (d.setBank n b).pair = d.pair := rfl
@[simp] theorem Dev.setBank_hlt (d : Dev) (n : Nat) (b : SBank) : (d.setBank n b).hlt = d.hlt := rfl
@[simp] theorem Dev.setBank_pwr (d : Dev) (n : Nat) (b : SBank) : (d.setBank n b).pwr = d.pwr := rfl
@[simp] theorem Dev.setBank_boot (d : Dev) (n : Nat) (b : SBank) : (d.setBank n b).boot = d.boot := rfl
@[simp] theorem Dev.setBank_store (d : Dev) (n : Nat) (b : SBank) : (d.setBank n b).store = d.store := rfl
@[simp] theorem Dev.setBank_units (d : Dev) (n : Nat) (b : SBank) : (d.setBank n b).units = d.units := rfl
@[simp] theorem Dev.setBank_runs (d : Dev) (n : Nat) (b : SBank) : (d.setBank n b).runs = d.runs := rfl
@[simp] theorem Dev.setBank_rate (d : Dev) (n : Nat) (b : SBank) : (d.setBank n b).rate = d.rate := rfl
@[simp] theorem Dev.setBank_undo (d : Dev) (n : Nat) (b : SBank) : (d.setBank n b).undo = d.undo := rfl
@[simp] theorem Dev.setBank_free (d : Dev) (n : Nat) (b : SBank) : (d.setBank n b).free = d.free := rfl
@[simp] theorem Dev.setBank_mboxClear (d : Dev) (n : Nat) (b : SBank) : (d.setBank n b).mboxClear = d.mboxClear := rfl
@[simp] theorem Dev.setBank_bank (d : Dev) (n : Nat) (b : SBank) : (d.setBank n b).bank n = b := tget_tput_self _ _ _ _
theorem Dev.setBank_bank_other (d : Dev) {i j : Nat} (x : SBank) (h : j ≠ i) : (d.setBank i x).bank j = d.bank j := tget_tput_other _ _ _ h

/-! Dev.setObj -/

@[simp] theorem Dev.setObj_tim (d : Dev) (o : Nat) (x : Obj) : (d.setObj o x).tim = d.tim := rfl
@[simp] theorem Dev.setObj_flt (d : Dev) (o : Nat) (x : Obj) : (d.setObj o x).flt = d.flt := rfl
@[simp] theorem Dev.setObj_law (d : Dev) (o : Nat) (x : Obj) : (d.setObj o x).law = d.law := rfl
@[simp] theorem Dev.setObj_sch (d : Dev) (o : Nat) (x : Obj) : (d.setObj o x).sch = d.sch := rfl
@[simp] theorem Dev.setObj_rnd (d : Dev) (o : Nat) (x : Obj) : (d.setObj o x).rnd = d.rnd := rfl
@[simp] theorem Dev.setObj_cnv (d : Dev) (o : Nat) (x : Obj) : (d.setObj o x).cnv = d.cnv := rfl
@[simp] theorem Dev.setObj_out (d : Dev) (o : Nat) (x : Obj) : (d.setObj o x).out = d.out := rfl
@[simp] theorem Dev.setObj_net (d : Dev) (o : Nat) (x : Obj) : (d.setObj o x).net = d.net := rfl
@[simp] theorem Dev.setObj_str (d : Dev) (o : Nat) (x : Obj) : (d.setObj o x).str = d.str := rfl
@[simp] theorem Dev.setObj_sap (d : Dev) (o : Nat) (x : Obj) : (d.setObj o x).sap = d.sap := rfl
@[simp] theorem Dev.setObj_scb (d : Dev) (o : Nat) (x : Obj) : (d.setObj o x).scb = d.scb := rfl
@[simp] theorem Dev.setObj_drc (d : Dev) (o : Nat) (x : Obj) : (d.setObj o x).drc = d.drc := rfl
@[simp] theorem Dev.setObj_hst (d : Dev) (o : Nat) (x : Obj) : (d.setObj o x).hst = d.hst := rfl
@[simp] theorem Dev.setObj_pair (d : Dev) (o : Nat) (x : Obj) : (d.setObj o x).pair = d.pair := rfl
@[simp] theorem Dev.setObj_hlt (d : Dev) (o : Nat) (x : Obj) : (d.setObj o x).hlt = d.hlt := rfl
@[simp] theorem Dev.setObj_pwr (d : Dev) (o : Nat) (x : Obj) : (d.setObj o x).pwr = d.pwr := rfl
@[simp] theorem Dev.setObj_boot (d : Dev) (o : Nat) (x : Obj) : (d.setObj o x).boot = d.boot := rfl
@[simp] theorem Dev.setObj_store (d : Dev) (o : Nat) (x : Obj) : (d.setObj o x).store = d.store := rfl
@[simp] theorem Dev.setObj_units (d : Dev) (o : Nat) (x : Obj) : (d.setObj o x).units = d.units := rfl
@[simp] theorem Dev.setObj_runs (d : Dev) (o : Nat) (x : Obj) : (d.setObj o x).runs = d.runs := rfl
@[simp] theorem Dev.setObj_rate (d : Dev) (o : Nat) (x : Obj) : (d.setObj o x).rate = d.rate := rfl
@[simp] theorem Dev.setObj_undo (d : Dev) (o : Nat) (x : Obj) : (d.setObj o x).undo = d.undo := rfl
@[simp] theorem Dev.setObj_free (d : Dev) (o : Nat) (x : Obj) : (d.setObj o x).free = d.free := rfl
@[simp] theorem Dev.setObj_mboxClear (d : Dev) (o : Nat) (x : Obj) : (d.setObj o x).mboxClear = d.mboxClear := rfl
@[simp] theorem Dev.setObj_obj (d : Dev) (o : Nat) (x : Obj) : (d.setObj o x).obj o = x := tget_tput_self _ _ _ _
theorem Dev.setObj_obj_other (d : Dev) {i j : Nat} (x : Obj) (h : j ≠ i) : (d.setObj i x).obj j = d.obj j := tget_tput_other _ _ _ h

/-! Dev.setSlot -/

@[simp] theorem Dev.setSlot_trj (d : Dev) (m : Nat) (x : Slot) : (d.setSlot m x).trj = d.trj := rfl
@[simp] theorem Dev.setSlot_flt (d : Dev) (m : Nat) (x : Slot) : (d.setSlot m x).flt = d.flt := rfl
@[simp] theorem Dev.setSlot_law (d : Dev) (m : Nat) (x : Slot) : (d.setSlot m x).law = d.law := rfl
@[simp] theorem Dev.setSlot_sch (d : Dev) (m : Nat) (x : Slot) : (d.setSlot m x).sch = d.sch := rfl
@[simp] theorem Dev.setSlot_rnd (d : Dev) (m : Nat) (x : Slot) : (d.setSlot m x).rnd = d.rnd := rfl
@[simp] theorem Dev.setSlot_cnv (d : Dev) (m : Nat) (x : Slot) : (d.setSlot m x).cnv = d.cnv := rfl
@[simp] theorem Dev.setSlot_out (d : Dev) (m : Nat) (x : Slot) : (d.setSlot m x).out = d.out := rfl
@[simp] theorem Dev.setSlot_net (d : Dev) (m : Nat) (x : Slot) : (d.setSlot m x).net = d.net := rfl
@[simp] theorem Dev.setSlot_str (d : Dev) (m : Nat) (x : Slot) : (d.setSlot m x).str = d.str := rfl
@[simp] theorem Dev.setSlot_sap (d : Dev) (m : Nat) (x : Slot) : (d.setSlot m x).sap = d.sap := rfl
@[simp] theorem Dev.setSlot_scb (d : Dev) (m : Nat) (x : Slot) : (d.setSlot m x).scb = d.scb := rfl
@[simp] theorem Dev.setSlot_drc (d : Dev) (m : Nat) (x : Slot) : (d.setSlot m x).drc = d.drc := rfl
@[simp] theorem Dev.setSlot_hst (d : Dev) (m : Nat) (x : Slot) : (d.setSlot m x).hst = d.hst := rfl
@[simp] theorem Dev.setSlot_pair (d : Dev) (m : Nat) (x : Slot) : (d.setSlot m x).pair = d.pair := rfl
@[simp] theorem Dev.setSlot_hlt (d : Dev) (m : Nat) (x : Slot) : (d.setSlot m x).hlt = d.hlt := rfl
@[simp] theorem Dev.setSlot_pwr (d : Dev) (m : Nat) (x : Slot) : (d.setSlot m x).pwr = d.pwr := rfl
@[simp] theorem Dev.setSlot_boot (d : Dev) (m : Nat) (x : Slot) : (d.setSlot m x).boot = d.boot := rfl
@[simp] theorem Dev.setSlot_store (d : Dev) (m : Nat) (x : Slot) : (d.setSlot m x).store = d.store := rfl
@[simp] theorem Dev.setSlot_units (d : Dev) (m : Nat) (x : Slot) : (d.setSlot m x).units = d.units := rfl
@[simp] theorem Dev.setSlot_runs (d : Dev) (m : Nat) (x : Slot) : (d.setSlot m x).runs = d.runs := rfl
@[simp] theorem Dev.setSlot_rate (d : Dev) (m : Nat) (x : Slot) : (d.setSlot m x).rate = d.rate := rfl
@[simp] theorem Dev.setSlot_undo (d : Dev) (m : Nat) (x : Slot) : (d.setSlot m x).undo = d.undo := rfl
@[simp] theorem Dev.setSlot_free (d : Dev) (m : Nat) (x : Slot) : (d.setSlot m x).free = d.free := rfl
@[simp] theorem Dev.setSlot_mboxClear (d : Dev) (m : Nat) (x : Slot) : (d.setSlot m x).mboxClear = d.mboxClear := rfl
@[simp] theorem Dev.setSlot_slot (d : Dev) (m : Nat) (x : Slot) : (d.setSlot m x).slot m = x := tget_tput_self _ _ _ _
theorem Dev.setSlot_slot_other (d : Dev) {i j : Nat} (x : Slot) (h : j ≠ i) : (d.setSlot i x).slot j = d.slot j := tget_tput_other _ _ _ h

/-! Dev.setPort -/

@[simp] theorem Dev.setPort_tim (d : Dev) (p : Nat) (x : Port) : (d.setPort p x).tim = d.tim := rfl
@[simp] theorem Dev.setPort_trj (d : Dev) (p : Nat) (x : Port) : (d.setPort p x).trj = d.trj := rfl
@[simp] theorem Dev.setPort_flt (d : Dev) (p : Nat) (x : Port) : (d.setPort p x).flt = d.flt := rfl
@[simp] theorem Dev.setPort_law (d : Dev) (p : Nat) (x : Port) : (d.setPort p x).law = d.law := rfl
@[simp] theorem Dev.setPort_sch (d : Dev) (p : Nat) (x : Port) : (d.setPort p x).sch = d.sch := rfl
@[simp] theorem Dev.setPort_rnd (d : Dev) (p : Nat) (x : Port) : (d.setPort p x).rnd = d.rnd := rfl
@[simp] theorem Dev.setPort_cnv (d : Dev) (p : Nat) (x : Port) : (d.setPort p x).cnv = d.cnv := rfl
@[simp] theorem Dev.setPort_out (d : Dev) (p : Nat) (x : Port) : (d.setPort p x).out = d.out := rfl
@[simp] theorem Dev.setPort_str (d : Dev) (p : Nat) (x : Port) : (d.setPort p x).str = d.str := rfl
@[simp] theorem Dev.setPort_sap (d : Dev) (p : Nat) (x : Port) : (d.setPort p x).sap = d.sap := rfl
@[simp] theorem Dev.setPort_scb (d : Dev) (p : Nat) (x : Port) : (d.setPort p x).scb = d.scb := rfl
@[simp] theorem Dev.setPort_drc (d : Dev) (p : Nat) (x : Port) : (d.setPort p x).drc = d.drc := rfl
@[simp] theorem Dev.setPort_hst (d : Dev) (p : Nat) (x : Port) : (d.setPort p x).hst = d.hst := rfl
@[simp] theorem Dev.setPort_pair (d : Dev) (p : Nat) (x : Port) : (d.setPort p x).pair = d.pair := rfl
@[simp] theorem Dev.setPort_hlt (d : Dev) (p : Nat) (x : Port) : (d.setPort p x).hlt = d.hlt := rfl
@[simp] theorem Dev.setPort_pwr (d : Dev) (p : Nat) (x : Port) : (d.setPort p x).pwr = d.pwr := rfl
@[simp] theorem Dev.setPort_boot (d : Dev) (p : Nat) (x : Port) : (d.setPort p x).boot = d.boot := rfl
@[simp] theorem Dev.setPort_store (d : Dev) (p : Nat) (x : Port) : (d.setPort p x).store = d.store := rfl
@[simp] theorem Dev.setPort_units (d : Dev) (p : Nat) (x : Port) : (d.setPort p x).units = d.units := rfl
@[simp] theorem Dev.setPort_runs (d : Dev) (p : Nat) (x : Port) : (d.setPort p x).runs = d.runs := rfl
@[simp] theorem Dev.setPort_rate (d : Dev) (p : Nat) (x : Port) : (d.setPort p x).rate = d.rate := rfl
@[simp] theorem Dev.setPort_undo (d : Dev) (p : Nat) (x : Port) : (d.setPort p x).undo = d.undo := rfl
@[simp] theorem Dev.setPort_free (d : Dev) (p : Nat) (x : Port) : (d.setPort p x).free = d.free := rfl
@[simp] theorem Dev.setPort_mboxClear (d : Dev) (p : Nat) (x : Port) : (d.setPort p x).mboxClear = d.mboxClear := rfl
@[simp] theorem Dev.setPort_port (d : Dev) (p : Nat) (x : Port) : (d.setPort p x).port p = x := tget_tput_self _ _ _ _
theorem Dev.setPort_port_other (d : Dev) {i j : Nat} (x : Port) (h : j ≠ i) : (d.setPort i x).port j = d.port j := tget_tput_other _ _ _ h

/-! Dev.setOut -/

@[simp] theorem Dev.setOut_tim (d : Dev) (s : Nat) (o : OutCh) : (d.setOut s o).tim = d.tim := rfl
@[simp] theorem Dev.setOut_trj (d : Dev) (s : Nat) (o : OutCh) : (d.setOut s o).trj = d.trj := rfl
@[simp] theorem Dev.setOut_flt (d : Dev) (s : Nat) (o : OutCh) : (d.setOut s o).flt = d.flt := rfl
@[simp] theorem Dev.setOut_law (d : Dev) (s : Nat) (o : OutCh) : (d.setOut s o).law = d.law := rfl
@[simp] theorem Dev.setOut_sch (d : Dev) (s : Nat) (o : OutCh) : (d.setOut s o).sch = d.sch := rfl
@[simp] theorem Dev.setOut_rnd (d : Dev) (s : Nat) (o : OutCh) : (d.setOut s o).rnd = d.rnd := rfl
@[simp] theorem Dev.setOut_cnv (d : Dev) (s : Nat) (o : OutCh) : (d.setOut s o).cnv = d.cnv := rfl
@[simp] theorem Dev.setOut_net (d : Dev) (s : Nat) (o : OutCh) : (d.setOut s o).net = d.net := rfl
@[simp] theorem Dev.setOut_str (d : Dev) (s : Nat) (o : OutCh) : (d.setOut s o).str = d.str := rfl
@[simp] theorem Dev.setOut_sap (d : Dev) (s : Nat) (o : OutCh) : (d.setOut s o).sap = d.sap := rfl
@[simp] theorem Dev.setOut_scb (d : Dev) (s : Nat) (o : OutCh) : (d.setOut s o).scb = d.scb := rfl
@[simp] theorem Dev.setOut_drc (d : Dev) (s : Nat) (o : OutCh) : (d.setOut s o).drc = d.drc := rfl
@[simp] theorem Dev.setOut_hst (d : Dev) (s : Nat) (o : OutCh) : (d.setOut s o).hst = d.hst := rfl
@[simp] theorem Dev.setOut_pair (d : Dev) (s : Nat) (o : OutCh) : (d.setOut s o).pair = d.pair := rfl
@[simp] theorem Dev.setOut_hlt (d : Dev) (s : Nat) (o : OutCh) : (d.setOut s o).hlt = d.hlt := rfl
@[simp] theorem Dev.setOut_pwr (d : Dev) (s : Nat) (o : OutCh) : (d.setOut s o).pwr = d.pwr := rfl
@[simp] theorem Dev.setOut_boot (d : Dev) (s : Nat) (o : OutCh) : (d.setOut s o).boot = d.boot := rfl
@[simp] theorem Dev.setOut_store (d : Dev) (s : Nat) (o : OutCh) : (d.setOut s o).store = d.store := rfl
@[simp] theorem Dev.setOut_units (d : Dev) (s : Nat) (o : OutCh) : (d.setOut s o).units = d.units := rfl
@[simp] theorem Dev.setOut_runs (d : Dev) (s : Nat) (o : OutCh) : (d.setOut s o).runs = d.runs := rfl
@[simp] theorem Dev.setOut_rate (d : Dev) (s : Nat) (o : OutCh) : (d.setOut s o).rate = d.rate := rfl
@[simp] theorem Dev.setOut_undo (d : Dev) (s : Nat) (o : OutCh) : (d.setOut s o).undo = d.undo := rfl
@[simp] theorem Dev.setOut_free (d : Dev) (s : Nat) (o : OutCh) : (d.setOut s o).free = d.free := rfl
@[simp] theorem Dev.setOut_mboxClear (d : Dev) (s : Nat) (o : OutCh) : (d.setOut s o).mboxClear = d.mboxClear := rfl
@[simp] theorem Dev.setOut_outCh (d : Dev) (s : Nat) (o : OutCh) : (d.setOut s o).outCh s = o := tget_tput_self _ _ _ _
theorem Dev.setOut_outCh_other (d : Dev) {i j : Nat} (x : OutCh) (h : j ≠ i) : (d.setOut i x).outCh j = d.outCh j := tget_tput_other _ _ _ h

/-! Dev.setCnvo -/

@[simp] theorem Dev.setCnvo_tim (d : Dev) (s : Nat) (o : CnvOut) : (d.setCnvo s o).tim = d.tim := rfl
@[simp] theorem Dev.setCnvo_trj (d : Dev) (s : Nat) (o : CnvOut) : (d.setCnvo s o).trj = d.trj := rfl
@[simp] theorem Dev.setCnvo_flt (d : Dev) (s : Nat) (o : CnvOut) : (d.setCnvo s o).flt = d.flt := rfl
@[simp] theorem Dev.setCnvo_law (d : Dev) (s : Nat) (o : CnvOut) : (d.setCnvo s o).law = d.law := rfl
@[simp] theorem Dev.setCnvo_sch (d : Dev) (s : Nat) (o : CnvOut) : (d.setCnvo s o).sch = d.sch := rfl
@[simp] theorem Dev.setCnvo_rnd (d : Dev) (s : Nat) (o : CnvOut) : (d.setCnvo s o).rnd = d.rnd := rfl
@[simp] theorem Dev.setCnvo_out (d : Dev) (s : Nat) (o : CnvOut) : (d.setCnvo s o).out = d.out := rfl
@[simp] theorem Dev.setCnvo_net (d : Dev) (s : Nat) (o : CnvOut) : (d.setCnvo s o).net = d.net := rfl
@[simp] theorem Dev.setCnvo_str (d : Dev) (s : Nat) (o : CnvOut) : (d.setCnvo s o).str = d.str := rfl
@[simp] theorem Dev.setCnvo_sap (d : Dev) (s : Nat) (o : CnvOut) : (d.setCnvo s o).sap = d.sap := rfl
@[simp] theorem Dev.setCnvo_scb (d : Dev) (s : Nat) (o : CnvOut) : (d.setCnvo s o).scb = d.scb := rfl
@[simp] theorem Dev.setCnvo_drc (d : Dev) (s : Nat) (o : CnvOut) : (d.setCnvo s o).drc = d.drc := rfl
@[simp] theorem Dev.setCnvo_hst (d : Dev) (s : Nat) (o : CnvOut) : (d.setCnvo s o).hst = d.hst := rfl
@[simp] theorem Dev.setCnvo_pair (d : Dev) (s : Nat) (o : CnvOut) : (d.setCnvo s o).pair = d.pair := rfl
@[simp] theorem Dev.setCnvo_hlt (d : Dev) (s : Nat) (o : CnvOut) : (d.setCnvo s o).hlt = d.hlt := rfl
@[simp] theorem Dev.setCnvo_pwr (d : Dev) (s : Nat) (o : CnvOut) : (d.setCnvo s o).pwr = d.pwr := rfl
@[simp] theorem Dev.setCnvo_boot (d : Dev) (s : Nat) (o : CnvOut) : (d.setCnvo s o).boot = d.boot := rfl
@[simp] theorem Dev.setCnvo_store (d : Dev) (s : Nat) (o : CnvOut) : (d.setCnvo s o).store = d.store := rfl
@[simp] theorem Dev.setCnvo_units (d : Dev) (s : Nat) (o : CnvOut) : (d.setCnvo s o).units = d.units := rfl
@[simp] theorem Dev.setCnvo_runs (d : Dev) (s : Nat) (o : CnvOut) : (d.setCnvo s o).runs = d.runs := rfl
@[simp] theorem Dev.setCnvo_rate (d : Dev) (s : Nat) (o : CnvOut) : (d.setCnvo s o).rate = d.rate := rfl
@[simp] theorem Dev.setCnvo_undo (d : Dev) (s : Nat) (o : CnvOut) : (d.setCnvo s o).undo = d.undo := rfl
@[simp] theorem Dev.setCnvo_free (d : Dev) (s : Nat) (o : CnvOut) : (d.setCnvo s o).free = d.free := rfl
@[simp] theorem Dev.setCnvo_mboxClear (d : Dev) (s : Nat) (o : CnvOut) : (d.setCnvo s o).mboxClear = d.mboxClear := rfl
@[simp] theorem Dev.setCnvo_cnvo (d : Dev) (s : Nat) (o : CnvOut) : (d.setCnvo s o).cnvo s = o := tget_tput_self _ _ _ _
theorem Dev.setCnvo_cnvo_other (d : Dev) {i j : Nat} (x : CnvOut) (h : j ≠ i) : (d.setCnvo i x).cnvo j = d.cnvo j := tget_tput_other _ _ _ h

/-! Dev.setFe -/

@[simp] theorem Dev.setFe_tim (d : Dev) (e : Nat) (x : Fe) : (d.setFe e x).tim = d.tim := rfl
@[simp] theorem Dev.setFe_trj (d : Dev) (e : Nat) (x : Fe) : (d.setFe e x).trj = d.trj := rfl
@[simp] theorem Dev.setFe_law (d : Dev) (e : Nat) (x : Fe) : (d.setFe e x).law = d.law := rfl
@[simp] theorem Dev.setFe_sch (d : Dev) (e : Nat) (x : Fe) : (d.setFe e x).sch = d.sch := rfl
@[simp] theorem Dev.setFe_rnd (d : Dev) (e : Nat) (x : Fe) : (d.setFe e x).rnd = d.rnd := rfl
@[simp] theorem Dev.setFe_cnv (d : Dev) (e : Nat) (x : Fe) : (d.setFe e x).cnv = d.cnv := rfl
@[simp] theorem Dev.setFe_out (d : Dev) (e : Nat) (x : Fe) : (d.setFe e x).out = d.out := rfl
@[simp] theorem Dev.setFe_net (d : Dev) (e : Nat) (x : Fe) : (d.setFe e x).net = d.net := rfl
@[simp] theorem Dev.setFe_str (d : Dev) (e : Nat) (x : Fe) : (d.setFe e x).str = d.str := rfl
@[simp] theorem Dev.setFe_sap (d : Dev) (e : Nat) (x : Fe) : (d.setFe e x).sap = d.sap := rfl
@[simp] theorem Dev.setFe_scb (d : Dev) (e : Nat) (x : Fe) : (d.setFe e x).scb = d.scb := rfl
@[simp] theorem Dev.setFe_drc (d : Dev) (e : Nat) (x : Fe) : (d.setFe e x).drc = d.drc := rfl
@[simp] theorem Dev.setFe_hst (d : Dev) (e : Nat) (x : Fe) : (d.setFe e x).hst = d.hst := rfl
@[simp] theorem Dev.setFe_pair (d : Dev) (e : Nat) (x : Fe) : (d.setFe e x).pair = d.pair := rfl
@[simp] theorem Dev.setFe_hlt (d : Dev) (e : Nat) (x : Fe) : (d.setFe e x).hlt = d.hlt := rfl
@[simp] theorem Dev.setFe_pwr (d : Dev) (e : Nat) (x : Fe) : (d.setFe e x).pwr = d.pwr := rfl
@[simp] theorem Dev.setFe_boot (d : Dev) (e : Nat) (x : Fe) : (d.setFe e x).boot = d.boot := rfl
@[simp] theorem Dev.setFe_store (d : Dev) (e : Nat) (x : Fe) : (d.setFe e x).store = d.store := rfl
@[simp] theorem Dev.setFe_units (d : Dev) (e : Nat) (x : Fe) : (d.setFe e x).units = d.units := rfl
@[simp] theorem Dev.setFe_runs (d : Dev) (e : Nat) (x : Fe) : (d.setFe e x).runs = d.runs := rfl
@[simp] theorem Dev.setFe_rate (d : Dev) (e : Nat) (x : Fe) : (d.setFe e x).rate = d.rate := rfl
@[simp] theorem Dev.setFe_undo (d : Dev) (e : Nat) (x : Fe) : (d.setFe e x).undo = d.undo := rfl
@[simp] theorem Dev.setFe_free (d : Dev) (e : Nat) (x : Fe) : (d.setFe e x).free = d.free := rfl
@[simp] theorem Dev.setFe_mboxClear (d : Dev) (e : Nat) (x : Fe) : (d.setFe e x).mboxClear = d.mboxClear := rfl
@[simp] theorem Dev.setFe_fe (d : Dev) (e : Nat) (x : Fe) : (d.setFe e x).fe e = x := tget_tput_self _ _ _ _
theorem Dev.setFe_fe_other (d : Dev) {i j : Nat} (x : Fe) (h : j ≠ i) : (d.setFe i x).fe j = d.fe j := tget_tput_apart _ _ _ _ h

/-! Dev.setTone -/

@[simp] theorem Dev.setTone_tim (d : Dev) (t : Nat) (x : Tone) : (d.setTone t x).tim = d.tim := rfl
@[simp] theorem Dev.setTone_trj (d : Dev) (t : Nat) (x : Tone) : (d.setTone t x).trj = d.trj := rfl
@[simp] theorem Dev.setTone_law (d : Dev) (t : Nat) (x : Tone) : (d.setTone t x).law = d.law := rfl
@[simp] theorem Dev.setTone_sch (d : Dev) (t : Nat) (x : Tone) : (d.setTone t x).sch = d.sch := rfl
@[simp] theorem Dev.setTone_rnd (d : Dev) (t : Nat) (x : Tone) : (d.setTone t x).rnd = d.rnd := rfl
@[simp] theorem Dev.setTone_cnv (d : Dev) (t : Nat) (x : Tone) : (d.setTone t x).cnv = d.cnv := rfl
@[simp] theorem Dev.setTone_out (d : Dev) (t : Nat) (x : Tone) : (d.setTone t x).out = d.out := rfl
@[simp] theorem Dev.setTone_net (d : Dev) (t : Nat) (x : Tone) : (d.setTone t x).net = d.net := rfl
@[simp] theorem Dev.setTone_str (d : Dev) (t : Nat) (x : Tone) : (d.setTone t x).str = d.str := rfl
@[simp] theorem Dev.setTone_sap (d : Dev) (t : Nat) (x : Tone) : (d.setTone t x).sap = d.sap := rfl
@[simp] theorem Dev.setTone_scb (d : Dev) (t : Nat) (x : Tone) : (d.setTone t x).scb = d.scb := rfl
@[simp] theorem Dev.setTone_drc (d : Dev) (t : Nat) (x : Tone) : (d.setTone t x).drc = d.drc := rfl
@[simp] theorem Dev.setTone_hst (d : Dev) (t : Nat) (x : Tone) : (d.setTone t x).hst = d.hst := rfl
@[simp] theorem Dev.setTone_pair (d : Dev) (t : Nat) (x : Tone) : (d.setTone t x).pair = d.pair := rfl
@[simp] theorem Dev.setTone_hlt (d : Dev) (t : Nat) (x : Tone) : (d.setTone t x).hlt = d.hlt := rfl
@[simp] theorem Dev.setTone_pwr (d : Dev) (t : Nat) (x : Tone) : (d.setTone t x).pwr = d.pwr := rfl
@[simp] theorem Dev.setTone_boot (d : Dev) (t : Nat) (x : Tone) : (d.setTone t x).boot = d.boot := rfl
@[simp] theorem Dev.setTone_store (d : Dev) (t : Nat) (x : Tone) : (d.setTone t x).store = d.store := rfl
@[simp] theorem Dev.setTone_units (d : Dev) (t : Nat) (x : Tone) : (d.setTone t x).units = d.units := rfl
@[simp] theorem Dev.setTone_runs (d : Dev) (t : Nat) (x : Tone) : (d.setTone t x).runs = d.runs := rfl
@[simp] theorem Dev.setTone_rate (d : Dev) (t : Nat) (x : Tone) : (d.setTone t x).rate = d.rate := rfl
@[simp] theorem Dev.setTone_undo (d : Dev) (t : Nat) (x : Tone) : (d.setTone t x).undo = d.undo := rfl
@[simp] theorem Dev.setTone_free (d : Dev) (t : Nat) (x : Tone) : (d.setTone t x).free = d.free := rfl
@[simp] theorem Dev.setTone_mboxClear (d : Dev) (t : Nat) (x : Tone) : (d.setTone t x).mboxClear = d.mboxClear := rfl
@[simp] theorem Dev.setTone_tone (d : Dev) (t : Nat) (x : Tone) : (d.setTone t x).tone t = x := tget_tput_self _ _ _ _
theorem Dev.setTone_tone_other (d : Dev) {i j : Nat} (x : Tone) (h : j ≠ i) : (d.setTone i x).tone j = d.tone j := tget_tput_other _ _ _ h

/-! Dev.setRx -/

@[simp] theorem Dev.setRx_tim (d : Dev) (r : Nat) (x : RxStr) : (d.setRx r x).tim = d.tim := rfl
@[simp] theorem Dev.setRx_trj (d : Dev) (r : Nat) (x : RxStr) : (d.setRx r x).trj = d.trj := rfl
@[simp] theorem Dev.setRx_flt (d : Dev) (r : Nat) (x : RxStr) : (d.setRx r x).flt = d.flt := rfl
@[simp] theorem Dev.setRx_law (d : Dev) (r : Nat) (x : RxStr) : (d.setRx r x).law = d.law := rfl
@[simp] theorem Dev.setRx_sch (d : Dev) (r : Nat) (x : RxStr) : (d.setRx r x).sch = d.sch := rfl
@[simp] theorem Dev.setRx_rnd (d : Dev) (r : Nat) (x : RxStr) : (d.setRx r x).rnd = d.rnd := rfl
@[simp] theorem Dev.setRx_cnv (d : Dev) (r : Nat) (x : RxStr) : (d.setRx r x).cnv = d.cnv := rfl
@[simp] theorem Dev.setRx_out (d : Dev) (r : Nat) (x : RxStr) : (d.setRx r x).out = d.out := rfl
@[simp] theorem Dev.setRx_net (d : Dev) (r : Nat) (x : RxStr) : (d.setRx r x).net = d.net := rfl
@[simp] theorem Dev.setRx_sap (d : Dev) (r : Nat) (x : RxStr) : (d.setRx r x).sap = d.sap := rfl
@[simp] theorem Dev.setRx_scb (d : Dev) (r : Nat) (x : RxStr) : (d.setRx r x).scb = d.scb := rfl
@[simp] theorem Dev.setRx_drc (d : Dev) (r : Nat) (x : RxStr) : (d.setRx r x).drc = d.drc := rfl
@[simp] theorem Dev.setRx_hst (d : Dev) (r : Nat) (x : RxStr) : (d.setRx r x).hst = d.hst := rfl
@[simp] theorem Dev.setRx_pair (d : Dev) (r : Nat) (x : RxStr) : (d.setRx r x).pair = d.pair := rfl
@[simp] theorem Dev.setRx_hlt (d : Dev) (r : Nat) (x : RxStr) : (d.setRx r x).hlt = d.hlt := rfl
@[simp] theorem Dev.setRx_pwr (d : Dev) (r : Nat) (x : RxStr) : (d.setRx r x).pwr = d.pwr := rfl
@[simp] theorem Dev.setRx_boot (d : Dev) (r : Nat) (x : RxStr) : (d.setRx r x).boot = d.boot := rfl
@[simp] theorem Dev.setRx_store (d : Dev) (r : Nat) (x : RxStr) : (d.setRx r x).store = d.store := rfl
@[simp] theorem Dev.setRx_units (d : Dev) (r : Nat) (x : RxStr) : (d.setRx r x).units = d.units := rfl
@[simp] theorem Dev.setRx_runs (d : Dev) (r : Nat) (x : RxStr) : (d.setRx r x).runs = d.runs := rfl
@[simp] theorem Dev.setRx_rate (d : Dev) (r : Nat) (x : RxStr) : (d.setRx r x).rate = d.rate := rfl
@[simp] theorem Dev.setRx_undo (d : Dev) (r : Nat) (x : RxStr) : (d.setRx r x).undo = d.undo := rfl
@[simp] theorem Dev.setRx_free (d : Dev) (r : Nat) (x : RxStr) : (d.setRx r x).free = d.free := rfl
@[simp] theorem Dev.setRx_mboxClear (d : Dev) (r : Nat) (x : RxStr) : (d.setRx r x).mboxClear = d.mboxClear := rfl
@[simp] theorem Dev.setRx_rx (d : Dev) (r : Nat) (x : RxStr) : (d.setRx r x).rx r = x := tget_tput_self _ _ _ _
theorem Dev.setRx_rx_other (d : Dev) {i j : Nat} (x : RxStr) (h : j ≠ i) : (d.setRx i x).rx j = d.rx j := tget_tput_other _ _ _ h

/-! Dev.setTx -/

@[simp] theorem Dev.setTx_tim (d : Dev) (t : Nat) (x : TxStr) : (d.setTx t x).tim = d.tim := rfl
@[simp] theorem Dev.setTx_trj (d : Dev) (t : Nat) (x : TxStr) : (d.setTx t x).trj = d.trj := rfl
@[simp] theorem Dev.setTx_flt (d : Dev) (t : Nat) (x : TxStr) : (d.setTx t x).flt = d.flt := rfl
@[simp] theorem Dev.setTx_law (d : Dev) (t : Nat) (x : TxStr) : (d.setTx t x).law = d.law := rfl
@[simp] theorem Dev.setTx_sch (d : Dev) (t : Nat) (x : TxStr) : (d.setTx t x).sch = d.sch := rfl
@[simp] theorem Dev.setTx_rnd (d : Dev) (t : Nat) (x : TxStr) : (d.setTx t x).rnd = d.rnd := rfl
@[simp] theorem Dev.setTx_cnv (d : Dev) (t : Nat) (x : TxStr) : (d.setTx t x).cnv = d.cnv := rfl
@[simp] theorem Dev.setTx_out (d : Dev) (t : Nat) (x : TxStr) : (d.setTx t x).out = d.out := rfl
@[simp] theorem Dev.setTx_net (d : Dev) (t : Nat) (x : TxStr) : (d.setTx t x).net = d.net := rfl
@[simp] theorem Dev.setTx_sap (d : Dev) (t : Nat) (x : TxStr) : (d.setTx t x).sap = d.sap := rfl
@[simp] theorem Dev.setTx_scb (d : Dev) (t : Nat) (x : TxStr) : (d.setTx t x).scb = d.scb := rfl
@[simp] theorem Dev.setTx_drc (d : Dev) (t : Nat) (x : TxStr) : (d.setTx t x).drc = d.drc := rfl
@[simp] theorem Dev.setTx_hst (d : Dev) (t : Nat) (x : TxStr) : (d.setTx t x).hst = d.hst := rfl
@[simp] theorem Dev.setTx_pair (d : Dev) (t : Nat) (x : TxStr) : (d.setTx t x).pair = d.pair := rfl
@[simp] theorem Dev.setTx_hlt (d : Dev) (t : Nat) (x : TxStr) : (d.setTx t x).hlt = d.hlt := rfl
@[simp] theorem Dev.setTx_pwr (d : Dev) (t : Nat) (x : TxStr) : (d.setTx t x).pwr = d.pwr := rfl
@[simp] theorem Dev.setTx_boot (d : Dev) (t : Nat) (x : TxStr) : (d.setTx t x).boot = d.boot := rfl
@[simp] theorem Dev.setTx_store (d : Dev) (t : Nat) (x : TxStr) : (d.setTx t x).store = d.store := rfl
@[simp] theorem Dev.setTx_units (d : Dev) (t : Nat) (x : TxStr) : (d.setTx t x).units = d.units := rfl
@[simp] theorem Dev.setTx_runs (d : Dev) (t : Nat) (x : TxStr) : (d.setTx t x).runs = d.runs := rfl
@[simp] theorem Dev.setTx_rate (d : Dev) (t : Nat) (x : TxStr) : (d.setTx t x).rate = d.rate := rfl
@[simp] theorem Dev.setTx_undo (d : Dev) (t : Nat) (x : TxStr) : (d.setTx t x).undo = d.undo := rfl
@[simp] theorem Dev.setTx_free (d : Dev) (t : Nat) (x : TxStr) : (d.setTx t x).free = d.free := rfl
@[simp] theorem Dev.setTx_mboxClear (d : Dev) (t : Nat) (x : TxStr) : (d.setTx t x).mboxClear = d.mboxClear := rfl
@[simp] theorem Dev.setTx_tx (d : Dev) (t : Nat) (x : TxStr) : (d.setTx t x).tx t = x := tget_tput_self _ _ _ _
theorem Dev.setTx_tx_other (d : Dev) {i j : Nat} (x : TxStr) (h : j ≠ i) : (d.setTx i x).tx j = d.tx j := tget_tput_other _ _ _ h

/-! Dev.setTc -/

@[simp] theorem Dev.setTc_tim (d : Dev) (m : Nat) (x : Tdm) : (d.setTc m x).tim = d.tim := rfl
@[simp] theorem Dev.setTc_trj (d : Dev) (m : Nat) (x : Tdm) : (d.setTc m x).trj = d.trj := rfl
@[simp] theorem Dev.setTc_flt (d : Dev) (m : Nat) (x : Tdm) : (d.setTc m x).flt = d.flt := rfl
@[simp] theorem Dev.setTc_law (d : Dev) (m : Nat) (x : Tdm) : (d.setTc m x).law = d.law := rfl
@[simp] theorem Dev.setTc_sch (d : Dev) (m : Nat) (x : Tdm) : (d.setTc m x).sch = d.sch := rfl
@[simp] theorem Dev.setTc_rnd (d : Dev) (m : Nat) (x : Tdm) : (d.setTc m x).rnd = d.rnd := rfl
@[simp] theorem Dev.setTc_cnv (d : Dev) (m : Nat) (x : Tdm) : (d.setTc m x).cnv = d.cnv := rfl
@[simp] theorem Dev.setTc_out (d : Dev) (m : Nat) (x : Tdm) : (d.setTc m x).out = d.out := rfl
@[simp] theorem Dev.setTc_net (d : Dev) (m : Nat) (x : Tdm) : (d.setTc m x).net = d.net := rfl
@[simp] theorem Dev.setTc_str (d : Dev) (m : Nat) (x : Tdm) : (d.setTc m x).str = d.str := rfl
@[simp] theorem Dev.setTc_scb (d : Dev) (m : Nat) (x : Tdm) : (d.setTc m x).scb = d.scb := rfl
@[simp] theorem Dev.setTc_drc (d : Dev) (m : Nat) (x : Tdm) : (d.setTc m x).drc = d.drc := rfl
@[simp] theorem Dev.setTc_hst (d : Dev) (m : Nat) (x : Tdm) : (d.setTc m x).hst = d.hst := rfl
@[simp] theorem Dev.setTc_pair (d : Dev) (m : Nat) (x : Tdm) : (d.setTc m x).pair = d.pair := rfl
@[simp] theorem Dev.setTc_hlt (d : Dev) (m : Nat) (x : Tdm) : (d.setTc m x).hlt = d.hlt := rfl
@[simp] theorem Dev.setTc_pwr (d : Dev) (m : Nat) (x : Tdm) : (d.setTc m x).pwr = d.pwr := rfl
@[simp] theorem Dev.setTc_boot (d : Dev) (m : Nat) (x : Tdm) : (d.setTc m x).boot = d.boot := rfl
@[simp] theorem Dev.setTc_store (d : Dev) (m : Nat) (x : Tdm) : (d.setTc m x).store = d.store := rfl
@[simp] theorem Dev.setTc_units (d : Dev) (m : Nat) (x : Tdm) : (d.setTc m x).units = d.units := rfl
@[simp] theorem Dev.setTc_runs (d : Dev) (m : Nat) (x : Tdm) : (d.setTc m x).runs = d.runs := rfl
@[simp] theorem Dev.setTc_rate (d : Dev) (m : Nat) (x : Tdm) : (d.setTc m x).rate = d.rate := rfl
@[simp] theorem Dev.setTc_undo (d : Dev) (m : Nat) (x : Tdm) : (d.setTc m x).undo = d.undo := rfl
@[simp] theorem Dev.setTc_free (d : Dev) (m : Nat) (x : Tdm) : (d.setTc m x).free = d.free := rfl
@[simp] theorem Dev.setTc_mboxClear (d : Dev) (m : Nat) (x : Tdm) : (d.setTc m x).mboxClear = d.mboxClear := rfl
@[simp] theorem Dev.setTc_tc (d : Dev) (m : Nat) (x : Tdm) : (d.setTc m x).tc m = x := tget_tput_self _ _ _ _
theorem Dev.setTc_tc_other (d : Dev) {i j : Nat} (x : Tdm) (h : j ≠ i) : (d.setTc i x).tc j = d.tc j := tget_tput_other _ _ _ h

/-! Dev.setMadi -/

@[simp] theorem Dev.setMadi_tim (d : Dev) (p : Nat) (x : Madi) : (d.setMadi p x).tim = d.tim := rfl
@[simp] theorem Dev.setMadi_trj (d : Dev) (p : Nat) (x : Madi) : (d.setMadi p x).trj = d.trj := rfl
@[simp] theorem Dev.setMadi_flt (d : Dev) (p : Nat) (x : Madi) : (d.setMadi p x).flt = d.flt := rfl
@[simp] theorem Dev.setMadi_law (d : Dev) (p : Nat) (x : Madi) : (d.setMadi p x).law = d.law := rfl
@[simp] theorem Dev.setMadi_sch (d : Dev) (p : Nat) (x : Madi) : (d.setMadi p x).sch = d.sch := rfl
@[simp] theorem Dev.setMadi_rnd (d : Dev) (p : Nat) (x : Madi) : (d.setMadi p x).rnd = d.rnd := rfl
@[simp] theorem Dev.setMadi_cnv (d : Dev) (p : Nat) (x : Madi) : (d.setMadi p x).cnv = d.cnv := rfl
@[simp] theorem Dev.setMadi_out (d : Dev) (p : Nat) (x : Madi) : (d.setMadi p x).out = d.out := rfl
@[simp] theorem Dev.setMadi_net (d : Dev) (p : Nat) (x : Madi) : (d.setMadi p x).net = d.net := rfl
@[simp] theorem Dev.setMadi_str (d : Dev) (p : Nat) (x : Madi) : (d.setMadi p x).str = d.str := rfl
@[simp] theorem Dev.setMadi_scb (d : Dev) (p : Nat) (x : Madi) : (d.setMadi p x).scb = d.scb := rfl
@[simp] theorem Dev.setMadi_drc (d : Dev) (p : Nat) (x : Madi) : (d.setMadi p x).drc = d.drc := rfl
@[simp] theorem Dev.setMadi_hst (d : Dev) (p : Nat) (x : Madi) : (d.setMadi p x).hst = d.hst := rfl
@[simp] theorem Dev.setMadi_pair (d : Dev) (p : Nat) (x : Madi) : (d.setMadi p x).pair = d.pair := rfl
@[simp] theorem Dev.setMadi_hlt (d : Dev) (p : Nat) (x : Madi) : (d.setMadi p x).hlt = d.hlt := rfl
@[simp] theorem Dev.setMadi_pwr (d : Dev) (p : Nat) (x : Madi) : (d.setMadi p x).pwr = d.pwr := rfl
@[simp] theorem Dev.setMadi_boot (d : Dev) (p : Nat) (x : Madi) : (d.setMadi p x).boot = d.boot := rfl
@[simp] theorem Dev.setMadi_store (d : Dev) (p : Nat) (x : Madi) : (d.setMadi p x).store = d.store := rfl
@[simp] theorem Dev.setMadi_units (d : Dev) (p : Nat) (x : Madi) : (d.setMadi p x).units = d.units := rfl
@[simp] theorem Dev.setMadi_runs (d : Dev) (p : Nat) (x : Madi) : (d.setMadi p x).runs = d.runs := rfl
@[simp] theorem Dev.setMadi_rate (d : Dev) (p : Nat) (x : Madi) : (d.setMadi p x).rate = d.rate := rfl
@[simp] theorem Dev.setMadi_undo (d : Dev) (p : Nat) (x : Madi) : (d.setMadi p x).undo = d.undo := rfl
@[simp] theorem Dev.setMadi_free (d : Dev) (p : Nat) (x : Madi) : (d.setMadi p x).free = d.free := rfl
@[simp] theorem Dev.setMadi_mboxClear (d : Dev) (p : Nat) (x : Madi) : (d.setMadi p x).mboxClear = d.mboxClear := rfl
@[simp] theorem Dev.setMadi_madi (d : Dev) (p : Nat) (x : Madi) : (d.setMadi p x).madi p = x := tget_tput_self _ _ _ _
theorem Dev.setMadi_madi_other (d : Dev) {i j : Nat} (x : Madi) (h : j ≠ i) : (d.setMadi i x).madi j = d.madi j := tget_tput_other _ _ _ h

/-! Dev.setIsl -/

@[simp] theorem Dev.setIsl_tim (d : Dev) (j : Nat) (x : Island) : (d.setIsl j x).tim = d.tim := rfl
@[simp] theorem Dev.setIsl_trj (d : Dev) (j : Nat) (x : Island) : (d.setIsl j x).trj = d.trj := rfl
@[simp] theorem Dev.setIsl_flt (d : Dev) (j : Nat) (x : Island) : (d.setIsl j x).flt = d.flt := rfl
@[simp] theorem Dev.setIsl_law (d : Dev) (j : Nat) (x : Island) : (d.setIsl j x).law = d.law := rfl
@[simp] theorem Dev.setIsl_sch (d : Dev) (j : Nat) (x : Island) : (d.setIsl j x).sch = d.sch := rfl
@[simp] theorem Dev.setIsl_rnd (d : Dev) (j : Nat) (x : Island) : (d.setIsl j x).rnd = d.rnd := rfl
@[simp] theorem Dev.setIsl_cnv (d : Dev) (j : Nat) (x : Island) : (d.setIsl j x).cnv = d.cnv := rfl
@[simp] theorem Dev.setIsl_out (d : Dev) (j : Nat) (x : Island) : (d.setIsl j x).out = d.out := rfl
@[simp] theorem Dev.setIsl_net (d : Dev) (j : Nat) (x : Island) : (d.setIsl j x).net = d.net := rfl
@[simp] theorem Dev.setIsl_str (d : Dev) (j : Nat) (x : Island) : (d.setIsl j x).str = d.str := rfl
@[simp] theorem Dev.setIsl_sap (d : Dev) (j : Nat) (x : Island) : (d.setIsl j x).sap = d.sap := rfl
@[simp] theorem Dev.setIsl_scb (d : Dev) (j : Nat) (x : Island) : (d.setIsl j x).scb = d.scb := rfl
@[simp] theorem Dev.setIsl_drc (d : Dev) (j : Nat) (x : Island) : (d.setIsl j x).drc = d.drc := rfl
@[simp] theorem Dev.setIsl_hst (d : Dev) (j : Nat) (x : Island) : (d.setIsl j x).hst = d.hst := rfl
@[simp] theorem Dev.setIsl_pair (d : Dev) (j : Nat) (x : Island) : (d.setIsl j x).pair = d.pair := rfl
@[simp] theorem Dev.setIsl_pwr (d : Dev) (j : Nat) (x : Island) : (d.setIsl j x).pwr = d.pwr := rfl
@[simp] theorem Dev.setIsl_boot (d : Dev) (j : Nat) (x : Island) : (d.setIsl j x).boot = d.boot := rfl
@[simp] theorem Dev.setIsl_store (d : Dev) (j : Nat) (x : Island) : (d.setIsl j x).store = d.store := rfl
@[simp] theorem Dev.setIsl_units (d : Dev) (j : Nat) (x : Island) : (d.setIsl j x).units = d.units := rfl
@[simp] theorem Dev.setIsl_runs (d : Dev) (j : Nat) (x : Island) : (d.setIsl j x).runs = d.runs := rfl
@[simp] theorem Dev.setIsl_rate (d : Dev) (j : Nat) (x : Island) : (d.setIsl j x).rate = d.rate := rfl
@[simp] theorem Dev.setIsl_undo (d : Dev) (j : Nat) (x : Island) : (d.setIsl j x).undo = d.undo := rfl
@[simp] theorem Dev.setIsl_free (d : Dev) (j : Nat) (x : Island) : (d.setIsl j x).free = d.free := rfl
@[simp] theorem Dev.setIsl_mboxClear (d : Dev) (j : Nat) (x : Island) : (d.setIsl j x).mboxClear = d.mboxClear := rfl
@[simp] theorem Dev.setIsl_isl (d : Dev) (j : Nat) (x : Island) : (d.setIsl j x).isl j = x := tget_tput_self _ _ _ _
theorem Dev.setIsl_isl_other (d : Dev) {i j : Nat} (x : Island) (h : j ≠ i) : (d.setIsl i x).isl j = d.isl j := tget_tput_other _ _ _ h

/-! Dev.setP -/

@[simp] theorem Dev.setP_tim (d : Dev) (p : Pair) : (d.setP p).tim = d.tim := rfl
@[simp] theorem Dev.setP_trj (d : Dev) (p : Pair) : (d.setP p).trj = d.trj := rfl
@[simp] theorem Dev.setP_flt (d : Dev) (p : Pair) : (d.setP p).flt = d.flt := rfl
@[simp] theorem Dev.setP_law (d : Dev) (p : Pair) : (d.setP p).law = d.law := rfl
@[simp] theorem Dev.setP_sch (d : Dev) (p : Pair) : (d.setP p).sch = d.sch := rfl
@[simp] theorem Dev.setP_rnd (d : Dev) (p : Pair) : (d.setP p).rnd = d.rnd := rfl
@[simp] theorem Dev.setP_cnv (d : Dev) (p : Pair) : (d.setP p).cnv = d.cnv := rfl
@[simp] theorem Dev.setP_out (d : Dev) (p : Pair) : (d.setP p).out = d.out := rfl
@[simp] theorem Dev.setP_net (d : Dev) (p : Pair) : (d.setP p).net = d.net := rfl
@[simp] theorem Dev.setP_str (d : Dev) (p : Pair) : (d.setP p).str = d.str := rfl
@[simp] theorem Dev.setP_sap (d : Dev) (p : Pair) : (d.setP p).sap = d.sap := rfl
@[simp] theorem Dev.setP_scb (d : Dev) (p : Pair) : (d.setP p).scb = d.scb := rfl
@[simp] theorem Dev.setP_drc (d : Dev) (p : Pair) : (d.setP p).drc = d.drc := rfl
@[simp] theorem Dev.setP_hst (d : Dev) (p : Pair) : (d.setP p).hst = d.hst := rfl
@[simp] theorem Dev.setP_hlt (d : Dev) (p : Pair) : (d.setP p).hlt = d.hlt := rfl
@[simp] theorem Dev.setP_pwr (d : Dev) (p : Pair) : (d.setP p).pwr = d.pwr := rfl
@[simp] theorem Dev.setP_boot (d : Dev) (p : Pair) : (d.setP p).boot = d.boot := rfl
@[simp] theorem Dev.setP_store (d : Dev) (p : Pair) : (d.setP p).store = d.store := rfl
@[simp] theorem Dev.setP_units (d : Dev) (p : Pair) : (d.setP p).units = d.units := rfl
@[simp] theorem Dev.setP_runs (d : Dev) (p : Pair) : (d.setP p).runs = d.runs := rfl
@[simp] theorem Dev.setP_rate (d : Dev) (p : Pair) : (d.setP p).rate = d.rate := rfl
@[simp] theorem Dev.setP_undo (d : Dev) (p : Pair) : (d.setP p).undo = d.undo := rfl
@[simp] theorem Dev.setP_free (d : Dev) (p : Pair) : (d.setP p).free = d.free := rfl
@[simp] theorem Dev.setP_mboxClear (d : Dev) (p : Pair) : (d.setP p).mboxClear = d.mboxClear := rfl

/-! Dev.advance -/

@[simp] theorem Dev.advance_trj (d : Dev) (t : Nat) : (d.advance t).trj = d.trj := rfl
@[simp] theorem Dev.advance_flt (d : Dev) (t : Nat) : (d.advance t).flt = d.flt := rfl
@[simp] theorem Dev.advance_law (d : Dev) (t : Nat) : (d.advance t).law = d.law := rfl
@[simp] theorem Dev.advance_sch (d : Dev) (t : Nat) : (d.advance t).sch = d.sch := rfl
@[simp] theorem Dev.advance_rnd (d : Dev) (t : Nat) : (d.advance t).rnd = d.rnd := rfl
@[simp] theorem Dev.advance_cnv (d : Dev) (t : Nat) : (d.advance t).cnv = d.cnv := rfl
@[simp] theorem Dev.advance_out (d : Dev) (t : Nat) : (d.advance t).out = d.out := rfl
@[simp] theorem Dev.advance_net (d : Dev) (t : Nat) : (d.advance t).net = d.net := rfl
@[simp] theorem Dev.advance_str (d : Dev) (t : Nat) : (d.advance t).str = d.str := rfl
@[simp] theorem Dev.advance_sap (d : Dev) (t : Nat) : (d.advance t).sap = d.sap := rfl
@[simp] theorem Dev.advance_scb (d : Dev) (t : Nat) : (d.advance t).scb = d.scb := rfl
@[simp] theorem Dev.advance_drc (d : Dev) (t : Nat) : (d.advance t).drc = d.drc := rfl
@[simp] theorem Dev.advance_hst (d : Dev) (t : Nat) : (d.advance t).hst = d.hst := rfl
@[simp] theorem Dev.advance_pair (d : Dev) (t : Nat) : (d.advance t).pair = d.pair := rfl
@[simp] theorem Dev.advance_hlt (d : Dev) (t : Nat) : (d.advance t).hlt = d.hlt := rfl
@[simp] theorem Dev.advance_pwr (d : Dev) (t : Nat) : (d.advance t).pwr = d.pwr := rfl
@[simp] theorem Dev.advance_boot (d : Dev) (t : Nat) : (d.advance t).boot = d.boot := rfl
@[simp] theorem Dev.advance_store (d : Dev) (t : Nat) : (d.advance t).store = d.store := rfl
@[simp] theorem Dev.advance_units (d : Dev) (t : Nat) : (d.advance t).units = d.units := rfl
@[simp] theorem Dev.advance_runs (d : Dev) (t : Nat) : (d.advance t).runs = d.runs := rfl
@[simp] theorem Dev.advance_rate (d : Dev) (t : Nat) : (d.advance t).rate = d.rate := rfl
@[simp] theorem Dev.advance_undo (d : Dev) (t : Nat) : (d.advance t).undo = d.undo := rfl
@[simp] theorem Dev.advance_free (d : Dev) (t : Nat) : (d.advance t).free = d.free := rfl
@[simp] theorem Dev.advance_mboxClear (d : Dev) (t : Nat) : (d.advance t).mboxClear = d.mboxClear := rfl

/-! Dev.tagTake -/

@[simp] theorem Dev.tagTake_tim (d : Dev) (t n : Nat) : (d.tagTake t n).tim = d.tim := rfl
@[simp] theorem Dev.tagTake_trj (d : Dev) (t n : Nat) : (d.tagTake t n).trj = d.trj := rfl
@[simp] theorem Dev.tagTake_flt (d : Dev) (t n : Nat) : (d.tagTake t n).flt = d.flt := rfl
@[simp] theorem Dev.tagTake_law (d : Dev) (t n : Nat) : (d.tagTake t n).law = d.law := rfl
@[simp] theorem Dev.tagTake_sch (d : Dev) (t n : Nat) : (d.tagTake t n).sch = d.sch := rfl
@[simp] theorem Dev.tagTake_rnd (d : Dev) (t n : Nat) : (d.tagTake t n).rnd = d.rnd := rfl
@[simp] theorem Dev.tagTake_cnv (d : Dev) (t n : Nat) : (d.tagTake t n).cnv = d.cnv := rfl
@[simp] theorem Dev.tagTake_out (d : Dev) (t n : Nat) : (d.tagTake t n).out = d.out := rfl
@[simp] theorem Dev.tagTake_net (d : Dev) (t n : Nat) : (d.tagTake t n).net = d.net := rfl
@[simp] theorem Dev.tagTake_str (d : Dev) (t n : Nat) : (d.tagTake t n).str = d.str := rfl
@[simp] theorem Dev.tagTake_sap (d : Dev) (t n : Nat) : (d.tagTake t n).sap = d.sap := rfl
@[simp] theorem Dev.tagTake_scb (d : Dev) (t n : Nat) : (d.tagTake t n).scb = d.scb := rfl
@[simp] theorem Dev.tagTake_drc (d : Dev) (t n : Nat) : (d.tagTake t n).drc = d.drc := rfl
@[simp] theorem Dev.tagTake_pair (d : Dev) (t n : Nat) : (d.tagTake t n).pair = d.pair := rfl
@[simp] theorem Dev.tagTake_hlt (d : Dev) (t n : Nat) : (d.tagTake t n).hlt = d.hlt := rfl
@[simp] theorem Dev.tagTake_pwr (d : Dev) (t n : Nat) : (d.tagTake t n).pwr = d.pwr := rfl
@[simp] theorem Dev.tagTake_boot (d : Dev) (t n : Nat) : (d.tagTake t n).boot = d.boot := rfl
@[simp] theorem Dev.tagTake_store (d : Dev) (t n : Nat) : (d.tagTake t n).store = d.store := rfl
@[simp] theorem Dev.tagTake_units (d : Dev) (t n : Nat) : (d.tagTake t n).units = d.units := rfl
@[simp] theorem Dev.tagTake_runs (d : Dev) (t n : Nat) : (d.tagTake t n).runs = d.runs := rfl
@[simp] theorem Dev.tagTake_rate (d : Dev) (t n : Nat) : (d.tagTake t n).rate = d.rate := rfl
@[simp] theorem Dev.tagTake_undo (d : Dev) (t n : Nat) : (d.tagTake t n).undo = d.undo := rfl
@[simp] theorem Dev.tagTake_free (d : Dev) (t n : Nat) : (d.tagTake t n).free = d.free := rfl
@[simp] theorem Dev.tagTake_mboxClear (d : Dev) (t n : Nat) : (d.tagTake t n).mboxClear = d.mboxClear := rfl

/-! Dev.tagDone -/

@[simp] theorem Dev.tagDone_tim (d : Dev) (o t n c f : Nat) : (d.tagDone o t n c f).tim = d.tim := rfl
@[simp] theorem Dev.tagDone_trj (d : Dev) (o t n c f : Nat) : (d.tagDone o t n c f).trj = d.trj := rfl
@[simp] theorem Dev.tagDone_flt (d : Dev) (o t n c f : Nat) : (d.tagDone o t n c f).flt = d.flt := rfl
@[simp] theorem Dev.tagDone_law (d : Dev) (o t n c f : Nat) : (d.tagDone o t n c f).law = d.law := rfl
@[simp] theorem Dev.tagDone_sch (d : Dev) (o t n c f : Nat) : (d.tagDone o t n c f).sch = d.sch := rfl
@[simp] theorem Dev.tagDone_rnd (d : Dev) (o t n c f : Nat) : (d.tagDone o t n c f).rnd = d.rnd := rfl
@[simp] theorem Dev.tagDone_cnv (d : Dev) (o t n c f : Nat) : (d.tagDone o t n c f).cnv = d.cnv := rfl
@[simp] theorem Dev.tagDone_out (d : Dev) (o t n c f : Nat) : (d.tagDone o t n c f).out = d.out := rfl
@[simp] theorem Dev.tagDone_net (d : Dev) (o t n c f : Nat) : (d.tagDone o t n c f).net = d.net := rfl
@[simp] theorem Dev.tagDone_str (d : Dev) (o t n c f : Nat) : (d.tagDone o t n c f).str = d.str := rfl
@[simp] theorem Dev.tagDone_sap (d : Dev) (o t n c f : Nat) : (d.tagDone o t n c f).sap = d.sap := rfl
@[simp] theorem Dev.tagDone_scb (d : Dev) (o t n c f : Nat) : (d.tagDone o t n c f).scb = d.scb := rfl
@[simp] theorem Dev.tagDone_drc (d : Dev) (o t n c f : Nat) : (d.tagDone o t n c f).drc = d.drc := rfl
@[simp] theorem Dev.tagDone_pair (d : Dev) (o t n c f : Nat) : (d.tagDone o t n c f).pair = d.pair := rfl
@[simp] theorem Dev.tagDone_hlt (d : Dev) (o t n c f : Nat) : (d.tagDone o t n c f).hlt = d.hlt := rfl
@[simp] theorem Dev.tagDone_pwr (d : Dev) (o t n c f : Nat) : (d.tagDone o t n c f).pwr = d.pwr := rfl
@[simp] theorem Dev.tagDone_boot (d : Dev) (o t n c f : Nat) : (d.tagDone o t n c f).boot = d.boot := rfl
@[simp] theorem Dev.tagDone_store (d : Dev) (o t n c f : Nat) : (d.tagDone o t n c f).store = d.store := rfl
@[simp] theorem Dev.tagDone_units (d : Dev) (o t n c f : Nat) : (d.tagDone o t n c f).units = d.units := rfl
@[simp] theorem Dev.tagDone_runs (d : Dev) (o t n c f : Nat) : (d.tagDone o t n c f).runs = d.runs := rfl
@[simp] theorem Dev.tagDone_rate (d : Dev) (o t n c f : Nat) : (d.tagDone o t n c f).rate = d.rate := rfl
@[simp] theorem Dev.tagDone_undo (d : Dev) (o t n c f : Nat) : (d.tagDone o t n c f).undo = d.undo := rfl
@[simp] theorem Dev.tagDone_free (d : Dev) (o t n c f : Nat) : (d.tagDone o t n c f).free = d.free := rfl
@[simp] theorem Dev.tagDone_mboxClear (d : Dev) (o t n c f : Nat) : (d.tagDone o t n c f).mboxClear = d.mboxClear := rfl

end Sys2Proof.Machine
end

