-- ==== Sys2Proof/Tests/Slice0.lean ====
section
/-! SUPPORT. The model's own tests: for every obligation that has hypotheses, a state and operands that meet them (for a statement of several
clauses, those of each clause, at a boundary of its range); a command refused by each check of `Instr.wf`; law bundles written out from the
spec's tables; and the spec's worked examples. A hypothesis that a constant of Config decides stands as a premise of its witness. -/

namespace Sys2Proof.Machine

set_option Elab.async false

/-! ## Small states -/

/-- A device that is READY and ACTIVE, and otherwise as `d`. -/
def rdy (d : Dev) : State :=
  { dev := { d with boot := { d.boot with st := .ready }, pwr := { d.pwr with st := .active } }, mbox := [], pending := [] }

/-- The device `d` as it is. -/
def raw (d : Dev) : State := { dev := d, mbox := [], pending := [] }

/-- A request of payload `b`, TAG 0, SEQ 0 and no flag. -/
def rq (b : Bytes) : AcpReq := { tag := 0, flags := 0, seq := 0, rsvd := 0, inl := b }

/-- What `plain_st` asks of a device and a payload. -/
def plainOk (d : Dev) (b : Bytes) : Bool :=
  d.hst.fetch.isNone && (tget none d.hst.inflight 0).isNone && !(tget {} d.hst.tags 0).used && decide (b.length ≤ (rdy d).dev.inlineLimit)
  && d.pair.st == .off && !d.pair.serving && !d.mboxClear

/-- The device takes `rq b` plainly. -/
theorem plain_st (d : Dev) (b : Bytes) (h : plainOk d b = true) : Plain (rdy d) (rq b) b := by
  simp only [plainOk, Bool.and_eq_true, Bool.not_eq_true', Option.isNone_iff_eq_none, beq_iff_eq, decide_eq_true_eq] at h
  obtain ⟨⟨⟨⟨⟨⟨h1, h2⟩, h3⟩, h4⟩, h5⟩, h6⟩, h7⟩ := h
  exact ⟨rfl, rfl, h1, h2, fun h => by
    rw [show (tget {} (rdy d).dev.hst.tags (rq b).tag.toNat) = tget {} d.hst.tags 0 from rfl, h3] at h; exact absurd h.1 (by decide),
    rfl, rfl, rfl, h4, h5, h6, h7⟩

/-- Unit `i` of kind `k` in state `x`, as an entry of the table of units. -/
def un (k i : Nat) (x : FState) : Nat × FUnit := (4096 * k + i, { st := x })

/-- The only number from `a` on and below `b`, where `a` is `k` and `b` is `k + 1`. -/
theorem lone {i a b k : Nat} (h1 : a ≤ i) (h2 : i < b) (ha : a = k := by decide +kernel) (hb : b = k + 1 := by decide +kernel) : i = k := by
  omega


/-- What `issues_of` asks. -/
def issuesOk (s : State) (e : Nat) (b : Bundle) : Bool :=
  decide (e < 8) && (s.dev.eng e).active && (s.lawEng e).flight.isEmpty && ((s.lawEng e).lastRcp.isNone || !isRcp b) && !(s.lawEng e).dbg
  && !(s.lawEng e).irqDue && inWindow (s.lawEng e).protCode (s.lawEng e).pc && bundleOk b && (s.lawEng e).placed b
  && (s.dev.accesses (s.lawEng e) b).all (fun a => a.at_ != .fault && a.at_ != .wait && !s.dev.deadWord a)

/-- The engine issues the bundle. -/
theorem issues_of {s : State} {e : Nat} {b : Bundle} (h : issuesOk s e b = true) : Issues s e b := by
  simp only [issuesOk, Bool.and_eq_true, Bool.or_eq_true, Bool.not_eq_true', Option.isNone_iff_eq_none, List.isEmpty_iff, decide_eq_true_eq,
    List.all_eq_true, bne_iff_ne] at h
  obtain ⟨⟨⟨⟨⟨⟨⟨⟨⟨h1, h2⟩, h3⟩, h4⟩, h5⟩, h6⟩, h7⟩, h8⟩, h9⟩, h10⟩ := h
  exact ⟨h1, h2, h3, h4, h5, h6, h7, h8, h9, fun a ha => ⟨(h10 a ha).1.1, (h10 a ha).1.2, (h10 a ha).2⟩⟩

/-- An engine that runs a job, with program and X memory open to it, as `x` otherwise. -/
def eg (x : LawEng) : LawEng := { x with st := .job, pc := 16380, protCode := 0x3FFF1000, protX := 0x3FFF0000 }

/-- An idle compute slot. -/
def nopC : Compute := ⟨.nop, ⟨0, 0, 0, 0⟩⟩

/-- The lane map at reset is slot by slot. -/
theorem slot_id (i : Nat) : id i = ((({} : Dev).slotObj i).getD 0xFFFF) := by
  have h : 16 * (i / 16) + i % 16 = i := by omega
  have h2 : i % 16 < 16 := Nat.mod_lt _ (by decide)
  simp only [Dev.slotObj, show slotsPerLane ({} : Dev).rate = 16 from by decide +kernel, h2, if_true, h]
  show i = Option.getD (if i = 0xFFFF then none else some i) 0xFFFF
  split <;> simp_all

/-- What mailbox SRAM holds does not matter to `Plain`. -/
theorem plain_mem {s : State} {r : AcpReq} {b : Bytes} (m : List Host.Cell) (h : Plain s r b) : Plain { s with mbox := m } r b := by
  cases h; constructor <;> assumption

/-- Frame 0 is the next after frame 2^32 - 1. -/
theorem framed (d : Dev) (h1 : (rdy d).dev.lanyardOk = true) (h2 : d.pair.rxSeq = some 0xFFFFFFFF) : Framed (rdy d) 0 :=
  ⟨by decide, h1, fun q h => by rw [show (rdy d).dev.pair.rxSeq = d.pair.rxSeq from rfl, h2] at h; cases h; decide⟩

/-! ## Law bundles written out from the spec's tables (05) -/

/-- 05 Example 5.1: the kernel bundle, 0x0204_F60A_0006_C100: MAC A0, D19, D27 with two loads and ROT. -/
theorem test_word_parallel : decodeBundle 0x0204F60A0006C100 = some (.par ⟨.mac, ⟨0, 19, 27, 0⟩⟩
    (some { store := false, d := 16, p := 0, am := 0, m := 0 }) (some { store := false, d := 24, p := 1, am := 0, m := 0 }) true) := by
  decide +kernel

/-- 05 Tables 5.4, 5.5, 5.7: ADD D1, D2, D3 and MVAD D0, A0, with an idle general slot. -/
theorem test_word_compute : decodeBundle 0x5808860000000000 = some (.gen ⟨.add, ⟨1, 2, 3, 0⟩⟩ .nop) ∧
    decodeBundle 0x5100000000000000 = some (.gen ⟨.mvad, ⟨0, 0, 0, 0⟩⟩ .nop) := by decide +kernel

/-- 05 Table 5.8: LD D5, (P2)+; MOVR ICTL, P4; ADDI P2, -0x58; LDIS D16, 0x8000. -/
theorem test_word_general : decodeBundle 0x400000010A800000 = some (.gen nopC (.ld { reg := 5, p := 2, am := 0, m := 0, disp := 0 })) ∧
    decodeBundle 0x400000038A900000 = some (.gen nopC (.movr 0x45 0x24)) ∧
    decodeBundle 0x400000044400FFA8 = some (.gen nopC (.addi 0x22 0xFFA8)) ∧
    decodeBundle 0x4000000520008000 = some (.gen nopC (.ldis 0x10 0x8000)) := by decide +kernel

/-- 05 Table 5.9: BR NE, BRI P7, CALL EQ, the two forms of LOOP, ROTN, SRSET. -/
theorem test_word_control : decodeBundle 0x8120000000000106 = some (.ctl (.br 2 0x106)) ∧
    decodeBundle 0x8200000000000007 = some (.ctl (.bri 0 7)) ∧ decodeBundle 0x8310000000003FFF = some (.ctl (.call 1 16383)) ∧
    decodeBundle 0x8400003D00418106 = some (.ctl (.loop (.imm 61) 0x106 0x106)) ∧
    decodeBundle 0x8401001F00418106 = some (.ctl (.loop (.reg 31) 0x106 0x106)) ∧
    decodeBundle 0x850000000000000F = some (.ctl (.rotn 15)) ∧ decodeBundle 0x8600000000400001 = some (.ctl (.srset 0x40 1)) := by
  decide +kernel

/-- 05 Table 5.9: JEND NEV, RTI, TRAP AL 5, BKPT, SYNC; Table 5.4: LDI P0, 0x400. -/
theorem test_word_system : decodeBundle 0x87F0000000000000 = some (.ctl (.jend 15)) ∧ decodeBundle 0x8800000000000000 = some (.ctl .rti) ∧
    decodeBundle 0x8900000000000005 = some (.ctl (.trap 0 5)) ∧ decodeBundle 0x8A00000000000000 = some (.ctl .bkpt) ∧
    decodeBundle 0x8B00000000000000 = some (.ctl .sync) ∧ decodeBundle 0xD000000000000400 = some (.ldi 0x20 0x400) := by decide +kernel

/-- 05 R130: an undefined operation, a reserved bit, a set bit of an absent move and an undefined control code are no bundle. -/
theorem test_word_refused : decodeBundle 0x0400000000000000 = none ∧ decodeBundle 0x8B00000000000001 = none ∧
    decodeBundle 0x0000000400000000 = none ∧ decodeBundle 0x8C00000000000000 = none ∧ decodeBundle 0xC080000000000000 ≠ none ∧
    decodeBundle 0xC040000000000000 = none := by decide +kernel

/-! ## The spec's worked examples -/

/-- 02 Example 2.1: the two writes make TIM_INC 0x0200_014F_8B59. -/
theorem test_timer_increment : (match exec (.timIncCommit 0x0200) (rdy { tim := { incLo := 0x014F8B59 } }) with
    | .next t => some t.dev.tim.inc
    | _ => none) = some 0x0200014F8B59 := by decide +kernel

/-- The loudspeaker of output 150 and the line-array layout of 03 Example 3.2. -/
def exSpk : Speaker := { pos := { x := 0x4000, y := 3 * 65536, z := 0 }, face := { x := 0, y := -0x4000, z := 0 }, layout := 1 }
/-- See `exSpk`. -/
def exLay : Layout := { mode := 3, att := 1, refDelay := 0x01000000, speed := 343 * 65536, refDist := 65536 }

/-- 03 Example 3.2: R and the delay of the path at the end and at the middle of the block. -/
theorem test_path_delay : distR { x := 65536, y := 5 * 65536, z := 0 } exSpk = 139985 ∧
    rawDelay 1 exLay { x := 65536, y := 5 * 65536, z := 0 } exSpk 0 = 22402259 ∧
    rawDelay 1 exLay { x := 65525, y := 5 * 65536, z := 0 } exSpk 0 = 22401140 := by decide +kernel

/-- 03 Example 3.2: the attenuation of the 7.1.4 room at its end position. -/
theorem test_attenuation : attOf { mode := 0, att := 2, refDist := 131072 } { x := 65536, y := 5 * 65536, z := 0 } exSpk = 105289156 := by decide +kernel

/-- 07 Example 7.1: the delay and the gain of the path at sample 9. -/
theorem test_path_sample : ({ d0 := 0x0155CC14, dmid := 0x0155D074, d1 := 0x0155D4D3 } : PathE).delay 1 9 = (22401280, 0) ∧
    ({ g0 := 0x0B000000, g1 := 0x0B040000 } : PathE).gain 9 = 0x0B024000 := by decide +kernel

/-- The block of 09 Example 9.1: 0.25 but for sample 12. -/
def exBlk : List Int := (List.replicate 16 0x20000000).set 12 0x60000000

/-- 09 Example 9.1: samples 3, 4, 12 and 13 of the limited block. -/
theorem test_limiter : (let o := limGo 0x8000 exBlk (exBlk.map (limR 0x40000000)) (2 ^ 31)
    [o.getD 3 (0, 0), o.getD 4 (0, 0), o.getD 12 (0, 0)] = [(0x20000000, 2 ^ 31), (516986804, 2067947216), (0x40000000, 1431655765)] ∧
    (o.getD 13 (0, 0)).2 = 1431688533) := by decide +kernel

/-- 10 R275: the CRC-16 of "123456789". -/
theorem test_crc16 : crc16 [0x31, 0x32, 0x33, 0x34, 0x35, 0x36, 0x37, 0x38, 0x39] = 0x29B1 := by decide +kernel

/-- 11 Example 11.1: the index of TIMESTAMP 0xFB12_25D0. -/
theorem test_rtp_index : rtpIndex 48000 (1700000020000600000 * 65536) 0xFB1225D0 0 = 81600000959952 := by decide +kernel

/-- 12 Example 12.1: the three pointers of BW3, before and after its LENGTH falls to 0x300. -/
theorem test_window_fold : ((rdy { scb := { bwLen := [(3, 0x400)] } }).dev.bwPost 0x01300350 4).1 = 0x01300354 ∧
    (let q := (rdy { scb := { bwLen := [(3, 0x300)] } }).dev.bwPost 0x01300354 4
     q.1 = 0x01300058 ∧ tget 0 q.2.scb.bwFolds 3 = 1) ∧
    ((rdy { scb := { bwLen := [(3, 0x300)] } }).dev.bwPost 0x01300000 (-8)).1 = 0x013002F8 := by decide +kernel

/-- 14 Example 14.1: the first entry of the command ring. -/
theorem test_command_entry : entryOf [0x11, 0x07, 0x05, 0x00, 0x08, 0, 0, 0, 0xE8, 0x03, 0, 0, 0, 0, 0, 0] [0x28, 0, 0, 0, 0, 0, 0, 8] =
    (0x0711, { tag := 5, flags := 0, seq := 1000, rsvd := 0, inl := [0x28, 0, 0, 0, 0, 0, 0, 8] }) := by decide +kernel

/-- 17 Example 17.2: A(0) of year 1, A(0) and A(1) of year 9, and the margins of A(7). -/
theorem test_ageing : allowedMhz 1200 31785 0x0600 = 1094 ∧ allowedMhz 1200 27197 0x0600 = 936 ∧ allowedMhz 1236 27197 0x0600 = 964 ∧
    marginOf (allowedMhz 1452 31785 0x0600) 960 = 9680 ∧ marginOf (allowedMhz 1452 27197 0x0600) 960 = 4587 := by decide +kernel

/-- 14 R364: commands at the front of the queue run first in, first out; an ECHO answers its payload. -/
theorem test_echo : (match step { rdy {} with pending := [.echo (rq [7, 8]), .sweep] } with
    | .next t => (t.pending, t.dev.hst.rspQ)
    | _ => ([], [])) = ([.sweep], [{ op := 0x0102, tag := 0, flags := 0, status := 0, seq := 0, len := 0, payload := [7, 8] }]) := by decide +kernel

/-- No row of the table gives bits, so no word spells a command. -/
theorem test_no_words : decodeTableWord 64 0 = none ∧ State.reset.withFetchWord 64 0 = State.reset := by decide +kernel

/-! ## Reset -/

/-- The state after reset has the invariant. -/
theorem test_reset_inv : State.reset.Inv :=
  ⟨by decide +kernel, by decide +kernel, by decide +kernel, fun _ => by decide +kernel, by decide +kernel⟩

/-! ## Ill-formed commands -/

/-- Commands that name what the device has not. -/
theorem test_ill_formed_units_1 :
    (∀ a1, Instr.wf (.fltSampleMark 4 a1) = false) ∧
    (∀ a0, Instr.wf (.fltSampleMark a0 16) = false) ∧
    (Instr.wf (.rndDeadline 68) = false) ∧
    (∀ a1, Instr.wf (.cnvT2FrameDeadline 512 a1) = false) ∧
    (Instr.wf (.triggerLeadBoundary 32) = false) ∧
    (Instr.wf (.triggerFire 32) = false) ∧
    (∀ a1, Instr.wf (.ptpMessageRx 16 a1) = false) ∧
    (Instr.wf (.trigOutPulseEnd 8) = false) ∧
    (Instr.wf (.mclkSwitch 4) = false) ∧
    (Instr.wf (.strikeLeak 1176) = false) ∧
    (∀ a1 a2 a3, Instr.wf (.memoryScrub 68 a1 a2 a3) = false) ∧
    (∀ a1, Instr.wf (.laneSelfTestDone 68 a1) = false) ∧
    (∀ a1, Instr.wf (.frameReceive 16 a1) = false) ∧
    (∀ a1 a2 a3, Instr.wf (.frameTransmit 16 a1 a2 a3) = false) ∧
    (∀ a0 a2 a3, Instr.wf (.frameTransmit a0 3 a2 a3) = false) ∧
    (∀ a0 a1 l a3, l.length = 13 → Instr.wf (.frameTransmit a0 a1 l a3) = false) := by
  simp +contextual [Instr.wf]

/-- Commands that name what the device has not. -/
theorem test_ill_formed_units_2 :
    (∀ a1, Instr.wf (.expressPreempt 16 a1) = false) ∧
    (∀ a1 a2, Instr.wf (.linkChange 16 a1 a2) = false) ∧
    (Instr.wf (.portSerdesLock 16) = false) ∧
    (Instr.wf (.portStartTimeout 16) = false) ∧
    (Instr.wf (.portStopDone 16) = false) ∧
    (∀ a1 a2, Instr.wf (.preemptVerify 16 a1 a2) = false) ∧
    (∀ a0 a1, Instr.wf (.preemptVerify a0 a1 4) = false) ∧
    (Instr.wf (.fcsLimitSecond 16) = false) ∧
    (Instr.wf (.linkAbsent10s 16) = false) ∧
    (∀ a1 a2, Instr.wf (.wakePatternMatch 16 a1 a2) = false) ∧
    (∀ a1, Instr.wf (.rtpPacketRx 16 a1) = false) ∧
    (∀ a1, Instr.wf (.trajectoryPacketRx 16 a1) = false) ∧
    (∀ a1 a2, Instr.wf (.tdmFrameSync 10 a1 a2) = false) ∧
    (Instr.wf (.tdmClockLoss 10) = false) ∧
    (Instr.wf (.tdmClockAbsent10s 10) = false) ∧
    (∀ a1 a2 a3, Instr.wf (.madiFrameRx 8 a1 a2 a3) = false) := by
  simp +contextual [Instr.wf]

/-- Commands that name what the device has not. -/
theorem test_ill_formed_units_3 :
    (Instr.wf (.madiSyncLoss 8) = false) ∧
    (∀ a1, Instr.wf (.madiCodeErrSecond 8 a1) = false) ∧
    (Instr.wf (.madiSignalAbsent10s 8) = false) ∧
    (∀ a1, Instr.wf (.asrcLock 4 a1) = false) ∧
    (∀ a0, Instr.wf (.asrcLock a0 16) = false) ∧
    (∀ a1, Instr.wf (.asrcLost 4 a1) = false) ∧
    (∀ a0, Instr.wf (.asrcLost a0 16) = false) ∧
    (Instr.wf (.toneBlockResult 64) = false) ∧
    (Instr.wf (.meterWindowEnd 512) = false) ∧
    (∀ a1, Instr.wf (.schedulerDecision 8 a1) = false) ∧
    (Instr.wf (.jobDispatch 8) = false) ∧
    (Instr.wf (.jobCollectionDone 8) = false) ∧
    (Instr.wf (.interruptEntry 8) = false) ∧
    (Instr.wf (.budgetExpiry 8) = false) ∧
    (∀ a1, Instr.wf (.scbOwnerWrite 16 a1) = false) ∧
    (Instr.wf (.bankHandoverDone 16) = false) := by
  simp +contextual [Instr.wf]

/-- Commands that name what the device has not. -/
theorem test_ill_formed_units_4 :
    (∀ a1 a2, Instr.wf (.testStripe 16 a1 a2) = false) ∧
    (∀ a0 a2, Instr.wf (.testStripe a0 2048 a2) = false) ∧
    (∀ a1, Instr.wf (.bankReady 512 a1) = false) ∧
    (∀ a0, Instr.wf (.bankReady a0 2) = false) ∧
    (∀ a1, Instr.wf (.drcCommandSlot 4 a1) = false) ∧
    (∀ a1, Instr.wf (.refresh 4 a1) = false) ∧
    (∀ a0, Instr.wf (.refresh a0 2) = false) ∧
    (Instr.wf (.trainHeldTimeout 4) = false) ∧
    (∀ a1, Instr.wf (.ringCommit 3 a1) = false) ∧
    (Instr.wf (.netTsfPop 16) = false) ∧
    (Instr.wf (.retainedResponseExpiry 256) = false) ∧
    (∀ a1, Instr.wf (.wakeAlarmDue 32 a1) = false) ∧
    (∀ a1 a2, Instr.wf (.hostDozeWrite 4 a1 a2) = false) ∧
    (Instr.wf (.compaction 0) = false) ∧
    (Instr.wf (.compaction 6) = false) ∧
    (∀ a1, Instr.wf (.ptpMessageTx 16 a1) = false) := by
  simp +contextual [Instr.wf]

/-- Commands that name what the device has not. -/
theorem test_ill_formed_units_5 :
    (Instr.wf (.maxCycReached 8) = false) ∧
    (Instr.wf (.trimSlewDone 87) = false) := by
  simp +contextual [Instr.wf]

/-- Commands that name what the device has not. -/
theorem test_ill_formed_law_1 :
    (∀ a1, Instr.wf (.lawNop 8 a1) = false) ∧
    (∀ a1 a2, Instr.wf (.lawMpy 8 a1 a2) = false) ∧
    (∀ a1 a2, Instr.wf (.lawMac 8 a1 a2) = false) ∧
    (∀ a1 a2, Instr.wf (.lawMsu 8 a1 a2) = false) ∧
    (∀ a1 a2, Instr.wf (.lawAdda 8 a1 a2) = false) ∧
    (∀ a1 a2, Instr.wf (.lawSuba 8 a1 a2) = false) ∧
    (∀ a1 a2, Instr.wf (.lawNega 8 a1 a2) = false) ∧
    (∀ a1 a2, Instr.wf (.lawAbsa 8 a1 a2) = false) ∧
    (∀ a1 a2, Instr.wf (.lawClra 8 a1 a2) = false) ∧
    (∀ a1 a2, Instr.wf (.lawShla 8 a1 a2) = false) ∧
    (∀ a1 a2, Instr.wf (.lawShra 8 a1 a2) = false) ∧
    (∀ a1 a2, Instr.wf (.lawExpa 8 a1 a2) = false) ∧
    (∀ a1 a2, Instr.wf (.lawNorma 8 a1 a2) = false) ∧
    (∀ a1 a2, Instr.wf (.lawMvad 8 a1 a2) = false) ∧
    (∀ a1 a2, Instr.wf (.lawMvda 8 a1 a2) = false) ∧
    (∀ a1 a2, Instr.wf (.lawAdd 8 a1 a2) = false) := by
  simp +contextual [Instr.wf]

/-- Commands that name what the device has not. -/
theorem test_ill_formed_law_2 :
    (∀ a1 a2, Instr.wf (.lawSub 8 a1 a2) = false) ∧
    (∀ a1 a2, Instr.wf (.lawAdds 8 a1 a2) = false) ∧
    (∀ a1 a2, Instr.wf (.lawSubs 8 a1 a2) = false) ∧
    (∀ a1 a2, Instr.wf (.lawAnd 8 a1 a2) = false) ∧
    (∀ a1 a2, Instr.wf (.lawOr 8 a1 a2) = false) ∧
    (∀ a1 a2, Instr.wf (.lawXor 8 a1 a2) = false) ∧
    (∀ a1 a2, Instr.wf (.lawAsr 8 a1 a2) = false) ∧
    (∀ a1 a2, Instr.wf (.lawLsr 8 a1 a2) = false) ∧
    (∀ a1 a2, Instr.wf (.lawLsl 8 a1 a2) = false) ∧
    (∀ a1 a2, Instr.wf (.lawAsrv 8 a1 a2) = false) ∧
    (∀ a1 a2, Instr.wf (.lawExp 8 a1 a2) = false) ∧
    (∀ a1 a2, Instr.wf (.lawNorm 8 a1 a2) = false) ∧
    (∀ a1 a2, Instr.wf (.lawMin 8 a1 a2) = false) ∧
    (∀ a1 a2, Instr.wf (.lawMax 8 a1 a2) = false) ∧
    (∀ a1 a2, Instr.wf (.lawCmp 8 a1 a2) = false) ∧
    (∀ a1 a2, Instr.wf (.lawMov 8 a1 a2) = false) := by
  simp +contextual [Instr.wf]

/-- Commands that name what the device has not. -/
theorem test_ill_formed_law_3 :
    (∀ a1 a2, Instr.wf (.lawAbs 8 a1 a2) = false) ∧
    (∀ a1 a2, Instr.wf (.lawNeg 8 a1 a2) = false) ∧
    (∀ a1 a2, Instr.wf (.lawSel 8 a1 a2) = false) ∧
    (∀ a1 a2, Instr.wf (.lawMulq 8 a1 a2) = false) ∧
    (∀ a1 a2, Instr.wf (.lawRcp 8 a1 a2) = false) ∧
    (∀ a1 a2, Instr.wf (.lawRsq 8 a1 a2) = false) ∧
    (∀ a1 a2 a3 a4 a5, Instr.wf (.moveLoad 8 a1 a2 a3 a4 a5) = false) ∧
    (∀ a1 a2 a3 a4 a5, Instr.wf (.moveStore 8 a1 a2 a3 a4 a5) = false) ∧
    (∀ a1 a2, Instr.wf (.lawLd 8 a1 a2) = false) ∧
    (∀ a1 a2, Instr.wf (.lawSt 8 a1 a2) = false) ∧
    (∀ a1 a2 a3, Instr.wf (.lawMovr 8 a1 a2 a3) = false) ∧
    (∀ a1 a2 a3, Instr.wf (.lawAddi 8 a1 a2 a3) = false) ∧
    (∀ a1 a2 a3, Instr.wf (.lawLdis 8 a1 a2 a3) = false) ∧
    (∀ a1 a2, Instr.wf (.lawLdi 8 a1 a2) = false) ∧
    (∀ a1 a2, Instr.wf (.lawBr 8 a1 a2) = false) ∧
    (∀ a1 a2, Instr.wf (.lawBri 8 a1 a2) = false) := by
  simp +contextual [Instr.wf]

/-- Commands that name what the device has not. -/
theorem test_ill_formed_law_4 :
    (∀ a1 a2, Instr.wf (.lawCall 8 a1 a2) = false) ∧
    (∀ a1 a2 a3, Instr.wf (.lawLoop 8 a1 a2 a3) = false) ∧
    (∀ a1, Instr.wf (.lawRotn 8 a1) = false) ∧
    (∀ a1 a2, Instr.wf (.lawSrset 8 a1 a2) = false) ∧
    (∀ a1, Instr.wf (.lawJend 8 a1) = false) ∧
    (Instr.wf (.lawRti 8) = false) ∧
    (∀ a1 a2, Instr.wf (.lawTrap 8 a1 a2) = false) ∧
    (Instr.wf (.lawBkpt 8) = false) ∧
    (Instr.wf (.lawSync 8) = false) ∧
    (Instr.wf (.lawDoorbell 8) = false) ∧
    (Instr.wf (.lawHaltReq 8) = false) ∧
    (Instr.wf (.lawStep 8) = false) ∧
    (Instr.wf (.lawResume 8) = false) ∧
    (Instr.wf (.lawEngineDisableDone 8) = false) := by
  simp +contextual [Instr.wf]

/-- Commands that name what the device has not. -/
theorem test_ill_formed_records_1 :
    (∀ a1 a2 a3, Instr.wf (.recOpen (2 ^ 32) a1 a2 a3) = false) ∧
    (∀ a0 a2 a3, Instr.wf (.recOpen a0 (2 ^ 64) a2 a3) = false) ∧
    (∀ a0 a1 a3, Instr.wf (.recOpen a0 a1 (2 ^ 32) a3) = false) ∧
    (∀ a0 a1 a2, Instr.wf (.recOpen a0 a1 a2 (2 ^ 64)) = false) ∧
    (∀ a1 a2 a3, Instr.wf (.recItem (2 ^ 32) a1 a2 a3) = false) ∧
    (∀ a0 a2 a3, Instr.wf (.recItem a0 (2 ^ 32) a2 a3) = false) ∧
    (∀ a0 a1 a3, Instr.wf (.recItem a0 a1 2 a3) = false) ∧
    (∀ a0 a1 a2 l, l.length = 2041 → Instr.wf (.recItem a0 a1 a2 l) = false) ∧
    (∀ a1, Instr.wf (.recAsrc (2 ^ 32) a1) = false) ∧
    (∀ a0 l, l.length = 129 → Instr.wf (.recAsrc a0 l) = false) ∧
    (∀ a1 a2 a3 a4 a5, Instr.wf (.recPatch (2 ^ 32) a1 a2 a3 a4 a5) = false) ∧
    (∀ a0 a2 a3 a4 a5, Instr.wf (.recPatch a0 0 a2 a3 a4 a5) = false) ∧
    (∀ a0 a2 a3 a4 a5, Instr.wf (.recPatch a0 4 a2 a3 a4 a5) = false) ∧
    (∀ a0 a1 a3 a4 a5, Instr.wf (.recPatch a0 a1 256 a3 a4 a5) = false) ∧
    (∀ a0 a1 a2 a4 a5, Instr.wf (.recPatch a0 a1 a2 256 a4 a5) = false) ∧
    (∀ a0 a1 a2 a3 a5, Instr.wf (.recPatch a0 a1 a2 a3 0 a5) = false) := by
  simp +contextual [Instr.wf]

/-- Commands that name what the device has not. -/
theorem test_ill_formed_records_2 :
    (∀ a0 a1 a2 a3 a5, Instr.wf (.recPatch a0 a1 a2 a3 256 a5) = false) ∧
    (∀ a0 a1 a2 a3 a4 l, l.length = 511 → Instr.wf (.recPatch a0 a1 a2 a3 a4 l) = false) ∧
    (∀ a1 a2 a3, Instr.wf (.recGuard (2 ^ 32) a1 a2 a3) = false) ∧
    (∀ a0 a2 a3, Instr.wf (.recGuard a0 (2 ^ 64) a2 a3) = false) ∧
    (∀ a0 a1 a3, Instr.wf (.recGuard a0 a1 (2 ^ 32) a3) = false) ∧
    (∀ a0 a1 a2 l, l.length = 31 → Instr.wf (.recGuard a0 a1 a2 l) = false) ∧
    (∀ a1 a2 a3, Instr.wf (.recBulk (2 ^ 32) a1 a2 a3) = false) ∧
    (∀ a0 a2 a3, Instr.wf (.recBulk a0 (2 ^ 32) a2 a3) = false) ∧
    (∀ a0 a1 a3, Instr.wf (.recBulk a0 a1 (2 ^ 32) a3) = false) ∧
    (∀ a0 a1 a2 l, l.length = 2041 → Instr.wf (.recBulk a0 a1 a2 l) = false) ∧
    (∀ a1 a2, Instr.wf (.recSplice (2 ^ 32) a1 a2) = false) ∧
    (∀ a0 a2, Instr.wf (.recSplice a0 (2 ^ 32) a2) = false) ∧
    (∀ a1, Instr.wf (.recWarm (2 ^ 32) a1) = false) ∧
    (∀ a0 l, l.length = 31 → Instr.wf (.recWarm a0 l) = false) ∧
    (∀ a1 a2 a3 a4 a5, Instr.wf (.recSeal (2 ^ 32) a1 a2 a3 a4 a5) = false) ∧
    (∀ a0 a2 a3 a4 a5, Instr.wf (.recSeal a0 (2 ^ 64) a2 a3 a4 a5) = false) := by
  simp +contextual [Instr.wf]

/-- Commands that name what the device has not. -/
theorem test_ill_formed_records_3 :
    (∀ a0 a1 a3 a4 a5, Instr.wf (.recSeal a0 a1 (2 ^ 32) a3 a4 a5) = false) ∧
    (∀ a0 a1 a2 a4 a5, Instr.wf (.recSeal a0 a1 a2 (2 ^ 32) a4 a5) = false) ∧
    (∀ a0 a1 a2 a3 a5, Instr.wf (.recSeal a0 a1 a2 a3 (2 ^ 32) a5) = false) ∧
    (∀ a0 a1 a2 a3 a4, Instr.wf (.recSeal a0 a1 a2 a3 a4 (2 ^ 32)) = false) := by
  simp +contextual [Instr.wf]

/-- Commands that name what the device has not. -/
theorem test_ill_formed_lanyard :
    (∀ a1 a2 a3 a4 a5, Instr.wf (.lnkStatus (2 ^ 32) a1 a2 a3 a4 a5) = false) ∧
    (∀ a0 a2 a3 a4 a5, Instr.wf (.lnkStatus a0 (2 ^ 64) a2 a3 a4 a5) = false) ∧
    (∀ a0 a1 a3 a4 a5, Instr.wf (.lnkStatus a0 a1 8 a3 a4 a5) = false) ∧
    (∀ a0 a1 a2 a3 a5, Instr.wf (.lnkStatus a0 a1 a2 a3 (2 ^ 32) a5) = false) ∧
    (∀ a0 a1 a2 a3 a4, Instr.wf (.lnkStatus a0 a1 a2 a3 a4 (2 ^ 64)) = false) ∧
    (∀ a1 a2 a3 a4, Instr.wf (.lnkTime (2 ^ 32) a1 a2 a3 a4) = false) ∧
    (∀ a0 a2 a3 a4, Instr.wf (.lnkTime a0 (2 ^ 80) a2 a3 a4) = false) ∧
    (∀ a0 a1 a3 a4, Instr.wf (.lnkTime a0 a1 (2 ^ 80) a3 a4) = false) ∧
    (∀ a0 a1 a2 a4, Instr.wf (.lnkTime a0 a1 a2 (2 ^ 80) a4) = false) ∧
    (∀ a0 a1 a2 a3, Instr.wf (.lnkTime a0 a1 a2 a3 (2 ^ 80)) = false) ∧
    (∀ a1, Instr.wf (.lnkAck (2 ^ 32) a1) = false) ∧
    (∀ a0, Instr.wf (.lnkAck a0 (2 ^ 32)) = false) ∧
    (Instr.wf (.frameResendTimeout (2 ^ 32)) = false) ∧
    (∀ a1, Instr.wf (.lanyardLinkChange 2 a1) = false) := by
  simp +contextual [Instr.wf]

/-- The checks of lists and of listed values. -/
theorem test_ill_formed_lists :
    ([.tickBoundary { arb := true, served := true, faults := [], tdm := [(1280, [])] }, .tickBoundary { arb := true, served := true, faults := [.redo 68 0], tdm := [] },
      .tickBoundary { arb := true, served := true, faults := [.stuck 68], tdm := [] }, .memoryScrub 67 true 65536 .none, .memoryScrub 67 false 263168 .none,
      .ringHeadWrite 0 0, .ringHeadWrite 3 0, .rcRegisterRead 0x14, .latchingRead 0x40300018, .recAsrc 0 [(4, 0, 0, 0)], .recAsrc 0 [(0, 16, 0, 0)],
      .recAsrc 0 [(0, 0, 0, 2 ^ 64)], .recPatch 0 1 0 0 2 [1], .recGuard 0 0 0 (List.replicate 32 (2 ^ 32)), .recWarm 0 (List.replicate 32 (2 ^ 32)),
      .bootReady [1176], .ptpMessageTx 15 2, .sweepDone [{ ring := 96, count := 0, temp := 0 }],
      .frameReceive 15 { bytes := zb 13, badAsm := false, badCode := false, badFcs := false, overrun := false, frags := 0, at_ := 0 }] : List Instr).all
      (fun i => !i.wf) = true := by decide +kernel

/-! ## Witnesses of the obligations -/

/-- What `Obligations.SystemReads` assumes can hold. -/
theorem wit_SystemReads :
    (∃ (s : State) (r : AcpReq) (b : Bytes), Plain s r b ∧ b = []) ∧
    (∃ (s : State) (r : AcpReq) (b : Bytes), Plain s r b ∧ b = []) ∧
    (∃ (s : State) (r : AcpReq) (b : Bytes), Plain s r b ∧ b.length ≤ 256) ∧
    (∃ (s : State) (r : AcpReq) (b : Bytes), Plain s r b ∧ b.length = 8 ∧ u8 b 0 ≤ 9 ∧ u8 b 1 = 0 ∧ 0 < u16 b 4 ∧ u16 b 2 + u16 b 4 ≤ kindSize (u8 b 0) ∧ u16 b 6 = 0) ∧
    (∃ (s : State) (r : AcpReq) (b : Bytes), Plain s r b ∧ b.length = 8 ∧ 0x20000000 ≤ u32 b 0 ∧ u32 b 0 + 4 * u32 b 4 ≤ 0x20400000 ∧ u32 b 0 % 4 = 0 ∧ 0 < u32 b 4 ∧ u32 b 4 ≤ 4096) ∧
    (∃ (s : State) (r : AcpReq) (b : Bytes), Plain s r b ∧ b.length = 8 ∧ 0x30000000 ≤ u32 b 0 ∧ u32 b 0 + 4 * u32 b 4 ≤ 0x30100000 ∧ u32 b 0 % 4 = 0 ∧ 0 < u32 b 4 ∧ u32 b 4 ≤ 4096) ∧
    (∃ (s : State) (r : AcpReq) (b : Bytes) (x : Retained), Plain s r b ∧ b.length = 16 ∧ uN 3 b 1 = 0 ∧ u32 b 12 = 0 ∧ (s.dev.hst.retained.filter (fun x => x.tag != r.tag.toNat || x.seq == r.seq.toNat)).find? (fun x => x.tag == u8 b 0 && x.seq == u32 b 4) = some x ∧ u32 b 8 < x.payload.length) :=
  ⟨⟨rdy {}, rq ([]), _, plain_st _ _ (by decide +kernel), by decide +kernel⟩,
   ⟨rdy {}, rq ([]), _, plain_st _ _ (by decide +kernel), by decide +kernel⟩,
   ⟨rdy {}, rq (zb 256), _, plain_st _ _ (by decide +kernel), by decide +kernel⟩,
   ⟨rdy {}, rq ([9, 0] ++ le 2 0 ++ le 2 1 ++ le 2 0), _, plain_st _ _ (by decide +kernel), by decide +kernel⟩,
   ⟨rdy {}, rq (le 4 0x203FFFFC ++ le 4 1), _, plain_st _ _ (by decide +kernel), by decide +kernel⟩,
   ⟨rdy {}, rq (le 4 0x300FFFFC ++ le 4 1), _, plain_st _ _ (by decide +kernel), by decide +kernel⟩,
   ⟨rdy { hst := { retained := [{ tag := 255, seq := 2, done := 0, payload := [7, 8], held := 0 }] } }, rq ([255, 0, 0, 0] ++ le 4 2 ++ le 4 1 ++ le 4 0), _, { tag := 255, seq := 2, done := 0, payload := [7, 8], held := 0 }, plain_st _ _ (by decide +kernel), by decide +kernel⟩⟩

/-- What `Obligations.FuncRuns` assumes can hold. -/
theorem wit_FuncRuns :
    (∃ (s : State) (r : AcpReq) (b : Bytes), Plain s r b ∧ b.length = 8 ∧ u8 b 0 ≤ 9 ∧ u8 b 1 = 0 ∧ u16 b 6 = 0 ∧ 0 < u16 b 4 ∧ u16 b 2 + u16 b 4 ≤ kindSize (u8 b 0) ∧ (∀ i, u16 b 2 ≤ i → i < u16 b 2 + u16 b 4 → (s.dev.unit (u8 b 0) i).st = .stopped ∧ s.dev.startBad (u8 b 0) i = false)) ∧
    (∃ (s : State) (r : AcpReq) (b : Bytes), Plain s r b ∧ b.length = 8 ∧ u8 b 0 ≤ 9 ∧ u8 b 1 = 0 ∧ u16 b 6 = 0 ∧ 0 < u16 b 4 ∧ u16 b 2 + u16 b 4 ≤ kindSize (u8 b 0) ∧ (s.dev.unit (u8 b 0) (u16 b 2)).st = .retired) ∧
    (∃ (s : State) (r : AcpReq) (b : Bytes), Plain s r b ∧ b.length = 8 ∧ u8 b 0 ≤ 8 ∧ kindAudio (u8 b 0) = true ∧ u8 b 1 = 0 ∧ u16 b 6 = 0 ∧ 0 < u16 b 4 ∧ u16 b 2 + u16 b 4 ≤ kindSize (u8 b 0) ∧ (∀ i, u16 b 2 ≤ i → i < u16 b 2 + u16 b 4 → (s.dev.unit (u8 b 0) i).st ≠ .retired)) ∧
    (∃ (s : State) (r : AcpReq) (p : _), Plain s r [4, 0, BitVec.ofNat 8 p, 0, 1, 0, 0, 0] ∧ p < 16 ∧ (s.dev.unit 4 p).st = .running) ∧
    (∃ (s : State) (r : AcpReq), Plain s r [9, 0, 0, 0, 1, 0, 0, 0] ∧ (s.dev.unit 9 0).st = .running) :=
  ⟨⟨rdy {}, rq ([0, 0, 0, 0, 1, 0, 0, 0]), _, plain_st _ _ (by decide +kernel), by decide +kernel, by decide +kernel, by decide +kernel, by decide +kernel, by decide +kernel, by decide +kernel, fun i h1 h2 => by obtain rfl : i = 0 := lone h1 h2; decide +kernel⟩,
   ⟨rdy { units := [un 6 255 .retired] }, rq ([6, 0, 255, 0, 1, 0, 0, 0]), _, plain_st _ _ (by decide +kernel), by decide +kernel⟩,
   ⟨rdy { units := [un 6 255 .running] }, rq ([6, 0, 255, 0, 1, 0, 0, 0]), _, plain_st _ _ (by decide +kernel), by decide +kernel, by decide +kernel, by decide +kernel, by decide +kernel, by decide +kernel, by decide +kernel, by decide +kernel, fun i h1 h2 => by obtain rfl : i = 255 := lone h1 h2; decide +kernel⟩,
   ⟨rdy { units := [un 4 15 .running] }, rq [4, 0, 15, 0, 1, 0, 0, 0], 15, plain_st _ _ (by decide +kernel), by decide +kernel⟩,
   ⟨rdy { units := [un 9 0 .running] }, rq [9, 0, 0, 0, 1, 0, 0, 0], plain_st _ _ (by decide +kernel), by decide +kernel⟩⟩

/-- What `Obligations.RateAndReset` assumes can hold. -/
theorem wit_RateAndReset :
    (∃ (s : State) (r : AcpReq) (b : Bytes), Plain s r b ∧ b.length = 4 ∧ u8 b 0 = s.dev.rate ∧ uN 3 b 1 = 0) ∧
    (∃ (s : State) (r : AcpReq) (b : Bytes), Plain s r b ∧ b.length = 4 ∧ u8 b 0 ≤ 3 ∧ uN 3 b 1 = 0 ∧ u8 b 0 ≠ s.dev.rate ∧ s.dev.rateBad (u8 b 0) = false ∧ s.dev.hst.wait = []) ∧
    (∃ (s : State) (r : AcpReq) (b : Bytes), Plain s r b ∧ b.length = 4 ∧ u16 b 0 = 0x5EED ∧ u8 b 2 ≤ 1 ∧ u8 b 3 = 0) :=
  ⟨⟨rdy {}, rq ([1, 0, 0, 0]), _, plain_st _ _ (by decide +kernel), by decide +kernel⟩,
   ⟨rdy {}, rq ([3, 0, 0, 0]), _, plain_st _ _ (by decide +kernel), by decide +kernel⟩,
   ⟨rdy {}, rq ([0xED, 0x5E, 1, 0]), _, plain_st _ _ (by decide +kernel), by decide +kernel⟩⟩

/-- What `Obligations.TimeCounter` assumes can hold. -/
theorem wit_TimeCounter :
    (∃ (s : State) (hi : W32), 0x01FFBE76C8B4 ≤ hi.toNat % 65536 * 2 ^ 32 + s.dev.tim.incLo.toNat ∧ hi.toNat % 65536 * 2 ^ 32 + s.dev.tim.incLo.toNat ≤ 0x02004189374C ∧ s.dev.mboxClear = false) ∧
    (∃ (s : State) (hi : W32), hi.toNat % 65536 * 2 ^ 32 + s.dev.tim.incLo.toNat < 0x01FFBE76C8B4 ∧ Strikable s 1173 ∧ s.dev.mboxClear = false) ∧
    (∃ (s : State) (hi : W32), 0x02004189374C < hi.toNat % 65536 * 2 ^ 32 + s.dev.tim.incLo.toNat ∧ Strikable s 1173 ∧ s.dev.mboxClear = false) ∧
    (∃ (s : State) (v : W32), s.dev.audioStopped = false ∧ s.dev.mboxClear = false) ∧
    (∃ (s : State) (v : W32), s.dev.audioStopped = true) :=
  ⟨⟨rdy { tim := { incLo := 0xBE76C8B4 } }, 0x01FF, by decide +kernel⟩,
   ⟨rdy { tim := { incLo := 0xBE76C8B3 } }, 0x01FF, by simp only [Strikable]; decide +kernel⟩,
   ⟨rdy { tim := { incLo := 0x4189374D } }, 0x0200, by simp only [Strikable]; decide +kernel⟩,
   ⟨rdy { units := [un 0 0 .running] }, 0, by decide +kernel⟩,
   ⟨rdy {  }, 0x8000, by decide +kernel⟩⟩

/-- What `Obligations.Snapshots` assumes can hold. -/
theorem wit_Snapshots :
    (∃ (s : State), s.dev.tim.snapBusy = false ∧ s.dev.mboxClear = false) ∧
    (∃ (s : State), s.dev.tim.snapBusy = true ∧ s.dev.mboxClear = false) ∧
    (∃ (s : State), s.dev.tim.snapBusy = true ∧ s.dev.tim.snapQueued = 0 ∧ s.dev.mboxClear = false) ∧
    (∃ (s : State) (n : _), s.dev.tim.snapBusy = true ∧ s.dev.tim.snapQueued = n + 1 ∧ s.dev.mboxClear = false) :=
  ⟨⟨rdy {  }, by decide +kernel⟩,
   ⟨rdy { tim := { snapBusy := true } }, by decide +kernel⟩,
   ⟨rdy { tim := { snapBusy := true } }, by decide +kernel⟩,
   ⟨rdy { tim := { snapBusy := true, snapQueued := 1 } }, 0, by decide +kernel⟩⟩

/-- What `Obligations.TimeEvents` assumes can hold. -/
theorem wit_TimeEvents :
    (∃ (s : State), s.dev.tim.ptpS.slavePort ≠ 255 ∧ s.dev.tim.quality ≠ .locked ∧ s.dev.mboxClear = false) ∧
    (∃ (s : State), s.dev.tim.ptpS.slavePort ≠ 255 ∧ s.dev.tim.quality = .locked ∧ Strikable s 1173 ∧ s.dev.mboxClear = false) ∧
    (∃ (s : State), s.dev.tim.ppsMode = 2 ∧ s.dev.tim.quality = .locked ∧ Strikable s 1173 ∧ s.dev.mboxClear = false) ∧
    (∃ (s : State) (n : Nat), s.dev.tim.ppsMode = 1 ∧ (((n : Int) - second * rne n second).natAbs : Int) ≤ s.dev.tim.ppsLimit * 256 ∧ s.dev.mboxClear = false) ∧
    (∃ (s : State), s.dev.mboxClear = false) ∧
    (∃ (s : State), s.dev.mboxClear = false) ∧
    (∃ (s : State) (n : _), n < 8 ∧ tget 0 s.dev.tim.toutPulse n ≠ 0 ∧ s.dev.mboxClear = false) ∧
    (∃ (s : State) (n : _), n < 4 ∧ s.dev.mboxClear = false) ∧
    (∃ (s : State), s.dev.tim.servoEn = true ∧ s.dev.audioStopped = false ∧ 1000 * 65536 < s.dev.tim.offset.natAbs ∧ s.dev.mboxClear = false) ∧
    (∃ (s : State) (dt dr : Int), 0 < dr ∧ 250 * dr * 30517578125 < ((dt * 10 ^ 6 - dr * 30517578125).natAbs : Int) * 10 ^ 6 ∧ Strikable s 1173 ∧ s.dev.mboxClear = false) ∧
    (∃ (s : State) (c : _), c < 1176 ∧ (s.dev.chan c).retired = false ∧ (s.dev.chan c).level ≠ 0 ∧ s.dev.mboxClear = false) ∧
    (∃ (s : State), s.dev.mboxClear = false) ∧
    (∃ (s : State), s.dev.mboxClear = false) :=
  ⟨⟨rdy { tim := { ptpS := { slavePort := 3 } } }, by decide +kernel⟩,
   ⟨rdy { tim := { quality := .locked, ptpS := { slavePort := 3 } } }, by simp only [Strikable]; decide +kernel⟩,
   ⟨rdy { tim := { quality := .locked, ppsMode := 2 } }, by simp only [Strikable]; decide +kernel⟩,
   ⟨rdy {  }, 6553600, by decide +kernel⟩,
   ⟨rdy {  }, by decide +kernel⟩,
   ⟨rdy {  }, by decide +kernel⟩,
   ⟨rdy { tim := { toutPulse := [(7, 1)] } }, 7, by decide +kernel⟩,
   ⟨rdy {  }, 3, by decide +kernel⟩,
   ⟨rdy { tim := { servoEn := true, offset := 65536001 }, units := [un 0 0 .running] }, by decide +kernel⟩,
   ⟨rdy {  }, 0, 1, by simp only [Strikable]; decide +kernel⟩,
   ⟨rdy { hlt := { ch := [(1175, { level := 1 })] } }, 1175, by decide +kernel⟩,
   ⟨rdy {  }, by decide +kernel⟩,
   ⟨rdy {  }, by decide +kernel⟩⟩

/-- What `Obligations.PtpMessages` assumes can hold. -/
theorem wit_PtpMessages :
    (∃ (s : State) (p : Nat) (m : PtpMsg), p < 16 ∧ s.dev.portUp p = true ∧ s.dev.tim.ptp.mode ≠ 0 ∧ s.dev.tim.ptp.portMask.testBit p = true ∧ m.domain = s.dev.tim.ptp.domain ∧ s.dev.tim.ptpS.slavePort = p ∧ s.dev.tim.ptpS.masterId = m.src ∧ m.kind = 0 ∧ m.twoStep = true ∧ s.dev.mboxClear = false) ∧
    (∃ (s : State) (p : Nat) (m : PtpMsg) (t1 t2 t3 : Int), p < 16 ∧ s.dev.portUp p = true ∧ s.dev.tim.ptp.mode ≠ 0 ∧ s.dev.tim.ptp.portMask.testBit p = true ∧ m.domain = s.dev.tim.ptp.domain ∧ s.dev.tim.ptpS.slavePort = p ∧ s.dev.tim.ptpS.masterId = m.src ∧ m.kind = 9 ∧ s.dev.tim.ptpS.delayReq = some (m.seq, t3) ∧ s.dev.tim.ptpS.syncT12 = some (t1, t2) ∧ s.dev.mboxClear = false) ∧
    (∃ (s : State) (p : Nat) (m : PtpMsg), p < 16 ∧ s.dev.portUp p = true ∧ m.domain ≠ s.dev.tim.ptp.domain ∧ s.dev.mboxClear = false) ∧
    (∃ (s : State) (p : _), p < 16 ∧ s.dev.tim.ptp.mode ≠ 0 ∧ s.dev.tim.ptp.portMask.testBit p = true ∧ s.dev.canSend p = true ∧ (s.dev.port p).ipv4 ≠ 0 ∧ s.dev.tim.ptpS.slavePort = p ∧ (s.dev.port p).tsf.length < 64 ∧ s.dev.mboxClear = false) ∧
    (∃ (s : State) (p : _) (k : _), p < 16 ∧ (k = 0 ∨ k = 11) ∧ s.dev.tim.ptp.mode ≠ 0 ∧ s.dev.canSend p = true ∧ (s.dev.port p).ipv4 ≠ 0 ∧ s.dev.isMaster p = true ∧ s.dev.mboxClear = false) :=
  ⟨⟨rdy { units := [un 4 15 .running], tim := { ptp := { mode := 1, portMask := 0x8000, domain := 5 }, ptpS := { slavePort := 15, masterId := 77 } } }, 15, { kind := 0, domain := 5, twoStep := true, seq := 9, src := 77, ts := 0, corr := 0, rx := 0, rank := [] }, by decide +kernel⟩,
   ⟨rdy { units := [un 4 15 .running], tim := { ptp := { mode := 1, portMask := 0x8000, domain := 5 }, ptpS := { slavePort := 15, masterId := 77, delayReq := some (9, 30), syncT12 := some (10, 20) } } }, 15, { kind := 9, domain := 5, twoStep := true, seq := 9, src := 77, ts := 0, corr := 0, rx := 0, rank := [] }, 10, 20, 30, by decide +kernel⟩,
   ⟨rdy { units := [un 4 15 .running] }, 15, { kind := 0, domain := 5, twoStep := true, seq := 9, src := 77, ts := 0, corr := 0, rx := 0, rank := [] }, by decide +kernel⟩,
   ⟨rdy { units := [un 4 15 .running], net := { port := [(15, { link := true, ipv4 := 1 })] }, tim := { ptp := { mode := 1, portMask := 0x8000 }, ptpS := { slavePort := 15 } } }, 15, by decide +kernel⟩,
   ⟨rdy { units := [un 4 15 .running], net := { port := [(15, { link := true, ipv4 := 1 })] }, tim := { ptp := { mode := 2, portMask := 0x8000 } } }, 15, 11, by decide +kernel⟩⟩

/-- What `Obligations.TimeCommands` assumes can hold. -/
theorem wit_TimeCommands :
    (∃ (s : State) (r : AcpReq) (b : Bytes), Plain s r b ∧ b = []) ∧
    (∃ (s : State) (r : AcpReq) (b : Bytes), Plain s r b ∧ b.length = 16 ∧ u8 b 0 ≤ 1 ∧ u8 b 1 ≤ 127 ∧ u8 b 2 ≤ 3 ∧ u8 b 3 ≤ 1 ∧ ((u8 b 2 = 1 ∨ u8 b 2 = 2) → ((rangeFrom 0 16).filter (u16 b 4).testBit).length = 1) ∧ (u8 b 2 = 3 → ((rangeFrom 0 16).filter (u16 b 4).testBit).length ≠ 0) ∧ -7 ≤ s8 b 8 ∧ s8 b 8 ≤ 0 ∧ -3 ≤ s8 b 9 ∧ s8 b 9 ≤ 1 ∧ -7 ≤ s8 b 10 ∧ s8 b 10 ≤ 5 ∧ 2 ≤ u8 b 11 ∧ u8 b 11 ≤ 10 ∧ 1 ≤ u16 b 12 ∧ u16 b 12 ≤ 500 ∧ u8 b 15 ≠ 0 ∧ (∀ p, p < 16 → (u16 b 4).testBit p = true → (s.dev.unit 4 p).st ≠ .retired) ∧ ¬ (u8 b 2 ≠ 0 ∧ s.dev.tim.ppsMode = 2)) ∧
    (∃ (s : State) (r : AcpReq) (b : Bytes), Plain s r b ∧ b.length = 16 ∧ uN 6 b 10 = 0 ∧ 0 ≤ (s.dev.tim.now : Int) + (s64 b 0 * 65536 + (u16 b 8 : Nat)) * 2 ^ 24 ∧ (s.dev.tim.now : Int) + (s64 b 0 * 65536 + (u16 b 8 : Nat)) * 2 ^ 24 < 2 ^ 104 ∧ s.dev.audioStopped = true ∧ s.dev.tim.ptp.mode = 0) ∧
    (∃ (s : State) (r : AcpReq) (b : Bytes), Plain s r b ∧ b.length = 16 ∧ uN 5 b 11 = 0 ∧ s.dev.audioStopped = true ∧ s.dev.tim.ptp.mode = 0 ∧ (s.dev.tim.ppsMode ≠ 2 ∨ s.dev.tim.quality ≠ .locked)) ∧
    (∃ (s : State) (r : AcpReq) (b : Bytes), Plain s r b ∧ b.length = 12 ∧ u8 b 0 < 16 ∧ uN 3 b 1 = 0 ∧ (s.dev.unit 4 (u8 b 0)).st ≠ .retired) ∧
    (∃ (s : State) (r : AcpReq) (b : Bytes), Plain s r b ∧ b.length = 4 ∧ u8 b 0 < 4 ∧ u8 b 1 ≤ 1 ∧ u8 b 2 ≤ 1 ∧ u8 b 3 ≤ 3) ∧
    (∃ (s : State) (r : AcpReq) (b : Bytes), Plain s r b ∧ b.length = 12 ∧ u8 b 0 ≤ 2 ∧ u8 b 1 ≤ 1 ∧ u16 b 2 = 0 ∧ 1 ≤ u32 b 4 ∧ u32 b 4 ≤ 500000 ∧ ¬ (u8 b 0 = 2 ∧ s.dev.tim.ptp.mode ≠ 0)) ∧
    (∃ (s : State) (r : AcpReq) (b : Bytes), Plain s r b ∧ b.length = 8 ∧ u8 b 0 < 8 ∧ u8 b 1 ≤ 1 ∧ u16 b 2 = 0 ∧ u32 b 4 % 8 = 0 ∧ 8 ≤ u32 b 4 ∧ u32 b 4 ≤ 10 ^ 9) :=
  ⟨⟨rdy {}, rq ([]), _, plain_st _ _ (by decide +kernel), by decide +kernel⟩,
   ⟨rdy {}, rq ([1, 127, 3, 1, 255, 255, 255, 255, 249, 253, 249, 10, 0xF4, 1, 255, 255]), _, plain_st _ _ (by decide +kernel), by decide +kernel⟩,
   ⟨rdy {}, rq (le 8 1 ++ le 2 65535 ++ zb 6), _, plain_st _ _ (by decide +kernel), by decide +kernel⟩,
   ⟨rdy {}, rq (zb 16), _, plain_st _ _ (by decide +kernel), by decide +kernel⟩,
   ⟨rdy {}, rq ([15] ++ zb 11), _, plain_st _ _ (by decide +kernel), by decide +kernel⟩,
   ⟨rdy {}, rq ([3, 1, 1, 3]), _, plain_st _ _ (by decide +kernel), by decide +kernel⟩,
   ⟨rdy {}, rq ([2, 1, 0, 0] ++ le 4 500000 ++ zb 4), _, plain_st _ _ (by decide +kernel), by decide +kernel⟩,
   ⟨rdy {}, rq ([7, 1, 0, 0] ++ le 4 1000000000), _, plain_st _ _ (by decide +kernel), by decide +kernel⟩⟩

/-- What `Obligations.Triggers` assumes can hold. -/
theorem wit_Triggers :
    (∃ (s : State) (r : AcpReq) (b : Bytes), Plain s r b ∧ b.length = 32 ∧ trigRange b = false ∧ u8 b 17 ≠ 4 ∧ u8 b 17 ≠ 0 ∧ s.dev.leadOn (s.dev.slot (u8 b 16)) = false ∧ s.dev.tim.quality ≠ .invalid ∧ s.dev.inLead (u8 b 17) (u64 b 0 * 65536 + u16 b 8) = false) ∧
    (∃ (s : State) (r : AcpReq) (b : Bytes), Plain s r b ∧ b.length = 4 ∧ u8 b 0 < 32 ∧ uN 3 b 1 = 0 ∧ s.dev.leadOn (s.dev.slot (u8 b 0)) = false) ∧
    (∃ (s : State) (r : AcpReq) (b : Bytes), Plain s r b ∧ b = []) ∧
    (∃ (s : State) (m : _), m < 32 ∧ (s.dev.slot m).armed = true ∧ (s.dev.slot m).leadBegun = false ∧ (s.dev.slot m).action = 1 ∧ (s.dev.unit 0 0).st = .stopped) ∧
    (∃ (s : State) (m : _), m < 32 ∧ (s.dev.slot m).armed = true ∧ audioAction (s.dev.slot m).action = true ∧ (s.dev.slot m).leadBegun = true ∧ s.dev.pwr.st ≠ .doze ∧ s.dev.pwr.st ≠ .hibernate ∧ s.dev.mboxClear = false) ∧
    (∃ (s : State) (m : _), m < 32 ∧ (s.dev.slot m).armed = true ∧ (s.dev.slot m).action = 7 ∧ s.dev.pwr.st ≠ .doze ∧ s.dev.pwr.st ≠ .hibernate ∧ s.dev.mboxClear = false) ∧
    (∃ (x : Slot), x.period = 0) ∧
    (∃ (x : Slot), x.period ≠ 0) :=
  ⟨⟨rdy { tim := { quality := .locked } }, rq (le 8 1000000000 ++ zb 8 ++ [31, 7] ++ zb 14), _, plain_st _ _ (by decide +kernel), by decide +kernel⟩,
   ⟨rdy {}, rq ([31, 0, 0, 0]), _, plain_st _ _ (by decide +kernel), by decide +kernel⟩,
   ⟨rdy {}, rq ([]), _, plain_st _ _ (by decide +kernel), by decide +kernel⟩,
   ⟨rdy { tim := { slots := [(31, { armed := true, action := 1 })] } }, 31, by decide +kernel⟩,
   ⟨rdy { tim := { slots := [(31, { armed := true, action := 4, leadBegun := true })] } }, 31, by decide +kernel⟩,
   ⟨rdy { tim := { slots := [(31, { armed := true, action := 7 })] } }, 31, by decide +kernel⟩,
   ⟨{}, rfl⟩,
   ⟨{ period := 1 }, by decide⟩⟩

/-- What `Obligations.FrameReceive` assumes can hold. -/
theorem wit_FrameReceive :
    (∃ (s : State) (p : Nat) (f : RxFrame), p < 16 ∧ 14 ≤ f.bytes.length ∧ s.dev.portUp p = true ∧ f.frags = 0 ∧ rxCheck (s.dev.port p) f = some 18 ∧ (s.dev.port p).overTick ≠ some s.dev.tim.tick ∧ Strikable s (1092 + p) ∧ tget 0 (s.dev.port p).ctr 18 < 0x7FFFFFFFFF#40 ∧ s.dev.mboxClear = false) ∧
    (∃ (s : State) (p : Nat) (f : RxFrame) (c : Nat), p < 16 ∧ 14 ≤ f.bytes.length ∧ s.dev.portUp p = true ∧ f.frags = 0 ∧ rxCheck (s.dev.port p) f = some c ∧ c ≠ 18 ∧ s.dev.mboxClear = false) ∧
    (∃ (s : State) (p : Nat) (f : RxFrame), p < 16 ∧ 14 ≤ f.bytes.length ∧ s.dev.portUp p = true ∧ f.frags = 0 ∧ rxCheck (s.dev.port p) f = none ∧ beN 2 f.bytes 12 ≠ 0x8808 ∧ untag (s.dev.port p) f.bytes = none ∧ s.dev.mboxClear = false) ∧
    (∃ (s : State) (p : Nat) (f : RxFrame) (b : Bytes), p < 16 ∧ 14 ≤ f.bytes.length ∧ s.dev.portUp p = true ∧ f.frags = 0 ∧ rxCheck (s.dev.port p) f = none ∧ beN 2 f.bytes 12 ≠ 0x8808 ∧ untag (s.dev.port p) f.bytes = some b ∧ ((beN 6 b 0 = s.dev.macOf p ∧ (s.dev.port p).ipv4 ≠ 0) ∨ beN 6 b 0 = 2 ^ 48 - 1 ∨ (s.dev.joined p).any (fun g => groupMac g == beN 6 b 0) = true) ∧ (s.dev.classOf p b = 4 ∨ s.dev.classOf p b = 5) ∧ s.dev.mboxClear = false) :=
  ⟨⟨rdy { units := [un 4 15 .running] }, 15, { bytes := zb 60, badAsm := false, badCode := false, badFcs := false, overrun := true, frags := 0, at_ := 0 }, by simp only [Strikable]; decide +kernel⟩,
   ⟨rdy { units := [un 4 15 .running] }, 15, { bytes := zb 14, badAsm := false, badCode := false, badFcs := false, overrun := false, frags := 0, at_ := 0 }, 12, by decide +kernel⟩,
   ⟨rdy { units := [un 4 15 .running] }, 15, { bytes := zb 12 ++ [0x88, 0xA8] ++ zb 46, badAsm := false, badCode := false, badFcs := false, overrun := false, frags := 0, at_ := 0 }, by decide +kernel⟩,
   ⟨rdy { units := [un 4 15 .running], net := { port := [(15, { mac := some 2, ipv4 := 6 })] } }, 15, { bytes := ethOf 2 1 0x0800 (ipv4Of 0 64 17 5 6 [] (udpOf 319 319 (zb 44))), badAsm := false, badCode := false, badFcs := false, overrun := false, frags := 0, at_ := 0 }, ethOf 2 1 0x0800 (ipv4Of 0 64 17 5 6 [] (udpOf 319 319 (zb 44))), by decide +kernel⟩⟩

/-- What `Obligations.FrameTransmit` assumes can hold. -/
theorem wit_FrameTransmit :
    (∃ (s : State) (p q : Nat) (f : Bytes), p < 16 ∧ q < 3 ∧ 14 ≤ f.length ∧ s.dev.canSend p = true ∧ f.length + (s.dev.port p).tagLen ≤ (s.dev.port p).maxfrm - 4 ∧ s.dev.mboxClear = false) ∧
    (∃ (s : State) (p q : Nat) (f : Bytes) (_m : Bool), p < 16 ∧ q < 3 ∧ 14 ≤ f.length ∧ s.dev.canSend p = true ∧ (s.dev.port p).maxfrm - 4 < f.length + (s.dev.port p).tagLen ∧ s.dev.mboxClear = false) ∧
    (∃ (s : State) (p : _) (n : _) (left : _), p < 16 ∧ (s.dev.port p).sending = some (left, false) ∧ max n (64 * (1 + (s.dev.port p).fragUse) - 4) + 60 ≤ left ∧ s.dev.mboxClear = false) ∧
    (∃ (s : State) (p : _), p < 16 ∧ s.dev.mboxClear = false) :=
  ⟨⟨rdy { units := [un 4 15 .running], net := { port := [(15, { link := true })] } }, 15, 2, zb 1518, by decide +kernel⟩,
   ⟨rdy { units := [un 4 15 .running], net := { port := [(15, { link := true })] } }, 15, 2, zb 1519, true, by decide +kernel⟩,
   ⟨rdy { net := { port := [(15, { sending := some (120, false) })] } }, 15, 60, 120, by decide +kernel⟩,
   ⟨rdy {  }, 15, by decide +kernel⟩⟩

/-- What `Obligations.PortLinks` assumes can hold. -/
theorem wit_PortLinks :
    (∃ (s : State) (p : _), p < 16 ∧ (s.dev.unit 4 p).st = .starting ∧ s.dev.mboxClear = false) ∧
    (∃ (s : State) (p : _), p < 16 ∧ (s.dev.unit 4 p).st = .starting ∧ s.dev.chRet (1092 + p) = false) ∧
    (∃ (s : State) (p : _), p < 16 ∧ s.dev.portUp p = true ∧ (s.dev.port p).link = false ∧ (s.dev.port p).wasUp = true ∧ s.dev.chRet (1092 + p) = false) ∧
    (∃ (s : State) (p : _), p < 16 ∧ (s.dev.unit 4 p).st = .stopping ∧ s.dev.mboxClear = false) ∧
    (∃ (s : State) (p : Nat) (_an : Bool), p < 16 ∧ s.dev.portUp p = true ∧ (s.dev.port p).link = false ∧ s.dev.pwr.st = .active ∧ (s.dev.port p).ipv4 = 0 ∧ s.dev.mboxClear = false) ∧
    (∃ (s : State) (p : Nat) (_an : Bool), p < 16 ∧ s.dev.portUp p = true ∧ (s.dev.port p).link = true ∧ s.dev.pwr.st = .active ∧ Strikable s (1092 + p) ∧ s.dev.mboxClear = false) ∧
    (∃ (s : State) (p : Nat) (_ok : Bool) (frag : Nat), p < 16 ∧ frag < 4 ∧ s.dev.portUp p = true ∧ (s.dev.port p).preSt = 1 ∧ s.dev.mboxClear = false) ∧
    (∃ (s : State) (p : _), p < 16 ∧ s.dev.portUp p = true ∧ (s.dev.port p).fcsLimit ≠ 0 ∧ (s.dev.port p).fcsLimit.toNat < (s.dev.port p).errSec ∧ Strikable s (1092 + p) ∧ s.dev.mboxClear = false) ∧
    (∃ (s : State) (p : Nat) (f : Bytes) (_c i : Nat), p < 16 ∧ s.dev.pwr.st = .doze ∧ s.dev.net.wakePort = p ∧ s.dev.portUp p = true ∧ (s.dev.port p).link = true ∧ s.dev.wakeFilter p f = some i ∧ s.dev.pwr.latchOpen = true ∧ s.dev.pwr.first = none) :=
  ⟨⟨rdy { units := [un 4 15 .starting] }, 15, by decide +kernel⟩,
   ⟨rdy { units := [un 4 15 .starting] }, 15, by decide +kernel⟩,
   ⟨rdy { units := [un 4 15 .running], net := { port := [(15, { wasUp := true })] } }, 15, by decide +kernel⟩,
   ⟨rdy { units := [un 4 15 .stopping] }, 15, by decide +kernel⟩,
   ⟨rdy { units := [un 4 15 .running] }, 15, true, by decide +kernel⟩,
   ⟨rdy { units := [un 4 15 .running], net := { port := [(15, { link := true })] } }, 15, true, by simp only [Strikable]; decide +kernel⟩,
   ⟨rdy { units := [un 4 15 .running], net := { port := [(15, { preSt := 1 })] } }, 15, true, 3, by decide +kernel⟩,
   ⟨rdy { units := [un 4 15 .running], net := { port := [(15, { errSec := 101 })] } }, 15, by simp only [Strikable]; decide +kernel⟩,
   ⟨raw { units := [un 4 15 .running], net := { wakePort := 15, port := [(15, { link := true, wf := [(7, { mask := 1, check := (crc16 [0]) })] })] }, pwr := { st := .doze, latchOpen := true } }, 15, zb 60, 5, 7, by decide +kernel⟩⟩

/-- What `Obligations.NetCommands` assumes can hold. -/
theorem wit_NetCommands :
    (∃ (s : State) (r : AcpReq) (b : Bytes), Plain s r b ∧ b.length = 40 ∧ u8 b 0 < 16 ∧ u8 b 1 ≤ 4 ∧ u8 b 2 ≤ 7 ∧ u8 b 3 = 0 ∧ (if (u8 b 2).testBit 1 then 1 ≤ u16 b 4 ∧ u16 b 4 ≤ 4094 else u16 b 4 = 0) ∧ u8 b 6 ≤ 7 ∧ u8 b 7 ≤ 7 ∧ u8 b 8 ≤ 7 ∧ u8 b 9 = 0 ∧ 1518 ≤ u16 b 10 ∧ u16 b 10 ≤ 9216 ∧ u8 b 12 % 2 = 0 ∧ u16 b 18 = 0 ∧ u8 b 24 ≤ 32 ∧ uN 3 b 25 = 0 ∧ u32 b 36 = 0 ∧ (s.dev.unit 4 (u8 b 0)).st = .stopped) ∧
    (∃ (s : State) (r : AcpReq) (b : Bytes), Plain s r b ∧ b.length = 4 ∧ u8 b 0 < 16 ∧ uN 3 b 1 = 0) ∧
    (∃ (s : State) (r : AcpReq) (b : Bytes), Plain s r b ∧ b = []) ∧
    (∃ (s : State) (r : AcpReq) (b : Bytes), Plain s r b ∧ b.length = 8 ∧ u8 b 0 < 16 ∧ u8 b 1 ≤ 1 ∧ u8 b 2 ≤ 7 ∧ u8 b 3 ≤ 3 ∧ u8 b 4 ≤ 1 ∧ uN 3 b 5 = 0 ∧ (s.dev.unit 4 (u8 b 0)).st = .stopped) ∧
    (∃ (s : State) (r : AcpReq) (b : Bytes), Plain s r b ∧ b.length = 4 ∧ u8 b 0 < 16 ∧ u8 b 1 ≤ 1 ∧ u16 b 2 = 0) ∧
    (∃ (s : State) (r : AcpReq) (b : Bytes), Plain s r b ∧ b.length = 16 ∧ u8 b 0 < 16 ∧ uN 7 b 1 = 0 ∧ u64 b 8 < 2 ^ 40) ∧
    (∃ (s : State) (r : AcpReq) (b : Bytes), Plain s r b ∧ b.length = 24 ∧ u8 b 0 < 16 ∧ u8 b 1 ≤ 7 ∧ u8 b 2 ≤ 1 ∧ u8 b 3 = 0 ∧ u16 b 4 ≤ 9088 ∧ (s.dev.unit 4 (u8 b 0)).st ≠ .retired) ∧
    (∃ (s : State) (r : AcpReq) (b : Bytes), Plain s r b ∧ b.length = 4 ∧ u8 b 1 ≤ 1 ∧ u16 b 2 = 0 ∧ (u8 b 0 = 255 ∨ (u8 b 0 < 16 ∧ ((s.dev.port (u8 b 0)).mode = 3 ∨ (s.dev.port (u8 b 0)).mode = 4) ∧ (s.dev.unit 4 (u8 b 0)).st ≠ .retired))) ∧
    (∃ (s : State) (r : AcpReq) (b : Bytes), Plain s r b ∧ b.length = 4 ∧ u8 b 0 < 16 ∧ uN 3 b 1 = 0) :=
  ⟨⟨rdy {}, rq ([15, 4, 2, 0] ++ le 2 4094 ++ [7, 7, 7, 0] ++ le 2 9216 ++ zb 28), _, plain_st _ _ (by decide +kernel), by decide +kernel⟩,
   ⟨rdy {}, rq ([15, 0, 0, 0]), _, plain_st _ _ (by decide +kernel), by decide +kernel⟩,
   ⟨rdy {}, rq ([]), _, plain_st _ _ (by decide +kernel), by decide +kernel⟩,
   ⟨rdy {}, rq ([15, 1, 7, 3, 1, 0, 0, 0]), _, plain_st _ _ (by decide +kernel), by decide +kernel⟩,
   ⟨rdy {}, rq ([15, 1, 0, 0]), _, plain_st _ _ (by decide +kernel), by decide +kernel⟩,
   ⟨rdy {}, rq ([15] ++ zb 7 ++ le 8 (2 ^ 40 - 1)), _, plain_st _ _ (by decide +kernel), by decide +kernel⟩,
   ⟨rdy {}, rq ([15, 7, 1, 0] ++ le 2 9088 ++ zb 18), _, plain_st _ _ (by decide +kernel), by decide +kernel⟩,
   ⟨rdy { net := { port := [(15, { mode := 4 })] } }, rq ([15, 1, 0, 0]), _, plain_st _ _ (by decide +kernel), by decide +kernel⟩,
   ⟨rdy {}, rq ([15, 0, 0, 0]), _, plain_st _ _ (by decide +kernel), by decide +kernel⟩⟩

/-- What `Obligations.PacketsIn` assumes can hold. -/
theorem wit_PacketsIn :
    (∃ (s : State) (p : Nat) (a : RtpIn) (r : Nat) (leg : Bool), p < 16 ∧ s.dev.rxMatch p a.srcIp a.dstIp a.dstUdp = some (r, leg) ∧ (s.dev.rx r).payload ≠ 3 ∧ s.dev.mboxClear = false) ∧
    (∃ (s : State) (p : Nat) (a : RtpIn) (r : Nat) (leg : Bool), p < 16 ∧ s.dev.rxMatch p a.srcIp a.dstIp a.dstUdp = some (r, leg) ∧ (s.dev.rx r).payload ≠ 3 ∧ (s.dev.rx r).accept a.data = none ∧ s.dev.mboxClear = false) ∧
    (∃ (s : State) (p : Nat) (a : RtpIn) (r : Nat) (b : Bytes) (d : Dev) (rows : List (List Int)) (n : Int), p < 16 ∧ rtpTake p a false s.dev = (some (r, b), d) ∧ (d.rx r).timing ≠ 1 ∧ rows = (rtpSamples (d.rx r).payload (rtpWords (d.rx r).payload (d.rx r).chans (ptimeS (d.rx r).ptime (d.rx r).rate) b) (d.rx r).cs).1 ∧ n = rtpIndex (ioRate (d.rx r).rate) a.at_ (beN 4 a.data 4) (d.rx r).tsOff ∧ (n - 2 * (ptimeS (d.rx r).ptime (d.rx r).rate : Nat)) * (secN : Nat) ≤ (a.at_ * ioRate (d.rx r).rate : Nat) ∧ s.dev.mboxClear = false) ∧
    (∃ (s : State) (p : Nat) (a : RtpIn) (r : Nat) (b : Bytes) (d : Dev), p < 16 ∧ rtpTake p a false s.dev = (some (r, b), d) ∧ (d.rx r).timing = 1 ∧ s.dev.mboxClear = false) ∧
    (∃ (s : State) (p : Nat) (a : RtpIn) (r : Nat) (b : Bytes) (d : Dev), p < 16 ∧ rtpTake p a true s.dev = (some (r, b), d)) :=
  ⟨⟨rdy { units := [un 5 255 .running], str := { rx := [(255, { legA := { port := 15, dstUdp := 5004, dstIp := 7 } })] } }, 15, { srcIp := 1, dstIp := 7, dstUdp := 5004, at_ := 0, data := [] }, 255, false, by decide +kernel⟩,
   ⟨rdy { units := [un 5 255 .running], str := { rx := [(255, { legA := { port := 15, dstUdp := 5004, dstIp := 7 } })] } }, 15, { srcIp := 1, dstIp := 7, dstUdp := 5004, at_ := 0, data := [] }, 255, false, by decide +kernel⟩,
   ⟨rdy { units := [un 5 255 .running], str := { rx := [(255, { legA := { port := 15, dstUdp := 5004, dstIp := 7 } })] } }, 15, { srcIp := 1, dstIp := 7, dstUdp := 5004, at_ := 0, data := [0x80] ++ zb 23 }, 255, zb 12, (rtpTake 15 { srcIp := 1, dstIp := 7, dstUdp := 5004, at_ := 0, data := [0x80] ++ zb 23 } false (rdy { units := [un 5 255 .running], str := { rx := [(255, { legA := { port := 15, dstUdp := 5004, dstIp := 7 } })] } }).dev).2, _, _, by decide +kernel, Prod.ext (by decide +kernel) rfl, by decide +kernel, rfl, rfl, by decide +kernel, rfl⟩,
   ⟨rdy { units := [un 5 255 .running], str := { rx := [(255, { legA := { port := 15, dstUdp := 5004, dstIp := 7 }, timing := 1 })] } }, 15, { srcIp := 1, dstIp := 7, dstUdp := 5004, at_ := 0, data := [0x80] ++ zb 23 }, 255, zb 12, (rtpTake 15 { srcIp := 1, dstIp := 7, dstUdp := 5004, at_ := 0, data := [0x80] ++ zb 23 } false (rdy { units := [un 5 255 .running], str := { rx := [(255, { legA := { port := 15, dstUdp := 5004, dstIp := 7 }, timing := 1 })] } }).dev).2, by decide +kernel, Prod.ext (by decide +kernel) rfl, by decide +kernel, rfl⟩,
   ⟨rdy { units := [un 5 255 .running], str := { rx := [(255, { legA := { port := 15, dstUdp := 5004, dstIp := 7 }, payload := 3 })] } }, 15, { srcIp := 1, dstIp := 7, dstUdp := 5004, at_ := 0, data := [0x80] ++ zb 59 }, 255, zb 48, (rtpTake 15 { srcIp := 1, dstIp := 7, dstUdp := 5004, at_ := 0, data := [0x80] ++ zb 59 } true (rdy { units := [un 5 255 .running], str := { rx := [(255, { legA := { port := 15, dstUdp := 5004, dstIp := 7 }, payload := 3 })] } }).dev).2, by decide +kernel, Prod.ext (by decide +kernel) rfl⟩⟩

/-- What `Obligations.SerialFrames` assumes can hold. -/
theorem wit_SerialFrames :
    (∃ (s : State) (c at_ : Nat) (w : List Int), c < 10 ∧ (s.dev.tc c).role = 1 ∧ s.dev.unitOn 7 c = true ∧ (s.dev.tc c).mute = 0 ∧ w ≠ [] ∧ 0 ≤ (frameNo (ioRate (s.dev.tc c).rate) at_ (s.dev.tc c).lag).1 ∧ (∀ l, (s.dev.tc c).lastK = some l → l < (frameNo (ioRate (s.dev.tc c).rate) at_ (s.dev.tc c).lag).1) ∧ slipped (ioRate (s.dev.tc c).rate) at_ (s.dev.tc c).lag (frameNo (ioRate (s.dev.tc c).rate) at_ (s.dev.tc c).lag).1 = false ∧ s.dev.mboxClear = false) ∧
    (∃ (s : State) (c _a : Nat) (_w : List Int), c < 10 ∧ (s.dev.tc c).role = 2 ∧ s.dev.unitOn 7 c = true ∧ (s.dev.tc c).mute = 0 ∧ s.dev.mboxClear = false) ∧
    (∃ (s : State) (c at_ : Nat) (_w : List Int), c < 10 ∧ (s.dev.tc c).role = 1 ∧ s.dev.unitOn 7 c = true ∧ slipped (ioRate (s.dev.tc c).rate) at_ (s.dev.tc c).lag (frameNo (ioRate (s.dev.tc c).rate) at_ (s.dev.tc c).lag).1 = true ∧ (∀ i, i < 4 → Strikable s (1108 + 4 * c + i)) ∧ s.dev.mboxClear = false) ∧
    (∃ (s : State) (c : _), c < 10 ∧ (s.dev.tc c).role ≠ 0 ∧ s.dev.unitOn 7 c = true ∧ (s.dev.tc c).clk = true ∧ (∀ i, i < 4 → Strikable s (1108 + 4 * c + i)) ∧ s.dev.mboxClear = false) ∧
    (∃ (s : State) (c : _), c < 10 ∧ (s.dev.tc c).role ≠ 0 ∧ s.dev.unitOn 7 c = true ∧ (s.dev.tc c).clk = false ∧ (s.dev.tc c).wasClk = true ∧ (∀ i, i < 4 → s.dev.chRet (1108 + 4 * c + i) = false)) ∧
    (∃ (s : State) (m at_ : Nat) (w : List Nat), m < 8 ∧ (s.dev.madi m).rxEn = true ∧ s.dev.unitOn 8 m = true ∧ (s.dev.madi m).role ≠ 1 ∧ (s.dev.madi m).mute = 0 ∧ w ≠ [] ∧ 0 ≤ (frameNo (s.dev.madi m).frameRate at_ (s.dev.madi m).lag).1 ∧ (∀ l, (s.dev.madi m).lastK = some l → l < (frameNo (s.dev.madi m).frameRate at_ (s.dev.madi m).lag).1) ∧ s.dev.mboxClear = false) ∧
    (∃ (s : State) (m _a : Nat) (_w : List Nat), m < 8 ∧ (s.dev.madi m).rxEn = true ∧ s.dev.unitOn 8 m = true ∧ (s.dev.madi m).role = 1 ∧ (s.dev.madi m).mute = 0 ∧ s.dev.mboxClear = false) ∧
    (∃ (s : State) (m _a : Nat) (_w : List Nat) (n : Nat), m < 8 ∧ (s.dev.madi m).rxEn = true ∧ s.dev.unitOn 8 m = true ∧ 0 < n ∧ s.dev.mboxClear = false) ∧
    (∃ (s : State) (m : _), m < 8 ∧ (s.dev.madi m).rxEn = true ∧ s.dev.unitOn 8 m = true ∧ (s.dev.madi m).lock = true ∧ Strikable s (1148 + m) ∧ s.dev.mboxClear = false) ∧
    (∃ (s : State) (m : _) (n : _), m < 8 ∧ s.dev.unitOn 8 m = true ∧ 100 < n ∧ Strikable s (1148 + m) ∧ s.dev.mboxClear = false) ∧
    (∃ (s : State) (m : _), m < 8 ∧ s.dev.unitOn 8 m = true ∧ (s.dev.madi m).signal = false ∧ (s.dev.madi m).wasSig = true ∧ s.dev.chRet (1148 + m) = false) :=
  ⟨⟨rdy { units := [un 7 9 .running], sap := { tc := [(9, { role := 1 })] } }, 9, 0, [1], by decide +kernel, by decide +kernel, by decide +kernel, by decide +kernel, by decide, by decide +kernel, (fun _ h => nomatch h), by decide +kernel, rfl⟩,
   ⟨rdy { units := [un 7 9 .running], sap := { tc := [(9, { role := 2 })] } }, 9, 0, [], by decide +kernel⟩,
   ⟨rdy { units := [un 7 9 .running], sap := { tc := [(9, { role := 1 })] } }, 9, 300000000, [], by simp only [Strikable]; decide +kernel⟩,
   ⟨rdy { units := [un 7 9 .running], sap := { tc := [(9, { role := 2, clk := true })] } }, 9, by simp only [Strikable]; decide +kernel⟩,
   ⟨rdy { units := [un 7 9 .running], sap := { tc := [(9, { role := 2, wasClk := true })] } }, 9, by decide +kernel⟩,
   ⟨rdy { units := [un 8 7 .running], sap := { madi := [(7, { rxEn := true })] } }, 7, 0, [1], by decide +kernel, by decide +kernel, by decide +kernel, by decide +kernel, by decide +kernel, by decide, by decide +kernel, (fun _ h => nomatch h), rfl⟩,
   ⟨rdy { units := [un 8 7 .running], sap := { madi := [(7, { rxEn := true, role := 1 })] } }, 7, 0, [], by decide +kernel⟩,
   ⟨rdy { units := [un 8 7 .running], sap := { madi := [(7, { rxEn := true })] } }, 7, 0, [], 1, by decide +kernel⟩,
   ⟨rdy { units := [un 8 7 .running], sap := { madi := [(7, { rxEn := true, lock := true })] } }, 7, by simp only [Strikable]; decide +kernel⟩,
   ⟨rdy { units := [un 8 7 .running], sap := { madi := [(7, { rxEn := true })] } }, 7, 101, by simp only [Strikable]; decide +kernel⟩,
   ⟨rdy { units := [un 8 7 .running], sap := { madi := [(7, { rxEn := true, wasSig := true })] } }, 7, by decide +kernel⟩⟩

/-- What `Obligations.StreamCommands` assumes can hold. -/
theorem wit_StreamCommands :
    (∃ (s : State) (r : AcpReq) (b : Bytes), Plain s r b ∧ b.length = 48 ∧ u8 b 1 ≤ 3 ∧ (if u8 b 1 = 3 then u8 b 2 = 0 ∧ u8 b 3 = 0 ∧ u8 b 4 = 0 ∧ u8 b 5 = 0 ∧ u8 b 6 = 0 ∧ u16 b 8 = 0 else u8 b 2 ≤ 5 ∧ u8 b 3 ≤ 4 ∧ 1 ≤ u8 b 4 ∧ u8 b 4 ≤ 64 ∧ u8 b 5 ≤ 1 ∧ u8 b 6 ≤ 1 ∧ ptimeS (u8 b 3) (u8 b 2) ≤ u16 b 8 ∧ u16 b 8 ≤ 16384) ∧ (u8 b 7 = 0 ∨ (96 ≤ u8 b 7 ∧ u8 b 7 ≤ 127)) ∧ u16 b 10 = 0 ∧ u8 b 17 = 0 ∧ u32 b 28 = 0 ∧ u8 b 33 = 0 ∧ u32 b 44 = 0 ∧ (∀ o ∈ [16, 32], u8 b o = 255 ∨ (u8 b o < 16 ∧ (s.dev.unit 4 (u8 b o)).st ≠ .retired ∧ 58 + (s.dev.port (u8 b o)).tagLen + (if u8 b 1 = 3 then 1440 else ptimeS (u8 b 3) (u8 b 2) * u8 b 4 * wordBytes (u8 b 1)) ≤ (s.dev.port (u8 b o)).maxfrm)) ∧ (∀ o ∈ [16, 32], u8 b o = 255 ∨ ∀ z ∈ s.dev.str.rx, z.1 ≠ u8 b 0 → rxLegOf b o ≠ z.2.legA ∧ rxLegOf b o ≠ z.2.legB) ∧ (u8 b 16 = 255 ∨ rxLegOf b 16 ≠ rxLegOf b 32) ∧ (s.dev.unit 5 (u8 b 0)).st = .stopped ∧ (s.dev.str.rx.map (fun (z : Nat × RxStr) => if z.1 = u8 b 0 then 0 else z.2.pool)).sum + (if u8 b 1 = 3 then 0 else u8 b 4 * (u16 b 8 + 2 * ptimeS (u8 b 3) (u8 b 2))) ≤ 786432) ∧
    (∃ (s : State) (r : AcpReq) (b : Bytes), Plain s r b ∧ b.length = 4 ∧ uN 3 b 1 = 0) ∧
    (∃ (s : State) (r : AcpReq) (b : Bytes), Plain s r b ∧ b.length = 72 ∧ u8 b 1 ≤ 2 ∧ u8 b 2 ≤ 5 ∧ u8 b 3 ≤ 3 ∧ 1 ≤ u8 b 4 ∧ u8 b 4 ≤ 64 ∧ u8 b 5 ≤ 63 ∧ u8 b 6 ≠ 0 ∧ 96 ≤ u8 b 7 ∧ u8 b 7 ≤ 127 ∧ u16 b 14 = 0 ∧ u32 b 20 = 0 ∧ u8 b 25 = 0 ∧ u16 b 30 = 0 ∧ uN 6 b 42 = 0 ∧ u8 b 49 = 0 ∧ u16 b 54 = 0 ∧ uN 6 b 66 = 0 ∧ (∀ o ∈ [24, 48], u8 b o = 255 ∨ (u8 b o < 16 ∧ (s.dev.unit 4 (u8 b o)).st ≠ .retired ∧ 58 + (s.dev.port (u8 b o)).tagLen + (if u8 b 1 = 3 then 1440 else ptimeS (u8 b 3) (u8 b 2) * u8 b 4 * wordBytes (u8 b 1)) ≤ (s.dev.port (u8 b o)).maxfrm)) ∧ (s.dev.unit 6 (u8 b 0)).st = .stopped) ∧
    (∃ (s : State) (r : AcpReq) (b : Bytes), Plain s r b ∧ b.length = 4 ∧ uN 3 b 1 = 0) ∧
    (∃ (s : State) (r : AcpReq) (b : Bytes), Plain s r b ∧ b.length = 4 + 4 * u16 b 2 ∧ 0 < u16 b 2 ∧ u16 b 0 + u16 b 2 ≤ 1088 ∧ (∀ i, i < u16 b 2 → inEntryBad b i = false) ∧ (∀ i u, i < u16 b 2 → (inUnit (inEntry b i) = some u ∨ inUnit (tget (0, 0, 0) s.dev.str.inmap (u16 b 0 + i)) = some u) → (s.dev.unit u.1 u.2).st = .stopped)) ∧
    (∃ (s : State) (r : AcpReq) (b : Bytes), Plain s r b ∧ b.length = 4 ∧ 0 < u16 b 2 ∧ u16 b 0 + u16 b 2 ≤ 1088) ∧
    (∃ (s : State) (r : AcpReq) (b : Bytes), Plain s r b ∧ b.length = 4 ∧ u8 b 0 ≤ 1 ∧ u8 b 2 ≤ 1 ∧ u8 b 3 = 0) :=
  ⟨⟨rdy {}, rq ([255, 0, 5, 4, 1, 1, 1, 127] ++ le 2 16384 ++ zb 6 ++ [255] ++ zb 15 ++ [255] ++ zb 15), _, plain_st _ _ (by decide +kernel), by decide +kernel⟩,
   ⟨rdy {}, rq ([255, 0, 0, 0]), _, plain_st _ _ (by decide +kernel), by decide +kernel⟩,
   ⟨rdy {}, rq ([255, 2, 5, 3, 64, 63, 1, 127] ++ zb 16 ++ [255] ++ zb 23 ++ [255] ++ zb 23), _, plain_st _ _ (by decide +kernel), by decide +kernel⟩,
   ⟨rdy {}, rq ([255, 0, 0, 0]), _, plain_st _ _ (by decide +kernel), by decide +kernel⟩,
   ⟨rdy {}, rq (le 2 1087 ++ le 2 1 ++ zb 4), _, plain_st _ _ (by decide +kernel), by decide +kernel, by decide +kernel, by decide +kernel, by decide +kernel, fun i u h e => by
    obtain rfl : i = 0 := lone (Nat.zero_le _) h
    rcases e with e | e <;> exact nomatch (show (none : Option (Nat × Nat)) = some u from e)⟩,
   ⟨rdy {}, rq (le 2 1087 ++ le 2 1), _, plain_st _ _ (by decide +kernel), by decide +kernel⟩,
   ⟨rdy {}, rq ([1, 255, 1, 0]), _, plain_st _ _ (by decide +kernel), by decide +kernel⟩⟩

/-- What `Obligations.SerialCommands` assumes can hold. -/
theorem wit_SerialCommands :
    (∃ (s : State) (r : AcpReq) (b : Bytes), Plain s r b ∧ b.length = 16 ∧ u8 b 0 ≤ 9 ∧ u8 b 1 ≤ 2 ∧ u8 b 2 ≤ 5 ∧ 2 ≤ u8 b 3 ∧ u8 b 3 ≤ 32 ∧ (u8 b 4 = 16 ∨ u8 b 4 = 24 ∨ u8 b 4 = 32) ∧ (u8 b 5 = 16 ∨ u8 b 5 = 24 ∨ u8 b 5 = 32) ∧ u8 b 5 ≤ u8 b 4 ∧ u8 b 6 ≤ 31 ∧ u8 b 7 ≤ 15 ∧ -64 ≤ s16 b 8 ∧ s16 b 8 ≤ 64 ∧ uN 6 b 10 = 0 ∧ u8 b 3 * u8 b 4 * ioRate (u8 b 2) ≤ (if u8 b 2 % 2 = 1 then 49152000 else 45158400) ∧ ¬ (u8 b 1 = 2 ∧ u8 b 7 ≠ 0) ∧ (s.dev.unit 7 (u8 b 0)).st = .stopped) ∧
    (∃ (s : State) (r : AcpReq) (b : Bytes), Plain s r b ∧ b.length = 4 ∧ u8 b 0 ≤ 9 ∧ uN 3 b 1 = 0) ∧
    (∃ (s : State) (r : AcpReq) (b : Bytes), Plain s r b ∧ b.length = 16 ∧ u8 b 0 ≤ 7 ∧ u8 b 1 ≤ 3 ∧ (if u8 b 1 < 2 then u8 b 2 ≤ 1 else u8 b 2 = 2 ∨ u8 b 2 = 3) ∧ u8 b 3 ≤ 1 ∧ -64 ≤ s16 b 4 ∧ s16 b 4 ≤ 64 ∧ u8 b 6 ≤ 1 ∧ u8 b 7 ≤ 1 ∧ u64 b 8 = 0 ∧ (s.dev.unit 8 (u8 b 0)).st = .stopped) ∧
    (∃ (s : State) (r : AcpReq) (b : Bytes), Plain s r b ∧ b.length = 4 ∧ u8 b 0 ≤ 7 ∧ uN 3 b 1 = 0) ∧
    (∃ (s : State) (r : AcpReq) (b : Bytes), Plain s r b ∧ b.length = 4 ∧ u8 b 0 ≤ 1 ∧ u8 b 1 ≤ (if u8 b 0 = 0 then 9 else 7) ∧ u8 b 2 ≤ 1 ∧ u8 b 3 = 0) :=
  ⟨⟨rdy {}, rq ([9, 1, 5, 8, 32, 32, 31, 15] ++ le 2 64 ++ zb 6), _, plain_st _ _ (by decide +kernel), by decide +kernel⟩,
   ⟨rdy {}, rq ([9, 0, 0, 0]), _, plain_st _ _ (by decide +kernel), by decide +kernel⟩,
   ⟨rdy {}, rq ([7, 3, 3, 1] ++ le 2 64 ++ [1, 1] ++ zb 8), _, plain_st _ _ (by decide +kernel), by decide +kernel⟩,
   ⟨rdy {}, rq ([7, 0, 0, 0]), _, plain_st _ _ (by decide +kernel), by decide +kernel⟩,
   ⟨rdy {}, rq ([1, 7, 1, 0]), _, plain_st _ _ (by decide +kernel), by decide +kernel⟩⟩

/-- What `Obligations.FilterEvents` assumes can hold. -/
theorem wit_FilterEvents :
    (∃ (s : State) (e : _) (n : _), e < 4 ∧ n < 16 ∧ s.dev.acting 3 e = true ∧ Strikable s (1165 + e) ∧ s.dev.mboxClear = false) ∧
    (∃ (s : State) (e : _) (g : _), e < 4 ∧ g < 16 ∧ (s.dev.grp e g).st = .acquire ∧ (s.dev.grp e g).rangeErr = false ∧ s.dev.mboxClear = false) ∧
    (∃ (s : State) (e : _) (g : _), e < 4 ∧ g < 16 ∧ (s.dev.grp e g).st = .locked ∧ s.dev.mboxClear = false) ∧
    (∃ (s : State) (n st : Nat) (bad : Bool) (x : List Int) (lv : Int), n < 64 ∧ (s.dev.tone n).full = some (st, bad, x) ∧ lv = (if x.all (· == 0) then -32768 else max (-32768) (satI 16 (Config.toneLevel (s.dev.tone n).freq (s.dev.tone n).n (b01 ((s.dev.tone n).window = 1)) s.dev.rate x))) ∧ s.dev.mboxClear = false) :=
  ⟨⟨rdy { units := [un 3 3 .running] }, 3, 15, by simp only [Strikable]; decide +kernel⟩,
   ⟨rdy { flt := { grp := [(63, { st := .acquire })] } }, 3, 15, by decide +kernel⟩,
   ⟨rdy { flt := { grp := [(63, { st := .locked })] } }, 3, 15, by decide +kernel⟩,
   ⟨rdy { flt := { td := [(63, { full := some (0, false, [0]) })] } }, 63, 0, false, [0], _, by decide +kernel, by decide +kernel, rfl, rfl⟩⟩

/-- What `Obligations.FilterCommands` assumes can hold. -/
theorem wit_FilterCommands :
    (∃ (s : State) (r : AcpReq) (b : Bytes), Plain s r b ∧ b.length = 8 ∧ u8 b 0 ≤ 5 ∧ (if u8 b 0 < 4 then u8 b 1 ≤ 2 else u8 b 1 = 3) ∧ ¬ (u8 b 1 = 1 ∧ s.dev.rate < 2) ∧ u8 b 2 ≤ 1 ∧ u8 b 3 ≤ 1 ∧ 1 ≤ u16 b 4 ∧ u16 b 4 ≤ slotLimit (u8 b 1) (u8 b 3) ∧ u16 b 6 = 0 ∧ s.dev.mappedAbove (u8 b 0) (u16 b 4) = false ∧ (s.dev.unit 3 (u8 b 0)).st = .stopped) ∧
    (∃ (s : State) (r : AcpReq) (b : Bytes), Plain s r b ∧ b.length = 4 ∧ u8 b 0 ≤ 5 ∧ uN 3 b 1 = 0) ∧
    (∃ (s : State) (r : AcpReq) (b : Bytes), Plain s r b ∧ b.length = 8 + 4 * u16 b 4 ∧ u8 b 0 = 0 ∧ u8 b 1 = 0 ∧ u16 b 6 = 0 ∧ runBad s.dev.rate 0 (u16 b 2) (u16 b 4) = false ∧ (∀ i, i < u16 b 4 → u8 b (9 + 4 * i) = 0 ∧ (u8 b (8 + 4 * i) = 255 ∨ (u8 b (8 + 4 * i) ≤ 3 ∧ (s.dev.unit 3 (u8 b (8 + 4 * i))).st = .stopped ∧ u16 b (10 + 4 * i) < (s.dev.fe (u8 b (8 + 4 * i))).slots)) ∧ ((s.dev.inRoute (u16 b 2 + i)).engine = 15 ∨ (s.dev.unit 3 (s.dev.inRoute (u16 b 2 + i)).engine).st = .stopped ∨ (s.dev.unit 3 (s.dev.inRoute (u16 b 2 + i)).engine).st = .retired)) ∧ slotClash (forRun (fun i t => tput {} t (u16 b 2 + i) ((mapRoutes b (u16 b 4)).getD i {})) (rangeFrom 0 (u16 b 4)) s.dev.flt.inmap) = false) ∧
    (∃ (s : State) (r : AcpReq) (b : Bytes), Plain s r b ∧ b.length = 8 + 4 * u16 b 4 ∧ u8 b 0 = 1 ∧ u8 b 1 = 0 ∧ u16 b 6 = 0 ∧ runBad s.dev.rate 1 (u16 b 2) (u16 b 4) = false ∧ (∀ i, i < u16 b 4 → u8 b (9 + 4 * i) = 0 ∧ (u8 b (8 + 4 * i) = 255 ∨ ((u8 b (8 + 4 * i) = 4 ∨ u8 b (8 + 4 * i) = 5) ∧ (s.dev.unit 3 (u8 b (8 + 4 * i))).st = .stopped ∧ u16 b (10 + 4 * i) < (s.dev.fe (u8 b (8 + 4 * i))).slots)) ∧ ((s.dev.outRoute (u16 b 2 + i)).engine = 15 ∨ (s.dev.unit 3 (s.dev.outRoute (u16 b 2 + i)).engine).st = .stopped ∨ (s.dev.unit 3 (s.dev.outRoute (u16 b 2 + i)).engine).st = .retired)) ∧ slotClash (forRun (fun i t => tput {} t (u16 b 2 + i) ((mapRoutes b (u16 b 4)).getD i {})) (rangeFrom 0 (u16 b 4)) s.dev.flt.outmap) = false) ∧
    (∃ (s : State) (r : AcpReq) (b : Bytes), Plain s r b ∧ b.length = 8 + 4 * u16 b 4 ∧ u8 b 0 ≤ 1 ∧ u8 b 1 = 0 ∧ u16 b 6 = 0 ∧ runBad s.dev.rate (u8 b 0) (u16 b 2) (u16 b 4) = false ∧ (∀ i r, i < u16 b 4 → r = (if u8 b 0 = 0 then s.dev.inRoute (u16 b 2 + i) else s.dev.outRoute (u16 b 2 + i)) → u32 b (8 + 4 * i) ≤ 0x3FFFF ∧ r.engine ≠ 15 ∧ (s.dev.fe r.engine).align ≠ 0 ∧ (s.dev.unit 3 r.engine).st = .stopped)) ∧
    (∃ (s : State) (r : AcpReq) (b : Bytes), Plain s r b ∧ b.length = 8 ∧ u8 b 0 ≤ 1 ∧ u8 b 1 = 0 ∧ u16 b 6 = 0 ∧ runBad s.dev.rate (u8 b 0) (u16 b 2) (u16 b 4) = false) ∧
    (∃ (s : State) (r : AcpReq) (b : Bytes) (x : Route) (ph tp : Nat), Plain s r b ∧ b.length = 4 ∧ u8 b 0 ≤ 1 ∧ u8 b 1 = 0 ∧ runBad s.dev.rate (u8 b 0) (u16 b 2) 1 = false ∧ x = (if u8 b 0 = 0 then s.dev.inRoute (u16 b 2) else s.dev.outRoute (u16 b 2)) ∧ ph = (if x.engine = 15 then 0 else Config.fltPhases (s.dev.fe x.engine).kind (s.dev.fe x.engine).profile s.dev.rate) ∧ tp = (if x.engine = 15 then 0 else Config.fltTaps (s.dev.fe x.engine).kind (s.dev.fe x.engine).profile s.dev.rate)) ∧
    (∃ (s : State) (r : AcpReq) (b : Bytes), Plain s r b ∧ b.length = 16 ∧ u8 b 0 ≤ 3 ∧ u8 b 1 ≤ 15 ∧ asrcSrcOk (u8 b 2) (u16 b 4) = true ∧ u8 b 3 ≤ 6 ∧ asrcRate (u8 b 3) ≤ frOf s.dev.rate ∧ uN 6 b 10 = 0 ∧ (s.dev.fe (u8 b 0)).kind = 2 ∧ (s.dev.unit 3 (u8 b 0)).st = .stopped ∧ (u8 b 2 = 0 ∨ (1 ≤ u16 b 8 ∧ u16 b 6 + u16 b 8 ≤ (s.dev.fe (u8 b 0)).slots ∧ ∀ g, g < 16 → g ≠ u8 b 1 → (s.dev.grp (u8 b 0) g).srcKind ≠ 0 → overlaps (u16 b 6) (u16 b 8) (s.dev.grp (u8 b 0) g).first (s.dev.grp (u8 b 0) g).count = false))) ∧
    (∃ (s : State) (r : AcpReq) (b : Bytes), Plain s r b ∧ b.length = 4 ∧ u8 b 0 ≤ 3 ∧ u8 b 1 ≤ 15 ∧ u16 b 2 = 0) ∧
    (∃ (s : State) (r : AcpReq) (b : Bytes), Plain s r b ∧ b.length = 24 ∧ u8 b 0 ≤ 63 ∧ u8 b 1 ≤ 1 ∧ u8 b 2 ≤ 2 ∧ u8 b 3 ≤ 1 ∧ u16 b 6 = 0 ∧ u32 b 20 = 0 ∧ u16 b 4 < (if u8 b 2 = 0 then nObj s.dev.rate else if u8 b 2 = 1 then 64 else 512) ∧ 10 * 65536 ≤ u32 b 8 ∧ u32 b 8 * 100 ≤ frOf s.dev.rate * 65536 * 45 ∧ 256 ≤ u32 b 12 ∧ u32 b 12 ≤ 65536 ∧ u32 b 12 % 16 = 0) ∧
    (∃ (s : State) (r : AcpReq) (b : Bytes), Plain s r b ∧ b.length = 4 ∧ 0 < u8 b 1 ∧ u8 b 0 + u8 b 1 ≤ 64 ∧ u16 b 2 = 0) :=
  ⟨⟨rdy {}, rq ([5, 3, 1, 1] ++ le 2 256 ++ zb 2), _, plain_st _ _ (by decide +kernel), by decide +kernel⟩,
   ⟨rdy {}, rq ([5, 0, 0, 0]), _, plain_st _ _ (by decide +kernel), by decide +kernel⟩,
   ⟨rdy {}, rq ([0, 0] ++ le 2 1087 ++ le 2 1 ++ zb 2 ++ [255, 0, 0, 0]), _, plain_st _ _ (by decide +kernel), by decide +kernel⟩,
   ⟨rdy {}, rq ([1, 0] ++ le 2 511 ++ le 2 1 ++ zb 2 ++ [255, 0, 0, 0]), _, plain_st _ _ (by decide +kernel), by decide +kernel⟩,
   ⟨rdy { flt := { outmap := [(511, { engine := 5, slot := 0 })] } }, rq ([1, 0] ++ le 2 511 ++ le 2 1 ++ zb 2 ++ le 4 0x3FFFF), _, plain_st _ _ (by decide +kernel), by decide +kernel, by decide +kernel, by decide +kernel, by decide +kernel, by decide +kernel, fun i r h e => by
    obtain rfl : i = 0 := lone (Nat.zero_le _) h
    subst e; decide +kernel⟩,
   ⟨rdy {}, rq ([1, 0] ++ le 2 511 ++ le 2 1 ++ zb 2), _, plain_st _ _ (by decide +kernel), by decide +kernel⟩,
   ⟨rdy {}, rq ([0, 0] ++ le 2 1087), _, _, _, _, plain_st _ _ (by decide +kernel), by decide +kernel, by decide +kernel, by decide +kernel, by decide +kernel, rfl, rfl, rfl⟩,
   ⟨rdy { flt := { fe := [(3, { kind := 2, slots := 136 })] } }, rq ([3, 15, 3, 4] ++ le 2 7 ++ le 2 135 ++ le 2 1 ++ zb 6), _, plain_st _ _ (by decide +kernel), by decide +kernel⟩,
   ⟨rdy {}, rq ([3, 15, 0, 0]), _, plain_st _ _ (by decide +kernel), by decide +kernel⟩,
   ⟨rdy {}, rq ([63, 1, 2, 1] ++ le 2 511 ++ zb 2 ++ le 4 2831155200 ++ le 4 65536 ++ zb 8), _, plain_st _ _ (by decide +kernel), by decide +kernel⟩,
   ⟨rdy {}, rq ([63, 1, 0, 0]), _, plain_st _ _ (by decide +kernel), by decide +kernel⟩⟩

/-- What `Obligations.Trajectories` assumes can hold. -/
theorem wit_Trajectories :
    (∃ (s : State) (r : AcpReq) (b : Bytes) (d : Dev) (k : KCount), Plain s r b ∧ 0 < u32 b 0 ∧ u32 b 0 ≤ 1024 ∧ b.length = 8 + 48 * u32 b 0 ∧ u32 b 4 = 0 ∧ (∀ i, i < u32 b 0 → recBad s.dev.rate ((b.drop (8 + 48 * i)).take 48) = false) ∧ recsApply s.dev.tim.tick ((rangeFrom 0 (u32 b 0)).map (fun i => recOf ((b.drop (8 + 48 * i)).take 48))) (s.dev, {}) = some (d, k)) ∧
    (∃ (s : State) (r : AcpReq) (b : Bytes), Plain s r b ∧ 0 < u32 b 0 ∧ u32 b 0 ≤ 1024 ∧ b.length = 8 + 48 * u32 b 0 ∧ u32 b 4 = 0 ∧ (∀ i, i < u32 b 0 → recBad s.dev.rate ((b.drop (8 + 48 * i)).take 48) = false) ∧ recsApply s.dev.tim.tick ((rangeFrom 0 (u32 b 0)).map (fun i => recOf ((b.drop (8 + 48 * i)).take 48))) (s.dev, {}) = none) ∧
    (∃ (s : State) (r : AcpReq) (b : Bytes) (k : KRec), Plain s r b ∧ b.length = 56 ∧ u32 b 0 = 1 ∧ u32 b 4 = 0 ∧ recBad s.dev.rate (b.drop 8) = false ∧ k = recOf (b.drop 8) ∧ (s.dev.obj k.obj).queue = [] ∧ boundT s.dev.rate (s.dev.tim.tick + 3) ≤ k.time * 65536) ∧
    (∃ (s : State) (r : AcpReq) (b : Bytes), Plain s r b ∧ b.length = 8 ∧ u16 b 0 < nObj s.dev.rate ∧ u16 b 2 = 0 ∧ Newest s (4 * u16 b 0) (s.dev.tim.tick + 3)) ∧
    (∃ (s : State) (r : AcpReq) (b : Bytes), Plain s r b ∧ b.length = 4 ∧ 0 < u16 b 2 ∧ u16 b 0 + u16 b 2 ≤ nObj s.dev.rate) ∧
    (∃ (s : State), s.dev.rendering = true ∧ Strikable s 1164 ∧ s.dev.mboxClear = false) :=
  ⟨⟨rdy {}, rq (le 4 1 ++ zb 4 ++ ({ obj := 1023, time := 500000, prio := 7 } : KRec).bytes), _, _, _, plain_st _ _ (by decide +kernel), by decide +kernel, by decide +kernel, by decide +kernel, by decide +kernel, by decide +kernel, rfl⟩,
   ⟨rdy { trj := { obj := [(1023, { queue := (rangeFrom 1 8).map (fun i => { r := { obj := 1023, time := 10 ^ 9 * i }, eff := 10 ^ 9 * i * 65536 }) })] } }, rq (le 4 1 ++ zb 4 ++ ({ obj := 1023, time := 10 ^ 11, prio := 7 } : KRec).bytes), _, plain_st _ _ (by decide +kernel), by decide +kernel⟩,
   ⟨rdy {}, rq (le 4 1 ++ zb 4 ++ ({ obj := 1023, time := 500000, prio := 7 } : KRec).bytes), _, _, plain_st _ _ (by decide +kernel), by decide +kernel, by decide +kernel, by decide +kernel, by decide +kernel, rfl, by decide +kernel, by decide +kernel⟩,
   ⟨rdy {}, rq (le 2 1023 ++ zb 6), _, plain_st _ _ (by decide +kernel), by decide +kernel, by decide +kernel, by decide +kernel, fun _ _ h => nomatch h⟩,
   ⟨rdy {}, rq (le 2 1023 ++ le 2 1), _, plain_st _ _ (by decide +kernel), by decide +kernel⟩,
   ⟨rdy { units := [un 0 0 .running] }, by simp only [Strikable]; decide +kernel⟩⟩

/-- What `Obligations.LayoutCommands` assumes can hold. -/
theorem wit_LayoutCommands :
    (∃ (s : State) (r : AcpReq) (b : Bytes), Plain s r b ∧ b.length = 40 ∧ u8 b 0 ≤ 31 ∧ u8 b 1 ≤ 3 ∧ u8 b 2 ≤ 3 ∧ u8 b 3 < 2 ^ u8 b 2 ∧ u8 b 6 ≤ 2 ∧ u8 b 7 = 0 ∧ 1 ≤ s32 b 8 ∧ 100 * 65536 ≤ u32 b 16 ∧ u32 b 16 ≤ 1000 * 65536 ∧ u32 b 20 ≤ 0x80000 ∧ u32 b 24 ≠ 0 ∧ u32 b 28 ≠ 0 ∧ 1 ≤ s32 b 32 ∧ u32 b 36 = 0 ∧ (s.dev.unit 1 (u8 b 0)).st = .stopped ∧ (∀ j, j < 32 → j ≠ u8 b 0 → s.dev.leadOf j = s.dev.leadOf (u8 b 0) → (s.dev.unit 1 j).st ≠ .stopped → (s.dev.layout j).law = u16 b 4 ∧ (s.dev.layout j).period = u8 b 2 ∧ (s.dev.layout j).phase = u8 b 3 ∧ (s.dev.layout j).scale = s32 b 8)) ∧
    (∃ (s : State) (r : AcpReq) (b : Bytes), Plain s r b ∧ b.length = 4 ∧ u8 b 0 ≤ 31 ∧ uN 3 b 1 = 0) ∧
    (∃ (s : State) (r : AcpReq) (b : Bytes), Plain s r b ∧ b.length = 8 + 32 * u16 b 2 ∧ 0 < u16 b 2 ∧ u16 b 0 + u16 b 2 ≤ 512 ∧ u32 b 4 = 0 ∧ (∀ i, i < u16 b 2 → u8 b (26 + 32 * i) ≤ 31 ∧ u8 b (27 + 32 * i) = 0 ∧ u32 b (36 + 32 * i) = 0 ∧ (s.dev.unit 1 (s.dev.layOf (u16 b 0 + i))).st = .stopped ∧ (s.dev.unit 1 (u8 b (26 + 32 * i))).st = .stopped)) ∧
    (∃ (s : State) (r : AcpReq) (b : Bytes), Plain s r b ∧ b.length = 4 ∧ 0 < u16 b 2 ∧ u16 b 0 + u16 b 2 ≤ 512) ∧
    (∃ (s : State) (r : AcpReq) (b : Bytes), Plain s r b ∧ b.length = 8 + 4 * u16 b 2 ∧ 0 < u16 b 2 ∧ u16 b 0 + u16 b 2 ≤ 256 ∧ u32 b 4 = 0 ∧ (∀ i, i < u16 b 2 → Newest s (4 * (u16 b 0 + i) + 1) (s.dev.tim.tick + 3))) ∧
    (∃ (s : State) (r : AcpReq) (b : Bytes), Plain s r b ∧ b.length = 4 ∧ u32 b 0 ≤ 1 ∧ (s.dev.unit 0 0).st = .stopped) ∧
    (∃ (s : State) (r : AcpReq) (b : Bytes) (x : Obj) (q : Nat), Plain s r b ∧ b.length = 4 ∧ u16 b 0 < nObj s.dev.rate ∧ u16 b 2 = 0 ∧ x = s.dev.obj (u16 b 0) ∧ q = qDepth x.queue (boundT s.dev.rate (s.dev.tim.tick + 3))) ∧
    (∃ (s : State) (r : AcpReq) (b : Bytes), Plain s r b ∧ b = []) :=
  ⟨⟨rdy {}, rq ([31, 3, 3, 7] ++ zb 2 ++ [2, 0] ++ le 4 1 ++ zb 4 ++ le 4 65536000 ++ le 4 0x80000 ++ le 4 1 ++ le 4 1 ++ le 4 1 ++ zb 4), _, plain_st _ _ (by decide +kernel), by decide +kernel, by decide +kernel, by decide +kernel, by decide +kernel, by decide +kernel, by decide +kernel, by decide +kernel, by decide +kernel, by decide +kernel, by decide +kernel, by decide +kernel, by decide +kernel, by decide +kernel, by decide +kernel, by decide +kernel, by decide +kernel, fun _ _ _ _ h => absurd rfl h⟩,
   ⟨rdy {}, rq ([31, 0, 0, 0]), _, plain_st _ _ (by decide +kernel), by decide +kernel⟩,
   ⟨rdy {}, rq (le 2 511 ++ le 2 1 ++ zb 4 ++ zb 18 ++ [31] ++ zb 13), _, plain_st _ _ (by decide +kernel), by decide +kernel⟩,
   ⟨rdy {}, rq (le 2 511 ++ le 2 1), _, plain_st _ _ (by decide +kernel), by decide +kernel⟩,
   ⟨rdy {}, rq (le 2 255 ++ le 2 1 ++ zb 8), _, plain_st _ _ (by decide +kernel), by decide +kernel, by decide +kernel, by decide +kernel, by decide +kernel, fun _ _ _ _ h => nomatch h⟩,
   ⟨rdy {}, rq (le 4 1), _, plain_st _ _ (by decide +kernel), by decide +kernel⟩,
   ⟨rdy {}, rq (le 2 1023 ++ zb 2), _, _, _, plain_st _ _ (by decide +kernel), by decide +kernel, by decide +kernel, by decide +kernel, rfl, rfl⟩,
   ⟨rdy {}, rq ([]), _, plain_st _ _ (by decide +kernel), by decide +kernel⟩⟩

/-- What `Obligations.OutputCommands` assumes can hold. -/
theorem wit_OutputCommands :
    (∃ (s : State) (r : AcpReq) (b : Bytes), Plain s r b ∧ b.length = 4 + 32 * u16 b 2 ∧ 0 < u16 b 2 ∧ u16 b 0 + u16 b 2 ≤ 512 ∧ (∀ i, i < u16 b 2 → entryBad s.dev.rate ((b.drop (4 + 32 * i)).take 32) = false ∧ (s.dev.unit 1 (s.dev.layOf (u16 b 0 + i))).st = .stopped ∧ ¬ (u8 b (5 + 32 * i) = 2 ∧ s.dev.guarded (u16 b 0 + i) = true)) ∧ (forRun (fun i d => d.setOut (u16 b 0 + i) (outEntry (d.outCh (u16 b 0 + i)) ((b.drop (4 + 32 * i)).take 32))) (rangeFrom 0 (u16 b 2)) s.dev).poolUsed ≤ 131072) ∧
    (∃ (s : State) (r : AcpReq) (b : Bytes), Plain s r b ∧ b.length = 4 ∧ 0 < u16 b 2 ∧ u16 b 0 + u16 b 2 ≤ 512) ∧
    (∃ (s : State) (r : AcpReq) (b : Bytes), Plain s r b ∧ b.length = 4 + 4 * u16 b 2 ∧ 0 < u16 b 2 ∧ u16 b 0 + u16 b 2 ≤ 512 ∧ (∀ i, i < u16 b 2 → Newest s (4 * (u16 b 0 + i) + 2) (s.dev.tim.tick + 2))) ∧
    (∃ (s : State) (r : AcpReq) (b : Bytes), Plain s r b ∧ b.length = 8 ∧ 0 < u16 b 2 ∧ u16 b 0 + u16 b 2 ≤ 512 ∧ u8 b 4 ≤ 1 ∧ u8 b 5 ≤ 10 ∧ u16 b 6 = 0 ∧ (∀ i, i < u16 b 2 → Newest s (4 * (u16 b 0 + i) + 3) (s.dev.tim.tick + 2))) ∧
    (∃ (s : State) (r : AcpReq) (b : Bytes), Plain s r b ∧ b.length = 8 + 2 * u16 b 6 ∧ u8 b 0 ≤ 2 ∧ u8 b 1 = 0 ∧ u16 b 2 < (destOf (u8 b 0)).1 ∧ 0 < u16 b 6 ∧ u16 b 4 + u16 b 6 ≤ (destOf (u8 b 0)).2 ∧ (∀ i, i < u16 b 6 → u16 b (8 + 2 * i) ≤ 511 ∨ u16 b (8 + 2 * i) = 0xFFFF) ∧ (s.dev.destUnit (u8 b 0) (u16 b 2)).st = .stopped) ∧
    (∃ (s : State) (r : AcpReq) (b : Bytes), Plain s r b ∧ b.length = 4 ∧ u8 b 0 ≤ 2 ∧ u8 b 1 = 0 ∧ u16 b 2 < (destOf (u8 b 0)).1) ∧
    (∃ (s : State) (r : AcpReq) (b : Bytes), Plain s r b ∧ b.length = 4 ∧ u8 b 0 ≤ 31 ∧ u8 b 1 ≤ 1 ∧ u16 b 2 ≤ 511 ∧ (u8 b 1 = 1 → ∀ x ∈ s.dev.out.gs, x.1 ≠ u8 b 0 → x.2.en = true → x.2.out ≠ u16 b 2) ∧ (s.dev.unit 1 (s.dev.layOf (tget ({} : Guard) s.dev.out.gs (u8 b 0)).out)).st = .stopped ∧ (s.dev.unit 1 (s.dev.layOf (u16 b 2))).st = .stopped ∧ (s.dev.outCh (u16 b 2)).dither ≠ 2) ∧
    (∃ (s : State) (r : AcpReq) (b : Bytes), Plain s r b ∧ b = []) ∧
    (∃ (s : State) (r : AcpReq) (b : Bytes), Plain s r b ∧ b.length = 8 ∧ 0 < u16 b 2 ∧ u16 b 0 + u16 b 2 ≤ 512 ∧ 0 < u16 b 4 ∧ u8 b 6 ≤ 2 ∧ u8 b 7 = 0) ∧
    (∃ (s : State) (r : AcpReq) (b : Bytes), Plain s r b ∧ b.length = 4 ∧ 0 < u16 b 2 ∧ u16 b 0 + u16 b 2 ≤ 512) ∧
    (∃ (s : State) (n : _) (m : _) (w : _), n < 512 ∧ s.dev.out.block = some m ∧ w = (s.dev.outCh n).window m ∧ (m + 1) % (s.dev.outCh n).mN = 0 ∧ (s.dev.outCh n).mFrom ≤ w ∧ (s.dev.outCh n).mStart = some w ∧ s.dev.mboxClear = false) :=
  ⟨⟨rdy {}, rq (le 2 511 ++ le 2 1 ++ [0, 1, 24, 0] ++ le 2 4096 ++ zb 2 ++ le 4 0x7FFFFFFF ++ le 4 (2 ^ 31) ++ zb 16), _, plain_st _ _ (by decide +kernel), by decide +kernel⟩,
   ⟨rdy {}, rq (le 2 511 ++ le 2 1), _, plain_st _ _ (by decide +kernel), by decide +kernel⟩,
   ⟨rdy {}, rq (le 2 511 ++ le 2 1 ++ zb 4), _, plain_st _ _ (by decide +kernel), by decide +kernel, by decide +kernel, by decide +kernel, fun _ _ _ _ h => nomatch h⟩,
   ⟨rdy {}, rq (le 2 511 ++ le 2 1 ++ [1, 10, 0, 0]), _, plain_st _ _ (by decide +kernel), by decide +kernel, by decide +kernel, by decide +kernel, by decide +kernel, by decide +kernel, by decide +kernel, fun _ _ _ _ h => nomatch h⟩,
   ⟨rdy {}, rq ([2, 0] ++ le 2 7 ++ le 2 63 ++ le 2 1 ++ le 2 511), _, plain_st _ _ (by decide +kernel), by decide +kernel⟩,
   ⟨rdy {}, rq ([2, 0] ++ le 2 7), _, plain_st _ _ (by decide +kernel), by decide +kernel⟩,
   ⟨rdy {}, rq ([31, 1] ++ le 2 511), _, plain_st _ _ (by decide +kernel), by decide +kernel⟩,
   ⟨rdy {}, rq ([]), _, plain_st _ _ (by decide +kernel), by decide +kernel⟩,
   ⟨rdy {}, rq (le 2 511 ++ le 2 1 ++ le 2 1 ++ [2, 0]), _, plain_st _ _ (by decide +kernel), by decide +kernel⟩,
   ⟨rdy {}, rq (le 2 511 ++ le 2 1), _, plain_st _ _ (by decide +kernel), by decide +kernel⟩,
   ⟨rdy { out := { block := some 599, ch := [(511, { mStart := some 0 })] } }, 511, 599, 0, by decide +kernel⟩⟩

/-- What `Obligations.ScratchBanks` assumes can hold. -/
theorem wit_ScratchBanks :
    (∃ (s : State) (n _v : Nat), n < 16 ∧ (s.dev.scb.tActive = false ∨ s.dev.scb.tBank ≠ n) ∧ s.dev.mboxClear = false) ∧
    (∃ (s : State) (n : Nat) (o : Owner), n < 16 ∧ (s.dev.bank n).pending = some o ∧ s.dev.mboxClear = false) ∧
    (∃ (s : State) (n : _) (k : _), n < 16 ∧ k < 2047 ∧ s.dev.testable n = true ∧ s.dev.mboxClear = false) ∧
    (∃ (s : State) (n : _) (k : _), n < 16 ∧ k < 2048 ∧ s.dev.testable n = true ∧ s.dev.mboxClear = false) ∧
    (∃ (s : State) (n k _w : Nat), n < 16 ∧ k < 2048 ∧ s.dev.testable n = true ∧ s.dev.mboxClear = false) ∧
    (∃ (s : State) (r : AcpReq) (b : Bytes), Plain s r b ∧ b.length = 4 ∧ u8 b 0 ≤ 14 ∧ u8 b 1 ≤ 2 ∧ u16 b 2 = 0 ∧ ((s.dev.bank (u8 b 0)).owner ≠ .law ∨ u8 b 1 = 2 ∨ ∀ l, l < 32 → (s.dev.unit 1 l).st ≠ .stopped → s.dev.usesBank l (u8 b 0) = false)) ∧
    (∃ (s : State) (r : AcpReq) (b : Bytes), Plain s r b ∧ b = []) ∧
    (∃ (s : State) (r : AcpReq) (b : Bytes), Plain s r b ∧ b.length = 4 ∧ u8 b 2 ≤ 1 ∧ u8 b 3 = 0) ∧
    (∃ (s : State) (r : AcpReq) (b : Bytes), Plain s r b ∧ b.length = 4 ∧ u8 b 0 ≤ 7 ∧ uN 3 b 1 = 0) ∧
    (∃ (s : State) (r : AcpReq) (b : Bytes), Plain s r b ∧ b.length = 12 ∧ u8 b 0 ≤ 15 ∧ uN 3 b 1 = 0 ∧ u32 b 4 % 4 = 0 ∧ u32 b 4 < 0x400000 ∧ u32 b 8 % 4 = 0 ∧ u32 b 8 ≤ 0x40000 ∧ (u32 b 8 = 0 ∨ u32 b 4 / 0x40000 = (u32 b 4 + u32 b 8 - 1) / 0x40000) ∧ (∀ l, l < 32 → (s.dev.unit 1 l).st ≠ .stopped → s.dev.usesWindow l (u8 b 0) ((if s.dev.bwL (u8 b 0) = 0 then [] else [s.dev.bwB (u8 b 0) / 0x40000]) ++ (if u32 b 8 = 0 then [] else [u32 b 4 / 0x40000])) = false)) ∧
    (∃ (s : State) (r : AcpReq) (b : Bytes), Plain s r b ∧ b.length = 4 ∧ u8 b 0 ≤ 15 ∧ uN 3 b 1 = 0) :=
  ⟨⟨rdy {  }, 15, 3, by decide +kernel⟩,
   ⟨rdy { scb := { bank := [(15, { pending := some .law })] } }, 15, .law, by decide +kernel⟩,
   ⟨rdy {  }, 15, 2046, by decide +kernel⟩,
   ⟨rdy {  }, 15, 2047, by decide +kernel⟩,
   ⟨rdy {  }, 15, 2047, 31, by decide +kernel⟩,
   ⟨rdy {}, rq ([14, 2, 0, 0]), _, plain_st _ _ (by decide +kernel), by decide +kernel⟩,
   ⟨rdy {}, rq ([]), _, plain_st _ _ (by decide +kernel), by decide +kernel⟩,
   ⟨rdy {}, rq ([255, 255, 1, 0]), _, plain_st _ _ (by decide +kernel), by decide +kernel⟩,
   ⟨rdy {}, rq ([7, 0, 0, 0]), _, plain_st _ _ (by decide +kernel), by decide +kernel⟩,
   ⟨rdy {}, rq ([15, 0, 0, 0] ++ le 4 0x3FFFFC ++ le 4 4), _, plain_st _ _ (by decide +kernel), by decide +kernel⟩,
   ⟨rdy {}, rq ([15, 0, 0, 0]), _, plain_st _ _ (by decide +kernel), by decide +kernel⟩⟩

/-- What `Obligations.AccumulatorOps` assumes can hold. -/
theorem wit_AccumulatorOps :
    ∀ op : COp, ∃ (s : State) (e : Nat) (f : CFields) (sd : Side), Issues s e (sd.bundle ⟨op, f⟩) ∧ (∀ a ∈ s.dev.accesses (s.lawEng e) (sd.bundle ⟨op, f⟩), a.store = false) ∧ s.dev.mboxClear = false :=
  fun op => ⟨rdy { law := [(7, eg {})] }, 7, ⟨0, 0, 0, 0⟩, .gen .nop, issues_of (by cases op <;> decide +kernel), (fun _ h => nomatch h), rfl⟩

/-- What `Obligations.RegisterOps` assumes can hold. -/
theorem wit_RegisterOps :
    ∃ d : Int, 0 < d :=
  ⟨2 ^ 28, by decide⟩

/-- What `Obligations.Landings` assumes can hold. -/
theorem wit_Landings :
    (∃ (x : LawEng) (n : Nat) (l : Land), x.flight = [l] ∧ n < l.due) ∧
    (∃ (x : LawEng) (n k : Nat) (l : Land), x.flight = [l] ∧ l.due ≤ n ∧ l.tgt = .pd k) ∧
    (∃ (x : LawEng) (n k : Nat) (l : Land), x.flight = [l] ∧ l.due ≤ n ∧ l.tgt = .ptr k) ∧
    (∃ (x : LawEng) (n k : Nat) (l : Land), x.flight = [l] ∧ l.due ≤ n ∧ l.tgt = .mdf k) ∧
    (∃ (x : LawEng) (n k : Nat) (l : Land), x.flight = [l] ∧ l.due ≤ n ∧ l.tgt = .accF k) ∧
    (∃ (x : LawEng) (n k : Nat) (l : Land), x.flight = [l] ∧ l.due ≤ n ∧ l.tgt = .acc k) ∧
    (∃ (x : LawEng) (n k : Nat) (l : Land), x.flight = [l] ∧ l.due ≤ n ∧ l.tgt = .accW k 0) ∧
    (∃ (x : LawEng) (n : Nat) (l : Land) (nn z v c : Bool), x.flight = [l] ∧ l.due ≤ n ∧ l.tgt = .flags ∧ l.val = ((8 * b01 nn + 4 * b01 z + 2 * b01 v + b01 c : Nat) : Int) ∧ x.sr.toNat < 0x4000) ∧
    (∃ (x : LawEng) (n : Nat) (l : Land) (a p : Bool), x.flight = [l] ∧ l.due ≤ n ∧ l.tgt = .sticky ∧ l.val = ((2 * b01 a + 8 * b01 p : Nat) : Int)) ∧
    (∃ (x : LawEng) (n : Nat) (l : Land) (m v : BitVec 16), x.flight = [l] ∧ l.due ≤ n ∧ l.tgt = .sr ∧ l.val = ((m.toNat * 65536 + v.toNat : Nat) : Int)) ∧
    (∃ (x : LawEng) (k : Nat), k < 16) :=
  ⟨⟨{ flight := [{ due := 3, tgt := .pd 31, val := 5, lock := false }] }, 2, { due := 3, tgt := .pd 31, val := 5, lock := false }, by decide +kernel⟩,
   ⟨{ flight := [{ due := 3, tgt := .pd 31, val := 5, lock := false }] }, 3, 31, { due := 3, tgt := .pd 31, val := 5, lock := false }, by decide +kernel⟩,
   ⟨{ flight := [{ due := 3, tgt := .ptr 7, val := 5, lock := false }] }, 3, 7, { due := 3, tgt := .ptr 7, val := 5, lock := false }, by decide +kernel⟩,
   ⟨{ flight := [{ due := 3, tgt := .mdf 7, val := 5, lock := false }] }, 3, 7, { due := 3, tgt := .mdf 7, val := 5, lock := false }, by decide +kernel⟩,
   ⟨{ flight := [{ due := 3, tgt := .accF 3, val := 5, lock := false }] }, 3, 3, { due := 3, tgt := .accF 3, val := 5, lock := false }, by decide +kernel⟩,
   ⟨{ flight := [{ due := 3, tgt := .acc 3, val := 5, lock := false }] }, 3, 3, { due := 3, tgt := .acc 3, val := 5, lock := false }, by decide +kernel⟩,
   ⟨{ flight := [{ due := 3, tgt := .accW 3 0, val := 5, lock := false }] }, 3, 3, { due := 3, tgt := .accW 3 0, val := 5, lock := false }, by decide +kernel⟩,
   ⟨{ flight := [{ due := 3, tgt := .flags, val := 9, lock := false }] }, 3, { due := 3, tgt := .flags, val := 9, lock := false }, true, false, false, true, by decide +kernel⟩,
   ⟨{ flight := [{ due := 3, tgt := .sticky, val := 10, lock := false }] }, 3, { due := 3, tgt := .sticky, val := 10, lock := false }, true, true, by decide +kernel⟩,
   ⟨{ flight := [{ due := 3, tgt := .sr, val := 65535 * 65536 + 3, lock := false }] }, 3, { due := 3, tgt := .sr, val := 65535 * 65536 + 3, lock := false }, 0xFFFF, 3, by decide +kernel⟩,
   ⟨{}, 15, by decide +kernel⟩⟩

/-- What `Obligations.MoveOps` assumes can hold. -/
theorem wit_MoveOps :
    (∃ (s : State) (e : Nat) (c : Compute) (y : Bool) (mv : Move) (other : Option Move) (rot : Bool) (b : Bundle), mv.store = false ∧ b = (if y then Bundle.par c other (some mv) rot else .par c (some mv) other rot) ∧ Issues s e b ∧ s.dev.mboxClear = false) ∧
    (∃ (s : State) (e : Nat) (c : Compute) (y : Bool) (mv : Move) (other : Option Move) (rot : Bool) (b : Bundle), mv.store = true ∧ b = (if y then Bundle.par c other (some mv) rot else .par c (some mv) other rot) ∧ Issues s e b ∧ s.dev.mboxClear = false) ∧
    (∃ (s : State) (e : _) (c : _) (a : _) (g : _) (v : _), Issues s e (.gen c (.ld a)) ∧ (s.lawEng e).regOf a.reg.toNat = some g ∧ v = s.dev.lawRead (s.lawEng e) (s.dev.memAccess (s.lawEng e) a false).at_ ∧ s.dev.mboxClear = false) ∧
    (∃ (s : State) (e : _) (c : _) (a : _), Issues s e (.gen c (.st a)) ∧ s.dev.mboxClear = false) ∧
    (∃ (s : State) (e : _) (c : _) (rd : _) (rs : _) (g : _), Issues s e (.gen c (.movr rd rs)) ∧ (s.lawEng e).regOf rd.toNat = some g ∧ s.dev.mboxClear = false) ∧
    (∃ (s : State) (e : _) (c : _) (r : _) (i : _) (g : _), Issues s e (.gen c (.addi r i)) ∧ (s.lawEng e).regOf r.toNat = some g ∧ s.dev.mboxClear = false) ∧
    (∃ (s : State) (e : _) (c : _) (r : _) (i : _) (g : _), Issues s e (.gen c (.ldis r i)) ∧ (s.lawEng e).regOf r.toNat = some g ∧ s.dev.mboxClear = false) ∧
    (∃ (s : State) (e : _) (r : _) (i : _) (g : _), Issues s e (.ldi r i) ∧ (s.lawEng e).regOf r.toNat = some g ∧ s.dev.mboxClear = false) :=
  ⟨⟨rdy { law := [(7, eg { protY := 0x3FFF0000, p := [(0, 0x10000)] })] }, 7, nopC, true, { store := false, d := 31, p := 0, am := 0, m := 0 }, none, true, _, rfl, rfl, issues_of (by decide +kernel), rfl⟩,
   ⟨rdy { law := [(7, eg {})] }, 7, nopC, false, { store := true, d := 31, p := 0, am := 0, m := 0 }, none, true, _, rfl, rfl, issues_of (by decide +kernel), rfl⟩,
   ⟨rdy { law := [(7, eg {  })] }, 7, nopC, { reg := 0x28, p := 0, am := 0, m := 0, disp := 0 }, .mdf 0, _, issues_of (by decide +kernel), by decide +kernel, rfl, rfl⟩,
   ⟨rdy { law := [(7, eg {  })] }, 7, nopC, { reg := 0x28, p := 0, am := 0, m := 0, disp := 0 }, issues_of (by decide +kernel), by decide +kernel⟩,
   ⟨rdy { law := [(7, eg {  })] }, 7, nopC, 0x45, 0x24, .ictl, issues_of (by decide +kernel), by decide +kernel⟩,
   ⟨rdy { law := [(7, eg {  })] }, 7, nopC, 0x2F, 0xFFFF, .mdf 7, issues_of (by decide +kernel), by decide +kernel⟩,
   ⟨rdy { law := [(7, eg {  })] }, 7, nopC, 0x48, 0xFFFF, .esr, issues_of (by decide +kernel), by decide +kernel⟩,
   ⟨rdy { law := [(7, eg {  })] }, 7, 0x3F, 0xFFFFFFFF, .accW 3 3, issues_of (by decide +kernel), by decide +kernel⟩⟩

/-- What `Obligations.BranchOps` assumes can hold. -/
theorem wit_BranchOps :
    (∃ (s : State) (e : _) (c : _) (t : _), Issues s e (.ctl (.br c t)) ∧ s.dev.mboxClear = false) ∧
    (∃ (s : State) (e : _) (c : _) (p : _), Issues s e (.ctl (.bri c p)) ∧ (s.lawEng e).ptr p ≤ 16383 ∧ s.dev.mboxClear = false) ∧
    (∃ (s : State) (e : _) (c : _) (t : _), Issues s e (.ctl (.call c t)) ∧ s.dev.mboxClear = false) ∧
    (∃ (s : State) (e : _) (n : _) (a : _) (z : _), Issues s e (.ctl (.loop n a z)) ∧ s.dev.mboxClear = false) ∧
    (∃ (s : State) (e : _), Issues s e (.ctl .nop) ∧ (s.lawEng e).slots = 2 ∧ (s.lawEng e).sr.getLsbD 7 = false ∧ s.dev.mboxClear = false) ∧
    (∃ (s : State) (e : _), Issues s e (.ctl .nop) ∧ (s.lawEng e).slots = 1 ∧ (s.lawEng e).sr.getLsbD 7 = false ∧ s.dev.mboxClear = false) ∧
    (∃ (s : State) (e : _), Issues s e (.ctl .nop) ∧ (s.lawEng e).slots = 0 ∧ (s.lawEng e).sr.getLsbD 7 = true ∧ (s.lawEng e).pc = (s.lawEng e).le ∧ 1 < (s.lawEng e).lc ∧ s.dev.mboxClear = false) ∧
    (∃ (s : State) (e : _), Issues s e (.ctl .nop) ∧ (s.lawEng e).slots = 0 ∧ (s.lawEng e).sr.getLsbD 7 = true ∧ (s.lawEng e).pc = (s.lawEng e).le ∧ (s.lawEng e).lc ≤ 1 ∧ s.dev.mboxClear = false) ∧
    (∃ (s : State) (e : _) (k : _), Issues s e (.ctl (.rotn k)) ∧ s.dev.mboxClear = false) :=
  ⟨⟨rdy { law := [(7, eg {  })] }, 7, 15, 16383, issues_of (by decide +kernel), by decide +kernel⟩,
   ⟨rdy { law := [(7, eg { p := [(7, 16383)] })] }, 7, 15, 7, issues_of (by decide +kernel), by decide +kernel⟩,
   ⟨rdy { law := [(7, eg {  })] }, 7, 15, 16383, issues_of (by decide +kernel), by decide +kernel⟩,
   ⟨rdy { law := [(7, eg {  })] }, 7, .imm 65535, 16381, 16383, issues_of (by decide +kernel), by decide +kernel⟩,
   ⟨rdy { law := [(7, eg { slots := 2, target := some 4096 })] }, 7, issues_of (by decide +kernel), by decide +kernel⟩,
   ⟨rdy { law := [(7, eg { slots := 1, target := some 4096 })] }, 7, issues_of (by decide +kernel), by decide +kernel⟩,
   ⟨rdy { law := [(7, eg { sr := 0x1FC0, le := 16380, ls := 4096, lc := 2 })] }, 7, issues_of (by decide +kernel), by decide +kernel⟩,
   ⟨rdy { law := [(7, eg { sr := 0x1FC0, le := 16380, ls := 4096, lc := 1 })] }, 7, issues_of (by decide +kernel), by decide +kernel⟩,
   ⟨rdy { law := [(7, eg {  })] }, 7, 15, issues_of (by decide +kernel), by decide +kernel⟩⟩

/-- What `Obligations.ControlOps` assumes can hold. -/
theorem wit_ControlOps :
    (∃ (s : State) (e : _) (m : _) (v : _), Issues s e (.ctl (.srset m v)) ∧ s.dev.mboxClear = false) ∧
    (∃ (s : State) (e : _) (c : _) (j : _), Issues s e (.ctl (.jend c)) ∧ condHolds (s.lawEng e).sr c = true ∧ (s.lawEng e).run = some j ∧ j.test = none ∧ j.library = false ∧ (s.lawEng e).coll = none ∧ s.dev.mboxClear = false) ∧
    (∃ (s : State) (e : _) (c : _) (j : _) (k : _), Issues s e (.ctl (.jend c)) ∧ condHolds (s.lawEng e).sr c = true ∧ (s.lawEng e).run = some j ∧ j.test = none ∧ (s.lawEng e).coll = some k ∧ s.dev.mboxClear = false) ∧
    (∃ (s : State) (e : _) (c : _), Issues s e (.ctl (.jend c)) ∧ condHolds (s.lawEng e).sr c = false ∧ s.dev.mboxClear = false) ∧
    (∃ (s : State) (e : _), Issues s e (.ctl .rti) ∧ s.dev.mboxClear = false) ∧
    (∃ (s : State) (e : _) (c : _) (n : _) (v : _), Issues s e (.ctl (.trap c n)) ∧ condHolds (s.lawEng e).sr c = true ∧ (s.lawEng e).en 0 = true ∧ v = ((s.lawEng e).ictl.extractLsb' 16 14).toNat ∧ inWindow (s.lawEng e).protCode v = true ∧ (s.lawEng e).sr.getLsbD 7 = false ∧ s.dev.mboxClear = false) ∧
    (∃ (s : State) (e : _) (c : _) (n : _) (j : _), Issues s e (.ctl (.trap c n)) ∧ condHolds (s.lawEng e).sr c = true ∧ (s.lawEng e).en 0 = false ∧ (s.lawEng e).run = some j ∧ j.test = none ∧ s.dev.mboxClear = false) ∧
    (∃ (s : State) (e : _) (c : _) (n : _), Issues s e (.ctl (.trap c n)) ∧ condHolds (s.lawEng e).sr c = false ∧ s.dev.mboxClear = false) ∧
    (∃ (s : State) (e : _), Issues s e (.ctl .bkpt) ∧ s.dev.mboxClear = false) ∧
    (Config.debugLocked = false → ∃ (s : State) (e : Nat), e < 8 ∧ (s.dev.eng e).active = true ∧ (s.lawEng e).flight = [] ∧ (s.lawEng e).dbg = true ∧ (s.lawEng e).haltReq = false ∧ (s.lawEng e).atBreak = false ∧ (s.lawEng e).irqDue = false ∧ (s.lawEng e).slots = 0 ∧ (s.lawEng e).sr.getLsbD 7 = false ∧ inWindow (s.lawEng e).protCode (s.lawEng e).pc = true ∧ s.dev.mboxClear = false) ∧
    (∃ (s : State) (e : _), Issues s e (.ctl .sync) ∧ s.dev.mboxClear = false) ∧
    (∃ (s : State) (e : _) (x : _), e < 8 ∧ x = s.lawEng e ∧ x.active = true ∧ x.dbg = false ∧ x.irqDue = false ∧ x.slots = 0 ∧ inWindow x.protCode x.pc = true ∧ (∀ l ∈ x.flight, l.due ≤ x.issued + 9) ∧ s.dev.mboxClear = false) :=
  ⟨⟨rdy { law := [(7, eg {  })] }, 7, 0xFFFF, 0xFFFF, issues_of (by decide +kernel), by decide +kernel⟩,
   ⟨rdy { law := [(7, eg { run := some {} })] }, 7, 0, {}, issues_of (by decide +kernel), by decide +kernel⟩,
   ⟨rdy { law := [(7, eg { run := some {}, coll := some { order := 1 } })] }, 7, 0, {}, { order := 1 }, issues_of (by decide +kernel), by decide +kernel⟩,
   ⟨rdy { law := [(7, eg {  })] }, 7, 1, issues_of (by decide +kernel), by decide +kernel⟩,
   ⟨rdy { law := [(7, eg {  })] }, 7, issues_of (by decide +kernel), by decide +kernel⟩,
   ⟨rdy { law := [(7, eg { ictl := 0x3FFF0001 })] }, 7, 0, 255, 16383, issues_of (by decide +kernel), by decide +kernel⟩,
   ⟨rdy { law := [(7, eg { run := some {} })] }, 7, 0, 255, {}, issues_of (by decide +kernel), by decide +kernel⟩,
   ⟨rdy { law := [(7, eg {  })] }, 7, 1, 255, issues_of (by decide +kernel), by decide +kernel⟩,
   ⟨rdy { law := [(7, eg {  })] }, 7, issues_of (by decide +kernel), by decide +kernel⟩,
   fun h => ⟨rdy { law := [(7, eg { dbgEn := true })] }, 7, by decide, by decide +kernel, by decide +kernel, (congrArg (true && true && !·  && true) h : _), by decide +kernel⟩,
   ⟨rdy { law := [(7, eg {  })] }, 7, issues_of (by decide +kernel), by decide +kernel⟩,
   ⟨rdy { law := [(7, eg { issued := 5, flight := [{ due := 14, tgt := .ptr 7, val := 3, lock := false }] })] }, 7, _, by decide +kernel, rfl, by decide +kernel⟩⟩

/-- What `Obligations.EngineFaults` assumes can hold. -/
theorem wit_EngineFaults :
    (∃ (s : State) (e : Nat) (b : Bundle) (i : Instr) (j : Job), e < 8 ∧ (s.dev.eng e).active = true ∧ (s.lawEng e).dbg = false ∧ (s.lawEng e).irqDue = false ∧ (s.lawEng e).run = some j ∧ j.test = none ∧ inWindow (s.lawEng e).protCode (s.lawEng e).pc = true ∧ (bundleOk b = false ∨ (s.lawEng e).placed b = false) ∧ ((∃ r v, b = .ldi r v ∧ i = .lawLdi e r v) ∨ (∃ f sd, b = sd.bundle ⟨.add, f⟩ ∧ i = .lawAdd e f sd) ∨ (∃ c t, b = .ctl (.br c t) ∧ i = .lawBr e c t)) ∧ s.dev.mboxClear = false) ∧
    (∃ (s : State) (e : _) (j : _), e < 8 ∧ (s.dev.eng e).active = true ∧ (s.lawEng e).dbg = false ∧ (s.lawEng e).irqDue = false ∧ (s.lawEng e).run = some j ∧ j.test = none ∧ inWindow (s.lawEng e).protCode (s.lawEng e).pc = false ∧ s.dev.mboxClear = false) ∧
    (∃ (s : State) (e : _) (c : _) (a : _) (j : _) (x : _), x = s.lawEng e ∧ e < 8 ∧ (s.dev.eng e).active = true ∧ x.dbg = false ∧ x.irqDue = false ∧ x.run = some j ∧ j.test = none ∧ x.flight = [] ∧ (x.lastRcp = none ∨ isRcp (.gen c (.st a)) = false) ∧ inWindow x.protCode x.pc = true ∧ bundleOk (.gen c (.st a)) = true ∧ (s.dev.memAccess x a true).at_ = .fault ∧ s.dev.mboxClear = false) :=
  ⟨⟨rdy { law := [(7, eg { run := some {} })] }, 7, .ldi 0x7F 0, .lawLdi 7 0x7F 0, {}, by decide +kernel, by decide +kernel, by decide +kernel, by decide +kernel, by decide +kernel, by decide +kernel, by decide +kernel, by decide +kernel, .inl ⟨_, _, rfl, rfl⟩, rfl⟩,
   ⟨rdy { law := [(7, { st := .job, protCode := 0x3FFF1000, pc := 4095, run := some {} })] }, 7, {}, by decide +kernel⟩,
   ⟨rdy { law := [(7, eg { run := some {}, p := [(0, 0xFFFFFFFC)] })] }, 7, nopC, { reg := 0x28, p := 0, am := 0, m := 0, disp := 0 }, {}, _, rfl, by decide +kernel⟩⟩

/-- What `Obligations.BranchPlacement` assumes can hold. -/
theorem wit_BranchPlacement :
    (∃ (s : State) (e : Nat) (i : Instr) (x : LawEng), x = s.lawEng e ∧ e < 8 ∧ (s.dev.eng e).active = true ∧ (x.dbg && (x.haltReq || (x.atBreak && !x.resumed))) = false ∧ x.irqDue = false ∧ inWindow x.protCode x.pc = true ∧ ((x.slots ≠ 0 ∧ ((∃ c, i = .lawJend e c) ∨ i = .lawRti e ∨ (∃ c n, i = .lawTrap e c n) ∨ i = .lawBkpt e)) ∨ ((x.slots ≠ 0 ∨ (x.sr.getLsbD 7 = true ∧ x.le ≤ x.pc + 2 ∧ x.pc ≤ x.le)) ∧ ((∃ c t, i = .lawBr e c t) ∨ (∃ c p, i = .lawBri e c p) ∨ (∃ c t, i = .lawCall e c t) ∨ (∃ n a z, i = .lawLoop e n a z))))) ∧
    (∃ (s : State) (e : Nat) (i : Instr) (x : LawEng), x = s.lawEng e ∧ e < 8 ∧ (s.dev.eng e).active = true ∧ (x.dbg && (x.haltReq || (x.atBreak && !x.resumed))) = false ∧ x.irqDue = false ∧ inWindow x.protCode x.pc = true ∧ ((x.slots ≠ 0 ∧ ((∃ c, i = .lawJend e c) ∨ i = .lawRti e ∨ (∃ c n, i = .lawTrap e c n) ∨ i = .lawBkpt e)) ∨ ((x.slots ≠ 0 ∨ (x.sr.getLsbD 7 = true ∧ x.le ≤ x.pc + 2 ∧ x.pc ≤ x.le)) ∧ ((∃ c t, i = .lawBr e c t) ∨ (∃ c p, i = .lawBri e c p) ∨ (∃ c t, i = .lawCall e c t) ∨ (∃ n a z, i = .lawLoop e n a z))))) ∧
    (∃ (s : State) (e : Nat) (i : Instr) (x : LawEng), x = s.lawEng e ∧ e < 8 ∧ (s.dev.eng e).active = true ∧ (x.dbg && (x.haltReq || (x.atBreak && !x.resumed))) = false ∧ x.irqDue = false ∧ inWindow x.protCode x.pc = true ∧ ((x.slots ≠ 0 ∧ ((∃ c, i = .lawJend e c) ∨ i = .lawRti e ∨ (∃ c n, i = .lawTrap e c n) ∨ i = .lawBkpt e)) ∨ ((x.slots ≠ 0 ∨ (x.sr.getLsbD 7 = true ∧ x.le ≤ x.pc + 2 ∧ x.pc ≤ x.le)) ∧ ((∃ c t, i = .lawBr e c t) ∨ (∃ c p, i = .lawBri e c p) ∨ (∃ c t, i = .lawCall e c t) ∨ (∃ n a z, i = .lawLoop e n a z))))) :=
  ⟨⟨rdy { law := [(7, eg { slots := 1 })] }, 7, .lawBkpt 7, _, rfl, by decide +kernel, by decide +kernel, by decide +kernel, by decide +kernel, by decide +kernel, .inl ⟨by decide +kernel, .inr (.inr (.inr rfl))⟩⟩,
   ⟨rdy { law := [(7, eg { slots := 2 })] }, 7, .lawLoop 7 (.imm 65535) 16381 16383, _, rfl, by decide +kernel, by decide +kernel, by decide +kernel, by decide +kernel, by decide +kernel, .inr ⟨.inl (by decide +kernel), .inr (.inr (.inr ⟨_, _, _, rfl⟩))⟩⟩,
   ⟨rdy { law := [(7, eg { sr := 0x1FC0, le := 16382 })] }, 7, .lawBr 7 15 0, _, rfl, by decide +kernel, by decide +kernel, by decide +kernel, by decide +kernel, by decide +kernel, .inr ⟨.inr (by decide +kernel), .inl ⟨_, _, rfl⟩⟩⟩⟩

/-- What `Obligations.MoveWindows` assumes can hold. -/
theorem wit_MoveWindows :
    (∃ (s : State) (e : Nat) (c : Compute) (y : Bool) (mv : Move) (other : Option Move) (rot : Bool) (b : Bundle) (i : Instr) (x : LawEng), x = s.lawEng e ∧ e < 8 ∧ (s.dev.eng e).active = true ∧ (x.dbg && (x.haltReq || (x.atBreak && !x.resumed))) = false ∧ x.irqDue = false ∧ x.flight = [] ∧ (x.lastRcp = none ∨ isRcp b = false) ∧ inWindow x.protCode x.pc = true ∧ bundleOk b = true ∧ b = (if y then Bundle.par c other (some mv) rot else .par c (some mv) other rot) ∧ i = (if mv.store then Instr.moveStore e c y mv other rot else .moveLoad e c y mv other rot) ∧ (y = false → 0x10000 ≤ (s.dev.moveAccess x y mv).addr) ∧ (y = true → ((s.dev.moveAccess x y mv).addr < 0x10000 ∨ 0x20000 ≤ (s.dev.moveAccess x y mv).addr))) ∧
    (∃ (s : State) (e : Nat) (c : Compute) (y : Bool) (mv : Move) (other : Option Move) (rot : Bool) (b : Bundle) (i : Instr) (x : LawEng), x = s.lawEng e ∧ e < 8 ∧ (s.dev.eng e).active = true ∧ (x.dbg && (x.haltReq || (x.atBreak && !x.resumed))) = false ∧ x.irqDue = false ∧ x.flight = [] ∧ (x.lastRcp = none ∨ isRcp b = false) ∧ inWindow x.protCode x.pc = true ∧ bundleOk b = true ∧ b = (if y then Bundle.par c other (some mv) rot else .par c (some mv) other rot) ∧ i = (if mv.store then Instr.moveStore e c y mv other rot else .moveLoad e c y mv other rot) ∧ (y = false → 0x10000 ≤ (s.dev.moveAccess x y mv).addr) ∧ (y = true → ((s.dev.moveAccess x y mv).addr < 0x10000 ∨ 0x20000 ≤ (s.dev.moveAccess x y mv).addr))) ∧
    (∃ (s : State) (e : Nat) (c : Compute) (y : Bool) (mv : Move) (other : Option Move) (rot : Bool) (b : Bundle) (i : Instr) (x : LawEng), x = s.lawEng e ∧ e < 8 ∧ (s.dev.eng e).active = true ∧ (x.dbg && (x.haltReq || (x.atBreak && !x.resumed))) = false ∧ x.irqDue = false ∧ x.flight = [] ∧ (x.lastRcp = none ∨ isRcp b = false) ∧ inWindow x.protCode x.pc = true ∧ bundleOk b = true ∧ b = (if y then Bundle.par c other (some mv) rot else .par c (some mv) other rot) ∧ i = (if mv.store then Instr.moveStore e c y mv other rot else .moveLoad e c y mv other rot) ∧ (y = false → 0x10000 ≤ (s.dev.moveAccess x y mv).addr) ∧ (y = true → ((s.dev.moveAccess x y mv).addr < 0x10000 ∨ 0x20000 ≤ (s.dev.moveAccess x y mv).addr))) ∧
    (∃ (d : Dev) (x : LawEng) (mv : Move), (d.moveAccess x false mv).addr < 0x10000 ∧ (d.moveAccess x false mv).addr % 4 = 0 ∧ inWindow x.protX ((d.moveAccess x false mv).addr / 4) = true) ∧
    (∃ (d : Dev) (x : LawEng) (mv : Move), 0x10000 ≤ (d.moveAccess x true mv).addr ∧ (d.moveAccess x true mv).addr < 0x20000 ∧ (d.moveAccess x true mv).addr % 4 = 0 ∧ inWindow x.protY ((d.moveAccess x true mv).addr / 4 - 0x4000) = true) :=
  ⟨⟨rdy { law := [(7, eg { p := [(0, 0x10000)] })] }, 7, nopC, false, { store := true, d := 31, p := 0, am := 0, m := 0 }, none, true, _, _, _, rfl, by decide +kernel, by decide +kernel, by decide +kernel, by decide +kernel, by decide +kernel, .inl (by decide +kernel), by decide +kernel, by decide +kernel, rfl, rfl, by decide +kernel, by decide +kernel⟩,
   ⟨rdy { law := [(7, eg { p := [(0, 0xFFFC)] })] }, 7, nopC, true, { store := false, d := 31, p := 0, am := 0, m := 0 }, none, true, _, _, _, rfl, by decide +kernel, by decide +kernel, by decide +kernel, by decide +kernel, by decide +kernel, .inl (by decide +kernel), by decide +kernel, by decide +kernel, rfl, rfl, by decide +kernel, by decide +kernel⟩,
   ⟨rdy { law := [(7, eg { p := [(0, 0x20000)] })] }, 7, nopC, true, { store := true, d := 31, p := 0, am := 0, m := 0 }, none, true, _, _, _, rfl, by decide +kernel, by decide +kernel, by decide +kernel, by decide +kernel, by decide +kernel, .inl (by decide +kernel), by decide +kernel, by decide +kernel, rfl, rfl, by decide +kernel, by decide +kernel⟩,
   ⟨{}, { p := [(0, 0xFFFC)], protX := 0x3FFF0000 }, { store := false, d := 31, p := 0, am := 0, m := 0 }, by decide +kernel⟩,
   ⟨{}, { p := [(0, 0x1FFFC)], protY := 0x3FFF0000 }, { store := true, d := 31, p := 0, am := 0, m := 0 }, by decide +kernel⟩⟩

/-- What `Obligations.Scheduling` assumes can hold. -/
theorem wit_Scheduling :
    (∃ (s : State) (e : _) (_c : Nat) (j : _) (l1 : _) (l2 : _), e < 8 ∧ (s.dev.eng e).enabled = true ∧ (s.dev.eng e).disabling = false ∧ (s.dev.eng e).slot = none ∧ s.dev.affinity = false ∧ s.dev.sch.queue = l1 ++ j :: l2 ∧ (∀ k ∈ l1, k.prio < j.prio) ∧ (∀ k ∈ l2, k.prio ≤ j.prio) ∧ (∀ k ∈ l1 ++ l2, k.order ≠ j.order) ∧ s.dev.mboxClear = false) ∧
    (∃ (s : State) (e : _) (_c : Nat) (j : _) (l1 : _) (l2 : _), e < 8 ∧ (s.dev.eng e).enabled = true ∧ (s.dev.eng e).disabling = false ∧ (s.dev.eng e).slot = none ∧ s.dev.affinity = true ∧ s.dev.sch.affWait ≠ 0 ∧ (∀ k ∈ s.dev.sch.queue, k.waited = false) ∧ s.dev.sch.queue = l1 ++ j :: l2 ∧ s.dev.affOf j = some e ∧ (∀ k ∈ l1, s.dev.affOf k = some e → k.prio < j.prio) ∧ (∀ k ∈ l2, s.dev.affOf k = some e → k.prio ≤ j.prio) ∧ (∀ k ∈ l1 ++ l2, k.order ≠ j.order) ∧ s.dev.mboxClear = false) ∧
    (∃ (s : State) (e : _) (_c : Nat), e < 8 ∧ ((s.dev.eng e).slot ≠ none ∨ (s.dev.eng e).enabled = false ∨ s.dev.sch.queue = []) ∧ s.dev.mboxClear = false) ∧
    (∃ (s : State) (o : _) (_c : Nat), (∃ j ∈ s.dev.sch.queue, j.order = o) ∧ (∀ e, e < 8 → (s.dev.eng e).slot ≠ none ∨ (s.dev.eng e).enabled = false) ∧ s.dev.mboxClear = false) ∧
    (∃ (s : State) (e : _) (j : _), e < 8 ∧ (s.dev.eng e).slot = some j ∧ (s.dev.eng e).st = .idle ∧ (s.dev.eng e).enabled = true ∧ s.dev.mboxClear = false) ∧
    (∃ (s : State) (e : _) (j : _), e < 8 ∧ (s.dev.eng e).coll = some j ∧ s.dev.mboxClear = false) :=
  ⟨⟨rdy { law := [(7, { runEn := true })], sch := { queue := [{ prio := 5 }, { obj := 1, prio := 6, order := 1 }, { prio := 6, order := 2 }] } }, 7, 0, { obj := 1, prio := 6, order := 1 }, [{ prio := 5 }], [{ prio := 6, order := 2 }], by decide +kernel⟩,
   ⟨rdy { law := [(0, { runEn := true }), (1, { runEn := true }), (2, { runEn := true }), (3, { runEn := true }), (7, { runEn := true })], sch := { queue := [{ prio := 5 }, { obj := 1, prio := 6, order := 1 }, { prio := 6, order := 2 }], aff := [(affKey 1 0, some 7)] } }, 7, 0, { obj := 1, prio := 6, order := 1 }, [{ prio := 5 }], [{ prio := 6, order := 2 }], by decide +kernel⟩,
   ⟨rdy {  }, 7, 0, by decide +kernel⟩,
   ⟨rdy { sch := { queue := [{ order := 4 }] } }, 4, 0, by decide +kernel⟩,
   ⟨rdy { law := [(7, { runEn := true, slot := some {} })] }, 7, {}, by decide +kernel⟩,
   ⟨rdy { law := [(7, { coll := some {} })] }, 7, {}, by decide +kernel⟩⟩

/-- What `Obligations.JobEnds` assumes can hold. -/
theorem wit_JobEnds :
    (∃ (s : State), (∀ e, e < 8 → (s.dev.eng e).slot = none ∧ (s.dev.eng e).run = none ∧ (s.dev.eng e).coll = none) ∧ (∀ j ∈ s.dev.sch.queue, j.test = none) ∧ s.dev.mboxClear = false) ∧
    (∃ (s : State) (e : _) (j : _) (m : _), e < 8 ∧ (s.dev.eng e).run = some j ∧ j.test = some m ∧ s.dev.mboxClear = false) ∧
    (∃ (s : State) (_id : Nat), s.dev.mboxClear = false) ∧
    (∃ (s : State) (e : _), e < 8 ∧ (s.dev.eng e).disabling = true ∧ (s.dev.eng e).run = none ∧ (s.dev.eng e).coll = none ∧ s.dev.mboxClear = false) ∧
    (∃ (s : State), s.dev.mboxClear = false) :=
  ⟨⟨rdy {  }, (fun e _ => ⟨rfl, rfl, rfl⟩), (fun _ h => nomatch h), rfl⟩,
   ⟨rdy { law := [(7, { st := .job, run := some { test := some 9 } })] }, 7, { test := some 9 }, 9, by decide +kernel⟩,
   ⟨rdy {  }, 63, by decide +kernel⟩,
   ⟨rdy { law := [(7, { runEn := true, disabling := true })] }, 7, by decide +kernel⟩,
   ⟨rdy {  }, by decide +kernel⟩⟩

/-- What `Obligations.EngineEvents` assumes can hold. -/
theorem wit_EngineEvents :
    (∃ (s : State) (e : _) (c : _) (bit : _) (v : _), e < 8 ∧ (s.dev.eng e).active = true ∧ (s.lawEng e).irqDue = true ∧ (s.lawEng e).dbg = false ∧ (s.lawEng e).flight = [] ∧ (s.lawEng e).pending = some (c, bit) ∧ v = ((s.lawEng e).ictl.extractLsb' 16 14).toNat ∧ inWindow (s.lawEng e).protCode v = true ∧ s.dev.mboxClear = false) ∧
    (∃ (s : State) (e : _), e < 8 ∧ (s.lawEng e).irqDue = false ∧ s.dev.mboxClear = false) ∧
    (∃ (s : State) (e : _), e < 8 ∧ (s.dev.eng e).active = true ∧ (s.dev.eng e).budget ≠ 0 ∧ s.dev.mboxClear = false) ∧
    (∃ (s : State) (e : _), e < 8 ∧ (s.dev.eng e).run ≠ none ∧ (s.dev.eng e).en 4 = true ∧ s.dev.mboxClear = false) ∧
    (∃ (s : State) (e : _), e < 8 ∧ (s.dev.eng e).en 4 = false ∧ s.dev.mboxClear = false) ∧
    (Config.debugLocked = false → ∃ (s : State) (e : Nat), e < 8 ∧ (s.dev.eng e).dbg = true ∧ (s.dev.eng e).active = true ∧ (s.dev.eng e).flight = [] ∧ s.dev.mboxClear = false) ∧
    (Config.debugLocked = false → ∃ (s : State) (e : Nat), e < 8 ∧ (s.dev.eng e).dbg = true ∧ (s.dev.eng e).st = .idle ∧ s.dev.mboxClear = false) ∧
    (Config.debugLocked = false → ∃ (s : State) (e : Nat), e < 8 ∧ (s.dev.eng e).dbg = true ∧ (s.dev.eng e).st = .halted ∧ s.dev.mboxClear = false) ∧
    (Config.debugLocked = false → ∃ (s : State) (e : Nat), e < 8 ∧ (s.dev.eng e).dbg = true ∧ (s.dev.eng e).st = .halted ∧ (s.dev.eng e).haltReq = false ∧ (s.dev.eng e).flight = [] ∧ (s.dev.eng e).irqDue = false ∧ (s.dev.eng e).slots = 0 ∧ (s.dev.eng e).sr.getLsbD 7 = false ∧ inWindow (s.dev.eng e).protCode (s.dev.eng e).pc = true ∧ 4096 ≤ (s.dev.eng e).pc ∧ tget 0 (s.dev.eng e).prog (s.dev.eng e).pc = 0x8000000000000000 ∧ s.dev.mboxClear = false) ∧
    (∃ (s : State) (e : _), e < 8 ∧ (s.dev.eng e).dbg = false ∧ s.dev.mboxClear = false) :=
  ⟨⟨rdy { law := [(7, eg { ictl := 0x3FFF0101 })] }, 7, 4, 8, 16383, by decide +kernel⟩,
   ⟨rdy {  }, 7, by decide +kernel⟩,
   ⟨rdy { law := [(7, eg { budget := 5 })] }, 7, by decide +kernel⟩,
   ⟨rdy { law := [(7, eg { run := some {}, ictl := 0x10 })] }, 7, by decide +kernel⟩,
   ⟨rdy {  }, 7, by decide +kernel⟩,
   fun h => ⟨rdy { law := [(7, eg { dbgEn := true })] }, 7, by decide, (congrArg (true && true && !·  && true) h : _), by decide +kernel⟩,
   fun h => ⟨rdy { law := [(7, { dbgEn := true })] }, 7, by decide, (congrArg (true && true && !·  && true) h : _), by decide +kernel⟩,
   fun h => ⟨rdy { law := [(7, { dbgEn := true, st := .halted })] }, 7, by decide, (congrArg (true && true && !·  && true) h : _), by decide +kernel⟩,
   fun h => ⟨rdy { law := [(7, { dbgEn := true, st := .halted, pc := 4096, protCode := 0x3FFF1000, prog := [(4096, 0x8000000000000000)] })] }, 7, by decide, (congrArg (true && true && !·  && true) h : _), by decide +kernel⟩,
   ⟨rdy {  }, 7, by decide +kernel⟩⟩

/-- What `Obligations.LawCommands` assumes can hold. -/
theorem wit_LawCommands :
    (∃ (s : State) (r : AcpReq) (b : Bytes), Plain s r b ∧ b.length = 16 ∧ u8 b 0 ≤ 31 ∧ u8 b 1 ≤ 31 ∧ u8 b 2 ≤ 1 ∧ u8 b 3 = 0 ∧ u32 b 4 % 4 = 0 ∧ u32 b 8 % 4 = 0 ∧ u32 b 12 = 0 ∧ (u8 b 1 = u8 b 0 ∨ s.dev.leadOf (u8 b 1) = u8 b 1) ∧ (u8 b 1 = s.dev.leadOf (u8 b 0) ∨ ∀ j, j < 32 → j ≠ u8 b 0 → s.dev.leadOf j ≠ u8 b 0) ∧ (s.dev.unit 1 (u8 b 0)).st = .stopped ∧ (∀ j, j < 32 → j ≠ u8 b 0 → s.dev.leadOf j = u8 b 1 → (s.dev.unit 1 j).st ≠ .stopped → (s.dev.layout j).law = (s.dev.layout (u8 b 0)).law ∧ (s.dev.layout j).period = (s.dev.layout (u8 b 0)).period ∧ (s.dev.layout j).phase = (s.dev.layout (u8 b 0)).phase ∧ (s.dev.layout j).scale = (s.dev.layout (u8 b 0)).scale)) ∧
    (∃ (s : State) (r : AcpReq) (b : Bytes), Plain s r b ∧ b.length = 4 ∧ u8 b 0 ≤ 31 ∧ uN 3 b 1 = 0) ∧
    (∃ (s : State) (r : AcpReq) (b : Bytes), Plain s r b ∧ s.dev.imageBad b = none ∧ s.dev.lawBusy (u16 b 4) = false) ∧
    (∃ (s : State) (r : AcpReq) (b : Bytes) (c o st : Nat), Plain s r b ∧ s.dev.imageBad b = some (c, o, st) ∧ c ≠ 4) ∧
    (∃ (s : State) (r : AcpReq) (b : Bytes), Plain s r b ∧ (b.length = 4 ∧ u16 b 2 = 0 ∧ (s.dev.prog (u16 b 0)).isSome = true ∧ ∀ l, l < 32 → (s.dev.unit 1 l).st ≠ .stopped → (s.dev.layout l).law ≠ u16 b 0)) ∧
    (∃ (s : State) (r : AcpReq) (b : Bytes), Plain s r b ∧ b = []) ∧
    (∃ (s : State) (r : AcpReq) (b : Bytes), Plain s r b ∧ (b.length = 8 + u32 b 4 ∧ u32 b 0 % 4 = 0 ∧ 0 < u32 b 4 ∧ u32 b 4 % 4 = 0 ∧ s.dev.lawRegion (u32 b 0) (u32 b 4) = true ∧ ∀ l, l < 32 → (s.dev.unit 1 l).st ≠ .stopped → ∀ u ∈ [s.dev.tableOf l, s.dev.tableOf (s.dev.leadOf l)], u.2 = 0 ∨ u32 b 0 + u32 b 4 ≤ u.1 ∨ u.1 + u.2 ≤ u32 b 0)) ∧
    (∃ (s : State) (r : AcpReq) (b : Bytes), Plain s r b ∧ b.length = 4 ∧ u8 b 0 ≤ 7 ∧ u8 b 1 = 1 ∧ u16 b 2 = 0 ∧ (s.dev.eng (u8 b 0)).st ≠ .retired ∧ Unawaited s (0x0830, u8 b 0)) ∧
    (∃ (s : State) (r : AcpReq) (b : Bytes) (e : _), Plain s r b ∧ b.length = 4 ∧ e = u8 b 0 ∧ e ≤ 7 ∧ u8 b 1 = 0 ∧ u16 b 2 = 0 ∧ (s.dev.eng e).st ≠ .retired ∧ (s.dev.eng e).runEn = true ∧ (∃ k, k < 8 ∧ k ≠ e ∧ (s.dev.eng k).enabled = true ∧ (s.dev.eng k).disabling = false) ∧ (s.dev.eng e).slot = none ∧ (s.dev.eng e).run = none ∧ (s.dev.eng e).coll = none) ∧
    (∃ (s : State) (r : AcpReq) (b : Bytes) (e : _), Plain s r b ∧ b.length = 4 ∧ e = u8 b 0 ∧ e ≤ 7 ∧ u8 b 1 = 0 ∧ u16 b 2 = 0 ∧ (s.dev.eng e).st ≠ .retired ∧ (s.dev.eng e).runEn = true ∧ (∃ k, k < 8 ∧ k ≠ e ∧ (s.dev.eng k).enabled = true ∧ (s.dev.eng k).disabling = false) ∧ (s.dev.eng e).slot = none ∧ (s.dev.eng e).run ≠ none) ∧
    (∃ (s : State) (r : AcpReq) (b : Bytes) (e : Nat) (j : Job), Plain s r b ∧ b.length = 72 ∧ e = u8 b 0 ∧ e ≤ 7 ∧ uN 3 b 1 = 0 ∧ j = jobOfDesc (b.drop 8) (u32 b 4) ∧ 0 < j.nOut ∧ j.nOut ≤ 512 ∧ ((1 ≤ j.law ∧ j.law ≤ 6) ∨ (s.dev.prog j.law).isSome = true) ∧ (s.dev.eng e).st = .idle ∧ (s.dev.eng e).runEn = false) ∧
    (∃ (s : State) (r : AcpReq) (b : Bytes) (e : _) (v : _), Plain s r b ∧ b.length = 12 ∧ e = u8 b 0 ∧ e ≤ 7 ∧ u8 b 1 = 0 ∧ u16 b 2 = 0 ∧ u32 b 4 % 4 = 0 ∧ (s.dev.eng e).reg (u32 b 4) = some v ∧ (s.dev.eng e).st ≠ .retired ∧ (s.dev.eng e).runEn = false) ∧
    (∃ (s : State) (r : AcpReq) (b : Bytes) (e : _), Plain s r b ∧ b.length = 12 ∧ e = u8 b 0 ∧ e ≤ 7 ∧ u8 b 1 = 1 ∧ u16 b 2 = 0 ∧ (∃ n, n < 32 ∧ u32 b 4 = 0x100 + 4 * n) ∧ (s.dev.eng e).st = .halted ∧ (s.dev.eng e).runEn = false) ∧
    (Config.debugLocked = false → ∃ (s : State) (r : AcpReq) (b : Bytes) (e : Nat), Plain s r b ∧ b.length = 12 ∧ e = u8 b 0 ∧ e ≤ 7 ∧ u8 b 1 = 4 ∧ u16 b 2 = 0 ∧ (s.dev.eng e).dbg = true ∧ (s.dev.eng e).st = .halted) ∧
    (∃ (s : State) (r : AcpReq) (b : Bytes), Plain s r b ∧ b.length = 4 ∧ u8 b 0 ≤ 7 ∧ uN 3 b 1 = 0) ∧
    (∃ (s : State) (r : AcpReq) (b : Bytes), Plain s r b ∧ b.length = 4 ∧ u8 b 2 ≤ 3 ∧ u8 b 3 = 0) ∧
    (∃ (s : State) (r : AcpReq) (b : Bytes), Plain s r b ∧ b.length = 4 ∧ u8 b 2 ≤ 3 ∧ u8 b 3 = 1) ∧
    (∃ (s : State) (r : AcpReq) (b : Bytes), Plain s r b ∧ b = []) ∧
    (∃ (s : State) (r : AcpReq) (b : Bytes), Plain s r b ∧ b.length = 4 ∧ 0 < u16 b 2 ∧ u16 b 2 ≤ 2048) :=
  ⟨⟨rdy {}, rq ([31, 31] ++ zb 14), _, plain_st _ _ (by decide +kernel), by decide +kernel, by decide +kernel, by decide +kernel, by decide +kernel, by decide +kernel, by decide +kernel, by decide +kernel, by decide +kernel, by decide +kernel, by decide +kernel, by decide +kernel, (fun _ _ _ _ h => absurd rfl h)⟩,
   ⟨rdy {}, rq ([31, 0, 0, 0]), _, plain_st _ _ (by decide +kernel), by decide +kernel⟩,
   ⟨rdy {}, rq (le 4 0x4C571064 ++ le 2 0x13F ++ le 2 1 ++ le 2 16383 ++ le 2 16383 ++ le 2 16383 ++ zb 2 ++ le 2 0x3BFF ++ zb 2 ++ le 2 0x3BFF ++ zb 18 ++ le 4 1 ++ le 2 0x400 ++ zb 10 ++ le 4 (crc32 (le 8 (2 ^ 63))) ++ zb 4 ++ le 8 (2 ^ 63)), _, plain_st _ _ (by decide +kernel), by decide +kernel⟩,
   ⟨rdy {}, rq ([]), _, 1, 0, 0x101, plain_st _ _ (by decide +kernel), by decide +kernel⟩,
   ⟨rdy { sch := { prog := [(0x13F, some (progOf []))] } }, rq ([0x3F, 1, 0, 0]), _, plain_st _ _ (by decide +kernel), by decide +kernel⟩,
   ⟨rdy {}, rq ([]), _, plain_st _ _ (by decide +kernel), by decide +kernel⟩,
   ⟨rdy { scb := { bank := [(15, { owner := .law })] } }, rq (le 4 0x4FFFFC ++ le 4 4 ++ zb 4), _, plain_st _ _ (by decide +kernel), by decide +kernel, by decide +kernel, by decide +kernel, by decide +kernel, by decide +kernel, (fun _ _ h => absurd rfl h)⟩,
   ⟨rdy {}, rq ([7, 1, 0, 0]), _, plain_st _ _ (by decide +kernel), by decide +kernel, by decide +kernel, by decide +kernel, by decide +kernel, by decide +kernel, (fun _ h => nomatch h)⟩,
   ⟨rdy { law := [(0, { runEn := true }), (7, { runEn := true })] }, rq ([7, 0, 0, 0]), _, 7, plain_st _ _ (by decide +kernel), by decide +kernel⟩,
   ⟨rdy { law := [(0, { runEn := true }), (7, { runEn := true, run := some {} })] }, rq ([7, 0, 0, 0]), _, 7, plain_st _ _ (by decide +kernel), by decide +kernel⟩,
   ⟨rdy {}, rq ([7, 0, 0, 0, 9, 0, 0, 0] ++ ([1, 0, 31, 7, 6, 0, 0, 2] ++ zb 56)), _, 7, jobOfDesc ([1, 0, 31, 7, 6, 0, 0, 2] ++ zb 56) 9, plain_st _ _ (by decide +kernel), by decide +kernel⟩,
   ⟨rdy { law := [(7, { pc := 5 })] }, rq ([7, 0, 0, 0, 8, 0, 0, 0] ++ zb 4), _, 7, 5, plain_st _ _ (by decide +kernel), by decide +kernel⟩,
   ⟨rdy { law := [(7, { st := .halted })] }, rq ([7, 1, 0, 0] ++ le 4 0x17C ++ le 4 9), _, 7, plain_st _ _ (by decide +kernel), by decide +kernel, by decide +kernel, by decide +kernel, by decide +kernel, by decide +kernel, ⟨31, by decide +kernel⟩, by decide +kernel⟩,
   fun h => ⟨rdy { law := [(7, { st := .halted, dbgEn := true })] }, rq ([7, 4] ++ zb 10), _, 7, plain_st _ _ (by decide +kernel), by decide +kernel, by decide +kernel, by decide +kernel, by decide +kernel, by decide +kernel, (congrArg (true && true && !·  && true) h : _), by decide +kernel⟩,
   ⟨rdy {}, rq ([7, 0, 0, 0]), _, plain_st _ _ (by decide +kernel), by decide +kernel⟩,
   ⟨rdy {}, rq ([0, 0, 3, 0]), _, plain_st _ _ (by decide +kernel), by decide +kernel⟩,
   ⟨rdy {}, rq ([0, 0, 3, 1]), _, plain_st _ _ (by decide +kernel), by decide +kernel⟩,
   ⟨rdy {}, rq ([]), _, plain_st _ _ (by decide +kernel), by decide +kernel⟩,
   ⟨rdy {}, rq ([0, 0, 0, 8]), _, plain_st _ _ (by decide +kernel), by decide +kernel⟩⟩

/-- What `Obligations.LaneEvents` assumes can hold. -/
theorem wit_LaneEvents :
    (∃ (s : State) (p : _), p < 68 ∧ (s.dev.lane p).logical ≠ none ∧ (s.dev.lane p).lateNow = false ∧ (s.dev.unit 0 0).emits (s.dev.tim.tick + 1) = true ∧ Strikable s p ∧ s.dev.mboxClear = false) ∧
    (∃ (s : State) (p : _), p < 68 ∧ ((s.dev.lane p).logical = none ∨ (s.dev.lane p).lateNow = true) ∧ s.dev.mboxClear = false) ∧
    (∃ (s : State) (p : _) (path : _) (addr : _), p < 68 ∧ addr < laneWords path ∧ s.dev.rnd.scrub = true ∧ (s.dev.lane p).st ≠ .retired ∧ s.dev.mboxClear = false) ∧
    (∃ (s : State) (p : Nat) (path : Bool) (addr : Nat) (e : EccErr), p < 68 ∧ addr < laneWords path ∧ (s.dev.rnd.scrub = false ∨ e = .none) ∧ s.dev.mboxClear = false) ∧
    (∃ (s : State) (p : _) (addr : _) (l : _), p < 68 ∧ addr < laneWords true ∧ s.dev.rnd.scrub = true ∧ (s.dev.lane p).st ≠ .retired ∧ (s.dev.lane p).logical = some l ∧ (∀ b ∈ (s.dev.lane p).bad, b.1 ≠ 1 ∨ b.2.1 ≠ addr) ∧ Strikable s p ∧ s.dev.mboxClear = false) ∧
    (∃ (s : State) (p : _) (m : _), p < 68 ∧ (s.dev.lane p).st = .testing ∧ s.dev.rnd.attachAt = [] ∧ s.dev.rnd.mig = some m ∧ m.new = p ∧ m.block = none ∧ m.done = false ∧ s.dev.mboxClear = false) ∧
    (∃ (s : State) (p : _) (l : _), p < 68 ∧ (s.dev.lane p).st = .testing ∧ s.dev.rnd.mig = none ∧ s.dev.rnd.attachAt = [(p, l, none)] ∧ (s.dev.lane p).pathBad = false ∧ (s.dev.lane l).pathBad = false ∧ s.dev.mboxClear = false) ∧
    (∃ (s : State) (p : _), p < 68 ∧ (s.dev.lane p).st = .testing ∧ (s.dev.lane p).logical = none ∧ s.dev.rnd.mig = none ∧ s.dev.rnd.attachAt = [] ∧ (s.dev.chan p).retired = false ∧ s.dev.mboxClear = false) ∧
    (∃ (s : State) (p : Nat), p < 68 ∧ (s.dev.lane p).st ≠ .testing ∧ s.dev.rnd.attachAt = [] ∧ s.dev.mboxClear = false) ∧
    (∃ (s : State) (m : _), s.dev.rnd.attachAt = [] ∧ s.dev.rnd.mig = some m ∧ m.done = false ∧ m.block = some (s.dev.tim.tick + 2) ∧ m.old ≠ m.new ∧ m.replan ≠ 1 ∧ s.dev.mboxClear = false) ∧
    (∃ (s : State), s.dev.rnd.attachAt = [] ∧ s.dev.rnd.mig = none ∧ s.dev.mboxClear = false) :=
  ⟨⟨rdy { units := [(0, { st := .running, startBlk := some 1 })] }, 63, by decide +kernel, by decide +kernel, by decide +kernel, by decide +kernel, by simp only [Strikable]; decide +kernel⟩,
   ⟨rdy {  }, 67, by decide +kernel⟩,
   ⟨rdy {  }, 63, true, 65535, by decide +kernel⟩,
   ⟨rdy { rnd := { scrub := false } }, 67, false, 263167, .single, by decide +kernel⟩,
   ⟨rdy {  }, 63, 65535, 63, by decide +kernel, by decide +kernel, by decide +kernel, by decide +kernel, by decide +kernel, (fun _ h => nomatch h), by simp only [Strikable]; decide +kernel⟩,
   ⟨rdy { rnd := { lane := [(67, { st := .testing })], mig := some { logical := 63, new := 67, old := 63, replan := 0, block := none, done := false } } }, 67, { logical := 63, new := 67, old := 63, replan := 0, block := none, done := false }, by decide +kernel⟩,
   ⟨rdy { rnd := { lane := [(67, { st := .testing })], attachAt := [(67, 63, none)] } }, 67, 63, by decide +kernel⟩,
   ⟨rdy { rnd := { lane := [(67, { st := .testing })] } }, 67, by decide +kernel⟩,
   ⟨rdy {  }, 67, by decide +kernel⟩,
   ⟨rdy { rnd := { mig := some { logical := 63, new := 67, old := 63, replan := 0, block := some 2, done := false } } }, { logical := 63, new := 67, old := 63, replan := 0, block := some 2, done := false }, by decide +kernel⟩,
   ⟨rdy {  }, by decide +kernel⟩⟩

/-- What `Obligations.RenderCommands` assumes can hold. -/
theorem wit_RenderCommands :
    (∃ (s : State) (r : AcpReq) (b : Bytes) (new : Nat → Nat), Plain s r b ∧ (∀ i, new i = (if 16 * u8 b 0 ≤ i ∧ i < 16 * (u8 b 0 + u8 b 1) then u16 b (4 + 2 * (i - 16 * u8 b 0)) else (s.dev.slotObj i).getD 0xFFFF)) ∧ b.length = 4 + 32 * u8 b 1 ∧ 0 < u8 b 1 ∧ u8 b 0 + u8 b 1 ≤ 64 ∧ u16 b 2 = 0 ∧ (s.dev.unit 0 0).st = .stopped ∧ (∀ i, i < 1024 → new i = 0xFFFF ∨ (new i < nObj s.dev.rate ∧ i % 16 < slotsPerLane s.dev.rate)) ∧ (∀ i j, i < 1024 → j < 1024 → new i = new j → new i ≠ 0xFFFF → i = j)) ∧
    (∃ (s : State) (r : AcpReq) (b : Bytes), Plain s r b ∧ b.length = 4 ∧ 0 < u8 b 1 ∧ u8 b 0 + u8 b 1 ≤ 64 ∧ u16 b 2 = 0) ∧
    (∃ (s : State) (r : AcpReq) (b : Bytes), Plain s r b ∧ b = []) ∧
    (∃ (s : State) (r : AcpReq) (b : Bytes) (l : _) (q : _) (rest : _), Plain s r b ∧ b.length = 4 ∧ l = u8 b 0 ∧ l ≤ 63 ∧ u8 b 1 = 0 ∧ u16 b 2 = 0 ∧ s.dev.server l = some l ∧ s.dev.rnd.mig = none ∧ s.dev.freeReserves = q :: rest) ∧
    (∃ (s : State) (r : AcpReq) (b : Bytes) (l : _) (q : _), Plain s r b ∧ b.length = 4 ∧ l = u8 b 0 ∧ l ≤ 63 ∧ u8 b 1 = 1 ∧ u16 b 2 = 0 ∧ s.dev.server l = some q ∧ q ≠ l ∧ s.dev.rnd.mig = none ∧ (s.dev.lane l).logical = none ∧ (s.dev.lane l).st ≠ .retired) ∧
    (∃ (s : State) (r : AcpReq) (b : Bytes) (i : _) (m : _), Plain s r b ∧ b.length = 8 ∧ u16 b 0 < nObj s.dev.rate ∧ 0 < u16 b 4 ∧ u16 b 2 + u16 b 4 ≤ 512 ∧ u16 b 6 = 0 ∧ s.dev.slotOf (u16 b 0) = some i ∧ s.dev.rnd.block = some m ∧ s.dev.rnd.pathFree = none) ∧
    (∃ (s : State) (r : AcpReq) (b : Bytes), Plain s r b ∧ b.length = 8 ∧ u16 b 0 < nObj s.dev.rate ∧ 0 < u16 b 4 ∧ u16 b 2 + u16 b 4 ≤ 512 ∧ u16 b 6 = 0 ∧ s.dev.rnd.block = none) ∧
    (∃ (s : State) (r : AcpReq) (b : Bytes), Plain s r b ∧ b.length = 4 ∧ 0 < u16 b 2 ∧ u16 b 0 + u16 b 2 ≤ 1024) ∧
    (∃ (s : State) (r : AcpReq) (b : Bytes), Plain s r b ∧ b = []) :=
  ⟨⟨rdy {}, rq ([63, 1, 0, 0] ++ (rangeFrom 1008 16).flatMap (le 2)), _, id, plain_st _ _ (by decide +kernel), (fun i => by
    by_cases h : 1008 ≤ i ∧ i < 1024
    · rw [if_pos (by simpa [u8, uN, leNat] using h)]; obtain ⟨h1, h2⟩ := h; interval_cases i <;> decide +kernel
    · rw [if_neg (by simpa [u8, uN, leNat] using h)]; exact slot_id i), by decide +kernel, by decide +kernel, by decide +kernel, by decide +kernel, by decide +kernel, (fun i h => .inr ⟨h, Nat.mod_lt i (by decide)⟩), (fun i j _ _ h _ => h)⟩,
   ⟨rdy {}, rq ([63, 1, 0, 0]), _, plain_st _ _ (by decide +kernel), by decide +kernel⟩,
   ⟨rdy {}, rq ([]), _, plain_st _ _ (by decide +kernel), by decide +kernel⟩,
   ⟨rdy {}, rq ([63, 0, 0, 0]), _, 63, 64, [65, 66, 67], plain_st _ _ (by decide +kernel), by decide +kernel⟩,
   ⟨rdy { rnd := { lane := [(63, { st := .idle }), (64, { logical := some 63 })] } }, rq ([63, 1, 0, 0]), _, 63, 64, plain_st _ _ (by decide +kernel), by decide +kernel⟩,
   ⟨rdy { rnd := { block := some 5 } }, rq (le 2 1023 ++ le 2 511 ++ le 2 1 ++ zb 2), _, 1023, 5, plain_st _ _ (by decide +kernel), by decide +kernel⟩,
   ⟨rdy {}, rq (le 2 1023 ++ le 2 511 ++ le 2 1 ++ zb 2), _, plain_st _ _ (by decide +kernel), by decide +kernel⟩,
   ⟨rdy {}, rq (le 2 1023 ++ le 2 1), _, plain_st _ _ (by decide +kernel), by decide +kernel⟩,
   ⟨rdy {}, rq ([]), _, plain_st _ _ (by decide +kernel), by decide +kernel⟩⟩

/-- What `Obligations.CorrectionEvents` assumes can hold. -/
theorem wit_CorrectionEvents :
    (∃ (s : State) (o : _) (f : _), o < 512 ∧ s.dev.tim.tick + 2 = 64 * f ∧ s.dev.cnv.t2In = true ∧ (s.dev.cnvo o).t2Late ≠ some f ∧ (∃ k, ((s.dev.cnvo o).bank k).live = true ∧ s.dev.needsT2 ((s.dev.cnvo o).bank k) = true) ∧ s.dev.mboxClear = false) ∧
    (∃ (s : State) (o : _) (f : _), o < 512 ∧ s.dev.tim.tick + 2 ≠ 64 * f ∧ s.dev.mboxClear = false) ∧
    (∃ (s : State) (o : _) (b : _) (k : _) (trunc : _) (w : _), o < 512 ∧ b < 2 ∧ k = (s.dev.cnvo o).bank (b == 1) ∧ k.committing = some trunc ∧ (s.dev.needsT2 k = true → s.dev.cnv.t2In = true) ∧ w = (if s.dev.needsT2 k then max (8 * ((s.dev.tim.tick + 9) / 8 + 1)) (64 * ((s.dev.tim.tick + 65) / 64 + 1)) else 8 * ((s.dev.tim.tick + 9) / 8 + 1)) ∧ s.dev.mboxClear = false) ∧
    (∃ (s : State) (o : _) (b : _) (k : _) (trunc : _), o < 512 ∧ b < 2 ∧ k = (s.dev.cnvo o).bank (b == 1) ∧ k.committing = some trunc ∧ s.dev.needsT2 k = true ∧ s.dev.cnv.t2In = false ∧ s.dev.mboxClear = false) ∧
    (∃ (s : State) (o : _) (b : _), o < 512 ∧ b < 2 ∧ ((s.dev.cnvo o).bank (b == 1)).committing = none ∧ s.dev.mboxClear = false) ∧
    (∃ (s : State), s.dev.cnv.verifying = true ∧ s.dev.mboxClear = false) ∧
    (∃ (s : State) (o : _) (b : _), s.dev.cnv.verifying = true ∧ o < 512 ∧ b < 2 ∧ ((s.dev.cnvo o).bank (b == 1)).st = .ready ∧ 2048 < ((s.dev.cnvo o).bank (b == 1)).taps ∧ s.dev.mboxClear = false) ∧
    (∃ (s : State) (_l : List (Nat × Nat)), s.dev.cnv.verifying = false ∧ s.dev.mboxClear = false) :=
  ⟨⟨rdy { tim := { tick := 62 }, cnv := { t2In := true, out := [(511, { b := { st := .ready, taps := 2049 } })] } }, 511, 1, by decide +kernel⟩,
   ⟨rdy {  }, 511, 1, by decide +kernel⟩,
   ⟨rdy { cnv := { t2In := true, out := [(511, { b := { st := .ready, taps := 2049, committing := some 1 } })] } }, 511, 1, { st := .ready, taps := 2049, committing := some 1 }, 1, _, by decide +kernel, by decide +kernel, by decide +kernel, by decide +kernel, by decide +kernel, rfl, rfl⟩,
   ⟨rdy { cnv := { out := [(511, { b := { st := .ready, taps := 2049, committing := some 1 } })] } }, 511, 1, { st := .ready, taps := 2049, committing := some 1 }, 1, by decide +kernel⟩,
   ⟨rdy {  }, 511, 1, by decide +kernel⟩,
   ⟨rdy { cnv := { verifying := true } }, by decide +kernel⟩,
   ⟨rdy { cnv := { verifying := true, out := [(511, { b := { st := .ready, taps := 2049 } })] } }, 511, 1, by decide +kernel⟩,
   ⟨rdy {  }, [], by decide +kernel⟩⟩

/-- What `Obligations.CorrectionUploads` assumes can hold. -/
theorem wit_CorrectionUploads :
    (∃ (s : State) (r : AcpReq) (b : Bytes), Plain s r b ∧ b.length = 8 ∧ u8 b 0 ≤ 1 ∧ u8 b 1 = 0 ∧ u32 b 4 = 0 ∧ s.dev.regionIn (u16 b 2) = true ∧ (s.dev.unit 2 0).st = .stopped ∧ s.dev.cnv.t2In = false) ∧
    (∃ (s : State) (r : AcpReq) (b : Bytes) (k : _), Plain s r b ∧ b.length = 16 ∧ u16 b 0 < 512 ∧ k = u8 b 2 ∧ k ≤ 1 ∧ (u8 b 3 ≤ 7 ∨ u8 b 3 = 255) ∧ 0 < u32 b 4 ∧ u32 b 4 ≤ tapsMax s.dev.rate ∧ u32 b 12 = 0 ∧ (s.dev.unit 2 0).st ≠ .retired ∧ (s.dev.cnvo (u16 b 0)).busy s.dev.tim.tick (k == 1) = false ∧ Unawaited s (0x0A12, 2 * u16 b 0 + k)) ∧
    (∃ (s : State) (r : AcpReq) (b : Bytes) (k : _) (x : _), Plain s r b ∧ b.length = 12 + 4 * u32 b 8 ∧ u16 b 0 < 512 ∧ k = u8 b 2 ∧ k ≤ 1 ∧ u8 b 3 = 0 ∧ 0 < u32 b 8 ∧ (s.dev.unit 2 0).st ≠ .retired ∧ x = (s.dev.cnvo (u16 b 0)).bank (k == 1) ∧ (s.dev.cnvo (u16 b 0)).busy s.dev.tim.tick (k == 1) = false ∧ x.st = .loading ∧ x.committing = none ∧ u32 b 4 = x.next ∧ u32 b 4 + u32 b 8 ≤ x.want ∧ (u32 b 4 + u32 b 8 ≤ 2048 ∨ s.dev.cnv.t2In = true)) ∧
    (∃ (s : State) (r : AcpReq) (b : Bytes) (k : _) (x : _), Plain s r b ∧ b.length = 4 ∧ u16 b 0 < 512 ∧ k = u8 b 2 ∧ k ≤ 1 ∧ u8 b 3 = 0 ∧ (s.dev.unit 2 0).st ≠ .retired ∧ x = (s.dev.cnvo (u16 b 0)).bank (k == 1) ∧ (s.dev.cnvo (u16 b 0)).busy s.dev.tim.tick (k == 1) = false ∧ x.st = .loading ∧ x.committing = none ∧ x.next = x.want ∧ x.preeq = 255 ∧ x.want ≤ tapsMax s.dev.rate ∧ (x.want ≤ 2048 ∨ s.dev.cnv.t2In = true) ∧ x.tapCrc = x.crc) ∧
    (∃ (s : State) (r : AcpReq) (b : Bytes) (k : _) (x : _), Plain s r b ∧ b.length = 4 ∧ u16 b 0 < 512 ∧ k = u8 b 2 ∧ k ≤ 1 ∧ u8 b 3 = 0 ∧ (s.dev.unit 2 0).st ≠ .retired ∧ x = (s.dev.cnvo (u16 b 0)).bank (k == 1) ∧ (s.dev.cnvo (u16 b 0)).busy s.dev.tim.tick (k == 1) = false ∧ x.st = .loading ∧ x.committing = none ∧ x.next = x.want ∧ x.preeq = 255 ∧ x.want ≤ tapsMax s.dev.rate ∧ (x.want ≤ 2048 ∨ s.dev.cnv.t2In = true) ∧ x.tapCrc ≠ x.crc) ∧
    (∃ (s : State) (r : AcpReq) (b : Bytes) (k : _), Plain s r b ∧ b.length = 4 ∧ u16 b 0 < 512 ∧ k = u8 b 2 ∧ k ≤ 1 ∧ u8 b 3 = 0 ∧ (s.dev.unit 2 0).st ≠ .retired ∧ (s.dev.cnvo (u16 b 0)).busy s.dev.tim.tick (k == 1) = false ∧ Unawaited s (0x0A12, 2 * u16 b 0 + k)) ∧
    (∃ (s : State) (r : AcpReq) (b : Bytes), Plain s r b ∧ b.length = 4 + 4 * u16 b 2 ∧ u8 b 0 ≤ 7 ∧ u8 b 1 = 0 ∧ 0 < u16 b 2 ∧ u16 b 2 ≤ 256) :=
  ⟨⟨rdy { drc := { density := 4 } }, rq (zb 8), _, plain_st _ _ (by decide +kernel), by decide +kernel⟩,
   ⟨rdy {}, rq (le 2 511 ++ [1, 255] ++ le 4 16384 ++ zb 8), _, 1, plain_st _ _ (by decide +kernel), by decide +kernel, by decide +kernel, by decide +kernel, by decide +kernel, by decide +kernel, by decide +kernel, by decide +kernel, by decide +kernel, by decide +kernel, by decide +kernel, (fun _ h => nomatch h)⟩,
   ⟨rdy { cnv := { t2In := true, out := [(511, { b := { st := .loading, want := 16384, next := 16383 } })] } }, rq (le 2 511 ++ [1, 0] ++ le 4 16383 ++ le 4 1 ++ le 4 7), _, 1, { st := .loading, want := 16384, next := 16383 }, plain_st _ _ (by decide +kernel), by decide +kernel⟩,
   ⟨rdy { cnv := { out := [(511, { b := { st := .loading, want := 1, next := 1, crc := ({ st := .loading, want := 1, next := 1, crc := 0 } : Bank).tapCrc } })] } }, rq (le 2 511 ++ [1, 0]), _, 1, { st := .loading, want := 1, next := 1, crc := ({ st := .loading, want := 1, next := 1, crc := 0 } : Bank).tapCrc }, plain_st _ _ (by decide +kernel), by decide +kernel⟩,
   ⟨rdy { cnv := { out := [(511, { b := { st := .loading, want := 1, next := 1, crc := ({ st := .loading, want := 1, next := 1, crc := 0 } : Bank).tapCrc + 1 } })] } }, rq (le 2 511 ++ [1, 0]), _, 1, { st := .loading, want := 1, next := 1, crc := ({ st := .loading, want := 1, next := 1, crc := 0 } : Bank).tapCrc + 1 }, plain_st _ _ (by decide +kernel), by decide +kernel⟩,
   ⟨rdy {}, rq (le 2 511 ++ [1, 0]), _, 1, plain_st _ _ (by decide +kernel), by decide +kernel, by decide +kernel, by decide +kernel, by decide +kernel, by decide +kernel, by decide +kernel, by decide +kernel, (fun _ h => nomatch h)⟩,
   ⟨rdy {}, rq ([7, 0, 0, 1] ++ zb 1024), _, plain_st _ _ (by decide +kernel), by decide +kernel⟩⟩

/-- What `Obligations.CorrectionSwitches` assumes can hold. -/
theorem wit_CorrectionSwitches :
    (∃ (s : State) (r : AcpReq) (b : Bytes), Plain s r b ∧ b.length = 8 ∧ 0 < u16 b 2 ∧ u16 b 0 + u16 b 2 ≤ 512 ∧ u8 b 4 ≤ 1 ∧ u8 b 5 = 0 ∧ 0 < u16 b 6 ∧ u16 b 6 ≤ 1024 ∧ (s.dev.unit 2 0).st = .running ∧ (∀ o, u16 b 0 ≤ o → o < u16 b 0 + u16 b 2 → (s.dev.cnvo o).sel ≠ u8 b 4 ∧ (s.dev.cnvo o).fade = none ∧ (((s.dev.cnvo o).bank (u8 b 4 == 1)).st = .empty ∨ (((s.dev.cnvo o).bank (u8 b 4 == 1)).st = .ready ∧ ((s.dev.cnvo o).bank (u8 b 4 == 1)).warm ≤ s.dev.tim.tick + 2)))) ∧
    (∃ (s : State) (r : AcpReq) (b : Bytes), Plain s r b ∧ b.length = 8 ∧ 0 < u16 b 2 ∧ u16 b 0 + u16 b 2 ≤ 512 ∧ u8 b 4 ≤ 1 ∧ u8 b 5 = 0 ∧ 0 < u16 b 6 ∧ u16 b 6 ≤ 1024 ∧ (s.dev.unit 2 0).st = .stopped ∧ (∀ o, u16 b 0 ≤ o → o < u16 b 0 + u16 b 2 → (s.dev.cnvo o).sel ≠ u8 b 4 ∧ (((s.dev.cnvo o).bank (u8 b 4 == 1)).st = .empty ∨ ((s.dev.cnvo o).bank (u8 b 4 == 1)).st = .ready))) ∧
    (∃ (s : State) (r : AcpReq) (b : Bytes) (x : _), Plain s r b ∧ b.length = 8 ∧ 0 < u16 b 2 ∧ u16 b 0 + u16 b 2 ≤ 512 ∧ u8 b 4 ≤ 1 ∧ u8 b 5 = 0 ∧ 0 < u16 b 6 ∧ u16 b 6 ≤ 1024 ∧ (s.dev.unit 2 0).st = .running ∧ (s.dev.cnvo (u16 b 0)).sel ≠ u8 b 4 ∧ (s.dev.cnvo (u16 b 0)).fade = none ∧ x = (s.dev.cnvo (u16 b 0)).bank (u8 b 4 == 1) ∧ (x.st = .loading ∨ x.st = .incomplete)) ∧
    (∃ (s : State) (r : AcpReq) (b : Bytes) (x : _), Plain s r b ∧ b.length = 8 ∧ 0 < u16 b 2 ∧ u16 b 0 + u16 b 2 ≤ 512 ∧ u8 b 4 ≤ 1 ∧ u8 b 5 = 0 ∧ 0 < u16 b 6 ∧ u16 b 6 ≤ 1024 ∧ (s.dev.unit 2 0).st = .running ∧ (s.dev.cnvo (u16 b 0)).sel ≠ u8 b 4 ∧ (s.dev.cnvo (u16 b 0)).fade = none ∧ x = (s.dev.cnvo (u16 b 0)).bank (u8 b 4 == 1) ∧ x.st = .ready ∧ s.dev.tim.tick + 2 < x.warm) ∧
    (∃ (s : State) (r : AcpReq) (b : Bytes), Plain s r b ∧ b.length = 8 ∧ 0 < u16 b 2 ∧ u16 b 0 + u16 b 2 ≤ 512 ∧ u8 b 4 ≤ 1 ∧ u8 b 5 = 1 ∧ 0 < u16 b 6 ∧ u16 b 6 ≤ 1024 ∧ (s.dev.unit 2 0).st ≠ .retired) ∧
    (∃ (s : State) (r : AcpReq) (b : Bytes), Plain s r b ∧ b = []) ∧
    (∃ (s : State) (r : AcpReq) (b : Bytes), Plain s r b ∧ b.length = 4 ∧ 0 < u16 b 2 ∧ u16 b 0 + u16 b 2 ≤ 512) ∧
    (∃ (s : State) (r : AcpReq) (b : Bytes), Plain s r b ∧ b.length = 4 ∧ 0 < u16 b 2 ∧ u16 b 0 + u16 b 2 ≤ 1024) :=
  ⟨⟨rdy { units := [un 2 0 .running] }, rq (le 2 511 ++ le 2 1 ++ [1, 0] ++ le 2 1024), _, plain_st _ _ (by decide +kernel), by decide +kernel, by decide +kernel, by decide +kernel, by decide +kernel, by decide +kernel, by decide +kernel, by decide +kernel, by decide +kernel, (fun o h1 h2 => by obtain rfl : o = 511 := lone h1 h2; decide +kernel)⟩,
   ⟨rdy {}, rq (le 2 511 ++ le 2 1 ++ [1, 0] ++ le 2 1024), _, plain_st _ _ (by decide +kernel), by decide +kernel, by decide +kernel, by decide +kernel, by decide +kernel, by decide +kernel, by decide +kernel, by decide +kernel, by decide +kernel, (fun o h1 h2 => by obtain rfl : o = 511 := lone h1 h2; decide +kernel)⟩,
   ⟨rdy { units := [un 2 0 .running], cnv := { out := [(511, { b := { st := .loading } })] } }, rq (le 2 511 ++ le 2 1 ++ [1, 0] ++ le 2 1024), _, { st := .loading }, plain_st _ _ (by decide +kernel), by decide +kernel⟩,
   ⟨rdy { units := [un 2 0 .running], cnv := { out := [(511, { b := { st := .ready, warm := 3 } })] } }, rq (le 2 511 ++ le 2 1 ++ [1, 0] ++ le 2 1024), _, { st := .ready, warm := 3 }, plain_st _ _ (by decide +kernel), by decide +kernel⟩,
   ⟨rdy {}, rq (le 2 511 ++ le 2 1 ++ [1, 1] ++ le 2 1024), _, plain_st _ _ (by decide +kernel), by decide +kernel⟩,
   ⟨rdy {}, rq ([]), _, plain_st _ _ (by decide +kernel), by decide +kernel⟩,
   ⟨rdy {}, rq (le 2 511 ++ le 2 1), _, plain_st _ _ (by decide +kernel), by decide +kernel⟩,
   ⟨rdy {}, rq (le 2 1023 ++ le 2 1), _, plain_st _ _ (by decide +kernel), by decide +kernel⟩⟩

/-- What `Obligations.DramEvents` assumes can hold. -/
theorem wit_DramEvents :
    (∃ (s : State) (c k : Nat) (a : DrcServe), c < 4 ∧ (s.dev.unit 9 0).st = .running ∧ s.dev.drc.due = [k] ∧ k / 64 = c ∧ a ≠ .parity ∧ s.dev.mboxClear = false) ∧
    (∃ (s : State) (c : _) (r : _), c < 4 ∧ (s.dev.unit 9 0).st = .running ∧ s.dev.drc.due = [] ∧ s.dev.drc.cond = .inService ∧ s.dev.drc.switch = none ∧ s.dev.drcQ c = [r] ∧ r.write = true ∧ s.dev.mboxClear = false) ∧
    (∃ (s : State) (c : _) (r : _), c < 4 ∧ (s.dev.unit 9 0).st = .running ∧ s.dev.drc.due = [] ∧ s.dev.drc.cond = .inService ∧ s.dev.drc.switch = none ∧ s.dev.drcQ c = [r] ∧ r.write = false ∧ r.src = 1 ∧ s.dev.mboxClear = false) ∧
    (∃ (s : State) (c : Nat) (r : DReq) (_syn : Nat) (_dat : Bytes) (_chk : Nat), c < 4 ∧ (s.dev.unit 9 0).st = .running ∧ s.dev.drc.due = [] ∧ s.dev.drc.cond = .inService ∧ s.dev.drc.switch = none ∧ s.dev.drc.run = none ∧ s.dev.drcQ c = [r] ∧ r.write = false ∧ Strikable s 1171 ∧ s.dev.mboxClear = false) ∧
    (∃ (s : State) (c : Nat) (_a : DrcServe), c < 4 ∧ (s.dev.unit 9 0).st ≠ .running ∧ s.dev.mboxClear = false) ∧
    (∃ (s : State) (c : _) (k : _) (b : _), c < 4 ∧ k < 2 ∧ (s.dev.unit 9 0).st = .running ∧ (k = 0 ∨ s.dev.drc.ranks2 = true) ∧ b = tget 0 s.dev.drc.nextBank (2 * c + k) ∧ s.dev.mboxClear = false) ∧
    (∃ (s : State) (c : _) (k : _), c < 4 ∧ k < 2 ∧ (s.dev.unit 9 0).st ≠ .running ∧ s.dev.mboxClear = false) ∧
    (∃ (s : State) (n : _), n < 2 ∧ (s.dev.unit 9 0).st = .running ∧ s.dev.mboxClear = false) ∧
    (∃ (s : State), (s.dev.unit 9 0).st = .running ∧ s.dev.drc.episode = false ∧ Strikable s 1171 ∧ s.dev.mboxClear = false) ∧
    (∃ (s : State), (s.dev.unit 9 0).st = .starting ∧ s.dev.mboxClear = false) ∧
    (∃ (s : State) (_r : Nat) (_n : Nat), (s.dev.unit 9 0).st = .starting ∧ s.dev.mboxClear = false) ∧
    (∃ (s : State), (s.dev.unit 9 0).st = .starting ∧ (s.dev.chan 1171).retired = false) ∧
    (∃ (s : State) (_r : DrcStart), (s.dev.unit 9 0).st ≠ .starting ∧ s.dev.mboxClear = false) ∧
    (∃ (s : State), (s.dev.unit 9 0).st = .stopping ∧ s.dev.mboxClear = false) ∧
    (∃ (s : State) (r : _) (k : _) (v : _), s.dev.drc.run = some r ∧ (s.dev.unit 9 0).st = .running ∧ k < 8192 ∧ k % 4 = r.sp ∧ v < 1024 ∧ s.dev.mboxClear = false) ∧
    (∃ (s : State) (r : TrnRun) (_p _c _k : Nat), s.dev.drc.run = some r ∧ (s.dev.unit 9 0).st = .running ∧ s.dev.drcFails.length < 5 ∧ s.dev.mboxClear = false) ∧
    (∃ (s : State) (_r : TrainRes), s.dev.drc.run = none ∧ s.dev.mboxClear = false) ∧
    (∃ (s : State) (_v : Nat), s.dev.drc.stepBusy = true ∧ s.dev.mboxClear = false) ∧
    (∃ (s : State) (i : _) (l : _), s.dev.drc.retries = i :: l ∧ s.dev.drc.cond = .untrained ∧ s.dev.drc.run = none ∧ s.dev.drc.switch = none ∧ (s.dev.unit 9 0).st = .running ∧ s.dev.mboxClear = false) ∧
    (∃ (s : State), s.dev.drc.retries = [] ∧ s.dev.mboxClear = false) ∧
    (∃ (s : State) (c : _), c < 4 ∧ s.dev.drc.cond = .training ∧ s.dev.mboxClear = false) ∧
    (0 < (Config.driftTaps 0 1).natAbs → ∃ (s : State) (l : List (Nat × Nat)), (s.dev.unit 9 0).st = .running ∧ s.dev.drc.driftEn = true ∧ s.dev.drc.cond = .inService ∧ s.dev.drc.switch = none ∧ (∃ x ∈ l, s.dev.drc.driftMax < (s.dev.driftOf x).natAbs) ∧ s.dev.mboxClear = false) ∧
    (∃ (s : State) (x : _) (y : _), (s.dev.unit 9 0).st = .running ∧ s.dev.drc.driftEn = true ∧ s.dev.drc.cond = .inService ∧ s.dev.drc.switch = none ∧ y < 2 ∧ (s.dev.driftOf x).natAbs ≤ s.dev.drc.driftMax ∧ s.dev.mboxClear = false) ∧
    (∃ (s : State) (_l : List (Nat × Nat)), s.dev.drc.driftEn = false ∧ s.dev.mboxClear = false) ∧
    (∃ (s : State) (k : _) (i : _), tget none s.dev.drc.target k = some i ∧ tget 0 s.dev.drc.dly k ≠ i ∧ s.dev.mboxClear = false) ∧
    (∃ (s : State) (k : _), tget none s.dev.drc.target k = none ∧ s.dev.mboxClear = false) ∧
    (∃ (s : State) (p : _), s.dev.drc.switch = some p ∧ s.dev.drc.trained / 2 ^ p % 2 = 1 ∧ s.dev.mboxClear = false) ∧
    (∃ (s : State) (p : _), s.dev.drc.switch = some p ∧ (s.dev.unit 9 0).st = .running ∧ s.dev.mboxClear = false) ∧
    (∃ (s : State), (s.dev.unit 9 0).st = .running ∧ s.dev.drc.cond = .frozen ∧ s.dev.drc.hold ≠ 0 ∧ s.dev.drc.frozenBy ≠ 2 ∧ s.dev.mboxClear = false) ∧
    (∃ (s : State), (s.dev.unit 9 0).st = .running ∧ s.dev.drc.cond = .frozen ∧ s.dev.drc.hold ≠ 0 ∧ s.dev.drc.frozenBy = 2 ∧ s.dev.mboxClear = false) ∧
    (∃ (s : State) (v : W32), v.getLsbD 0 = true ∧ s.dev.mboxClear = false) ∧
    (∃ (s : State) (_v : W32), s.dev.mboxClear = false) :=
  ⟨⟨rdy { units := [un 9 0 .running], drc := { due := [200] } }, 3, 200, .ok, by decide +kernel⟩,
   ⟨rdy { units := [un 9 0 .running], drc := { cond := .inService, queue := [(3, [{ src := 0, write := true, addr := 0, data := [], at_ := 0 }])] } }, 3, { src := 0, write := true, addr := 0, data := [], at_ := 0 }, by decide +kernel⟩,
   ⟨rdy { units := [un 9 0 .running], drc := { cond := .inService, queue := [(3, [{ src := 1, write := false, addr := 0, data := [], at_ := 0 }])] } }, 3, { src := 1, write := false, addr := 0, data := [], at_ := 0 }, by decide +kernel⟩,
   ⟨rdy { units := [un 9 0 .running], drc := { cond := .inService, queue := [(3, [{ src := 0, write := false, addr := 0, data := [], at_ := 0 }])] } }, 3, { src := 0, write := false, addr := 0, data := [], at_ := 0 }, 0, [], 0, by decide +kernel, by decide +kernel, by decide +kernel, by decide +kernel, by decide +kernel, by decide +kernel, by decide +kernel, by decide +kernel, by simp only [Strikable]; decide +kernel⟩,
   ⟨rdy {  }, 3, .ok, by decide +kernel⟩,
   ⟨rdy { units := [un 9 0 .running], drc := { ranks2 := true } }, 3, 1, _, by decide +kernel, by decide +kernel, by decide +kernel, by decide +kernel, rfl, rfl⟩,
   ⟨rdy {  }, 3, 1, by decide +kernel⟩,
   ⟨rdy { units := [un 9 0 .running] }, 1, by decide +kernel⟩,
   ⟨rdy { units := [un 9 0 .running] }, by simp only [Strikable]; decide +kernel⟩,
   ⟨rdy { units := [un 9 0 .starting] }, by decide +kernel⟩,
   ⟨rdy { units := [un 9 0 .starting] }, 1, 2, by decide +kernel⟩,
   ⟨rdy { units := [un 9 0 .starting] }, by decide +kernel⟩,
   ⟨rdy {  }, .failed, by decide +kernel⟩,
   ⟨rdy { units := [un 9 0 .stopping] }, by decide +kernel⟩,
   ⟨rdy { units := [un 9 0 .running], drc := { run := some { sp := 3, phase := 0, channel := 0, rank := 0, op := 0 } } }, { sp := 3, phase := 0, channel := 0, rank := 0, op := 0 }, 8191, 1023, by decide +kernel⟩,
   ⟨rdy { units := [un 9 0 .running], drc := { run := some { sp := 3, phase := 0, channel := 0, rank := 0, op := 0 } } }, { sp := 3, phase := 0, channel := 0, rank := 0, op := 0 }, 7, 3, 1, by decide +kernel⟩,
   ⟨rdy {  }, .fail 0 0 0, by decide +kernel⟩,
   ⟨rdy { drc := { stepBusy := true } }, 5, by decide +kernel⟩,
   ⟨rdy { units := [un 9 0 .running], drc := { cond := .untrained, retries := [5] } }, 5, [], by decide +kernel⟩,
   ⟨rdy {  }, by decide +kernel⟩,
   ⟨rdy { drc := { cond := .training } }, 3, by decide +kernel⟩,
   fun h => ⟨rdy { units := [un 9 0 .running], drc := { cond := .inService, driftMax := 0 } }, [(7, 1)], by decide +kernel, by decide +kernel, by decide +kernel, by decide +kernel, ⟨_, List.mem_singleton.2 rfl, h⟩, rfl⟩,
   ⟨rdy { units := [un 9 0 .running], drc := { cond := .inService, driftMax := (Config.driftTaps 0 1).natAbs } }, (7, 1), 1, by decide +kernel, by decide +kernel, by decide +kernel, by decide +kernel, by decide +kernel, (Nat.le_refl _ : _), rfl⟩,
   ⟨rdy { drc := { driftEn := false } }, [], by decide +kernel⟩,
   ⟨rdy { drc := { target := [(8191, some 5)] } }, 8191, 5, by decide +kernel⟩,
   ⟨rdy {  }, 8191, by decide +kernel⟩,
   ⟨rdy { drc := { switch := some 3, trained := 8 } }, 3, by decide +kernel⟩,
   ⟨rdy { units := [un 9 0 .running], drc := { switch := some 3 } }, 3, by decide +kernel⟩,
   ⟨rdy { units := [un 9 0 .running], drc := { cond := .frozen } }, by decide +kernel⟩,
   ⟨rdy { units := [un 9 0 .running], drc := { cond := .frozen, frozenBy := 2 } }, by decide +kernel⟩,
   ⟨rdy {  }, 1, by decide +kernel⟩,
   ⟨rdy {  }, 7, by decide +kernel⟩⟩

/-- What `Obligations.DramCommands` assumes can hold. -/
theorem wit_DramCommands :
    (∃ (s : State) (r : AcpReq) (b : Bytes), Plain s r b ∧ b.length = 16 ∧ 1 ≤ u8 b 0 ∧ u8 b 0 ≤ 2 ∧ u8 b 1 ≤ 4 ∧ u8 b 2 ≤ 3 ∧ u8 b 3 ≤ 1 ∧ 16 ≤ u16 b 4 ∧ 4 ≤ u8 b 7 ∧ u8 b 7 ≤ 31 ∧ 16 ≤ u16 b 8 ∧ u16 b 8 ≤ 1000 ∧ u32 b 12 = 0 ∧ (s.dev.unit 9 0).st = .stopped) ∧
    (∃ (s : State) (r : AcpReq) (b : Bytes), Plain s r b ∧ b = []) ∧
    (∃ (s : State) (r : AcpReq) (b : Bytes), Plain s r b ∧ b.length = 4 ∧ u8 b 0 ≤ 3 ∧ uN 3 b 1 = 0 ∧ (s.dev.unit 9 0).st ≠ .retired ∧ s.dev.drc.run = none ∧ s.dev.drc.switch = none ∧ (s.dev.drc.cond = .inService ∨ s.dev.drc.cond = .untrained)) ∧
    (∃ (s : State) (r : AcpReq) (b : Bytes), Plain s r b ∧ b.length = 4 ∧ u8 b 0 ≤ 3 ∧ uN 3 b 1 = 0 ∧ (s.dev.unit 9 0).st ≠ .retired ∧ (s.dev.drc.run ≠ none ∨ s.dev.drc.switch ≠ none)) ∧
    (∃ (s : State) (r : AcpReq) (b : Bytes), Plain s r b ∧ b.length = 4 ∧ (u8 b 0 ≤ 3 ∨ u8 b 0 = 255) ∧ uN 3 b 1 = 0 ∧ (s.dev.unit 9 0).st = .running ∧ s.dev.drc.run = none ∧ s.dev.drc.switch = none ∧ s.dev.drc.cond = .inService) ∧
    (∃ (s : State) (r : AcpReq) (b : Bytes), Plain s r b ∧ b.length = 4 ∧ u8 b 0 = 0 ∧ uN 3 b 1 = 0 ∧ (s.dev.unit 9 0).st ≠ .retired ∧ s.dev.drc.cond = .frozen) ∧
    (∃ (s : State) (r : AcpReq) (b : Bytes), Plain s r b ∧ b.length = 4 ∧ u8 b 0 = 1 ∧ uN 3 b 1 = 0 ∧ (s.dev.unit 9 0).st = .running ∧ s.dev.drc.cond = .frozen) ∧
    (∃ (s : State) (r : AcpReq) (b : Bytes), Plain s r b ∧ b.length = 4 ∧ u8 b 0 ≤ 1 ∧ uN 3 b 1 = 0 ∧ (s.dev.unit 9 0).st ≠ .retired ∧ s.dev.drc.cond ≠ .frozen) ∧
    (∃ (s : State) (r : AcpReq) (b : Bytes), Plain s r b ∧ b.length = 4 ∧ u32 b 0 = 0) ∧
    (∃ (s : State) (r : AcpReq) (b : Bytes), Plain s r b ∧ b.length = 4 ∧ u32 b 0 = 1) ∧
    (∃ (s : State) (r : AcpReq) (b : Bytes), Plain s r b ∧ b = []) :=
  ⟨⟨rdy {}, rq ([2, 4, 3, 1, 16, 0, 0, 31] ++ le 2 1000 ++ zb 6), _, plain_st _ _ (by decide +kernel), by decide +kernel⟩,
   ⟨rdy {}, rq ([]), _, plain_st _ _ (by decide +kernel), by decide +kernel⟩,
   ⟨rdy { drc := { cond := .untrained } }, rq ([3, 0, 0, 0]), _, plain_st _ _ (by decide +kernel), by decide +kernel⟩,
   ⟨rdy { drc := { switch := some 1 } }, rq ([3, 0, 0, 0]), _, plain_st _ _ (by decide +kernel), by decide +kernel⟩,
   ⟨rdy { units := [un 9 0 .running], drc := { cond := .inService } }, rq ([255, 0, 0, 0]), _, plain_st _ _ (by decide +kernel), by decide +kernel⟩,
   ⟨rdy { drc := { cond := .frozen } }, rq (zb 4), _, plain_st _ _ (by decide +kernel), by decide +kernel⟩,
   ⟨rdy { units := [un 9 0 .running], drc := { cond := .frozen } }, rq ([1, 0, 0, 0]), _, plain_st _ _ (by decide +kernel), by decide +kernel⟩,
   ⟨rdy {}, rq ([1, 0, 0, 0]), _, plain_st _ _ (by decide +kernel), by decide +kernel⟩,
   ⟨rdy {}, rq (zb 4), _, plain_st _ _ (by decide +kernel), by decide +kernel⟩,
   ⟨rdy {}, rq (le 4 1), _, plain_st _ _ (by decide +kernel), by decide +kernel⟩,
   ⟨rdy {}, rq ([]), _, plain_st _ _ (by decide +kernel), by decide +kernel⟩⟩

/-- What `Obligations.Boundaries` assumes can hold. -/
theorem wit_Boundaries :
    (∃ (s : State) (i : TickIn), (∀ x ∈ i.tdm, x.1 < 1280) ∧ i.faults = [] ∧ s.dev.ticking = true) ∧
    (∃ (s : State) (i : TickIn), (∀ x ∈ i.tdm, x.1 < 1280) ∧ i.faults = [] ∧ s.dev.ticking = false ∧ s.dev.mboxClear = false) ∧
    (∃ (s : State) (i : TickIn), (∃ x ∈ i.tdm, 1280 ≤ x.1)) ∧
    (∃ (s : State), s.dev.ticking = true ∧ s.dev.out.block ≠ some (s.dev.tim.tick + 1) ∧ s.dev.pair.waitRec = none) ∧
    (∃ (s : State), (s.dev.ticking = false ∨ s.dev.out.block = some (s.dev.tim.tick + 1) ∨ s.dev.pair.waitRec ≠ none) ∧ s.dev.mboxClear = false) ∧
    (∃ (s : State) (c : _), s.dev.hst.timed = [c] ∧ c.op = 0x0711 ∧ c.block ≤ s.dev.tim.tick + 3 ∧ c.payload.length = 8 ∧ u16 c.payload 0 < nObj s.dev.rate ∧ u16 c.payload 2 = 0 ∧ (∀ b o, tget none s.dev.hst.lastSet (4 * u16 c.payload 0) = some (b, o) → ¬ (b = c.block ∧ c.ord < o)) ∧ s.dev.mboxClear = false) ∧
    (∃ (s : State) (c : _), s.dev.hst.timed = [c] ∧ c.op = 0x0711 ∧ c.block ≤ s.dev.tim.tick + 3 ∧ c.payload.length ≠ 8 ∧ s.dev.mboxClear = false) ∧
    (∃ (s : State), (∀ c ∈ s.dev.hst.timed, s.dev.tim.tick + 1 + leadOf c.op < c.block) ∧ s.dev.mboxClear = false) :=
  ⟨⟨rdy {  }, { arb := true, served := true, faults := [], tdm := [(1279, [])] }, by decide +kernel⟩,
   ⟨raw {  }, { arb := true, served := true, faults := [], tdm := [(1279, [])] }, by decide +kernel⟩,
   ⟨rdy {  }, { arb := true, served := true, faults := [], tdm := [(1280, [])] }, by decide +kernel⟩,
   ⟨rdy {  }, by decide +kernel⟩,
   ⟨raw {  }, by decide +kernel⟩,
   ⟨rdy { hst := { timed := [{ ord := 1, op := 0x0711, tag := 0, seq := 0, block := 3, payload := le 2 1023 ++ zb 6 }] } }, { ord := 1, op := 0x0711, tag := 0, seq := 0, block := 3, payload := le 2 1023 ++ zb 6 }, by decide +kernel, by decide +kernel, by decide +kernel, by decide +kernel, by decide +kernel, by decide +kernel, (fun _ _ h => nomatch h), rfl⟩,
   ⟨rdy { hst := { timed := [{ ord := 1, op := 0x0711, tag := 0, seq := 0, block := 3, payload := [] }] } }, { ord := 1, op := 0x0711, tag := 0, seq := 0, block := 3, payload := [] }, by decide +kernel⟩,
   ⟨rdy {  }, (fun _ h => nomatch h), rfl⟩⟩

/-- What `Obligations.HostRings` assumes can hold. -/
theorem wit_HostRings :
    (∃ (s : State) (v : W32) (r : AcpReq) (b : Bytes), Plain s r b ∧ b.length ≤ 256 ∧ s.dev.hst.resetDue = none ∧ s.dev.pwr.entryDue = none ∧ s.dev.hst.halted = false ∧ 16 ≤ s.dev.hst.cmd.size ∧ v.toNat % 2 ^ 18 % 8 = 0 ∧ v.toNat % 2 ^ 18 < s.dev.hst.cmd.size ∧ entryOf (Memory.ringRead s.mbox s.dev.hst.cmd.base s.dev.hst.cmd.size s.dev.hst.cmd.head 16) (Memory.ringRead s.mbox s.dev.hst.cmd.base s.dev.hst.cmd.size (s.dev.hst.cmd.head + 16) (u32 (Memory.ringRead s.mbox s.dev.hst.cmd.base s.dev.hst.cmd.size s.dev.hst.cmd.head 16) 4)) = (0x0102, r) ∧ (v.toNat % 2 ^ 18 + s.dev.hst.cmd.size - s.dev.hst.cmd.head) % s.dev.hst.cmd.size = (16 + u32 (Memory.ringRead s.mbox s.dev.hst.cmd.base s.dev.hst.cmd.size s.dev.hst.cmd.head 16) 4 + 7) / 8 * 8) ∧
    (∃ (s : State) (v : W32), s.dev.hostOn = true ∧ (s.dev.hst.cmd.size = 0 ∨ v.toNat % 2 ^ 18 % 8 ≠ 0 ∨ s.dev.hst.cmd.size ≤ v.toNat % 2 ^ 18) ∧ s.dev.mboxClear = false) ∧
    (∃ (s : State) (_v : W32), s.dev.boot.st ≠ .ready ∧ s.dev.mboxClear = false) ∧
    (∃ (s : State) (v : W32) (k : _), k < 3 ∧ s.dev.hostOn = true ∧ v.toNat % 2 ^ 19 = 0 ∧ s.dev.mboxClear = false) ∧
    (∃ (s : State) (v : W32) (k : _), k < 3 ∧ s.dev.hostOn = true ∧ (v.toNat % 2 ^ 19) ∈ [4096, 8192, 16384, 32768, 65536, 131072, 262144] ∧ (s.dev.hring k).baseReg % 4096 = 0 ∧ (s.dev.hring k).baseReg + v.toNat % 2 ^ 19 ≤ 0xF0000 ∧ (∀ j, j < 3 → j ≠ k → (s.dev.hring j).size ≠ 0 → (s.dev.hring k).baseReg + v.toNat % 2 ^ 19 ≤ (s.dev.hring j).base ∨ (s.dev.hring j).base + (s.dev.hring j).size ≤ (s.dev.hring k).baseReg) ∧ s.dev.mboxClear = false) ∧
    (∃ (s : State) (v : W32) (k : _), k < 3 ∧ s.dev.hostOn = true ∧ v.toNat % 2 ^ 19 ≠ 0 ∧ ((v.toNat % 2 ^ 19) ∉ [4096, 8192, 16384, 32768, 65536, 131072, 262144] ∨ (s.dev.hring k).baseReg % 4096 ≠ 0 ∨ 0xF0000 < (s.dev.hring k).baseReg + v.toNat % 2 ^ 19) ∧ s.dev.mboxClear = false) ∧
    (∃ (s : State) (v : W32) (k : _), (k = 1 ∨ k = 2) ∧ s.dev.hostOn = true ∧ (s.dev.hring k).size ≠ 0 ∧ v.toNat % 2 ^ 18 % 8 = 0 ∧ v.toNat % 2 ^ 18 < (s.dev.hring k).size ∧ (v.toNat % 2 ^ 18 + (s.dev.hring k).size - (s.dev.hring k).head) % (s.dev.hring k).size ≤ (s.dev.hring k).used ∧ s.dev.mboxClear = false) ∧
    (∃ (s : State) (v : W32) (k : _), (k = 1 ∨ k = 2) ∧ s.dev.hostOn = true ∧ ((s.dev.hring k).size = 0 ∨ v.toNat % 2 ^ 18 % 8 ≠ 0 ∨ (s.dev.hring k).size ≤ v.toNat % 2 ^ 18 ∨ (s.dev.hring k).used < (v.toNat % 2 ^ 18 + (s.dev.hring k).size - (s.dev.hring k).head) % (s.dev.hring k).size) ∧ s.dev.mboxClear = false) ∧
    (∃ (s : State) (r : _) (q : _), s.dev.hostOn = true ∧ s.dev.hst.rspQ = r :: q ∧ r.cont = none ∧ r.payload.length ≤ s.dev.rspLimit ∧ s.dev.hst.resetDue = none ∧ s.dev.pwr.entryDue = none ∧ s.dev.hst.holdoff = 0 ∧ Memory.wf s.mbox = true ∧ s.dev.hst.rsp.base + s.dev.hst.rsp.size ≤ 0xF0000 ∧ s.dev.hst.rsp.room ((16 + r.payload.length + 7) / 8 * 8) = true ∧ s.dev.mboxClear = false) ∧
    (∃ (s : State), (s.dev.hostOn = false ∨ s.dev.hst.rspQ = [] ∨ s.dev.hst.rsp.size = 0) ∧ s.dev.mboxClear = false) ∧
    (∃ (s : State) (e : _) (q : _), s.dev.hostOn = true ∧ s.dev.hst.evq = e :: q ∧ e.code ≠ 0x8112 ∧ s.dev.runs = [] ∧ s.dev.hst.holdoff = 0 ∧ Memory.wf s.mbox = true ∧ s.dev.hst.evt.base + s.dev.hst.evt.size ≤ 0xF0000 ∧ s.dev.hst.evt.room (evLen e) = true ∧ s.dev.mboxClear = false) ∧
    (∃ (s : State), (s.dev.hostOn = false ∨ s.dev.hst.evq = [] ∨ s.dev.hst.evt.size = 0) ∧ s.dev.mboxClear = false) :=
  ⟨⟨{ rdy { hst := { cmd := { base := 0, size := 4096, head := 4088 } } } with mbox := [(4088, 2), (4089, 1)] }, 8, rq [], [], plain_mem _ (plain_st { hst := { cmd := { base := 0, size := 4096, head := 4088 } } } [] (by decide +kernel)), by decide +kernel⟩,
   ⟨rdy { hst := { cmd := { size := 4096 } } }, 4096, by decide +kernel⟩,
   ⟨raw {  }, 0, by decide +kernel⟩,
   ⟨rdy {  }, 0x80000, 2, by decide +kernel⟩,
   ⟨rdy { hst := { cmd := { size := 4096 }, evt := { baseReg := 0xB0000 } } }, 0x40000, 2, by decide +kernel⟩,
   ⟨rdy {  }, 4097, 2, by decide +kernel⟩,
   ⟨rdy { hst := { evt := { size := 4096, head := 4088, tail := 8 } } }, 8, 2, by decide +kernel⟩,
   ⟨rdy {  }, 0, 2, by decide +kernel⟩,
   ⟨rdy { hst := { rsp := { size := 4096 }, rspQ := [{ op := 1, tag := 0, flags := 0, status := 0, seq := 0, len := 0, payload := zb 1024 }] } }, { op := 1, tag := 0, flags := 0, status := 0, seq := 0, len := 0, payload := zb 1024 }, [], by decide +kernel⟩,
   ⟨rdy {  }, by decide +kernel⟩,
   ⟨rdy { hst := { evt := { base := 0xE0000, size := 65536 }, evq := [{ code := 0x8001, inst := 0, ns := 0, frac := 0, sev := 0, payload := [] }] } }, { code := 0x8001, inst := 0, ns := 0, frac := 0, sev := 0, payload := [] }, [], by decide +kernel⟩,
   ⟨rdy {  }, by decide +kernel⟩⟩

/-- What `Obligations.HostRegisters` assumes can hold. -/
theorem wit_HostRegisters :
    (∃ (s : State) (_v : W32), s.dev.hostOn = true ∧ s.dev.mboxClear = false) ∧
    (∃ (s : State) (_v : W32), s.dev.hostOn = false ∧ s.dev.mboxClear = false) ∧
    (∃ (s : State), s.dev.hst.evtHeld = true ∧ s.dev.mboxClear = false) ∧
    (∃ (s : State), s.dev.hst.rspHeld = true ∧ s.dev.mboxClear = false) ∧
    (∃ (s : State), s.dev.hst.evtHeld = false ∧ s.dev.mboxClear = false) ∧
    (∃ (s : State), s.dev.hst.rspHeld = false ∧ s.dev.mboxClear = false) ∧
    (∃ (s : State) (v : W32), s.dev.hostOn = true ∧ v.toNat < 0x80000000 ∧ s.dev.mboxClear = false) ∧
    (∃ (s : State), s.dev.hst.diagBusy = true ∧ 0x20000000 ≤ s.dev.diagAt ∧ s.dev.diagAt < 0x20400000 ∧ s.dev.mboxClear = false) ∧
    (∃ (s : State), s.dev.hst.diagBusy = true ∧ 0x30000000 ≤ s.dev.diagAt ∧ s.dev.diagAt < 0x30100000 ∧ s.dev.mboxClear = false) ∧
    (∃ (s : State), s.dev.hst.diagBusy = true ∧ 0x40000000 ≤ s.dev.diagAt ∧ s.dev.diagAt < 0x41000000 ∧ isLatched s.dev.diagAt = false ∧ s.dev.mboxClear = false) ∧
    (∃ (s : State), s.dev.hst.diagBusy = true ∧ s.dev.diagRegion s.dev.diagAt = none ∧ s.dev.mboxClear = false) ∧
    (∃ (s : State), s.dev.hostOn = true ∧ s.dev.hst.diagBusy = false ∧ s.dev.hst.diagAddr.getLsbD 0 = false ∧ s.dev.mboxClear = false) ∧
    (∃ (s : State), s.dev.hostOn = true ∧ s.dev.hst.diagBusy = false ∧ s.dev.hst.diagAddr.getLsbD 0 = true) ∧
    (∃ (s : State) (a : _), latchedBy a ≠ [] ∧ a ≠ 0x40F00018 ∧ s.dev.mboxClear = false) ∧
    (∃ (s : State) (_v : W32), s.dev.hostOn = true ∧ s.dev.mboxClear = false) ∧
    (∃ (s : State) (a : Nat) (_v : W32), a % 4 ≠ 0 ∧ s.dev.mboxClear = false) ∧
    (∃ (s : State) (_v : W32), s.dev.hst.hspi = false ∧ s.dev.mboxClear = false) ∧
    (∃ (s : State) (a : Nat) (_v : W32), a % 4 = 0 ∧ 0x20000000 ≤ a ∧ a < 0x20400000 ∧ (s.dev.bank ((a - 0x20000000) / 4 / 65536)).owner = .cp ∧ s.dev.mboxClear = false) ∧
    (∃ (s : State) (a : Nat) (_v : W32), a % 4 = 0 ∧ 0x20000000 ≤ a ∧ a < 0x20400000 ∧ (s.dev.bank ((a - 0x20000000) / 4 / 65536)).owner ≠ .cp ∧ s.dev.mboxClear = false) ∧
    (∃ (s : State) (a : Nat) (_v : W32), s.dev.boot.st ≠ .reset ∧ s.dev.validates = true ∧ a + 4 ≤ 0xF0000 ∧ Memory.wf s.mbox = true ∧ s.dev.mboxClear = false) ∧
    (∃ (s : State) (a : Nat) (_v : W32), (s.dev.boot.st = .reset ∨ (s.dev.validates = true ∧ 0xF0000 ≤ a)) ∧ s.dev.mboxClear = false) ∧
    (∃ (s : State) (r : AcpReq) (x : Bytes), s.dev.hst.fetch = some (0x0102, r) ∧ r.flags = 2 ∧ s.dev.boot.st = .ready ∧ s.dev.pwr.st = .active ∧ s.dev.pair.st = .off ∧ s.dev.pair.serving = false ∧ s.dev.hst.hspi = false ∧ s.dev.hst.busMaster = true ∧ x.length = u32 r.inl 8 ∧ x.length ≤ 256 ∧ s.dev.hst.waitCmd = [] ∧ s.dev.hst.resetDue = none ∧ s.dev.pwr.entryDue = none ∧ s.dev.mboxClear = false) ∧
    (∃ (s : State) (op : _) (r : _), s.dev.hst.fetch = some (op, r) ∧ (cmdOf op).isSome = true ∧ r.flags = 2 ∧ s.dev.hst.waitCmd = [] ∧ s.dev.hst.resetDue = none ∧ s.dev.pwr.entryDue = none) ∧
    (∃ (s : State), s.dev.hst.fetch = none ∧ s.dev.mboxClear = false) ∧
    (∃ (s : State) (w : _) (q : _), s.dev.hst.rbWait = w :: q ∧ s.dev.hst.hspi = false ∧ s.dev.hst.busMaster = true ∧ w.addr % 4 = 0 ∧ w.r.cont = none ∧ w.full.length ≤ w.cap ∧ s.dev.mboxClear = false) ∧
    (∃ (s : State) (n : _), n < 256 ∧ s.dev.mboxClear = false) ∧
    (∃ (_s : State) (n : Nat), 256 ≤ n) :=
  ⟨⟨rdy {  }, 7, by decide +kernel⟩,
   ⟨raw {  }, 7, by decide +kernel⟩,
   ⟨rdy { hst := { evtHeld := true } }, by decide +kernel⟩,
   ⟨rdy { hst := { rspHeld := true } }, by decide +kernel⟩,
   ⟨rdy {  }, by decide +kernel⟩,
   ⟨rdy {  }, by decide +kernel⟩,
   ⟨rdy {  }, 0x7FFFFFFF, by decide +kernel⟩,
   ⟨rdy { hst := { diagBusy := true, diagAddr := 0x203FFFFD } }, by decide +kernel⟩,
   ⟨rdy { hst := { diagBusy := true, diagAddr := 0x300FFFFC } }, by decide +kernel⟩,
   ⟨rdy { hst := { diagBusy := true, diagAddr := 0x40FFFFFC } }, by decide +kernel⟩,
   ⟨rdy { hst := { diagBusy := true, diagAddr := 0x41000000 } }, by decide +kernel⟩,
   ⟨rdy {  }, by decide +kernel⟩,
   ⟨rdy { hst := { diagAddr := 1 } }, by decide +kernel⟩,
   ⟨rdy {  }, 0x40300010, by decide +kernel⟩,
   ⟨rdy {  }, 7, by decide +kernel⟩,
   ⟨rdy {  }, 2, 7, by decide +kernel⟩,
   ⟨rdy {  }, 1, by decide +kernel⟩,
   ⟨rdy {  }, 0x203FFFFC, 7, by decide +kernel⟩,
   ⟨rdy { scb := { bank := [(15, { owner := .law })] } }, 0x203FFFFC, 7, by decide +kernel⟩,
   ⟨rdy {  }, 0xEFFFC, 7, by decide +kernel⟩,
   ⟨rdy {  }, 0xF0000, 7, by decide +kernel⟩,
   ⟨rdy { hst := { busMaster := true, fetch := some (0x0102, { tag := 0, flags := 2, seq := 0, rsvd := 0, inl := zb 8 ++ le 4 256 ++ zb 4 }) } }, { tag := 0, flags := 2, seq := 0, rsvd := 0, inl := zb 8 ++ le 4 256 ++ zb 4 }, zb 256, by decide +kernel⟩,
   ⟨rdy { hst := { fetch := some (0x0102, { tag := 0, flags := 2, seq := 0, rsvd := 0, inl := zb 8 ++ le 4 256 ++ zb 4 }) } }, 0x0102, { tag := 0, flags := 2, seq := 0, rsvd := 0, inl := zb 8 ++ le 4 256 ++ zb 4 }, by decide +kernel⟩,
   ⟨rdy {  }, by decide +kernel⟩,
   ⟨rdy { hst := { busMaster := true, rbWait := [{ r := { op := 1, tag := 0, flags := 0, status := 0, seq := 0, len := 0, payload := [] }, addr := 4, cap := 8, full := zb 8 }] } }, { r := { op := 1, tag := 0, flags := 0, status := 0, seq := 0, len := 0, payload := [] }, addr := 4, cap := 8, full := zb 8 }, [], by decide +kernel⟩,
   ⟨rdy {  }, 255, by decide +kernel⟩,
   ⟨rdy {}, 256, by decide +kernel⟩⟩

/-- What `Obligations.CommandRules` assumes can hold. -/
theorem wit_CommandRules :
    (∃ (s : State) (_r : AcpReq), s.dev.boot.st ≠ .ready ∧ s.dev.mboxClear = false) ∧
    (∃ (s : State) (_r : AcpReq), s.dev.boot.st = .ready ∧ (s.dev.validates = false ∨ s.dev.hst.fetch ≠ none) ∧ s.dev.mboxClear = false) ∧
    (∃ (s : State) (r : AcpReq), s.dev.boot.st = .ready ∧ s.dev.validates = true ∧ s.dev.hst.fetch = none ∧ tget none s.dev.hst.inflight r.tag.toNat = none ∧ (tget {} s.dev.hst.tags r.tag.toNat).used = true ∧ (tget {} s.dev.hst.tags r.tag.toNat).seq = r.seq.toNat ∧ (tget {} s.dev.hst.tags r.tag.toNat).op = 0x0102 ∧ r.flags.getLsbD 2 = false ∧ s.dev.mboxClear = false) ∧
    (∃ (s : State) (r : AcpReq) (q : Nat), s.dev.boot.st = .ready ∧ s.dev.validates = true ∧ s.dev.hst.fetch = none ∧ tget none s.dev.hst.inflight r.tag.toNat = some q ∧ q ≠ r.seq.toNat ∧ ¬ ((tget {} s.dev.hst.tags r.tag.toNat).used = true ∧ (tget {} s.dev.hst.tags r.tag.toNat).seq = r.seq.toNat) ∧ r.isRb = false ∧ s.dev.mboxClear = false) ∧
    (∃ (s : State) (r : AcpReq) (b : Bytes), Plain s { r with flags := 0 } b ∧ 16 ≤ r.flags.toNat ∧ r.isTimed = false ∧ r.isRb = false ∧ r.isInd = false ∧ s.dev.mboxClear = false) ∧
    (∃ (s : State) (r : AcpReq) (b : Bytes), Plain s { r with flags := 0 } b ∧ r.flags = 2 ∧ b.length = 16 ∧ u32 b 12 = 0 ∧ 0 < u32 b 8 ∧ u32 b 8 ≤ 16777216 ∧ u64 b 0 % 4 = 0 ∧ s.dev.hst.hspi = false ∧ s.dev.hst.busMaster = true ∧ s.dev.mboxClear = false) ∧
    (∃ (s : State) (r : AcpReq) (b : Bytes), Plain s { r with flags := 0 } b ∧ r.flags = 4 ∧ b.length ≤ 256 ∧ s.dev.mboxClear = false) :=
  ⟨⟨raw {  }, rq [], by decide +kernel⟩,
   ⟨rdy { hst := { fetch := some (0x0102, rq []) } }, rq [], by decide +kernel⟩,
   ⟨rdy { hst := { tags := [(0, { used := true, op := 0x0102 })] } }, rq [], by decide +kernel⟩,
   ⟨rdy { hst := { inflight := [(0, some 1)] } }, rq [], 1, by decide +kernel⟩,
   ⟨rdy {}, { tag := 0, flags := 128, seq := 0, rsvd := 0, inl := [] }, [], plain_st {} [] (by decide +kernel), by decide +kernel⟩,
   ⟨rdy { hst := { busMaster := true } }, { tag := 0, flags := 2, seq := 0, rsvd := 0, inl := zb 8 ++ le 4 16777216 ++ zb 4 }, _, plain_st { hst := { busMaster := true } } _ (by decide +kernel), by decide +kernel⟩,
   ⟨rdy {}, { tag := 0, flags := 4, seq := 0, rsvd := 0, inl := zb 256 }, _, plain_st {} _ (by decide +kernel), by decide +kernel⟩⟩

/-- What `Obligations.HostReset` assumes can hold. -/
theorem wit_HostReset :
    (∃ s : State, s.dev.validates = true ∧ s.dev.boot.st ≠ .reset) ∧
    (∃ v : W32, v.toNat / 65536 ≠ 0x5EED) ∧
    (∃ v : W32, v.toNat / 65536 = 0x5EED ∧ v.getLsbD 0 = false ∧ v.getLsbD 1 = false) ∧
    (∃ v : W32, v.toNat / 65536 = 0x5EED ∧ v.getLsbD 1 = true) ∧
    (∃ v : W32, v.toNat / 65536 = 0x5EED ∧ v.getLsbD 1 = false ∧ v.getLsbD 0 = true) :=
  ⟨⟨rdy {}, by decide +kernel⟩,
   ⟨0x5EEC0003, by decide⟩,
   ⟨0x5EEDFFFC, by decide⟩,
   ⟨0x5EED0002, by decide⟩,
   ⟨0x5EED0001, by decide⟩⟩

/-- What `Obligations.PairRecords` assumes can hold. -/
theorem wit_PairRecords :
    (∃ (s : State) (n : _) (k : _) (e : _) (b : _), Framed s n ∧ s.dev.takesRec = true ∧ k < 2 ^ 64 ∧ e < 2 ^ 32 ∧ b < 2 ^ 64 ∧ s.dev.mboxClear = false) ∧
    (∃ (s : State) (n k e b : Nat), n < 2 ^ 32 ∧ k < 2 ^ 64 ∧ e < 2 ^ 32 ∧ b < 2 ^ 64 ∧ (s.dev.lanyardOk = false ∨ (∃ q, s.dev.pair.rxSeq = some q ∧ n ≠ (q + 1) % 2 ^ 32)) ∧ s.dev.mboxClear = false) ∧
    ((∃ (o k : Nat) (x : Bytes), o < 2 ^ 32 ∧ k < 2 ∧ x.length ≤ 2040) ∧ (∃ s n r, Framed s n ∧ s.dev.takesRec = true ∧ s.dev.pair.rcv = some r) ∧ (∃ s n, Framed s n ∧ s.dev.pair.rcv = none) ∧ (∃ (s : State) (n : Nat), n < 2 ^ 32 ∧ (s.dev.lanyardOk = false ∨ ∃ q, s.dev.pair.rxSeq = some q ∧ n ≠ (q + 1) % 2 ^ 32))) ∧
    (∃ l : List (Nat × Nat × Int × Nat), l.length ≤ 128 ∧ ∀ x ∈ l, x.1 < 4 ∧ x.2.1 < 16 ∧ x.2.2.2 < 2 ^ 64) ∧
    (∃ (k i f c : Nat) (x : List Int), 1 ≤ k ∧ k ≤ 3 ∧ i < 256 ∧ f < 256 ∧ 1 ≤ c ∧ c < 256 ∧ x.length ≤ 510 ∧ x.length % c = 0) ∧
    (∃ (b m : Nat) (l : List Nat), b < 2 ^ 64 ∧ m < 2 ^ 32 ∧ l.length = 32 ∧ (∀ c ∈ l, c < 2 ^ 32)) ∧
    (∃ l : List Nat, l.length = 32 ∧ (∀ c ∈ l, c < 2 ^ 32)) ∧
    (∃ (s : State) (n h : Nat) (x : Bytes), Framed s n ∧ s.dev.takesRec = true ∧ h < 2 ^ 32 ∧ x.length ≤ 2040 ∧ (tget [] s.dev.pair.bulk h).length < 2 ^ 32 ∧ s.dev.mboxClear = false) ∧
    (∃ (s : State) (n : _) (r : Rec), Framed s n ∧ s.dev.pair.st = .rewarming ∧ s.dev.pair.caughtUp = false ∧ s.dev.pair.waitRec = none ∧ s.dev.pair.rcv = some r ∧ r.tick < 2 ^ 64 ∧ r.epoch < 2 ^ 32 ∧ r.frames < 2 ^ 32 ∧ r.bytes < 2 ^ 32 ∧ r.crc < 2 ^ 32 ∧ r.items = [] ∧ r.asrc = [] ∧ (r.epoch = s.dev.pair.epoch ∨ s.dev.pair.epochNew = true) ∧ r.base = s.dev.pair.lastCommit ∧ s.dev.pair.warmTick ≠ some (r.tick + 1) ∧ s.dev.mboxClear = false) ∧
    (∃ (s : State) (n : Nat) (r : Rec) (w o : Nat) (g : Int) (q u : Nat), Framed s n ∧ s.dev.pair.st = .rewarming ∧ s.dev.pair.caughtUp = false ∧ s.dev.pair.waitRec = none ∧ s.dev.pair.rcv = some r ∧ r.tick < 2 ^ 64 ∧ r.epoch < 2 ^ 32 ∧ r.frames < 2 ^ 32 ∧ r.bytes < 2 ^ 32 ∧ r.crc < 2 ^ 32 ∧ r.asrc = [] ∧ o < nObj s.dev.rate ∧ w < 256 ∧ q < 2 ^ 32 ∧ r.items = [(0, 0, le 2 0x0711 ++ le 1 w ++ zb 1 ++ le 4 8 ++ le 4 q ++ zb 4 ++ le 2 u ++ zb 6 ++ (le 2 o ++ zb 2 ++ leI 4 g))] ∧ -(2 ^ 31) ≤ g ∧ g < 2 ^ 31 ∧ u < 2 ^ 16 ∧ (r.epoch = s.dev.pair.epoch ∨ s.dev.pair.epochNew = true) ∧ r.base = s.dev.pair.lastCommit ∧ s.dev.pair.warmTick ≠ some (r.tick + 1) ∧ Newest s (4 * o) (r.tick + 3) ∧ s.dev.mboxClear = false) ∧
    (∃ (s : State) (n : _) (r : Rec), Framed s n ∧ s.dev.pair.st = .stale ∧ s.dev.pair.rcv = some r ∧ r.tick < 2 ^ 64 ∧ r.epoch < 2 ^ 32 ∧ r.frames < 2 ^ 32 ∧ r.bytes < 2 ^ 32 ∧ r.crc < 2 ^ 32 ∧ s.dev.mboxClear = false) ∧
    (∃ (s : State) (n : _) (r : Rec), Framed s n ∧ s.dev.pair.st = .bulk ∧ s.dev.pair.rcv = some r ∧ r.items = [] ∧ r.tick < 2 ^ 64 ∧ r.epoch < 2 ^ 32 ∧ r.frames < 2 ^ 32 ∧ r.bytes < 2 ^ 32 ∧ r.crc < 2 ^ 32 ∧ s.dev.mboxClear = false) ∧
    (∃ (s : State) (n : _) (k : _) (e : _) (f : _) (b : _) (c : _), Framed s n ∧ s.dev.pair.st = .following ∧ s.dev.pair.waitRec.isSome = true ∧ s.dev.pair.take = none ∧ s.dev.pair.roleNext = none ∧ k < 2 ^ 64 ∧ e < 2 ^ 32 ∧ f < 2 ^ 32 ∧ b < 2 ^ 32 ∧ c < 2 ^ 32 ∧ (∀ r, s.dev.pair.rcv = some r → ¬ (r.tick = k ∧ r.epoch = e ∧ r.frames = f ∧ r.bytes = b ∧ r.crc ^^^ 0xFFFFFFFF = c)) ∧ s.dev.mboxClear = false) ∧
    (∃ (s : State) (n z : Nat) (_x : Trj), Framed s n ∧ z < 2 ^ 32 ∧ s.dev.pair.st = .bulk ∧ s.dev.pair.snapGot.testBit 10 = false ∧ s.dev.pair.snapGot ||| 1024 ≠ 0x1E00 ∧ s.dev.mboxClear = false) ∧
    (∃ (s : State) (n z : Nat) (_x : Trj) (_b : Tbl Bind), Framed s n ∧ z < 2 ^ 32 ∧ s.dev.pair.st = .bulk ∧ s.dev.mboxClear = false) ∧
    (∃ (s : State) (n z : Nat) (_x : SpliceData), Framed s n ∧ z < 2 ^ 32 ∧ s.dev.pair.st ≠ .bulk ∧ s.dev.mboxClear = false) ∧
    (∃ (s : State), s.dev.pair.waitRec = none ∧ s.dev.pair.st = .lapse ∧ s.dev.pair.lastCommit + 3 ≤ s.dev.tim.tick ∧ s.dev.pair.staleHeld = none ∧ s.dev.pair.take = none ∧ s.dev.pair.roleNext = none ∧ s.dev.mboxClear = false) ∧
    (∃ (s : State), s.dev.pair.waitRec = none ∧ s.dev.pair.st ≠ .lapse ∧ s.dev.mboxClear = false) :=
  ⟨⟨rdy { pair := { lanes := 1, mode := 1, rxSeq := some 0xFFFFFFFF, st := .following } }, 0, 2 ^ 64 - 1, 2 ^ 32 - 1, 2 ^ 64 - 1, framed _ (by decide +kernel) rfl, by decide +kernel⟩,
   ⟨rdy { pair := { lanes := 1, mode := 1, rxSeq := some 0xFFFFFFFF } }, 1, 2 ^ 64 - 1, 2 ^ 32 - 1, 2 ^ 64 - 1, by decide, by decide, by decide, by decide, .inr ⟨0xFFFFFFFF, rfl, by decide⟩, rfl⟩,
   ⟨⟨2 ^ 32 - 1, 1, zb 2040, by decide +kernel⟩, ⟨rdy { pair := { lanes := 1, mode := 1, rxSeq := some 0xFFFFFFFF, st := .bulk, rcv := some { tick := 2 ^ 64 - 1, epoch := 0, base := 0, items := [], asrc := [], patch := [], guard := none, warm := none, frames := 1, bytes := 20, crc := 7 } } }, 0, _, framed _ (by decide +kernel) rfl, by decide +kernel, rfl⟩, ⟨rdy { pair := { lanes := 1, mode := 1, rxSeq := some 0xFFFFFFFF } }, 0, framed _ (by decide +kernel) rfl, rfl⟩, ⟨rdy {}, 2 ^ 32 - 1, by decide, .inl (by decide +kernel)⟩⟩,
   ⟨List.replicate 128 (3, 15, -1, 2 ^ 64 - 1), by decide +kernel⟩,
   ⟨3, 255, 255, 255, List.replicate 510 1, by decide +kernel⟩,
   ⟨2 ^ 64 - 1, 2 ^ 32 - 1, List.replicate 32 (2 ^ 32 - 1), by decide +kernel⟩,
   ⟨List.replicate 32 (2 ^ 32 - 1), by decide +kernel⟩,
   ⟨rdy { pair := { lanes := 1, mode := 1, rxSeq := some 0xFFFFFFFF, st := .bulk } }, 0, 2 ^ 32 - 1, zb 2040, framed _ (by decide +kernel) rfl, by decide +kernel⟩,
   ⟨rdy { pair := { lanes := 1, mode := 1, rxSeq := some 0xFFFFFFFF, st := .rewarming, rcv := some { tick := 2 ^ 64 - 1, epoch := 0, base := 0, items := [], asrc := [], patch := [], guard := none, warm := none, frames := 1, bytes := 20, crc := 7 } } }, 0, { tick := 2 ^ 64 - 1, epoch := 0, base := 0, items := [], asrc := [], patch := [], guard := none, warm := none, frames := 1, bytes := 20, crc := 7 }, framed _ (by decide +kernel) rfl, by decide +kernel⟩,
   ⟨rdy { pair := { lanes := 1, mode := 1, rxSeq := some 0xFFFFFFFF, st := .rewarming, rcv := some { tick := 2 ^ 64 - 1, epoch := 0, base := 0, items := [(0, 0, le 2 0x0711 ++ le 1 255 ++ zb 1 ++ le 4 8 ++ le 4 4294967295 ++ zb 4 ++ le 2 65535 ++ zb 6 ++ (le 2 1023 ++ zb 2 ++ leI 4 (-(2 ^ 31))))], asrc := [], patch := [], guard := none, warm := none, frames := 1, bytes := 20, crc := 7 } } }, 0, { tick := 2 ^ 64 - 1, epoch := 0, base := 0, items := [(0, 0, le 2 0x0711 ++ le 1 255 ++ zb 1 ++ le 4 8 ++ le 4 4294967295 ++ zb 4 ++ le 2 65535 ++ zb 6 ++ (le 2 1023 ++ zb 2 ++ leI 4 (-(2 ^ 31))))], asrc := [], patch := [], guard := none, warm := none, frames := 1, bytes := 20, crc := 7 }, 255, 1023, -(2 ^ 31), 2 ^ 32 - 1, 2 ^ 16 - 1, framed _ (by decide +kernel) rfl, by decide +kernel, by decide +kernel, by decide +kernel, by decide +kernel, by decide +kernel, by decide +kernel, by decide +kernel, by decide +kernel, by decide +kernel, by decide +kernel, by decide +kernel, by decide +kernel, by decide +kernel, by decide +kernel, by decide +kernel, by decide +kernel, by decide +kernel, by decide +kernel, by decide +kernel, by decide +kernel, (fun _ _ h => nomatch h), rfl⟩,
   ⟨rdy { pair := { lanes := 1, mode := 1, rxSeq := some 0xFFFFFFFF, st := .stale, rcv := some { tick := 2 ^ 64 - 1, epoch := 0, base := 0, items := [], asrc := [], patch := [], guard := none, warm := none, frames := 1, bytes := 20, crc := 7 } } }, 0, { tick := 2 ^ 64 - 1, epoch := 0, base := 0, items := [], asrc := [], patch := [], guard := none, warm := none, frames := 1, bytes := 20, crc := 7 }, framed _ (by decide +kernel) rfl, by decide +kernel⟩,
   ⟨rdy { pair := { lanes := 1, mode := 1, rxSeq := some 0xFFFFFFFF, st := .bulk, rcv := some { tick := 2 ^ 64 - 1, epoch := 0, base := 0, items := [], asrc := [], patch := [], guard := none, warm := none, frames := 1, bytes := 20, crc := 7 } } }, 0, { tick := 2 ^ 64 - 1, epoch := 0, base := 0, items := [], asrc := [], patch := [], guard := none, warm := none, frames := 1, bytes := 20, crc := 7 }, framed _ (by decide +kernel) rfl, by decide +kernel⟩,
   ⟨rdy { pair := { lanes := 1, mode := 1, rxSeq := some 0xFFFFFFFF, st := .following, waitRec := some 5 } }, 0, 2 ^ 64 - 1, 2 ^ 32 - 1, 2 ^ 32 - 1, 2 ^ 32 - 1, 2 ^ 32 - 1, framed _ (by decide +kernel) rfl, by decide +kernel, by decide +kernel, by decide +kernel, by decide +kernel, by decide +kernel, by decide +kernel, by decide +kernel, by decide +kernel, by decide +kernel, (fun _ h => nomatch h), rfl⟩,
   ⟨rdy { pair := { lanes := 1, mode := 1, rxSeq := some 0xFFFFFFFF, st := .bulk } }, 0, 2 ^ 32 - 1, {}, framed _ (by decide +kernel) rfl, by decide +kernel⟩,
   ⟨rdy { pair := { lanes := 1, mode := 1, rxSeq := some 0xFFFFFFFF, st := .bulk } }, 0, 2 ^ 32 - 1, {}, [], framed _ (by decide +kernel) rfl, by decide +kernel⟩,
   ⟨rdy { pair := { lanes := 1, mode := 1, rxSeq := some 0xFFFFFFFF, st := .following } }, 0, 2 ^ 32 - 1, .objects {}, framed _ (by decide +kernel) rfl, by decide +kernel⟩,
   ⟨rdy { tim := { tick := 8 }, pair := { st := .lapse, lastCommit := 5 } }, by decide +kernel⟩,
   ⟨rdy {  }, by decide +kernel⟩⟩

/-- What `Obligations.PairLink` assumes can hold. -/
theorem wit_PairLink :
    (∃ (s : State) (n k c : Nat) (_h : Bool), Framed s n ∧ k < 2 ^ 64 ∧ c < 2 ^ 64 ∧ s.dev.pair.st = .active ∧ s.dev.pair.serving = false ∧ s.dev.mboxClear = false) ∧
    (∃ (s : State) (n k c : Nat) (_h : Bool) (m : Nat), Framed s n ∧ k < 2 ^ 64 ∧ c < 2 ^ 64 ∧ m < 2 ^ 32 ∧ s.dev.pair.st = .following ∧ s.dev.mboxClear = false) ∧
    (∃ (s : State) (n : _) (a b c d : Nat), Framed s n ∧ a < 2 ^ 80 ∧ b < 2 ^ 80 ∧ c < 2 ^ 80 ∧ d < 2 ^ 80 ∧ s.dev.pair.timeTx.isSome = true ∧ (b ≠ 0 ∨ c ≠ 0) ∧ s.dev.pair.diverged = false ∧ s.dev.pair.timeLimit < 2 ^ 31 ∧ (((c : Int) - (b : Int)) - ((d : Int) - (a : Int))).natAbs ≤ s.dev.pair.timeLimit * 512) ∧
    (∃ (s : State) (n : _) (a b c d : Nat), Framed s n ∧ a < 2 ^ 80 ∧ b < 2 ^ 80 ∧ c < 2 ^ 80 ∧ d < 2 ^ 80 ∧ s.dev.pair.timeTx.isSome = true ∧ (b ≠ 0 ∨ c ≠ 0) ∧ s.dev.pair.diverged = false ∧ s.dev.pair.timeLimit < 2 ^ 31 ∧ s.dev.pair.timeLimit * 512 < (((c : Int) - (b : Int)) - ((d : Int) - (a : Int))).natAbs ∧ s.dev.pair.divRun = 7) ∧
    (∃ (s : State) (n : _) (a : _) (d : _), Framed s n ∧ a < 2 ^ 80 ∧ d < 2 ^ 80 ∧ s.dev.mboxClear = false) ∧
    (∃ (s : State) (n : _), n < 2 ^ 32 ∧ s.dev.lanyardOk = true ∧ s.dev.mboxClear = false) ∧
    (∃ (s : State) (n : _) (f : _), n < 2 ^ 32 ∧ s.dev.lanyardOk = true ∧ s.dev.pair.tx.find? (fun f => f.fseq == n) = some f ∧ f.tries < 2 ∧ s.dev.mboxClear = false) ∧
    (∃ (s : State) (n : _) (f : _), n < 2 ^ 32 ∧ s.dev.lanyardOk = true ∧ s.dev.pair.tx.find? (fun f => f.fseq == n) = some f ∧ 2 ≤ f.tries ∧ Strikable s 1172 ∧ s.dev.mboxClear = false) ∧
    (∃ (s : State) (n : _), n < 2 ^ 32 ∧ (s.dev.lanyardOk = false ∨ s.dev.pair.tx.find? (fun f => f.fseq == n) = none) ∧ s.dev.mboxClear = false) ∧
    (∃ (s : State) (l : _), l < 2 ∧ s.dev.pair.lanes = 0 ∧ s.dev.mboxClear = false) ∧
    (∃ (s : State) (l : _), l < 2 ∧ s.dev.pair.lanes = 3 ∧ Strikable s 1172 ∧ s.dev.mboxClear = false) ∧
    (∃ (s : State) (l : _), l < 2 ∧ s.dev.pair.lanes = 2 ^ l ∧ s.dev.pair.st = .following ∧ Strikable s 1172 ∧ s.dev.mboxClear = false) ∧
    (∃ (s : State), s.dev.pair.lanes = 0 ∧ s.dev.pair.downTick.isSome = true) ∧
    (∃ (s : State), (s.dev.pair.lanes ≠ 0 ∨ s.dev.pair.downTick = none) ∧ s.dev.mboxClear = false) ∧
    (∃ (s : State), s.dev.pair.st ≠ .active ∧ s.dev.mboxClear = false) ∧
    (∃ (s : State), s.dev.pair.st = .active ∧ s.dev.pair.peerOk = true ∧ s.dev.pair.serving = false ∧ (∀ a, s.dev.pair.acked = some a → a < s.dev.pair.lastSealed) ∧ s.dev.mboxClear = false) ∧
    (∃ (s : State) (k : _), s.dev.pair.mmTick = some k ∧ s.dev.mboxClear = false) ∧
    (∃ (s : State), s.dev.spliceReady = true ∧ s.dev.pair.autoSplice = true ∧ s.dev.mboxClear = false) ∧
    (∃ (s : State), s.dev.spliceReady = false ∧ s.dev.mboxClear = false) ∧
    (∃ (s : State), s.dev.pair.st = .active ∧ s.dev.pair.serving = true ∧ s.dev.pair.phase = 1 ∧ s.dev.mboxClear = false) ∧
    (∃ (s : State) (k : _), s.dev.pair.st = .active ∧ s.dev.pair.phase = 2 ∧ s.dev.pair.snap = some k ∧ k ≤ s.dev.tim.tick + 1 ∧ s.dev.pair.latched = [] ∧ s.dev.mboxClear = false) ∧
    (∃ (s : State), s.dev.pair.snap = none ∧ s.dev.mboxClear = false) ∧
    (∃ (s : State) (r : AcpReq) (b : Bytes), Plain s r b ∧ b.length = 16 ∧ u8 b 0 ≤ 2 ∧ u8 b 1 ≤ 3 ∧ 16 ≤ u16 b 2 ∧ u16 b 2 ≤ 4000 ∧ u16 b 4 ≠ 0 ∧ u16 b 6 = 0 ∧ 256 ≤ u32 b 8 ∧ u32 b 8 ≤ 256000 ∧ u32 b 12 = 0 ∧ s.dev.pair.phase = 0) ∧
    (∃ (s : State) (r : AcpReq) (b : Bytes), Plain s r b ∧ b = []) ∧
    (∃ (s : State) (r : AcpReq) (b : Bytes), Plain s r b ∧ b = []) ∧
    (∃ (s : State) (r : AcpReq) (b : Bytes), Plain s r b ∧ b = []) ∧
    (∃ (s : State) (r : AcpReq), Plain { s with dev := { s.dev with pair := { s.dev.pair with st := .off } } } r [] ∧ s.dev.pair.st = .stale ∧ s.dev.chRet 1172 = false ∧ (∀ w ∈ s.dev.hst.wait, w.key ≠ (0x0E03, 0))) ∧
    (∃ (s : State) (r : AcpReq), Plain s r [] ∧ s.dev.chRet 1172 = false) :=
  ⟨⟨rdy { pair := { lanes := 1, mode := 1, rxSeq := some 0xFFFFFFFF, st := .active } }, 0, 2 ^ 64 - 1, 2 ^ 64 - 1, true, framed _ (by decide +kernel) rfl, by decide +kernel⟩,
   ⟨rdy { pair := { lanes := 1, mode := 1, rxSeq := some 0xFFFFFFFF, st := .following } }, 0, 2 ^ 64 - 1, 2 ^ 64 - 1, true, 2 ^ 32 - 1, framed _ (by decide +kernel) rfl, by decide +kernel⟩,
   ⟨rdy { pair := { lanes := 1, mode := 1, rxSeq := some 0xFFFFFFFF, timeTx := some 5 } }, 0, 2 ^ 80 - 1, 2 ^ 80 - 1, 2 ^ 80 - 1, 2 ^ 80 - 1, framed _ (by decide +kernel) rfl, by decide +kernel⟩,
   ⟨rdy { pair := { lanes := 1, mode := 1, rxSeq := some 0xFFFFFFFF, timeTx := some 5, divRun := 7 } }, 0, 0, 1, 2 ^ 80 - 1, 0, framed _ (by decide +kernel) rfl, by decide +kernel⟩,
   ⟨rdy { pair := { lanes := 1, mode := 1, rxSeq := some 0xFFFFFFFF } }, 0, 2 ^ 80 - 1, 2 ^ 80 - 1, framed _ (by decide +kernel) rfl, by decide +kernel⟩,
   ⟨rdy { pair := { lanes := 1, mode := 1 } }, 4294967295, by decide +kernel⟩,
   ⟨rdy { pair := { lanes := 1, mode := 1, tx := [{ fseq := 4294967295, typ := 0, payload := [], tries := 1 }] } }, 4294967295, { fseq := 4294967295, typ := 0, payload := [], tries := 1 }, by decide +kernel⟩,
   ⟨rdy { pair := { lanes := 1, mode := 1, tx := [{ fseq := 4294967295, typ := 0, payload := [], tries := 2 }] } }, 4294967295, { fseq := 4294967295, typ := 0, payload := [], tries := 2 }, by decide +kernel, by decide +kernel, by decide +kernel, by decide +kernel, by simp only [Strikable]; decide +kernel⟩,
   ⟨rdy {  }, 4294967295, by decide +kernel⟩,
   ⟨rdy {  }, 1, by decide +kernel⟩,
   ⟨rdy { pair := { lanes := 3 } }, 1, by decide, by decide +kernel, by simp only [Strikable]; decide +kernel⟩,
   ⟨rdy { pair := { st := .following, lanes := 2 } }, 1, by decide, by decide +kernel, by decide +kernel, by simp only [Strikable]; decide +kernel⟩,
   ⟨rdy { pair := { downTick := some 1 } }, by decide +kernel⟩,
   ⟨rdy {  }, by decide +kernel⟩,
   ⟨rdy {  }, by decide +kernel⟩,
   ⟨rdy { pair := { st := .active, peerOk := true, lastSealed := 5 } }, by decide +kernel, by decide +kernel, by decide +kernel, (fun _ h => nomatch h), rfl⟩,
   ⟨rdy { pair := { mmTick := some 5 } }, 5, by decide +kernel⟩,
   ⟨rdy { pair := { st := .stale, mode := 1, lanes := 1, sawRec := true } }, by decide +kernel⟩,
   ⟨rdy {  }, by decide +kernel⟩,
   ⟨rdy { pair := { st := .active, serving := true, phase := 1 } }, by decide +kernel⟩,
   ⟨rdy { tim := { tick := 4 }, pair := { st := .active, phase := 2, snap := some 5 } }, 5, by decide +kernel⟩,
   ⟨rdy {  }, by decide +kernel⟩,
   ⟨rdy {}, rq ([2, 3] ++ le 2 4000 ++ le 2 1 ++ zb 2 ++ le 4 256000 ++ zb 4), _, plain_st _ _ (by decide +kernel), by decide +kernel⟩,
   ⟨rdy {}, rq ([]), _, plain_st _ _ (by decide +kernel), by decide +kernel⟩,
   ⟨rdy {}, rq ([]), _, plain_st _ _ (by decide +kernel), by decide +kernel⟩,
   ⟨rdy {}, rq ([]), _, plain_st _ _ (by decide +kernel), by decide +kernel⟩,
   ⟨rdy { pair := { st := .stale } }, rq [], plain_st {} [] (by decide +kernel), rfl, by decide +kernel, (fun _ h => nomatch h)⟩,
   ⟨rdy {}, rq [], plain_st {} [] (by decide +kernel), by decide +kernel⟩⟩

/-- What `Obligations.Health` assumes can hold. -/
theorem wit_Health :
    (∀ x : Bool, ∃ s : State, s.dev.hlt.sweepBusy = x) ∧
    (∃ (s : State) (m : RingMeas), m.ring < 96 ∧ s.dev.hlt.sweepBusy = true ∧ s.dev.hlt.noBirth = true ∧ s.dev.hlt.prove = false ∧ s.dev.hlt.proving = [] ∧ (∀ x ∈ s.dev.hlt.isl, x.2.plan = none) ∧ s.dev.mboxClear = false) ∧
    (∃ (s : State) (m : RingMeas), m.ring < 96 ∧ s.dev.hlt.sweepBusy = true ∧ s.dev.hlt.noBirth = false ∧ s.dev.hlt.auto = false ∧ s.dev.hlt.prove = false ∧ s.dev.hlt.proving = [] ∧ (∀ x ∈ s.dev.hlt.isl, x.2.plan = none)) ∧
    (∃ (s : State) (l : List RingMeas), (∀ m ∈ l, m.ring < 96) ∧ s.dev.hlt.sweepBusy = false ∧ s.dev.mboxClear = false) ∧
    (∃ (_s : State) (l : List RingMeas), (∃ m ∈ l, 96 ≤ m.ring)) ∧
    (∃ (s : State) (j : _) (a : _) (b : _) (c : _), 68 ≤ j ∧ j < 87 ∧ (s.dev.isl j).slewing = true ∧ (s.dev.isl j).plan = some (a, b, c) ∧ s.dev.mboxClear = false) ∧
    (∃ (s : State) (j : _), j < 87 ∧ (s.dev.isl j).slewing = false ∧ s.dev.mboxClear = false) ∧
    (∃ (s : State) (r : AcpReq) (b : Bytes), Plain s r b ∧ b = []) ∧
    (∃ (s : State) (r : AcpReq) (b : Bytes), Plain s r b ∧ b.length = 4 ∧ u16 b 0 < 512 ∧ 0 < u16 b 2 ∧ u16 b 2 ≤ 512) ∧
    (∃ (s : State) (r : AcpReq) (b : Bytes), Plain s r b ∧ b.length = 8 ∧ 0 < u16 b 2 ∧ u16 b 0 + u16 b 2 ≤ 1176 ∧ u8 b 4 ≤ 1 ∧ uN 3 b 5 = 0) ∧
    (∃ (s : State) (r : AcpReq) (b : Bytes), Plain s r b ∧ b.length = 4 ∧ 0 < u8 b 1 ∧ u8 b 0 + u8 b 1 ≤ 87 ∧ u16 b 2 = 0) ∧
    (∃ (s : State) (r : AcpReq) (b : Bytes), Plain s r b ∧ b.length = 16 ∧ u8 b 0 ≤ 3 ∧ u8 b 1 = 0 ∧ 512 ≤ u16 b 2 ∧ u16 b 2 ≤ 5120 ∧ u16 b 4 ≤ 12800 ∧ u16 b 6 = 0 ∧ 60 ≤ u32 b 8 ∧ u32 b 8 ≤ 86400) :=
  ⟨fun x => ⟨rdy { hlt := { sweepBusy := x } }, rfl⟩,
   ⟨rdy { hlt := { sweepBusy := true, noBirth := true } }, { ring := 95, count := 5, temp := 0 }, by decide, rfl, rfl, rfl, rfl, (fun _ h => nomatch h), rfl⟩,
   ⟨rdy { hlt := { sweepBusy := true, auto := false } }, { ring := 95, count := 5, temp := 0 }, by decide, rfl, rfl, rfl, rfl, rfl, (fun _ h => nomatch h)⟩,
   ⟨rdy {  }, [{ ring := 95, count := 5, temp := 0 }], by decide +kernel⟩,
   ⟨rdy {}, [{ ring := 96, count := 5, temp := 0 }], by decide +kernel⟩,
   ⟨rdy { hlt := { isl := [(86, { slewing := true, plan := some (1, 2, 3) })] } }, 86, 1, 2, 3, by decide +kernel⟩,
   ⟨rdy {  }, 86, by decide +kernel⟩,
   ⟨rdy {}, rq ([]), _, plain_st _ _ (by decide +kernel), by decide +kernel⟩,
   ⟨rdy {}, rq ([255, 1, 0, 2]), _, plain_st _ _ (by decide +kernel), by decide +kernel⟩,
   ⟨rdy {}, rq (le 2 1175 ++ le 2 1 ++ [1, 0, 0, 0]), _, plain_st _ _ (by decide +kernel), by decide +kernel⟩,
   ⟨rdy {}, rq ([86, 1, 0, 0]), _, plain_st _ _ (by decide +kernel), by decide +kernel⟩,
   ⟨rdy {}, rq ([3, 0] ++ le 2 5120 ++ le 2 12800 ++ zb 2 ++ le 4 86400 ++ zb 4), _, plain_st _ _ (by decide +kernel), by decide +kernel⟩⟩

/-- What `Obligations.Sleep` assumes can hold. -/
theorem wit_Sleep :
    (∃ (s : State), s.dev.boot.st = .ready ∧ s.dev.pwr.st = .active ∧ s.dev.pwr.idleEn = true ∧ s.dev.audioStopped = true ∧ s.dev.opBusy = false ∧ s.dev.mboxClear = false) ∧
    (∃ (s : State), (s.dev.pwr.st ≠ .active ∨ s.dev.pwr.idleEn = false ∨ s.dev.audioStopped = false ∨ s.dev.opBusy = true) ∧ s.dev.mboxClear = false) ∧
    (∃ (s : State), s.dev.pwr.st = .idle ∧ s.dev.pwr.dozeEn = true ∧ s.dev.pwrBlock none false ≠ 0 ∧ s.dev.pwr.timerOut = false ∧ s.dev.mboxClear = false) ∧
    (∃ (s : State), s.dev.pwr.st = .idle ∧ s.dev.pwr.dozeEn = true ∧ s.dev.pwrBlock none false = 0) ∧
    (∃ (s : State), (s.dev.pwr.st ≠ .idle ∨ s.dev.pwr.dozeEn = false) ∧ s.dev.mboxClear = false) ∧
    (∃ (s : State) (_c r _e : Nat) (h : Bool), s.dev.pwr.st = .entering h ∧ s.dev.youngAt s.dev.now16 = false ∧ 0 < r ∧ r < 2 ^ 64 ∧ s.dev.mboxClear = false) ∧
    (∃ (s : State) (_c : Nat) (_r : Nat) (_e : Nat), (∀ h, s.dev.pwr.st ≠ .entering h) ∧ s.dev.mboxClear = false) ∧
    (∃ (s : State) (_c : Nat) (h : Bool), s.dev.pwr.st = .entering h ∧ s.dev.pwr.latchOpen = true ∧ s.dev.pwr.wakeNEn = true ∧ s.dev.pwr.first = none ∧ s.dev.pwr.latch.length < 16 ∧ s.dev.mboxClear = false) ∧
    (∃ (s : State) (_c : Nat), s.dev.pwr.st = .doze ∧ s.dev.pwr.latchOpen = true ∧ s.dev.pwr.wakeNEn = true ∧ s.dev.pwr.first = none ∧ s.dev.pwr.wrec.flags / 4 % 2 = 0 ∧ u8 s.dev.pwr.wrec.t0 10 ≠ 3) ∧
    (∃ (s : State) (_c : Nat), s.dev.pwr.st = .hibernate ∧ s.dev.pwr.latchOpen = true ∧ s.dev.pwr.wakeNEn = true ∧ s.dev.pwr.first = none) ∧
    (∃ (s : State) (_c : Nat), s.dev.pwr.latchOpen = true ∧ s.dev.pwr.wakeNEn = false ∧ s.dev.mboxClear = false) ∧
    (∃ (s : State) (_c : Nat), s.dev.pwr.latchOpen = false ∧ s.dev.mboxClear = false) ∧
    (∃ (s : State) (m _c : Nat) (h : Bool), m < 32 ∧ (s.dev.slot m).armed = true ∧ (s.dev.slot m).action = 7 ∧ s.dev.pwr.st = .entering h ∧ s.dev.pwr.latchOpen = true ∧ s.dev.pwr.first = none ∧ s.dev.mboxClear = false) ∧
    (∃ (s : State) (m : _) (_c : Nat), m < 32 ∧ ((s.dev.slot m).armed = false ∨ (s.dev.slot m).action ≠ 7) ∧ s.dev.mboxClear = false) ∧
    (∃ (s : State) (k : _) (_v : Nat) (_c : Nat), k < 4 ∧ s.dev.pwr.st = .entering false ∧ s.dev.pwr.latchOpen = true ∧ s.dev.pwr.hostWakeEn = true ∧ s.dev.pwr.first = none ∧ s.dev.pwr.latch.length < 16 ∧ s.dev.mboxClear = false) ∧
    (∃ (s : State) (k : _) (_v : Nat) (_c : Nat), k < 4 ∧ (s.dev.pwr.latchOpen = false ∨ s.dev.pwr.st = .hibernate) ∧ s.dev.mboxClear = false) ∧
    (∃ (s : State) (_c : Nat), s.dev.pwr.latchOpen = true ∧ s.dev.pwr.st = .doze ∧ s.dev.pwr.hostWakeEn = false ∧ s.dev.mboxClear = false) ∧
    (∃ (s : State) (_e : Nat), s.dev.pwr.st = .waking ∧ s.dev.pwr.wrec.flags.testBit 1 = false ∧ s.dev.pwr.latch = [] ∧ s.dev.hst.waitCmd = []) ∧
    (∃ (s : State) (_e : Nat), s.dev.pwr.st = .waking ∧ s.dev.pwr.wrec.flags.testBit 1 = true ∧ s.dev.pwr.latch = [] ∧ s.dev.hst.waitCmd = []) ∧
    (∃ (s : State) (_e : Nat), s.dev.pwr.st = .waking ∧ s.dev.pwr.wrec.flags.testBit 1 = false ∧ s.dev.pwr.latch = [] ∧ s.dev.hst.waitCmd = [] ∧ s.dev.pwr.mask.getLsbD 4 = true) ∧
    (∃ (s : State) (_e : Nat), s.dev.pwr.st = .waking ∧ s.dev.pwr.wrec.flags.testBit 1 = false ∧ s.dev.pwr.mask.getLsbD 16 = true ∧ s.dev.boot.st = .ready) ∧
    (∃ (s : State) (_l : Nat) (_e : Nat), s.dev.pwr.st ≠ .waking ∧ s.dev.mboxClear = false) ∧
    (∃ (s : State), s.dev.pwr.st = .doze ∧ s.dev.pwr.wrec.flags / 4 % 2 = 0 ∧ s.dev.mboxClear = false) ∧
    (∃ (s : State), s.dev.pwr.st = .active ∧ s.dev.mboxClear = false) ∧
    (∃ (s : State) (r : AcpReq) (b : Bytes), Plain s r b ∧ b.length = 16 ∧ u8 b 0 ≤ 15 ∧ u8 b 1 = 0 ∧ 16 ≤ u16 b 2 ∧ u16 b 2 ≤ 4000 ∧ 0 < u32 b 4 ∧ u32 b 4 ≤ 3600000 ∧ 0 < u32 b 8 ∧ u32 b 8 ≤ 86400 ∧ u32 b 12 = 0) ∧
    (∃ (s : State) (r : AcpReq) (b : Bytes), Plain s r b ∧ b = [] ∧ s.dev.pwr.rtcRun = false ∧ s.dev.pwr.rtc < 2 ^ 48) ∧
    (∃ (s : State) (r : AcpReq) (b : Bytes), Plain s r b ∧ b = []) ∧
    (∃ (s : State) (r : AcpReq) (b : Bytes), Plain s r b ∧ b = [] ∧ s.dev.pwrBlock none false % 64 = 0) ∧
    (∃ (s : State) (r : AcpReq) (b : Bytes), Plain s r b ∧ b.length = 4 ∧ u16 b 0 = 0x5EED ∧ u16 b 2 = 0 ∧ s.dev.pwrBlock none true % 64 = 0) ∧
    (∃ (s : State) (r : AcpReq), Plain s r [] ∧ s.dev.pwr.entryDue = none ∧ s.dev.pwrBlock (some r.tag.toNat) false % 64 ≠ 0) :=
  ⟨⟨rdy {  }, by decide +kernel⟩,
   ⟨rdy { pwr := { idleEn := false } }, by decide +kernel⟩,
   ⟨raw { boot := { st := .ready }, pwr := { st := .idle, dozeEn := true, hostWakeEn := false } }, by decide +kernel⟩,
   ⟨raw { boot := { st := .ready }, pwr := { st := .idle, dozeEn := true } }, by decide +kernel⟩,
   ⟨rdy {  }, by decide +kernel⟩,
   ⟨raw { tim := { now := 2 ^ 80 }, pwr := { st := .entering true } }, 5, 2 ^ 64 - 1, 0, true, by decide +kernel⟩,
   ⟨rdy {  }, 5, 5, 5, (fun _ h => nomatch h), rfl⟩,
   ⟨raw { boot := { st := .ready }, pwr := { st := .entering true, latchOpen := true, wakeNEn := true } }, 5, true, by decide +kernel⟩,
   ⟨raw { boot := { st := .ready }, pwr := { st := .doze, latchOpen := true, wakeNEn := true } }, 5, by decide +kernel⟩,
   ⟨raw { boot := { st := .ready }, pwr := { st := .hibernate, latchOpen := true, wakeNEn := true } }, 5, by decide +kernel⟩,
   ⟨raw { boot := { st := .ready }, pwr := { latchOpen := true } }, 5, by decide +kernel⟩,
   ⟨rdy {  }, 5, by decide +kernel⟩,
   ⟨raw { tim := { slots := [(31, { armed := true, action := 7 })] }, boot := { st := .ready }, pwr := { st := .entering true, latchOpen := true } }, 31, 5, true, by decide +kernel⟩,
   ⟨rdy {  }, 31, 5, by decide +kernel⟩,
   ⟨raw { boot := { st := .ready }, pwr := { st := .entering false, latchOpen := true } }, 3, 5, 5, by decide +kernel⟩,
   ⟨rdy {  }, 3, 5, 5, by decide +kernel⟩,
   ⟨raw { boot := { st := .ready }, pwr := { st := .doze, latchOpen := true, hostWakeEn := false } }, 5, by decide +kernel⟩,
   ⟨raw { boot := { st := .ready }, pwr := { st := .waking } }, 5, by decide +kernel⟩,
   ⟨raw { boot := { st := .ready }, pwr := { st := .waking, wrec := { flags := 2 } } }, 5, by decide +kernel⟩,
   ⟨raw { boot := { st := .ready }, pwr := { st := .waking, mask := 16 } }, 5, by decide +kernel⟩,
   ⟨raw { boot := { st := .ready }, pwr := { st := .waking, mask := 0x10000 } }, 5, by decide +kernel⟩,
   ⟨rdy {  }, 5, 5, by decide +kernel⟩,
   ⟨raw { boot := { st := .ready }, pwr := { st := .doze } }, by decide +kernel⟩,
   ⟨rdy {  }, by decide +kernel⟩,
   ⟨rdy {}, rq ([15, 0] ++ le 2 4000 ++ le 4 3600000 ++ le 4 86400 ++ zb 4), _, plain_st _ _ (by decide +kernel), by decide +kernel⟩,
   ⟨rdy {}, rq ([]), _, plain_st _ _ (by decide +kernel), by decide +kernel⟩,
   ⟨rdy {}, rq ([]), _, plain_st _ _ (by decide +kernel), by decide +kernel⟩,
   ⟨rdy {}, rq ([]), _, plain_st _ _ (by decide +kernel), by decide +kernel⟩,
   ⟨rdy { pwr := { wakeNEn := true } }, rq ([0xED, 0x5E, 0, 0]), _, plain_st _ _ (by decide +kernel), by decide +kernel⟩,
   ⟨rdy { pwr := { hostWakeEn := false } }, rq ([]), plain_st _ _ (by decide +kernel), by decide +kernel⟩⟩

/-- What `Obligations.ResetsAndBoot` assumes can hold. -/
theorem wit_ResetsAndBoot :
    (∃ (s : State) (_h : Bool) (_m : Nat), s.dev.pwr.held = false ∧ s.dev.mboxClear = false) ∧
    (∃ (s : State) (_h : Bool), s.dev.pwr.held = true ∧ s.dev.boot.st = .reset ∧ s.dev.pwr.retry = false ∧ s.dev.pwr.hot = false ∧ s.dev.pwr.seqEn = 15 ∧ s.dev.mboxClear = false) ∧
    (∃ (s : State) (_h : Bool), s.dev.pwr.held = true ∧ s.dev.pwr.seqEn ≠ 15 ∧ s.dev.mboxClear = false) ∧
    (∃ (s : State) (_h : Bool) (_m : Nat), (s.dev.boot.st ≠ .reset ∨ s.dev.pwr.retry = true ∨ s.dev.pwr.hot = true)) ∧
    (∃ (s : State) (_h : Bool) (_m : Nat), s.dev.boot.st = .reset ∧ s.dev.pwr.retry = false ∧ s.dev.pwr.hot = false ∧ s.dev.mboxClear = false) ∧
    (∃ (s : State) (_h : Bool), s.dev.boot.st = .reset ∧ s.dev.pwr.retry = false ∧ s.dev.pwr.hot = false ∧ s.dev.pwr.held = false ∧ s.dev.store.slotA.valid = true ∧ s.dev.store.slotB.valid = false ∧ s.dev.mboxClear = false) ∧
    (∃ (s : State) (_h : Bool), s.dev.boot.st = .reset ∧ s.dev.pwr.retry = false ∧ s.dev.pwr.hot = false ∧ s.dev.pwr.held = false ∧ s.dev.store.slotA.valid = false ∧ s.dev.store.slotB.valid = false ∧ s.dev.mboxClear = false) ∧
    (∃ (s : State), s.dev.pwr.seqEn = 0 ∧ s.dev.mboxClear = false) ∧
    (∃ (s : State), s.dev.pwr.seqEn ≠ 0) ∧
    (∃ (s : State), s.dev.mboxClear = false) ∧
    (∃ (s : State), s.dev.hst.hspi = true ∧ s.dev.mboxClear = false) ∧
    (∃ (s : State), s.dev.hst.hspi = false ∧ s.dev.boot.st = .ready ∧ s.dev.boot.slot = 0) ∧
    (∃ (s : State), s.dev.boot.st = .ready ∧ s.dev.pwr.st = .active ∧ s.dev.boot.slot = 1) ∧
    (∃ (s : State), s.dev.cpRuns = false ∧ s.dev.mboxClear = false) ∧
    (∃ (s : State) (k : _) (l : _), s.dev.boot.st = .loading ∧ s.dev.boot.tryList = k :: l) ∧
    (∃ (s : State) (k : _) (l : _), s.dev.boot.st = .loading ∧ s.dev.boot.tryList = k :: l ∧ l ≠ [] ∧ s.dev.mboxClear = false) ∧
    (∃ (s : State) (k : _), s.dev.boot.st = .loading ∧ s.dev.boot.tryList = [k] ∧ s.dev.mboxClear = false) ∧
    (∃ (s : State) (_g : Bool), (s.dev.boot.st ≠ .loading ∨ s.dev.boot.tryList = []) ∧ s.dev.mboxClear = false) ∧
    (∃ (s : State), s.dev.boot.st = .loading ∧ s.dev.pwr.bootMode = 2 ∧ s.dev.validates = true) ∧
    (∃ (s : State) (_v : W32) (_g : Bool), s.dev.boot.st ≠ .reset ∧ s.dev.boot.st ≠ .loading ∧ s.dev.validates = true ∧ Memory.wf s.mbox = true ∧ s.dev.mboxClear = false) ∧
    (∃ (s : State) (_v : W32) (_g : Bool), s.dev.validates = false ∧ s.dev.mboxClear = false) ∧
    (∃ (s : State), s.dev.boot.st = .init) ∧
    (∃ (s : State) (c : _), s.dev.boot.st = .init ∧ c < 1176) ∧
    (∃ (s : State), s.dev.boot.st ≠ .init ∧ s.dev.mboxClear = false) ∧
    (∃ (_s : State) (c : Nat), 1176 ≤ c) :=
  ⟨⟨rdy {  }, false, 2, by decide +kernel⟩,
   ⟨raw { boot := {  }, pwr := { held := true, seqEn := 15 } }, false, by decide +kernel⟩,
   ⟨raw { boot := {  }, pwr := { held := true } }, false, by decide +kernel⟩,
   ⟨rdy {  }, false, 0, by decide +kernel⟩,
   ⟨raw {  }, false, 0, by decide +kernel⟩,
   ⟨raw { store := { slotA := { valid := true } } }, false, by decide +kernel⟩,
   ⟨raw {  }, false, by decide +kernel⟩,
   ⟨raw {  }, by decide +kernel⟩,
   ⟨raw { boot := {  }, pwr := { seqEn := 1 } }, by decide +kernel⟩,
   ⟨raw {  }, by decide +kernel⟩,
   ⟨rdy { hst := { hspi := true } }, by decide +kernel⟩,
   ⟨rdy { boot := { slot := 0 } }, by decide +kernel⟩,
   ⟨rdy { boot := { slot := 1 } }, by decide +kernel⟩,
   ⟨raw {  }, by decide +kernel⟩,
   ⟨raw { boot := { st := .loading, tryList := [1, 0] }, pwr := {  } }, 1, [0], by decide +kernel⟩,
   ⟨raw { boot := { st := .loading, tryList := [1, 0] }, pwr := {  } }, 1, [0], by decide +kernel⟩,
   ⟨raw { boot := { st := .loading, tryList := [0] }, pwr := {  } }, 0, by decide +kernel⟩,
   ⟨rdy {  }, false, by decide +kernel⟩,
   ⟨raw { boot := { st := .loading }, pwr := { bootMode := 2 } }, by decide +kernel⟩,
   ⟨rdy {  }, 7, true, by decide +kernel⟩,
   ⟨raw { boot := {  }, pwr := { st := .doze } }, 7, true, by decide +kernel⟩,
   ⟨raw { boot := { st := .init }, pwr := {  } }, by decide +kernel⟩,
   ⟨raw { boot := { st := .init }, pwr := {  } }, 1175, by decide +kernel⟩,
   ⟨rdy {  }, by decide +kernel⟩,
   ⟨raw {}, 1176, by decide +kernel⟩⟩

/-- What `Obligations.ConfigurationStore` assumes can hold. -/
theorem wit_ConfigurationStore :
    (∃ (s : State) (k : _) (a : _) (p : _) (l : _), s.dev.store.appends = (k, a, p) :: l ∧ s.dev.store.compacting ≠ some 3 ∧ s.dev.store.compacting ≠ some 4 ∧ s.dev.store.brim p.length = false ∧ s.dev.mboxClear = false) ∧
    (∃ (s : State) (k : _) (a : _) (p : _) (l : _), s.dev.store.appends = (k, a, p) :: l ∧ s.dev.store.compacting = none ∧ s.dev.store.compacts = false ∧ s.dev.store.brim p.length = true ∧ s.dev.mboxClear = false) ∧
    (∃ (s : State) (k : _) (a : _) (p : _) (l : _), s.dev.store.appends = (k, a, p) :: l ∧ s.dev.store.compacting = none ∧ s.dev.store.compacts = false ∧ s.dev.store.brim p.length = false ∧ s.dev.mboxClear = false) ∧
    (∃ (s : State) (_g : Bool), (s.dev.store.appends = [] ∨ s.dev.store.compacting = some 3 ∨ s.dev.store.compacting = some 4) ∧ s.dev.mboxClear = false) ∧
    (∀ k, 1 ≤ k → k ≤ 4 → ∃ (s : State) (c : Bool) (l : List FlashOp), s.dev.store.ops = .compact c :: l ∧ s.dev.store.compacting = some k) ∧
    (∃ (s : State) (k : _), 1 ≤ k ∧ k ≤ 5 ∧ (s.dev.store.ops = [] ∨ s.dev.store.compacting ≠ some k) ∧ s.dev.mboxClear = false) ∧
    (∃ (s : State) (k : _) (l : _) (_e : Nat) (_a : Nat), s.dev.store.ops = .fwBegin k :: l ∧ k < 2 ∧ s.dev.mboxClear = false) ∧
    (∃ (s : State) (k : _) (l : _) (_e : Nat) (_a : Nat), s.dev.store.ops = .fwCommit k :: l ∧ k < 2 ∧ s.dev.mboxClear = false) ∧
    (∃ (s : State) (k : _) (l : _) (_e : Nat) (_a : Nat), s.dev.store.ops = .fwCommit k :: l ∧ k < 2 ∧ s.dev.mboxClear = false) ∧
    (∃ (s : State) (_e : Nat) (_a : Nat), s.dev.store.ops = [] ∧ s.dev.mboxClear = false) ∧
    (∃ (s : State) (r : AcpReq) (b : Bytes), Plain s r b ∧ b = []) ∧
    (∃ (s : State) (r : AcpReq) (b : Bytes), Plain s r b ∧ b.length = 12 ∧ uN 3 b 1 = 0 ∧ 0 < u32 b 8 ∧ ∃ x, tget none s.dev.store.blob (u8 b 0) = some x ∧ u32 b 4 + u32 b 8 ≤ x.total) ∧
    (∃ (s : State) (r : AcpReq) (b : Bytes), Plain s r b ∧ b.length = 20 + u32 b 12 ∧ u8 b 0 < 255 ∧ u8 b 1 = 3 ∧ u16 b 2 = 0 ∧ 0 < u32 b 4 ∧ u32 b 4 ≤ 8388608 ∧ u32 b 8 = 0 ∧ u32 b 12 = u32 b 4 ∧ u32 b 16 = crc32 (b.drop 20) ∧ (s.dev.store.place (u8 b 0) ((u32 b 4 + 64 + 65535) / 65536)).isSome = true) ∧
    (∃ (s : State) (r : AcpReq) (b : Bytes), Plain s r b ∧ b.length = 20 ∧ u8 b 1 = 4 ∧ u16 b 2 = 0 ∧ u32 b 12 = 0) ∧
    (∃ (s : State) (r : AcpReq), Plain s r [] ∧ s.dev.store.ops = [] ∧ s.dev.store.compacting = none) ∧
    (∃ (s : State) (r : AcpReq) (b : Bytes), Plain s r b ∧ b.length = 8 ∧ 260 ≤ u32 b 0 ∧ u32 b 0 ≤ 983036 ∧ u32 b 4 = 0 ∧ s.dev.boot.slot = 0 ∧ s.dev.store.ops = []) ∧
    (∃ (s : State) (r : AcpReq) (b : Bytes) (k : _) (n : _) (w : _), Plain s r b ∧ b.length = 8 + u32 b 4 ∧ 0 < u32 b 4 ∧ s.dev.store.upd = some (k, n, w) ∧ u32 b 0 = w.length ∧ w.length + u32 b 4 ≤ n) ∧
    (∃ (s : State) (r : AcpReq), Plain s r [] ∧ s.dev.store.upd = none) ∧
    (∃ (s : State) (r : AcpReq) (k n : Nat) (w : Bytes), Plain s r [] ∧ s.dev.store.upd = some (k, n, w) ∧ s.dev.store.ops = [] ∧ n ≤ w.length ∧ imageGood w = true ∧ k < 2) :=
  ⟨⟨rdy { store := { appends := [(1, 2, [3])] } }, 1, 2, [3], [], by decide +kernel⟩,
   ⟨rdy { store := { appends := [(1, 2, [3])], h0 := { recs := List.replicate 12 { kind := 0, key := 0, payload := List.replicate 32768 0, done := true } } } }, 1, 2, [3], [], by decide +kernel⟩,
   ⟨rdy { store := { appends := [(1, 2, [3])] } }, 1, 2, [3], [], by decide +kernel⟩,
   ⟨rdy {  }, true, by decide +kernel⟩,
   fun k _ _ => ⟨rdy { store := { ops := [.compact true], compacting := some k } }, true, [], rfl, rfl⟩,
   ⟨rdy {  }, 5, by decide +kernel⟩,
   ⟨rdy { store := { ops := [.fwBegin 1] } }, 1, [], 0, 0, by decide +kernel⟩,
   ⟨rdy { store := { ops := [.fwCommit 1] } }, 1, [], 0, 0, by decide +kernel⟩,
   ⟨rdy { store := { ops := [.fwCommit 1] } }, 1, [], 0, 0, by decide +kernel⟩,
   ⟨rdy {  }, 0, 0, by decide +kernel⟩,
   ⟨rdy {}, rq ([]), _, plain_st _ _ (by decide +kernel), by decide +kernel⟩,
   ⟨rdy { store := { blob := [(255, some { gen := 1, total := 8, crc := 0, block := 0, data := zb 8 })] } }, rq ([255, 0, 0, 0] ++ le 4 7 ++ le 4 1), _, plain_st _ _ (by decide +kernel), by decide +kernel, by decide +kernel, by decide +kernel, ⟨{ gen := 1, total := 8, crc := 0, block := 0, data := zb 8 }, by decide +kernel⟩⟩,
   ⟨rdy {}, rq ([254, 3, 0, 0] ++ le 4 1 ++ zb 4 ++ le 4 1 ++ le 4 (crc32 [7]) ++ [7]), _, plain_st _ _ (by decide +kernel), by decide +kernel⟩,
   ⟨rdy {}, rq ([255, 4] ++ zb 18), _, plain_st _ _ (by decide +kernel), by decide +kernel⟩,
   ⟨rdy {}, rq [], plain_st {} [] (by decide +kernel), by decide +kernel⟩,
   ⟨rdy { boot := { slot := 0 } }, rq (le 4 983036 ++ zb 4), _, plain_st _ _ (by decide +kernel), by decide +kernel⟩,
   ⟨rdy { store := { upd := some (1, 260, zb 252) } }, rq (le 4 252 ++ le 4 8 ++ zb 8), _, 1, 260, zb 252, plain_st _ _ (by decide +kernel), by decide +kernel⟩,
   ⟨rdy {}, rq [], plain_st {} [] (by decide +kernel), by decide +kernel⟩,
   ⟨rdy { store := { upd := some (1, 260, le 4 0x1064F1A0 ++ zb 16 ++ le 4 4 ++ zb 4 ++ le 4 (crc32 (zb 4)) ++ zb 220 ++ le 4 (crc32 (le 4 0x1064F1A0 ++ zb 16 ++ le 4 4 ++ zb 4 ++ le 4 (crc32 (zb 4)) ++ zb 220)) ++ zb 4) } }, rq [], 1, 260, _, plain_st { store := { upd := some (1, 260, le 4 0x1064F1A0 ++ zb 16 ++ le 4 4 ++ zb 4 ++ le 4 (crc32 (zb 4)) ++ zb 220 ++ le 4 (crc32 (le 4 0x1064F1A0 ++ zb 16 ++ le 4 4 ++ zb 4 ++ le 4 (crc32 (zb 4)) ++ zb 220)) ++ zb 4) } } [] (by decide +kernel), rfl, by decide +kernel⟩⟩

/-- What `Obligations.StepRunsFront` assumes can hold. -/
theorem wit_StepRunsFront :
    ∃ (s : State), s.pending = [] :=
  ⟨rdy {}, rfl⟩

/-- What `Obligations.WellFormedRuns` assumes can hold. -/
theorem wit_WellFormedRuns :
    (∃ (i : Instr) (s : State), i.wf = true ∧ (∀ g x, i = .indirectFetchDone g x → fetchLen g x s.dev = true)) ∧
    (∃ i : Instr, i.wf = false) :=
  ⟨⟨.indirectFetchDone true (zb 256), rdy { hst := { fetch := some (0x0102, { tag := 0, flags := 2, seq := 0, rsvd := 0, inl := zb 8 ++ le 4 256 ++ zb 4 }) } }, rfl, fun g x h => by cases h; decide +kernel⟩,
   ⟨.fltSampleMark 4 0, rfl⟩⟩

/-- What `Obligations.StepInvariant` assumes can hold. -/
theorem wit_StepInvariant :
    ∃ s t : State, s.Inv ∧ s.pending ≠ [] ∧ step s = .next t :=
  ⟨{ State.reset with pending := [.vddAonFall] }, _, ⟨by decide +kernel, by decide +kernel, by decide +kernel, fun _ => by decide +kernel, by decide +kernel⟩, by decide, rfl⟩

/-- What `Obligations.BundleEncoding` assumes can hold. -/
theorem wit_BundleEncoding :
    ∃ (w : BitVec 64) (b : Bundle), decodeBundle w = some b :=
  ⟨0x0204F60A0006C100, _, rfl⟩

/-- What `Obligations.ReturnFromHandler` assumes can hold. -/
theorem wit_ReturnFromHandler :
    ∃ (s : State) (e : _), Issues s e (.ctl .rti) ∧ s.dev.mboxClear = false :=
  ⟨rdy { law := [(7, eg { esr := 0x1F4F })] }, 7, issues_of (by decide +kernel), by decide +kernel⟩

end Sys2Proof.Machine
end

section
/-! PROOFS. The state at reset (O56), and which commands run (O57). -/

open Sys2Proof

namespace Sys2Proof.Machine

/-! ## The state at reset -/

/-- The state at reset has what every step keeps. -/
theorem reset_inv : State.reset.Inv where
  canonical := rfl
  irqN := by decide +kernel
  inta := by decide +kernel
  fault := fun _ => rfl
  calm := rfl

/-- Settles O56: every field is read off the state at reset, whose invariant is `reset_inv`. -/
theorem resetState : Obligations.ResetState :=
  ⟨reset_inv, rfl, rfl, rfl, rfl, rfl, rfl, rfl, rfl, fun _ _ => rfl, rfl, rfl, rfl, rfl, rfl, fun _ => rfl⟩

/-! ## Well-formed commands run -/

/-- A command answers a next state where `ok` holds, and is a fault of its sender where it does not (log 4). -/
def RunsIff (ok : Bool) (o : Host.Outcome State Fault Refusal) : Prop :=
  (ok = true → ∃ t, o = .next t) ∧ (ok = false → o = .fault .noSuchUnit)

theorem run_runsIff (ok : Bool) (f : Dev → Dev) (s : State) : RunsIff ok (run ok f s) :=
  ⟨fun h => h ▸ run_completes f s, fun h => h ▸ rfl⟩

theorem runM_runsIff (ok : Bool) (f : Dev → List Host.Cell → Dev × List Host.Cell) (s : State) : RunsIff ok (runM ok f s) :=
  ⟨fun h => h ▸ runM_completes f s, fun h => h ▸ rfl⟩

theorem ite_cons_ne_nil (p : Prop) [Decidable p] (x : Nat) (l m : List Nat) : (if p then x :: l else m) ≠ [] ↔ p ∨ m ≠ [] := by
  by_cases h : p <;> simp [h]

/-- The addresses a LATCHING_READ may name are those of the registers whose read latches a partner (10 R277). -/
theorem latchingAddr_eq (a : Nat) : latchingAddr a = (latchedBy a != []) := by
  rw [Bool.eq_iff_iff, bne_iff_ne]
  unfold latchingAddr latchedBy
  dsimp only
  split
  all_goals simp only [*, ite_cons_ne_nil, Bool.and_eq_true, Bool.or_eq_true, decide_eq_true_eq, beq_iff_eq, ne_eq, not_true, or_false,
    Bool.false_eq_true, and_assoc, or_assoc]

/-- Each command but INDIRECT_FETCH_DONE, whose bytes the state judges, is guarded by its own well-formedness: a meaning of the device
and the mailbox SRAM in the cases named, of the device alone in the rest. -/
theorem exec_runsIff (i : Instr) (s : State) (h : ∀ g x, i ≠ .indirectFetchDone g x) : RunsIff i.wf (exec i s) := by
  cases i <;> dsimp only [Instr.wf, exec]
  case indirectFetchDone g x => exact absurd rfl (h g x)
  case latchingRead a => rw [latchingAddr_eq]; exact run_runsIff _ _ _
  case diagRead | doorbell | registerWrite | diagDataRead | diagFetchDone | responseWrite | eventWrite | fetchTimeout
      | resultBufferWrite | dozeCommitPoint | dozeExitDone | hostLoadGo => exact runM_runsIff _ _ _
  all_goals exact run_runsIff _ _ _

/-- Settles O57: every command is guarded by its well-formedness, and INDIRECT_FETCH_DONE by the length of its bytes. -/
theorem wellFormedRuns : Obligations.WellFormedRuns := by
  intro i s
  by_cases hi : ∃ g x, i = .indirectFetchDone g x
  · obtain ⟨g, x, rfl⟩ := hi
    have hr : RunsIff (fetchLen g x s.dev) (execIndirectFetchDone g x s) := runM_runsIff _ _ _
    exact ⟨fun _ hl => hr.1 (hl g x rfl), nofun⟩
  · obtain ⟨hnext, hfault⟩ := exec_runsIff i s (fun g x h => hi ⟨g, x, h⟩)
    exact ⟨fun hw _ => hnext hw, hfault⟩

end Sys2Proof.Machine
end

section
/-! PROOFS. How a meaning that completes is shown to meet its statement, and the rules about scratch words, latches, held events and
requests by flags that the statements of the host interface rest on. -/

open Sys2Proof

namespace Sys2Proof.Machine

/-! ## What a completed command leaves -/

/-- A meaning of the device alone leaves what it makes of the device. -/
theorem run_leaves {f : Dev → Dev} {s : State} {d : Dev} (h : f s.dev = d) : run true f s = .next (leaves s d) := h ▸ run_true f s

/-- A meaning that also writes the mailbox SRAM leaves what it makes of both. -/
theorem runM_leaves {f : Dev → List Host.Cell → Dev × List Host.Cell} {s : State} {d : Dev} {m : List Host.Cell}
    (h : f s.dev s.mbox = (d, m)) : runM true f s = .next (leaves { s with mbox := m } d) := by
  simp [runM, leaves, h]

/-- An event that leaves device `d` and the mailbox SRAM as it was. -/
theorem does_leaves {i : Instr} {w : List Part} {s : State} {d : Dev} {eff : State → Prop} (hi : exec i s = .next (leaves s d))
    (hm : d.mboxClear = s.dev.mboxClear) (hf : ∀ p, p ∉ w → p.same s { s with dev := d }) (he : eff (leaves s d)) : Does i w s eff :=
  fun h0 => ⟨_, hi, he, frame_leaves hm h0 hf⟩

/-- An event that changes the host interface, and draws free values, changes no other kind of state. -/
theorem does_hst {i : Instr} {w : List Part} {s : State} {h : Hst} {n : Nat} {eff : State → Prop}
    (hi : exec i s = .next (leaves s { s.dev with hst := h, free := n })) (he : eff (leaves s { s.dev with hst := h, free := n }))
    (hr : Part.rings ∈ w ∨ Part.rings.same s { s with dev := { s.dev with hst := h } } := by exact .inr ⟨rfl, rfl, rfl, rfl, rfl, rfl⟩)
    (hq : Part.irq ∈ w ∨ Part.irq.same s { s with dev := { s.dev with hst := h } } := by exact .inr ⟨rfl, rfl, rfl⟩) : Does i w s eff :=
  does_leaves hi rfl (fun p hp => by
    cases p
    case rings => exact hr.resolve_left hp
    case irq => exact hq.resolve_left hp
    case mbox => exact fun _ => rfl
    all_goals rfl) he

/-- An event that leaves the device as it was. -/
theorem does_nothing {i : Instr} {w : List Part} {s : State} (hi : exec i s = .next (leaves s s.dev)) : Does i w s (fun _ => True) :=
  does_leaves hi rfl (fun p _ => (frame_self w s).2 p ‹_›) trivial

theorem Does.mono {i : Instr} {w : List Part} {s : State} {P Q : State → Prop} (h : Does i w s P) (hPQ : ∀ t, P t → Q t) : Does i w s Q :=
  fun h0 => let ⟨t, ht, hp, hf⟩ := h h0; ⟨t, ht, hPQ t hp, hf⟩

/-! ## Held events (14 R380) -/

theorem evUnfit_le_length (free : Nat) (l : List EvRec) : evUnfit free l ≤ l.length := by
  induction l generalizing free with
  | nil => exact Nat.le_refl 0
  | cons e r ih =>
    unfold evUnfit; split
    · exact (ih _).trans (Nat.le_succ _)
    · exact Nat.le_refl _

/-- Holding an event drops none that was held. -/
theorem mem_hold {d : Dev} {e : EvRec} (x : EvRec) (h : e ∈ d.hst.evq) : e ∈ (d.hold x).hst.evq := by
  unfold Dev.hold
  extract_lets q free
  by_cases hc : evUnfit free (q.evq.filter (fun x => x.code != 0x8112) ++ [x]) ≤ 64
  · rw [if_pos hc]; exact List.mem_append_left _ h
  · rw [if_neg hc]; show e ∈ ite _ _ _; split
    · exact h
    · exact List.mem_append_left _ h

/-- With at most 32 events held, one more is held. -/
theorem mem_hold_self {d : Dev} (x : EvRec) (h : d.hst.evq.length ≤ 32) : x ∈ (d.hold x).hst.evq := by
  unfold Dev.hold
  extract_lets q free
  have hf : (q.evq.filter (fun y => y.code != 0x8112)).length ≤ d.hst.evq.length := List.length_filter_le _ _
  have hc : evUnfit free (q.evq.filter (fun x => x.code != 0x8112) ++ [x]) ≤ 64 :=
    (evUnfit_le_length _ _).trans (by rw [List.length_append, List.length_singleton]; omega)
  rw [if_pos hc]
  exact List.mem_append_right _ (List.mem_singleton_self x)

theorem mem_reapGo {e : EvRec} (l k : List FuncRun) {d : Dev} (h : e ∈ d.hst.evq) : e ∈ (reapGo l k d).hst.evq := by
  induction l generalizing k d with
  | nil => exact h
  | cons r rs ih =>
    unfold reapGo; split
    · exact ih _ h
    · exact ih _ (mem_hold _ h)

/-- What a command raises is held in the state it leaves. -/
theorem mem_leaves {e : EvRec} {s : State} {d : Dev} (h : e ∈ d.hst.evq) : e ∈ (leaves s d).dev.hst.evq :=
  mem_reapGo d.runs [] h

/-! ## Words of the scratch banks (12 R313) -/

/-- The word at index `i` of bank `n` as it stands in `b`. -/
def SBank.word (b : SBank) (n i : Nat) : W32 := (tget none b.words i).getD (if b.gen = 0 then 0 else Config.bankInit n b.gen i)

theorem scrWord_eq (d : Dev) (w : Nat) : d.scrWord w = (d.bank (w / 65536)).word (w / 65536) (w % 65536) := by
  simp only [Dev.scrWord, SBank.word]
  cases tget none (d.bank (w / 65536)).words (w % 65536) <;> rfl

/-- A bank that reads a word written, or another. -/
theorem SBank.word_written (b : SBank) (n i j : Nat) (v : W32) :
    { b with words := tput none b.words i (some v) }.word n j = if j = i then v else b.word n j := by
  simp only [SBank.word, tget_tput]
  split <;> rfl

theorem Dev.bank_setBank (d : Dev) (n k : Nat) (b : SBank) : (d.setBank n b).bank k = if k = n then b else d.bank k := tget_tput _ _ _ _ _

theorem Dev.testYield_bank (d : Dev) (n k : Nat) : (d.testYield n).bank k = d.bank k := by
  unfold Dev.testYield; split <;> rfl

/-- A scratch word written reads what was written, and every other word what it did. -/
theorem scrWord_setScrWord (d : Dev) (w k : Nat) (v : W32) : (d.setScrWord w v).scrWord k = if k = w then v else d.scrWord k := by
  have hb : (d.setScrWord w v).bank (k / 65536) = if k / 65536 = w / 65536 then
      { d.bank (w / 65536) with words := tput none (d.bank (w / 65536)).words (w % 65536) (some v) } else d.bank (k / 65536) :=
    Dev.bank_setBank _ _ _ _
  rw [scrWord_eq, scrWord_eq, hb]
  by_cases hk : k / 65536 = w / 65536
  · rw [if_pos hk, SBank.word_written, hk]
    simp only [show k % 65536 = w % 65536 ↔ k = w by omega]
  · rw [if_neg hk, if_neg (show k ≠ w by rintro rfl; exact hk rfl)]

/-- Writing the flags of a bank leaves its words. -/
theorem scrWord_setBank_notOwner (d : Dev) (n k : Nat) : (d.setBank n { d.bank n with notOwner := true }).scrWord k = d.scrWord k := by
  rw [scrWord_eq, scrWord_eq, Dev.bank_setBank]
  split
  · next h => rw [h]; rfl
  · rfl

theorem scrWord_congr {d e : Dev} (h : ∀ n, d.bank n = e.bank n) (k : Nat) : d.scrWord k = e.scrWord k := by
  rw [scrWord_eq, scrWord_eq, h]

theorem leaves_bank (s : State) (d : Dev) (n : Nat) : (leaves s d).dev.bank n = d.bank n := by
  simp only [Dev.bank, leaves_scb]

theorem leaves_scrWord (s : State) (d : Dev) (k : Nat) : (leaves s d).dev.scrWord k = d.scrWord k := scrWord_congr (leaves_bank s d) k

/-! ## Latches (10 R277, 14 R383) -/

/-- A run of writes, each of its key's own value, is read back at every key of the run. -/
theorem tget_forRun_tput (g : Nat → W32) (l : List Nat) (t : Tbl W32) {k : Nat} (h : k ∈ l) :
    tget 0 (forRun (fun h t => tput 0 t h (g h)) l t) k = g k := by
  have hk : ∀ (l : List Nat) (t : Tbl W32), k ∈ l ∨ tget 0 t k = g k → tget 0 (forRun (fun h t => tput 0 t h (g h)) l t) k = g k := by
    intro l
    induction l with
    | nil => exact fun t h => h.resolve_left (List.not_mem_nil)
    | cons x r ih =>
      intro t h
      refine ih _ ?_
      rw [tget_tput]
      rcases h with h | h
      · rcases List.mem_cons.mp h with rfl | h
        · exact .inr (if_pos rfl)
        · exact .inl h
      · right; split
        · next hx => rw [hx]
        · exact h
  exact hk l t (.inl h)

/-- The word before a register whose read latches its partners latches none. -/
theorem latchedBy_before {a : Nat} (h : latchedBy a ≠ []) : latchedBy (a - 4) = [] := by
  refine not_ne_iff.mp fun hb => ?_
  unfold latchedBy at h hb
  dsimp only at h hb
  split at h
  all_goals simp only [ite_cons_ne_nil, ne_eq, not_true, or_false] at h
  all_goals
    rw [show (a - 4) / 0x100000 = a / 0x100000 by omega, show (a - 4) % 0x100000 = a % 0x100000 - 4 by omega] at hb
    simp only [*, ite_cons_ne_nil, ne_eq, not_true, or_false] at hb
    omega

/-- A register whose read latches its partners is nobody's partner. -/
theorem isLatched_of_latching {a : Nat} (h : latchedBy a ≠ []) : isLatched a = false := by
  have hd : a / 0x100000 = 0x403 → a % 0x100000 ≠ 0x18 ∧ a % 0x100000 ≠ 0x1C := by
    intro hq
    simp only [latchedBy, hq, ite_cons_ne_nil, ne_eq, not_true, or_false] at h
    omega
  simp only [isLatched, latchedBy_before h]
  simpa using hd

/-- A read of a register that is no latched partner answers the register as it stands. -/
theorem readReg_fst {d : Dev} {a : Nat} (l : Tbl W32) (h : isLatched a = false) : (d.readReg l a).1 = BitVec.ofNat 32 (d.blkReg a) := by
  simp [Dev.readReg, h]

/-- A read of a LO register latches its partners. -/
theorem readReg_latches {d : Dev} {a k : Nat} (l : Tbl W32) (h : isLatched a = false) (hk : k ∈ latchedBy a) :
    tget 0 (d.readReg l a).2 k = BitVec.ofNat 32 (d.blkReg k) := by
  simp only [Dev.readReg, h, Bool.false_eq_true, if_false]
  exact tget_forRun_tput _ _ _ hk

/-! ## Operations that wait for nothing -/

theorem dueReset_none {d : Dev} (h : d.hst.resetDue = none) : d.dueReset = d := by simp [Dev.dueReset, h]

theorem dueEntry_none {d : Dev} (h : d.pwr.entryDue = none) : d.dueEntry = d := by simp [Dev.dueEntry, h]

theorem drainAll_nil {d : Dev} (m : List Host.Cell) (h : d.hst.waitCmd = []) : drainAll m d = d := by simp [drainAll, drainCmd, h]

theorem drcSubmit_hst (d : Dev) (r : DReq) : (d.drcSubmit r).hst = d.hst := by unfold Dev.drcSubmit; split <;> rfl

end Sys2Proof.Machine
end

section
/-! PROOFS. Interrupt status, the diagnostic window, latching and clearing reads, register writes, fetched payloads and result buffers
(O46): one lemma or more for each part of the statement. -/

open Sys2Proof

namespace Sys2Proof.Machine

/-! ## Interrupts (14 R381) -/

theorem irqWrite_off {d : Dev} (v : W32) (h : d.hostOn = false) : irqWrite v d = d := by simp [irqWrite, h]

/-- A write of IRQ_STATUS clears its bits and what waits for HOLDOFF with them; it may send an MSI. -/
theorem irqWrite_on {d : Dev} (v : W32) (h : d.hostOn = true) : ∃ n, irqWrite v d = { d with hst := { d.hst with
    irq := d.hst.irq &&& ~~~(v.setWidth 6), rspHeld := d.hst.rspHeld && !v.getLsbD 0, evtHeld := d.hst.evtHeld && !v.getLsbD 1, msi := n } } := by
  simp only [irqWrite, h, Bool.not_true, Bool.false_eq_true, if_false]
  split
  · exact ⟨_, rfl⟩
  · exact ⟨d.hst.msi, rfl⟩

theorem irqStatusWrite_clears {s : State} (v : W32) (h : s.dev.hostOn = true) : Does (.irqStatusWrite v) [.rings, .irq] s (fun t =>
    t.dev.hst.irq = s.dev.hst.irq &&& ~~~(v.setWidth 6) ∧ t.dev.hst.irqEn = s.dev.hst.irqEn ∧
    t.dev.hst.rspHeld = (s.dev.hst.rspHeld && !v.getLsbD 0) ∧ t.dev.hst.evtHeld = (s.dev.hst.evtHeld && !v.getLsbD 1)) := by
  obtain ⟨n, hn⟩ := irqWrite_on v h
  exact does_hst (run_leaves (f := irqWrite v) hn) (by simp) (.inl (by decide)) (.inl (by decide))

theorem irqHoldoffExpiry_evt {s : State} (h : s.dev.hst.evtHeld = true) : Does (.irqHoldoffExpiry true) [.rings, .irq] s (fun t =>
    t.dev.hst.irq = s.dev.hst.irq ||| 2 ∧ t.dev.hst.evtHeld = false) :=
  does_hst (run_leaves (f := holdoffExpiry true) (by rw [holdoffExpiry, if_pos rfl, if_pos h]; rfl)) (by simp) (.inl (by decide)) (.inl (by decide))

theorem irqHoldoffExpiry_rsp {s : State} (h : s.dev.hst.rspHeld = true) : Does (.irqHoldoffExpiry false) [.rings, .irq] s (fun t =>
    t.dev.hst.irq = s.dev.hst.irq ||| 1 ∧ t.dev.hst.rspHeld = false) :=
  does_hst (run_leaves (f := holdoffExpiry false) (by rw [holdoffExpiry, if_neg nofun, if_pos h]; rfl)) (by simp) (.inl (by decide))
    (.inl (by decide))

theorem irqHoldoffExpiry_idle {s : State} (evt : Bool) (h : (if evt then s.dev.hst.evtHeld else s.dev.hst.rspHeld) = false) :
    Does (.irqHoldoffExpiry evt) [] s (fun _ => True) :=
  does_nothing (run_leaves (f := holdoffExpiry evt) (by cases evt <;> simp_all [holdoffExpiry]))

/-! ## The diagnostic window (14 R382, R383) -/

theorem diagRegion_ne_dram {d : Dev} {a : Nat} (h : a < 0x80000000) (e : Nat) : d.diagRegion a ≠ some (5, e) := by
  unfold Dev.diagRegion
  dsimp only
  split_ifs <;> simp
  omega

/-- The fetch of a word outside the DRAM window starts in the host interface alone. -/
theorem diagBegin_word {d : Dev} (h : d.diagAt < 0x80000000) :
    diagBegin d = { d with hst := { d.hst with diagBusy := true, diagBad := true, diagData := 0xFFFFFFFF } } := by
  unfold diagBegin
  dsimp only
  split
  · next hr => exact absurd hr (diagRegion_ne_dram h _)
  · rfl

theorem diagBegin_hst (d : Dev) : (diagBegin d).hst = { d.hst with diagBusy := true, diagBad := true, diagData := 0xFFFFFFFF } := by
  unfold diagBegin
  dsimp only
  split
  · rw [drcSubmit_hst]
  · rfl

theorem diagAddrWrite_starts {s : State} {v : W32} (h : s.dev.hostOn = true) (hv : v.toNat < 0x80000000) :
    Does (.diagAddrWrite v) [] s (fun t => t.dev.hst.diagAddr = v &&& 0xFFFFFFFD ∧ t.dev.hst.diagBusy = true) := by
  have ha : (v &&& 0xFFFFFFFD).toNat / 4 * 4 < 0x80000000 := by
    have := Nat.and_le_left (n := v.toNat) (m := (0xFFFFFFFD : W32).toNat)
    rw [BitVec.toNat_and]; omega
  have hd : diagAddr v s.dev = { s.dev with hst := { s.dev.hst with
      diagAddr := v &&& 0xFFFFFFFD, diagBusy := true, diagBad := true, diagData := 0xFFFFFFFF } } := by
    rw [diagAddr, if_neg (by simp [h])]
    exact diagBegin_word (d := { s.dev with hst := { s.dev.hst with diagAddr := v &&& 0xFFFFFFFD } }) ha
  exact does_hst (run_leaves (f := diagAddr v) hd) (by simp)

/-- The end of a fetch from a readable region, the DRAM window apart. -/
theorem diagDone_held {d : Dev} (m : List Host.Cell) {k e : Nat} (hb : d.hst.diagBusy = true) (hr : d.diagRegion d.diagAt = some (k, e)) (hk : k ≠ 5) :
    diagDone d m = { d with free := d.free + 1, hst := { d.hst with diagBusy := false, diagBad := false
                                                                    diagData := (d.diagWord m d.hst.diagLatch k d.diagAt).1
                                                                    diagLatch := (d.diagWord m d.hst.diagLatch k d.diagAt).2 } } := by
  unfold diagDone
  rw [if_neg (by simp [hb]), hr]
  split
  · next h => cases h
  · next h => cases h; exact absurd rfl hk
  · next h => cases h; rfl

theorem diagFetchDone_holds {s : State} {k e : Nat} {x : W32} (hb : s.dev.hst.diagBusy = true) (hr : s.dev.diagRegion s.dev.diagAt = some (k, e))
    (hk : k ≠ 5) (hx : (s.dev.diagWord s.mbox s.dev.hst.diagLatch k s.dev.diagAt).1 = x) : Does .diagFetchDone [] s (fun t =>
      t.dev.hst.diagBusy = false ∧ t.dev.hst.diagBad = false ∧ t.dev.hst.diagData = x ∧ t.dev.hst.latch = s.dev.hst.latch) :=
  does_hst (runM_leaves (f := fun d m => (diagDone d m, m)) (by rw [diagDone_held s.mbox hb hr hk])) (by simp [hx])

theorem diagFetchDone_scratch {s : State} (hb : s.dev.hst.diagBusy = true) (h : 0x20000000 ≤ s.dev.diagAt) (h' : s.dev.diagAt < 0x20400000) :
    Does .diagFetchDone [] s (fun t => t.dev.hst.diagBusy = false ∧ t.dev.hst.diagBad = false ∧
      t.dev.hst.diagData = s.dev.scrWord ((s.dev.diagAt - 0x20000000) / 4)) := by
  have hr : s.dev.diagRegion s.dev.diagAt = some (2, 0x20400000) := by
    rw [Dev.diagRegion, if_neg (by omega), if_neg (by omega), if_pos ⟨h, h'⟩]
  refine (diagFetchDone_holds hb hr (by decide) rfl).mono fun t ⟨h1, h2, h3, _⟩ => ⟨h1, h2, h3.trans ?_⟩
  rw [Dev.diagWord, show s.dev.diagAt % 0x10000000 = s.dev.diagAt - 0x20000000 by omega]

theorem Memory.read_length (m : List Host.Cell) (a n : Nat) : (Memory.read m a n).length = n := by
  induction n generalizing a with
  | zero => rfl
  | succ n ih => simp [Memory.read, ih]

theorem diagFetchDone_mailbox {s : State} (hb : s.dev.hst.diagBusy = true) (h : 0x30000000 ≤ s.dev.diagAt) (h' : s.dev.diagAt < 0x30100000) :
    Does .diagFetchDone [] s (fun t => t.dev.hst.diagBusy = false ∧ t.dev.hst.diagBad = false ∧
      t.dev.hst.diagData = BitVec.ofNat 32 (leNat (Memory.read s.mbox (s.dev.diagAt - 0x30000000) 4))) := by
  have hr : s.dev.diagRegion s.dev.diagAt = some (3, 0x30100000) := by
    rw [Dev.diagRegion, if_neg (by omega), if_neg (by omega), if_neg (by omega), if_pos ⟨h, h'⟩]
  refine (diagFetchDone_holds hb hr (by decide) rfl).mono fun t ⟨h1, h2, h3, _⟩ => ⟨h1, h2, h3.trans ?_⟩
  rw [Dev.diagWord, show s.dev.diagAt % 0x10000000 = s.dev.diagAt - 0x30000000 by omega, u32, uN, List.drop_zero,
    List.take_of_length_le (Memory.read_length _ _ _).le]

theorem diagFetchDone_register {s : State} (hb : s.dev.hst.diagBusy = true) (h : 0x40000000 ≤ s.dev.diagAt) (h' : s.dev.diagAt < 0x41000000)
    (hl : isLatched s.dev.diagAt = false) : Does .diagFetchDone [] s (fun t => t.dev.hst.diagBusy = false ∧ t.dev.hst.diagBad = false ∧
      t.dev.hst.diagData = BitVec.ofNat 32 (s.dev.blkReg s.dev.diagAt) ∧ t.dev.hst.latch = s.dev.hst.latch) := by
  have hr : s.dev.diagRegion s.dev.diagAt = some (4, 0x41000000) := by
    rw [Dev.diagRegion, if_neg (by omega), if_neg (by omega), if_neg (by omega), if_neg (by omega), if_pos ⟨h, h'⟩]
  exact diagFetchDone_holds hb hr (by decide) (readReg_fst _ hl)

theorem diagFetchDone_nowhere {s : State} (hb : s.dev.hst.diagBusy = true) (hr : s.dev.diagRegion s.dev.diagAt = none) :
    Does .diagFetchDone [] s (fun t => t.dev.hst.diagBusy = false ∧ t.dev.hst.diagBad = true ∧ t.dev.hst.diagData = 0xFFFFFFFF) := by
  have hd : diagDone s.dev s.mbox = { s.dev with hst := { s.dev.hst with diagBusy := false, diagBad := true, diagData := 0xFFFFFFFF } } := by
    rw [diagDone, if_neg (by simp [hb]), hr]
  exact does_hst (runM_leaves (f := fun d m => (diagDone d m, m)) (by rw [hd])) (by simp)

/-- A read of DIAG_DATA once the fetch has ended: with auto-increment the next fetch begins. -/
theorem diagRead_held {d : Dev} (m : List Host.Cell) (h : d.hostOn = true) (hb : d.hst.diagBusy = false) : diagRead d m =
    if d.hst.diagAddr.getLsbD 0 then diagBegin { d with hst := { d.hst with
      readData := d.hst.diagData, diagErr := d.hst.diagErr || d.hst.diagBad, diagAddr := d.hst.diagAddr + 4 } }
    else { d with hst := { d.hst with readData := d.hst.diagData, diagErr := d.hst.diagErr || d.hst.diagBad } } := by
  simp [diagRead, h, hb]

theorem diagDataRead_returns {s : State} (h : s.dev.hostOn = true) (hb : s.dev.hst.diagBusy = false) (hi : s.dev.hst.diagAddr.getLsbD 0 = false) :
    Does .diagDataRead [] s (fun t => t.dev.hst.readData = s.dev.hst.diagData ∧
      t.dev.hst.diagErr = (s.dev.hst.diagErr || s.dev.hst.diagBad) ∧ t.dev.hst.diagAddr = s.dev.hst.diagAddr) :=
  does_hst (runM_leaves (f := fun d m => (diagRead d m, m)) (by rw [diagRead_held s.mbox h hb, if_neg (by rw [hi]; decide)])) (by simp)

theorem diagDataRead_steps {s : State} (h : s.dev.hostOn = true) (hb : s.dev.hst.diagBusy = false) (hi : s.dev.hst.diagAddr.getLsbD 0 = true) :
    Completes .diagDataRead s (fun t => t.dev.hst.readData = s.dev.hst.diagData ∧ t.dev.hst.diagAddr = s.dev.hst.diagAddr + 4 ∧
      t.dev.hst.diagBusy = true) :=
  ⟨_, runM_leaves (f := fun d m => (diagRead d m, m)) (by rw [diagRead_held s.mbox h hb, if_pos hi]), by simp [diagBegin_hst]⟩

/-! ## Reads that clear or latch (00 R11, 10 R277) -/

theorem rcRegisterRead_status (s : State) : Does (.rcRegisterRead 0x10) [] s (fun t =>
    t.dev.hst.readData = BitVec.ofNat 32 s.dev.hostStatus ∧ t.dev.hst.diagErr = false) :=
  does_hst (run_leaves (f := rcRead 0x10) rfl) (by simp)

/-- A word of a register field drops what lies above it. -/
theorem ofNat_mod_word (n : Nat) : BitVec.ofNat 32 (n % 4294967296) = BitVec.ofNat 32 n := BitVec.eq_of_toNat_eq (by simp)

theorem blkReg_schQdepthMax (d : Dev) : d.blkReg 0x40600008 = d.sch.qMax % 2 ^ 32 := rfl

theorem rcRegisterRead_sch (s : State) : Does (.rcRegisterRead 0x40600008) [.sch] s (fun t =>
    t.dev.hst.readData = BitVec.ofNat 32 s.dev.sch.qMax ∧ t.dev.sch.qMax = 0) := by
  refine does_leaves (run_leaves (f := rcRead 0x40600008) rfl) rfl (fun p hp => ?_)
    (by simp [rcRead, blkReg_schQdepthMax, ofNat_mod_word])
  cases p
  case sch => exact absurd (List.mem_singleton_self _) hp
  all_goals simp [Part.same, rcRead]

theorem rcRegisterRead_drc (s : State) : Does (.rcRegisterRead 0x40C00024) [.drc] s (fun t =>
    t.dev.hst.readData = BitVec.ofNat 32 (s.dev.blkReg 0x40C00024) ∧ t.dev.drc.qMax = 0) := by
  refine does_leaves (run_leaves (f := rcRead 0x40C00024) rfl) rfl (fun p hp => ?_) (by simp [rcRead])
  cases p
  case drc => exact absurd (List.mem_singleton_self _) hp
  all_goals simp [Part.same, rcRead]

/-- A latching read of a register other than the real-time count, which the Cleat holds. -/
theorem latchRead_eq {d : Dev} {a : Nat} (h : a ≠ 0x40F00018) : latchRead a d = { d with hst := { d.hst with
    readData := (d.readReg d.hst.latch a).1, latch := (d.readReg d.hst.latch a).2 } } := by
  simp [latchRead, h]

theorem latchingRead_latches {s : State} {a : Nat} (h : latchedBy a ≠ []) (hr : a ≠ 0x40F00018) : Does (.latchingRead a) [] s (fun t =>
    t.dev.hst.readData = BitVec.ofNat 32 (s.dev.blkReg a) ∧
    ∀ h ∈ latchedBy a, tget 0 t.dev.hst.latch h = BitVec.ofNat 32 (s.dev.blkReg h)) := by
  have hl := isLatched_of_latching h
  have hi : exec (.latchingRead a) s = run true (latchRead a) s := by
    show run (latchedBy a != []) _ s = _
    rw [bne_iff_ne.mpr h]
  refine does_hst (hi.trans (run_leaves (latchRead_eq hr))) ⟨?_, fun k hk => ?_⟩
  · rw [leaves_hst_readData]; exact readReg_fst _ hl
  · rw [leaves_hst_latch]; exact readReg_latches _ hl hk

/-! ## Register writes (00 R9, R11, 12 R316, 14 R360) -/

theorem registerWrite_irqEnable {s : State} (v : W32) (h : s.dev.hostOn = true) : Does (.registerWrite .host 0x18 v) [.irq] s (fun t =>
    t.dev.hst.irqEn = v.setWidth 6 ∧ t.dev.hst.holdoff = v.toNat / 65536 % 256 ∧ t.dev.hst.irq = s.dev.hst.irq) := by
  have hd : hostWrite 0x18 v s.dev s.mbox = { s.dev with hst := { s.dev.hst with irqEn := v.setWidth 6, holdoff := bitsOf v.toNat 16 8 } } := by
    rw [hostWrite, if_pos h]
  exact does_hst (runM_leaves (f := registerWrite .host 0x18 v) (by rw [registerWrite, if_pos (by decide), hd])) (by simp [bitsOf])
    (hq := .inl (by decide))

theorem registerWrite_unaligned {s : State} {a : Nat} (v : W32) (h : a % 4 ≠ 0) :
    Does (.registerWrite .host a v) [] s (fun _ => True) ∧ Does (.registerWrite .fw a v) [] s (fun _ => True) :=
  ⟨does_nothing (runM_leaves (f := registerWrite .host a v) (by rw [registerWrite, if_neg (fun hc => h hc.1)])),
   does_nothing (runM_leaves (f := registerWrite .fw a v) (by rw [registerWrite, if_neg (fun hc => h hc.1)]))⟩

theorem registerWrite_busMaster {s : State} (v : W32) (h : s.dev.hst.hspi = false) :
    Does (.registerWrite .config 0 v) [] s (fun t => t.dev.hst.busMaster = v.getLsbD 0) :=
  does_hst (runM_leaves (f := registerWrite .config 0 v) (by rw [registerWrite, if_neg (by simp [h]), if_pos rfl])) (by simp)

/-- Firmware's write of a scratch word: in a bank of the control processor it is stored, and a test of the bank yields; in another it
only marks the bank. -/
theorem registerWrite_fw_scratch {d : Dev} {a : Nat} (v : W32) (m : List Host.Cell) (h4 : a % 4 = 0) (h : 0x20000000 ≤ a) (h' : a < 0x20400000) :
    registerWrite .fw a v d m = (if (d.bank ((a - 0x20000000) / 4 / 65536)).owner = .cp
      then (d.testYield ((a - 0x20000000) / 4 / 65536)).setScrWord ((a - 0x20000000) / 4) v
      else d.setBank ((a - 0x20000000) / 4 / 65536) { d.bank ((a - 0x20000000) / 4 / 65536) with notOwner := true }, m) := by
  rw [registerWrite, if_pos ⟨h4, by omega⟩, fwWrite, if_pos ⟨h, h'⟩]

/-- A write of scratch banks, their test and their flags changes no other kind of state. -/
theorem does_scb {i : Instr} {s : State} {d : Dev} {eff : State → Prop} (hi : exec i s = .next (leaves s d))
    (hd : d = { s.dev with scb := d.scb }) (he : eff (leaves s d)) : Does i [.scb] s eff :=
  does_leaves hi (by rw [hd]) (fun p hp => by
    rw [hd]
    cases p
    case scb => exact absurd (List.mem_singleton_self _) hp
    all_goals simp [Part.same]) he

theorem testYield_setScrWord_eq (d : Dev) (n w : Nat) (v : W32) :
    (d.testYield n).setScrWord w v = { d with scb := ((d.testYield n).setScrWord w v).scb } := by
  unfold Dev.testYield; split <;> rfl

theorem registerWrite_scratch {s : State} {a : Nat} (v : W32) (h4 : a % 4 = 0) (h : 0x20000000 ≤ a) (h' : a < 0x20400000)
    (ho : (s.dev.bank ((a - 0x20000000) / 4 / 65536)).owner = .cp) : Does (.registerWrite .fw a v) [.scb] s (fun t =>
      t.dev.scrWord ((a - 0x20000000) / 4) = v ∧ ∀ w, w ≠ (a - 0x20000000) / 4 → t.dev.scrWord w = s.dev.scrWord w) := by
  refine does_scb (runM_leaves (f := registerWrite .fw a v) (by rw [registerWrite_fw_scratch v _ h4 h h', if_pos ho]))
    (testYield_setScrWord_eq _ _ _ _) ⟨?_, fun w hw => ?_⟩
  · rw [leaves_scrWord, scrWord_setScrWord, if_pos rfl]
  · rw [leaves_scrWord, scrWord_setScrWord, if_neg hw]
    exact scrWord_congr (Dev.testYield_bank _ _) w

theorem registerWrite_notOwner {s : State} {a : Nat} (v : W32) (h4 : a % 4 = 0) (h : 0x20000000 ≤ a) (h' : a < 0x20400000)
    (ho : (s.dev.bank ((a - 0x20000000) / 4 / 65536)).owner ≠ .cp) : Does (.registerWrite .fw a v) [.scb] s (fun t =>
      (∀ w, t.dev.scrWord w = s.dev.scrWord w) ∧ (t.dev.bank ((a - 0x20000000) / 4 / 65536)).notOwner = true) := by
  refine does_scb (runM_leaves (f := registerWrite .fw a v) (by rw [registerWrite_fw_scratch v _ h4 h h', if_neg ho])) rfl ⟨fun w => ?_, ?_⟩
  · rw [leaves_scrWord, scrWord_setBank_notOwner]
  · rw [leaves_bank, Dev.setBank_bank]

theorem asleep_of_validates {d : Dev} (h : d.validates = true) : d.asleep = false := by simp [Dev.asleep, h]

/-- The host's write of mailbox SRAM of a device that is out of reset and awake. -/
theorem mboxWrite_awake {d : Dev} (a : Nat) (v : W32) (m : List Host.Cell) (hb : d.boot.st ≠ .reset) (hv : d.validates = true) :
    mboxWrite a v d m = (d, Memory.write m a ((le 4 v.toNat).take (0xF0000 - a))) := by
  rw [mboxWrite, if_neg (by simpa using hb), asleep_of_validates hv, if_neg nofun]

theorem registerWrite_mailbox {s : State} {a : Nat} (v : W32) (hb : s.dev.boot.st ≠ .reset) (hv : s.dev.validates = true) (ha : a + 4 ≤ 0xF0000)
    (hw : Memory.wf s.mbox = true) : Does (.registerWrite .mailbox a v) [.mbox] s (fun t => Memory.read t.mbox a 4 = le 4 v.toNat ∧
      ∀ k, (k < a ∨ a + 4 ≤ k) → Memory.get t.mbox k = Memory.get s.mbox k) := by
  intro h0
  have ht : (le 4 v.toNat).take (0xF0000 - a) = le 4 v.toNat := List.take_of_length_le (show 4 ≤ _ by omega)
  have hf := frame_leaves (w := []) (s := { s with mbox := Memory.write s.mbox a (le 4 v.toNat) }) (d := s.dev) rfl h0
    (fun p _ => (frame_self [] _).2 p nofun)
  refine ⟨_, runM_leaves (f := registerWrite .mailbox a v) (by rw [registerWrite, mboxWrite_awake a v _ hb hv, ht]), ?_, hf.1, fun p hp => ?_⟩
  · beta_reduce
    rw [leaves_mbox _ _ h0]
    exact ⟨Memory.read_write s.mbox a (le 4 v.toNat) hw (show a + 4 ≤ _ by omega), fun k hk => Memory.get_write_other s.mbox a k (le 4 v.toNat) hk⟩
  · have hs := hf.2 p nofun
    cases p
    case mbox => exact absurd (List.mem_singleton_self _) hp
    all_goals exact hs

theorem registerWrite_mailbox_dropped {s : State} {a : Nat} (v : W32) (h : s.dev.boot.st = .reset ∨ (s.dev.validates = true ∧ 0xF0000 ≤ a)) :
    Does (.registerWrite .mailbox a v) [] s (fun _ => True) := by
  refine does_nothing (runM_leaves (f := registerWrite .mailbox a v) ?_)
  rw [registerWrite]
  by_cases hb : s.dev.boot.st = .reset
  · rw [mboxWrite, if_pos (by simp [hb])]
  · obtain ⟨hv, ha⟩ := h.resolve_left hb
    rw [mboxWrite_awake a v _ hb hv, Nat.sub_eq_zero_of_le ha]; rfl

/-! ## Fetched payloads (14 R376) -/

section
variable {r : AcpReq} (hf : r.flags = 2)
include hf

/-- FLAGS with INDIRECT alone. -/
theorem isTimed_of_indirect : r.isTimed = false := by simp [AcpReq.isTimed, hf]
theorem rb_of_indirect : r.rb = none := by simp [AcpReq.rb, AcpReq.isRb, hf]
theorem ownOff_of_indirect : r.ownOff = 0 := by simp [AcpReq.ownOff, AcpReq.rbOff, AcpReq.isTimed, AcpReq.isRb, hf]

/-- A command with INDIRECT alone, refused or answered, is answered at once. -/
theorem emit_of_indirect (d : Dev) (op st : Nat) (p : Bytes) :
    d.emit op r.tag.toNat r.seq.toNat r.flags.toNat r.rb st p false = answered d op r st p := by
  rw [rb_of_indirect hf, hf]
  simp [Dev.emit, Dev.tagDone, answered, replyTo, rspFlags, b01]

theorem fetchFail_of_indirect (d : Dev) (op : Nat) : d.fetchFail op r =
    answered (d.raise 0x8111 0 (le 1 r.tag.toNat ++ le 1 0 ++ le 2 op ++ le 4 r.seq.toNat ++ le 8 (u64 r.inl 0))) op r 0x102 [] := by
  rw [Dev.fetchFail, Dev.refuse, emit_of_indirect hf, Dev.dmaError, ownOff_of_indirect hf]

/-- A command whose response awaits nothing, on an unpaired device. -/
theorem complete_of_indirect (c : Cmd) (a : Bool) (own : Bytes) (p : Rep) (hd : p.defer = none) (hc : p.cont = none) (hs : p.dev.pair.st = .off) :
    Dev.complete c r a own p = answered p.dev c.op r p.st p.data := by
  simp [Dev.complete, hs, hd, hc, emit_of_indirect hf]

/-- A fetched ECHO of at most 256 bytes answers them. -/
theorem acpBody_echo {d : Dev} {x : Bytes} (m : List Host.Cell) (ha : d.pwr.st = .active) (hp : d.pair.st = .off) (hs : d.pair.serving = false)
    (hx : x.length ≤ 256) : acpBody cmdEcho r x d m = answered { d with hst := { d.hst with ord := d.hst.ord + 1 } } 0x0102 r 0 x := by
  have hb : ∀ c d, cmdEcho.body c x d = okData x d := fun c d => by simp [cmdEcho, cmdL, checks, firstErr, Nat.not_lt.mpr hx]
  rw [acpBody_plain (isTimed_of_indirect hf) ha hp hs]
  simp only [hb]
  rw [if_neg (by simp [okData])]
  exact complete_of_indirect hf _ _ _ _ rfl rfl hp

end

/-- What a fetch that ends leaves, where nothing waits for it: the command's own effect. -/
theorem fetchDone_eq {d e : Dev} {op : Nat} {r : AcpReq} {c : Cmd} (good : Bool) (x : Bytes) (m : List Host.Cell) (hf : d.hst.fetch = some (op, r))
    (hc : cmdOf op = some c) (hh : good = true → d.hst.hspi = false ∧ d.hst.busMaster = true)
    (he : (if good then acpBody c r x { d with hst := { d.hst with fetch := none } } m
      else Dev.fetchFail { d with hst := { d.hst with fetch := none } } op r) = e)
    (hw : e.hst.waitCmd = []) (hr : e.hst.resetDue = none) (hn : e.pwr.entryDue = none) : fetchDone good x d m = e := by
  have hd : fetchDone good x d m = drainAll m e.dueReset.dueEntry := by
    simp only [fetchDone, hf, hc]
    rw [← he]
    cases good
    · simp
    · simp [hh rfl]
  rw [hd, dueReset_none hr, dueEntry_none hn, drainAll_nil m hw]

theorem exec_indirectFetchDone {s : State} {good : Bool} {x : Bytes} (h : fetchLen good x s.dev = true) :
    exec (.indirectFetchDone good x) s = runM true (fun d m => (fetchDone good x d m, m)) s := by
  rw [show exec (.indirectFetchDone good x) s = execIndirectFetchDone good x s from rfl, execIndirectFetchDone, h]

theorem cmdOf_echo : cmdOf 0x0102 = some cmdEcho := rfl

theorem indirectFetchDone_echo {s : State} {r : AcpReq} {x : Bytes} (hf : s.dev.hst.fetch = some (0x0102, r)) (hfl : r.flags = 2)
    (ha : s.dev.pwr.st = .active) (hp : s.dev.pair.st = .off) (hs : s.dev.pair.serving = false) (hh : s.dev.hst.hspi = false)
    (hm : s.dev.hst.busMaster = true) (hx : x.length = u32 r.inl 8) (hl : x.length ≤ 256) (hw : s.dev.hst.waitCmd = [])
    (hr : s.dev.hst.resetDue = none) (hn : s.dev.pwr.entryDue = none) : Does (.indirectFetchDone true x) [] s (fun t =>
      t.dev.hst.fetch = none ∧ t.dev.hst.rspQ = s.dev.hst.rspQ ++ [replyTo 0x0102 r 0 x]) := by
  have hlen : fetchLen true x s.dev = true := by simp [fetchLen, hf, ownOff_of_indirect hfl, hx]
  refine does_hst ((exec_indirectFetchDone hlen).trans (runM_leaves (f := fun d m => (fetchDone true x d m, m))
    (congrArg (·, s.mbox) (fetchDone_eq true x s.mbox hf cmdOf_echo (fun _ => ⟨hh, hm⟩) (acpBody_echo hfl s.mbox ha hp hs hl) hw hr hn)))) ?_
  simp

/-- A fetch that fails or takes too long. -/
theorem fetchDone_failed {s : State} {op : Nat} {r : AcpReq} (hf : s.dev.hst.fetch = some (op, r)) (hc : (cmdOf op).isSome = true) (hfl : r.flags = 2)
    (hw : s.dev.hst.waitCmd = []) (hr : s.dev.hst.resetDue = none) (hn : s.dev.pwr.entryDue = none) (i : Instr)
    (hi : exec i s = runM true (fun d m => (fetchDone false [] d m, m)) s) : Does i [] s (fun t => t.dev.hst.fetch = none ∧
      t.dev.hst.rspQ = s.dev.hst.rspQ ++ [replyTo op r 0x102 []] ∧
      Raises s t 0x8111 0 (le 1 r.tag.toNat ++ le 1 0 ++ le 2 op ++ le 4 r.seq.toNat ++ le 8 (u64 r.inl 0))) := by
  obtain ⟨c, hc⟩ := Option.isSome_iff_exists.mp hc
  have hd := fetchDone_eq false [] s.mbox hf hc nofun (fetchFail_of_indirect hfl _ op) (by simpa) (by simpa) (by simpa)
  refine does_leaves (hi.trans (runM_leaves (f := fun d m => (fetchDone false [] d m, m)) (congrArg (·, s.mbox) hd))) (by simp) (fun p _ => ?_) ?_
  · cases p <;> simp [Part.same]
  · exact ⟨by simp, by simp, fun h => ⟨_, mem_leaves (mem_hold_self _ h), rfl, rfl, rfl⟩⟩

theorem fetchTimeout_idle {s : State} (h : s.dev.hst.fetch = none) : Does .fetchTimeout [] s (fun _ => True) :=
  does_nothing (runM_leaves (f := fun d m => (fetchDone false [] d m, m)) (by simp [fetchDone, h]))

/-! ## Result buffers and retained responses (14 R377, R378) -/

theorem resultBufferWrite_answers {s : State} {w : RbWait} {q : List RbWait} (h : s.dev.hst.rbWait = w :: q) (hh : s.dev.hst.hspi = false)
    (hm : s.dev.hst.busMaster = true) (ha : w.addr % 4 = 0) (hc : w.r.cont = none) (hl : w.full.length ≤ w.cap) :
    Does (.resultBufferWrite true) [] s (fun t => t.dev.hst.rbWait = q ∧
      t.dev.hst.rspQ = s.dev.hst.rspQ ++ [{ w.r with len := w.cap, payload := [] }]) := by
  have hd : rbDone true s.dev s.mbox = ({ s.dev with hst := { s.dev.hst with
      rbWait := q, rspQ := s.dev.hst.rspQ ++ [{ w.r with len := w.cap, payload := [] }] } }, s.mbox) := by
    simp [rbDone, h, hh, hm, ha, truncate, hc, hl]
  exact does_hst (runM_leaves (f := rbDone true) hd) (by simp)

theorem retainedResponseExpiry_releases {s : State} {n : Nat} (h : n < 256) : Does (.retainedResponseExpiry n) [] s (fun t =>
    t.dev.hst.retained = s.dev.hst.retained.filter (fun x => x.tag != n)) := by
  have hi : exec (.retainedResponseExpiry n) s = run true (retainedExpiry n) s := by
    show run (decide (n < 256)) _ s = _
    rw [decide_eq_true h]
  exact does_hst (hi.trans (run_leaves rfl)) (by simp)

theorem retainedResponseExpiry_fault (s : State) {n : Nat} (h : 256 ≤ n) : exec (.retainedResponseExpiry n) s = .fault .noSuchUnit := by
  show run (decide (n < 256)) _ s = _
  rw [decide_eq_false (Nat.not_lt.mpr h)]; rfl

/-! ## The obligation -/

/-- Settles O46, from the lemmas above, a part of the statement each. -/
theorem hostRegisters : Obligations.HostRegisters :=
  ⟨fun _ v h => irqStatusWrite_clears v h,
   fun _ v h => does_nothing (run_leaves (irqWrite_off v h)),
   fun _ h => irqHoldoffExpiry_evt h,
   fun _ h => irqHoldoffExpiry_rsp h,
   fun _ h => irqHoldoffExpiry_idle true h,
   fun _ h => irqHoldoffExpiry_idle false h,
   fun _ _ h hv => diagAddrWrite_starts h hv,
   fun _ hb h h' => diagFetchDone_scratch hb h h',
   fun _ hb h h' => diagFetchDone_mailbox hb h h',
   fun _ hb h h' hl => diagFetchDone_register hb h h' hl,
   fun _ hb hr => diagFetchDone_nowhere hb hr,
   fun _ h hb hi => diagDataRead_returns h hb hi,
   fun _ h hb hi => diagDataRead_steps h hb hi,
   rcRegisterRead_status,
   rcRegisterRead_sch,
   rcRegisterRead_drc,
   fun _ _ h hr => latchingRead_latches h hr,
   fun _ v h => registerWrite_irqEnable v h,
   fun _ _ v h => registerWrite_unaligned v h,
   fun _ v h => registerWrite_busMaster v h,
   fun _ _ v h4 h h' ho => registerWrite_scratch v h4 h h' ho,
   fun _ _ v h4 h h' ho => registerWrite_notOwner v h4 h h' ho,
   fun _ _ v hb hv ha hw => registerWrite_mailbox v hb hv ha hw,
   fun _ _ v h => registerWrite_mailbox_dropped v h,
   fun _ _ _ hf hfl _ ha hp hs hh hm hx hl hw hr hn => indirectFetchDone_echo hf hfl ha hp hs hh hm hx hl hw hr hn,
   fun s op r hf hc hfl hw hr hn => List.forall_mem_cons.mpr ⟨fetchDone_failed hf hc hfl hw hr hn _ (exec_indirectFetchDone (by rw [fetchLen, hf]; rfl)),
     List.forall_mem_singleton.mpr (fetchDone_failed hf hc hfl hw hr hn _ rfl)⟩,
   fun _ h => fetchTimeout_idle h,
   fun _ _ _ h hh hm ha hc hl => resultBufferWrite_answers h hh hm ha hc hl,
   fun _ _ h => retainedResponseExpiry_releases h,
   fun s _ h => retainedResponseExpiry_fault s h⟩

end Sys2Proof.Machine
end

section
/-! PROOFS. The ends of law jobs and of the operations that await them (O34). -/

open Sys2Proof

namespace Sys2Proof.Machine

/-! ## Operations that end (14 R371, R372) -/

/-- Completing a response changes the tag table, the tags in flight and the completed responses alone. -/
theorem emit_eq (d : Dev) (op tag seq flags : Nat) (rb : Option (Nat × Nat)) (st : Nat) (p : Bytes) (repl : Bool)
    (cont : Option (Nat × Nat × Nat)) : ∃ tg fl q rw, d.emit op tag seq flags rb st p repl cont = { d with hst := { d.hst with
      tags := tg, inflight := fl, rspQ := q, rbWait := rw } } := by
  unfold Dev.emit
  dsimp only
  split
  · unfold Dev.tagFree; split <;> exact ⟨_, _, _, _, rfl⟩
  · split
    · split <;> exact ⟨_, _, _, _, rfl⟩
    · exact ⟨_, _, _, _, rfl⟩

/-- Completing a response leaves the completed ones in the queue. -/
theorem mem_emit {d : Dev} {x : Rsp} (op tag seq flags : Nat) (rb : Option (Nat × Nat)) (st : Nat) (p : Bytes) (repl : Bool)
    (h : x ∈ d.hst.rspQ) : x ∈ (d.emit op tag seq flags rb st p repl).hst.rspQ := by
  unfold Dev.emit
  dsimp only
  split
  · unfold Dev.tagFree; split <;> exact h
  · split
    · split
      · exact List.mem_append_left _ h
      · exact h
    · exact List.mem_append_left _ h

/-- A response with no flag set and no result buffer joins the completed ones. -/
theorem mem_emit_self (d : Dev) (op tag seq st : Nat) (p : Bytes) :
    ({ op := op, tag := tag, flags := 0, status := st, seq := seq, len := 0, payload := p } : Rsp) ∈
      (d.emit op tag seq 0 none st p false).hst.rspQ := by
  unfold Dev.emit
  rw [if_neg (fun h => absurd h.1 (by decide))]
  exact List.mem_append_right _ (List.mem_singleton_self _)

/-- Flushing changes the waiting responses and what completing one changes alone. -/
theorem flushGo_eq (l k : List Waiting) (d : Dev) : ∃ w tg fl q rw, flushGo l k d = { d with hst := { d.hst with
    wait := w, tags := tg, inflight := fl, rspQ := q, rbWait := rw } } := by
  induction l generalizing k d with
  | nil => exact ⟨k, _, _, _, _, rfl⟩
  | cons x r ih =>
    unfold flushGo; split
    · obtain ⟨_, _, _, _, he⟩ := emit_eq d x.op x.tag x.seq x.flags x.rb x.status x.payload x.repl none
      rw [he]
      obtain ⟨_, _, _, _, _, h⟩ := ih k _
      exact ⟨_, _, _, _, _, h⟩
    · exact ih _ _

theorem mem_flushGo {x : Rsp} (l k : List Waiting) {d : Dev} (h : x ∈ d.hst.rspQ) : x ∈ (flushGo l k d).hst.rspQ := by
  induction l generalizing k d with
  | nil => exact h
  | cons w r ih =>
    unfold flushGo; split
    · exact ih _ (mem_emit _ _ _ _ _ _ _ _ h)
    · exact ih _ h

/-- A waiting response that awaits nothing more, with no flag set and no result buffer, is completed. -/
theorem mem_flushGo_of_wait {w : Waiting} (l k : List Waiting) (d : Dev) (h : w ∈ l) (ha : w.ackTick = none) (hk : w.key = (0, 0))
    (hf : w.flags = 0) (hb : w.rb = none) (hr : w.repl = false) :
    ({ op := w.op, tag := w.tag, flags := 0, status := w.status, seq := w.seq, len := 0, payload := w.payload } : Rsp) ∈
      (flushGo l k d).hst.rspQ := by
  induction l generalizing k d with
  | nil => exact nomatch h
  | cons x r ih =>
    unfold flushGo
    rcases List.mem_cons.mp h with rfl | hx
    · rw [if_pos (by rw [ha, hk]; rfl), hf, hb, hr]
      exact mem_flushGo _ _ (mem_emit_self _ _ _ _ _ _)
    · split <;> exact ih _ _ hx

/-- What the end of an operation makes of a response that awaits it. -/
def Waiting.ended (w : Waiting) (st : Nat) (p : Bytes) : Waiting :=
  { w with key := (0, 0), status := if st = 0 then w.status else st, payload := p, ackTick := if st < 256 then w.ackTick else none
           repl := w.repl && decide (st < 256) }

theorem finish_eq_flushGo (d : Dev) (op arg st : Nat) (p : Bytes) :
    ∃ l : List Waiting, d.finish op arg st p = flushGo l [] { d with hst := { d.hst with wait := l } } ∧
      ∀ w ∈ d.hst.wait, w.key = (op, arg) → w.ended st p ∈ l :=
  ⟨_, rfl, fun w hw hk => List.mem_map.mpr ⟨w, hw, if_pos (beq_iff_eq.mpr hk)⟩⟩

/-- The end of an operation changes the waiting responses and what completing one changes alone. -/
theorem finish_eq (d : Dev) (op arg st : Nat) (p : Bytes) : ∃ w tg fl q rw, d.finish op arg st p = { d with hst := { d.hst with
    wait := w, tags := tg, inflight := fl, rspQ := q, rbWait := rw } } := by
  obtain ⟨l, hl, -⟩ := finish_eq_flushGo d op arg st p
  rw [hl]
  exact flushGo_eq _ _ _

/-- 14 R371: the responses that await an operation complete as it ends. -/
theorem ends_finish {s : State} {d : Dev} (op arg st : Nat) (p : Bytes) (hw : d.hst.wait = s.dev.hst.wait) :
    Ends s (leaves s (d.finish op arg st p)) op arg st p := by
  intro w hm hk ha hf hb hr
  obtain ⟨l, hl, hmem⟩ := finish_eq_flushGo d op arg st p
  rw [leaves_hst_rspQ, hl]
  exact mem_flushGo_of_wait l [] _ (hmem w (hw ▸ hm) hk) (by simp [Waiting.ended, ha]) rfl hf hb (by simp [Waiting.ended, hr])

/-- An operation that nothing awaits ends without a response. -/
theorem ends_of_not_awaits {s t : State} {op arg : Nat} (st : Nat) (p : Bytes) (h : s.dev.awaits op arg = false) : Ends s t op arg st p :=
  fun w hm hk => absurd (beq_iff_eq.mpr hk) (List.any_eq_false.mp h w hm)

/-! ## Law engines -/

/-- Law engine `e` written with `x`: it reads `x`, and every other engine what it did. -/
theorem setEng_at (d : Dev) (e : Nat) (x : LawEng) : At {} d.law (d.setEng e x).law e x :=
  ⟨tget_tput_self _ _ _ _, fun _ h => tget_tput_other _ _ _ h⟩

/-- Engines whose slot, running job and collector are all empty lose no job. -/
theorem dropOn_empty (p : Job → Bool) (coll strike : Bool) {e : Nat} {d : Dev} (hs : (d.eng e).slot = none) (hr : (d.eng e).run = none)
    (hc : (d.eng e).coll = none) : dropOn p coll strike e d = d := by
  simp [dropOn, hs, hr, hc]

theorem mem_rangeFrom {a n k : Nat} (h : k ∈ rangeFrom a n) : a ≤ k ∧ k < a + n := by
  induction n generalizing a with
  | zero => exact nomatch h
  | succ n ih =>
    rcases List.mem_cons.mp h with rfl | h
    · omega
    · have := ih h; omega

/-- A run of steps that each keep something keeps it. -/
theorem forRun_keeps {α β : Type} (π : α → β) {f : Nat → α → α} (l : List Nat) (a : α) (h : ∀ k a, π (f k a) = π a) :
    π (forRun f l a) = π a := by
  induction l generalizing a with
  | nil => rfl
  | cons k r ih => exact (ih _).trans (h k a)

/-- A run of steps that each leave what they are given leaves it. -/
theorem forRun_of_fixed {α : Type} {f : Nat → α → α} {a : α} (l : List Nat) (h : ∀ k ∈ l, f k a = a) : forRun f l a = a := by
  induction l with
  | nil => rfl
  | cons k r ih =>
    rw [forRun, h k (List.mem_cons_self ..)]
    exact ih (fun j hj => h j (List.mem_cons_of_mem _ hj))

/-! ## Missed jobs (01 R29, 06 R168) -/

/-- Missing jobs changes the scheduler alone: each is counted, and the queue stays. -/
theorem foldl_missJob (l : List Job) (d : Dev) (h : ∀ j ∈ l, j.test = none) : ∃ c, l.foldl (fun d j => d.missJob j) d =
    { d with sch := c } ∧ c.queue = d.sch.queue ∧ c.miss = d.sch.miss + BitVec.ofNat 32 l.length := by
  induction l generalizing d with
  | nil => exact ⟨_, rfl, rfl, by simp⟩
  | cons j r ih =>
    obtain ⟨c, hc, hq, hm⟩ := ih (d.missJob j) (fun k hk => h k (List.mem_cons_of_mem _ hk))
    obtain ⟨hqueue, hmiss, hrest⟩ : (d.missJob j).sch.queue = d.sch.queue ∧ (d.missJob j).sch.miss = d.sch.miss + 1 ∧
        { d.missJob j with sch := c } = { d with sch := c } := by
      simp [Dev.missJob, h j (List.mem_cons_self ..)]
    refine ⟨c, hc.trans hrest, hq.trans hqueue, ?_⟩
    rw [hm, hmiss, List.length_cons, Nat.add_comm r.length 1, BitVec.ofNat_add, BitVec.add_assoc]
    rfl

/-- Jobs discarded while every engine is empty leave the queue and are missed. -/
theorem discard_of_empty {d : Dev} (p : Job → Bool) (coll strike : Bool)
    (he : ∀ e, e < 8 → (d.eng e).slot = none ∧ (d.eng e).run = none ∧ (d.eng e).coll = none) (hq : ∀ j ∈ d.sch.queue, j.test = none) :
    ∃ c, (d.discard p coll strike).1 = { d with sch := c } ∧ c.queue = d.sch.queue.filter (fun j => !p j) ∧
      c.miss = d.sch.miss + BitVec.ofNat 32 (d.sch.queue.filter p).length := by
  obtain ⟨c, hc, hcq, hcm⟩ := foldl_missJob (d.sch.queue.filter p) { d with sch := { d.sch with queue := d.sch.queue.filter (fun j => !p j) } }
    (fun j hj => hq j (List.mem_of_mem_filter hj))
  refine ⟨c, ?_, hcq, hcm⟩
  unfold Dev.discard
  dsimp only
  rw [hc]
  refine forRun_of_fixed _ fun e hmem => ?_
  obtain ⟨hs, hr, hcl⟩ := he e (by have := mem_rangeFrom hmem; omega)
  exact dropOn_empty p coll strike hs hr hcl

/-- A trace entry leaves the queue and the counts of the scheduler, and everything else. -/
theorem trace_eq (d : Dev) (t : TraceEnt) : ∃ tr wr wp st, d.trace t = { d with sch := { d.sch with
    trace := tr, traceWr := wr, traceWrapped := wp, traceStop := st } } := by
  unfold Dev.trace; dsimp only; split <;> exact ⟨_, _, _, _, rfl⟩

/-! ## Test jobs (06 R180) -/

/-- An aborted test job leaves its engine idle, with the cause, and ends LAW_TEST_RUN; the causes above 3 count no fault. -/
theorem lawAbort_test {d : Dev} {e cause pc : Nat} {j : Job} {m : Nat} (addr : Option Nat) (strike : Bool) (hr : (d.eng e).run = some j)
    (ht : j.test = some m) (hc : 3 < cause) : ∃ y : LawEng,
      d.lawAbort e cause pc addr strike = (d.setEng e y).finish 0x0831 e 0 (testAnswer y cause j.nOut) ∧
      y.st = .idle ∧ y.run = none ∧ y.ecause = cause ∧ y.cyc = (d.eng e).cyc ∧ y.frame = (d.eng e).frame := by
  unfold Dev.lawAbort
  dsimp only
  rw [hr]
  dsimp only
  rw [if_neg (Nat.not_le.mpr hc), if_pos (by rw [ht]; rfl)]
  exact ⟨_, rfl, rfl, rfl, rfl, rfl, rfl⟩

/-! ## What an event leaves -/

/-- A meaning guarded by the number of a unit the device has leaves what it makes of the device. -/
theorem run_below {n k : Nat} {f : Dev → Dev} {s : State} {d : Dev} (h : n < k) (hf : f s.dev = d) :
    run (decide (n < k)) f s = .next (leaves s d) := by
  rw [decide_eq_true h]
  exact run_leaves hf

/-- An event that changes time, the trajectories, the law engines, the scheduler and the host interface, but for its rings and
interrupts, changes no other kind of state; each of the first four is named in `w` or stays. -/
theorem does_changes {i : Instr} {w : List Part} {s : State} {tm : Tim} {tr : Trj} {l : Tbl LawEng} {c : Sch} {h : Hst} {eff : State → Prop}
    (hi : exec i s = .next (leaves s { s.dev with tim := tm, trj := tr, law := l, sch := c, hst := h }))
    (he : eff (leaves s { s.dev with tim := tm, trj := tr, law := l, sch := c, hst := h }))
    (htim : Part.tim ∈ w ∨ tm = s.dev.tim := by exact .inr rfl) (htrj : Part.trj ∈ w ∨ tr = s.dev.trj := by exact .inr rfl)
    (hlaw : Part.law ∈ w ∨ l = s.dev.law := by exact .inr rfl) (hsch : Part.sch ∈ w ∨ c = s.dev.sch := by exact .inr rfl)
    (hrings : Part.rings.same s { s with dev := { s.dev with hst := h } } := by exact ⟨rfl, rfl, rfl, rfl, rfl, rfl⟩)
    (hirq : Part.irq.same s { s with dev := { s.dev with hst := h } } := by exact ⟨rfl, rfl, rfl⟩) : Does i w s eff :=
  does_leaves hi rfl (fun p hp => by
    cases p
    case tim => exact htim.resolve_left hp
    case trj => exact htrj.resolve_left hp
    case law => exact hlaw.resolve_left hp
    case sch => exact hsch.resolve_left hp
    case rings => exact hrings
    case irq => exact hirq
    case mbox => exact fun _ => rfl
    all_goals rfl) he

/-- An event that changes the law engines and then ends an operation. -/
theorem does_finish {i : Instr} {w : List Part} {s : State} {l : Tbl LawEng} {op arg st : Nat} {p : Bytes} {eff : State → Prop}
    (hi : exec i s = .next (leaves s (Dev.finish { s.dev with law := l } op arg st p))) (hl : Part.law ∈ w ∨ l = s.dev.law)
    (he : ∀ t : State, t.dev.law = l → Ends s t op arg st p → eff t) : Does i w s eff := by
  have hE : Ends s _ op arg st p := ends_finish (d := { s.dev with law := l }) op arg st p rfl
  obtain ⟨_, _, _, _, _, h⟩ := finish_eq { s.dev with law := l } op arg st p
  rw [h] at hi hE
  exact does_changes hi (he _ (by rw [leaves_law]) hE) (hlaw := hl)

/-! ## The obligation -/

theorem lawJobDeadline_misses {s : State} (he : ∀ e, e < 8 → (s.dev.eng e).slot = none ∧ (s.dev.eng e).run = none ∧ (s.dev.eng e).coll = none)
    (hq : ∀ j ∈ s.dev.sch.queue, j.test = none) : Does .lawJobDeadline [.sch] s (fun t =>
      t.dev.sch.queue = s.dev.sch.queue.filter (fun j => decide (s.dev.tim.tick + 2 < j.block)) ∧
      t.dev.sch.miss = s.dev.sch.miss + BitVec.ofNat 32 (s.dev.sch.queue.filter (fun j => decide (j.block ≤ s.dev.tim.tick + 2))).length) := by
  obtain ⟨c, hc, hcq, hcm⟩ := discard_of_empty (fun j => decide (j.block ≤ s.dev.tim.tick + 1 + 1)) true true he hq
  have hd : ∃ tr wr wp st, jobDeadline s.dev = { s.dev with sch := { c with trace := tr, traceWr := wr, traceWrapped := wp, traceStop := st } } := by
    unfold jobDeadline
    dsimp only
    rw [hc]
    split
    · exact ⟨_, _, _, _, rfl⟩
    · exact trace_eq _ _
  obtain ⟨_, _, _, _, h⟩ := hd
  refine does_changes (run_leaves h) ?_ (hsch := .inl (List.mem_singleton_self _))
  rw [leaves_sch]
  refine ⟨hcq.trans ?_, hcm⟩
  simp only [← decide_not, Nat.not_le]

theorem maxCycReached_ends {s : State} {e : Nat} {j : Job} {m : Nat} (he : e < 8) (hr : (s.dev.eng e).run = some j) (ht : j.test = some m) :
    Does (.maxCycReached e) [.law] s (fun t => (t.dev.eng e).st = .idle ∧ (t.dev.eng e).run = none ∧ (t.dev.eng e).ecause = 10 ∧
      (t.dev.eng e).cyc = BitVec.ofNat 32 m ∧ Ends s t 0x0831 e 0
        (le 2 10 ++ zb 2 ++ le 4 (BitVec.ofNat 32 m).toNat ++ words ((rangeFrom 16 j.nOut).map (fun w => (tget 0 (s.dev.eng e).frame w).toNat)))) := by
  have hm : maxCyc e s.dev = (s.dev.setEng e { s.dev.eng e with cyc := BitVec.ofNat 32 m }).lawAbort e 10 (s.dev.eng e).pc none false := by
    simp only [maxCyc, hr, ht]
  obtain ⟨y, hy, hst, hrun, hcause, hcyc, hframe⟩ := lawAbort_test (d := s.dev.setEng e { s.dev.eng e with cyc := BitVec.ofNat 32 m }) (cause := 10)
    (pc := (s.dev.eng e).pc) none false (by rw [Dev.setEng_eng]; exact hr) ht (by decide)
  rw [Dev.setEng_eng] at hcyc hframe
  have ha : testAnswer y 10 j.nOut = le 2 10 ++ zb 2 ++ le 4 (BitVec.ofNat 32 m).toNat ++
      words ((rangeFrom 16 j.nOut).map (fun w => (tget 0 (s.dev.eng e).frame w).toNat)) := by rw [testAnswer, hcyc, hframe]
  refine does_finish (run_below he (hm.trans hy)) (.inl (List.mem_singleton_self _)) fun t hl hE => ?_
  have hy : t.dev.eng e = y := by rw [Dev.eng, hl]; exact tget_tput_self _ _ _ _
  rw [hy, ← ha]
  exact ⟨hst, hrun, hcause, hcyc, hE⟩

theorem lawProgLoadDone_ends (s : State) (id : Nat) : Does (.lawProgLoadDone id) [] s (fun t => Ends s t 0x0802 id 0 (zb 8)) := by
  by_cases h : s.dev.awaits 0x0802 id = true
  · exact does_finish (run_leaves (if_pos h)) (.inr rfl) fun _ _ hE => hE
  · exact (does_nothing (i := .lawProgLoadDone id) (run_leaves (if_neg h))).mono fun t _ => ends_of_not_awaits 0 _ (Bool.eq_false_iff.mpr h)

theorem lawEngineDisableDone_ends {s : State} {e : Nat} (he : e < 8) (hd : (s.dev.eng e).disabling = true) (hr : (s.dev.eng e).run = none)
    (hc : (s.dev.eng e).coll = none) : Does (.lawEngineDisableDone e) [.law] s (fun t =>
      At {} s.dev.law t.dev.law e { s.dev.eng e with runEn := false, disabling := false } ∧ Ends s t 0x0830 e 0 []) :=
  does_finish (run_below he (if_pos (by rw [hd, hr, hc]; rfl))) (.inl (List.mem_singleton_self _))
    fun _ hl hE => ⟨hl ▸ setEng_at s.dev e _, hE⟩

/-- Settles O34, from the lemmas above, a part of the statement each. -/
theorem jobEnds : Obligations.JobEnds :=
  ⟨fun _ he hq => lawJobDeadline_misses he hq,
   fun _ _ _ _ he hr ht => maxCycReached_ends he hr ht,
   lawProgLoadDone_ends,
   fun _ _ he hd hr hc => lawEngineDisableDone_ends he hd hr hc,
   fun _ => does_changes (run_leaves rfl) (leaves_sch _ _) (hsch := .inl (List.mem_singleton_self _))⟩

end Sys2Proof.Machine
end

section
/-! PROOFS. What the handover of an output block changes and leaves (O44). -/

open Sys2Proof

namespace Sys2Proof.Machine

/-! ## The handover of an output block (09 R253, R255) -/

/-- What the making of an output block leaves alone: time, the law engines, the scheduler and the number of the block. -/
def Dev.kept (d : Dev) : Tim × Tbl LawEng × Sch × Option Nat := (d.tim, d.law, d.sch, d.out.block)

theorem forRun_kept {f : Nat → Dev → Dev} (l : List Nat) (d : Dev) (h : ∀ k d, (f k d).kept = d.kept) : (forRun f l d).kept = d.kept :=
  forRun_keeps Dev.kept l d h

/-! A lemma named `f_kept` says that `f` leaves all of that. -/

theorem setOut_kept (d : Dev) (s : Nat) (o : OutCh) : (d.setOut s o).kept = d.kept := rfl
theorem setTx_kept (d : Dev) (t : Nat) (x : TxStr) : (d.setTx t x).kept = d.kept := rfl
theorem setTone_kept (d : Dev) (t : Nat) (x : Tone) : (d.setTone t x).kept = d.kept := rfl

theorem ring_kept (d : Dev) (m : Nat) : (d.ring m).2.kept = d.kept := by
  unfold Dev.ring
  extract_lets u a
  split <;> rfl

theorem cnvBlock_kept (s m : Nat) (z : List Int) (d : Dev) : (cnvBlock s m z d).2.kept = d.kept := by
  unfold cnvBlock
  extract_lets u o push r d1
  split
  · rfl
  · show (if r.2.1 = 0 then d1 else d1.cnvCount 1 r.2.1).kept = d.kept
    split <;> rfl

theorem downConv_kept (s b : Nat) (x : List Int) (d : Dev) : (downConv s b x d).2.kept = d.kept := by
  unfold downConv
  extract_lets r fe k y _ d1 d2
  have h : d2.kept = d.kept := by
    simp only [d2]
    split <;> rfl
  split <;> exact h

theorem outOne_kept (m : Nat) (sums : Tbl (List Int)) (s : Nat) (d : Dev) : (outOne m sums s d).kept = d.kept := by
  unfold outOne
  extract_lets o1 o live g1 zs c1 td cv d1 lim q c2 pil tgt ms x8 down x9 d2
  have h1 : d1.kept = d.kept := cnvBlock_kept _ _ _ d
  have h2 : d2.kept = d1.kept := by
    simp only [d2, x9]
    split
    · exact downConv_kept _ _ _ d1
    · rfl
  exact (setOut_kept _ _ _).trans (h2.trans h1)

theorem guardOne_kept (m k : Nat) (d : Dev) : (guardOne m k d).kept = d.kept := by
  unfold guardOne
  extract_lets g
  split <;> rfl

theorem keepWords_kept (d : Dev) : (keepWords d).kept = d.kept := by
  unfold keepWords
  extract_lets gs
  split <;> rfl

theorem toneFeed_kept (t idx : Nat) (x : List Int) (live : Bool) (d : Dev) : (toneFeed t idx x live d).kept = d.kept := by
  unfold toneFeed
  dsimp only
  split
  · rfl
  · split
    · rfl
    · exact setTone_kept _ _ _

theorem feedOutTones_kept (m : Nat) (d : Dev) : (feedOutTones m d).kept = d.kept := by
  refine forRun_kept _ d fun t d => ?_
  dsimp only
  split
  · exact toneFeed_kept _ _ _ _ d
  · rfl

theorem txFeed_kept (m t : Nat) (d : Dev) : (txFeed m t d).kept = d.kept := by
  unfold txFeed
  dsimp only
  split
  · rfl
  · exact setTx_kept _ _ _

theorem handDest_kept (m : Nat) (d : Dev) : (handDest m d).kept = d.kept :=
  forRun_kept _ d (txFeed_kept m)

/-- An output block made is the block last handed over. -/
theorem kept_outBlock (m : Nat) (d : Dev) : (outBlock m d).kept = (d.tim, d.law, d.sch, some m) := by
  unfold outBlock
  extract_lets r d1 outs idle _ d2 d3 d4
  have h1 : d1.kept = d.kept := ring_kept d m
  obtain ⟨ht, hl, hs, -⟩ : d1.tim = d.tim ∧ d1.law = d.law ∧ d1.sch = d.sch ∧ d1.out.block = d.out.block := by
    simpa only [Dev.kept, Prod.mk.injEq] using h1
  have h2 : d2.kept = (d.tim, d.law, d.sch, some m) := by rw [← ht, ← hl, ← hs]; rfl
  have h3 : d3.kept = d2.kept := forRun_kept _ _ (outOne_kept m r.1)
  have h4 : d4.kept = d3.kept := forRun_kept _ _ (guardOne_kept m)
  exact (keepWords_kept _).trans ((feedOutTones_kept m d4).trans (h4.trans (h3.trans h2)))

/-- While the stages run and no record is awaited, a block not yet handed over is handed over. -/
theorem outBlockHandover_hands {s : State} (ht : s.dev.ticking = true) (hb : s.dev.out.block ≠ some (s.dev.tim.tick + 1))
    (hw : s.dev.pair.waitRec = none) : Completes .outBlockHandover s (fun t => t.dev.out.block = some (s.dev.tim.tick + 1) ∧
      t.dev.tim = s.dev.tim ∧ t.dev.law = s.dev.law ∧ t.dev.sch = s.dev.sch) := by
  have hd : outHandover s.dev = handDest (s.dev.tim.tick + 1) (outBlock (s.dev.tim.tick + 1) s.dev) :=
    if_neg (by simp [ht, hb, hw])
  have hk := (handDest_kept (s.dev.tim.tick + 1) _).trans (kept_outBlock (s.dev.tim.tick + 1) s.dev)
  simp only [Dev.kept, Prod.mk.injEq] at hk
  obtain ⟨htim, hlaw, hsch, hblock⟩ := hk
  refine ⟨_, run_leaves hd, ?_⟩
  simp only [leaves_out, leaves_tim, leaves_law, leaves_sch]
  exact ⟨hblock, htim, hlaw, hsch⟩

theorem outBlockHandover_idle {s : State}
    (h : s.dev.ticking = false ∨ s.dev.out.block = some (s.dev.tim.tick + 1) ∨ s.dev.pair.waitRec ≠ none) :
    Does .outBlockHandover [] s (fun _ => True) := by
  refine does_nothing (run_leaves (if_pos ?_))
  rcases h with h | h | h
  · simp [h]
  · simp [h]
  · simp [Option.isSome_iff_ne_none.mpr h]

end Sys2Proof.Machine
end

section
/-! PROOFS. What begins a tick keeps its number: the captured block, the pair and the packets (O44). -/

open Sys2Proof

namespace Sys2Proof.Machine

/-! A lemma named `f_tick` says that `f` leaves the number of the tick in progress: TICK_BOUNDARY writes it once, and nothing that falls on
the boundary after that (01 Table 1.5) writes it again. -/

/-! ## Branches and runs -/

@[simp] theorem ite_tick (c : Prop) [Decidable c] (a b : Dev) : (if c then a else b).tim.tick = if c then a.tim.tick else b.tim.tick :=
  apply_ite (fun d : Dev => d.tim.tick) c a b

@[simp] theorem forRun_tick {f : Nat → Dev → Dev} (l : List Nat) (d : Dev) (h : ∀ k d, (f k d).tim.tick = d.tim.tick) :
    (forRun f l d).tim.tick = d.tim.tick := forRun_keeps (fun d => d.tim.tick) l d h

/-- A run of steps on a device and a count, each of which keeps the tick. -/
theorem forRun_fst_tick {f : Nat → Dev × Nat → Dev × Nat} (l : List Nat) (d : Dev × Nat) (h : ∀ k d, (f k d).1.tim.tick = d.1.tim.tick) :
    (forRun f l d).1.tim.tick = d.1.tim.tick := forRun_keeps (fun d => d.1.tim.tick) l d h

/-- A fold of steps that each keep something keeps it. -/
theorem foldl_keeps {α β γ : Type} (π : α → β) {f : α → γ → α} (l : List γ) (a : α) (h : ∀ a c, π (f a c) = π a) : π (l.foldl f a) = π a := by
  induction l generalizing a with
  | nil => rfl
  | cons c r ih => exact (ih _).trans (h a c)

@[simp] theorem foldl_tick {α : Type} {f : Dev → α → Dev} (l : List α) (d : Dev) (h : ∀ d a, (f d a).tim.tick = d.tim.tick) :
    (l.foldl f d).tim.tick = d.tim.tick := foldl_keeps (fun d => d.tim.tick) l d h

/-! ## Responses and counters -/

@[simp] theorem finish_tick (d : Dev) (op arg st : Nat) (p : Bytes) : (d.finish op arg st p).tim.tick = d.tim.tick := by
  obtain ⟨_, _, _, _, _, h⟩ := finish_eq d op arg st p
  rw [h]

@[simp] theorem unreplicated_tick (d : Dev) : d.unreplicated.tim.tick = d.tim.tick := by
  obtain ⟨_, _, _, _, _, h⟩ := flushGo_eq _ _ _
  exact congrArg (·.tim.tick) h

@[simp] theorem pairCount_tick (d : Dev) (i : Nat) : (d.pairCount i).tim.tick = d.tim.tick := rfl
@[simp] theorem trjCount_tick (d : Dev) (i n : Nat) : (d.trjCount i n).tim.tick = d.tim.tick := rfl
@[simp] theorem cnvCount_tick (d : Dev) (i n : Nat) : (d.cnvCount i n).tim.tick = d.tim.tick := rfl
@[simp] theorem netCount_tick (d : Dev) (p c n : Nat) : (d.netCount p c n).tim.tick = d.tim.tick := by simp [Dev.netCount]

/-! ## Capture and asynchronous groups -/

theorem rxBlock_tick (k : Nat) (a : Dev × Tbl (List (List Int))) (r : Nat) : (rxBlock k a r).1.tim.tick = a.1.tim.tick := by
  unfold rxBlock
  extract_lets x u live y
  split <;> rfl

@[simp] theorem capture_tick (k : Nat) (tdm : Tbl (List Int)) (d : Dev) : (capture k tdm d).tim.tick = d.tim.tick :=
  foldl_keeps (fun a : Dev × Tbl (List (List Int)) => a.1.tim.tick) _ (d, []) (rxBlock_tick k)

@[simp] theorem grpTo_tick (d : Dev) (e g : Nat) (st : GState) : (d.grpTo e g st).tim.tick = d.tim.tick := by simp [Dev.grpTo, Dev.setGrp]

@[simp] theorem grpTick_tick (e g : Nat) (fresh : Bool) (d : Dev) : (grpTick e g fresh d).tim.tick = d.tim.tick := by
  simp [grpTick, Dev.setGrp, Dev.draw]

/-! ## The pair -/

@[simp] theorem lkSend_tick (typ : Nat) (p : Bytes) (d : Dev) : (lkSend typ p d).tim.tick = d.tim.tick := by simp [lkSend]

@[simp] theorem sealRecord_tick (n : Nat) (d : Dev) : (sealRecord n d).tim.tick = d.tim.tick := by simp [sealRecord]

@[simp] theorem setPair_tick (d : Dev) (p : PairSt) : (d.setPair p).tim.tick = d.tim.tick := by simp [Dev.setPair]

@[simp] theorem evStale_tick (d : Dev) (entered cause : Nat) : (d.evStale entered cause).tim.tick = d.tim.tick := by simp [Dev.evStale]

@[simp] theorem goStale_tick (d : Dev) (cause : Nat) : (d.goStale cause).tim.tick = d.tim.tick := by simp [Dev.goStale]

@[simp] theorem evRole_tick (kind block : Nat) (d : Dev) : (evRole kind block d).tim.tick = d.tim.tick := by simp [evRole]

@[simp] theorem goActive_tick (kind base block : Nat) (d : Dev) : (goActive kind base block d).tim.tick = d.tim.tick := by simp [goActive]

@[simp] theorem serveEnd_tick (d : Dev) : (serveEnd d).tim.tick = d.tim.tick := rfl

@[simp] theorem serveBreak_tick (d : Dev) : (serveBreak d).tim.tick = d.tim.tick := by simp [serveBreak]

@[simp] theorem modeApply_tick (m : Nat) (d : Dev) : (modeApply m d).tim.tick = d.tim.tick := by
  unfold modeApply
  extract_lets was d1 p d2 d3 idle
  have h : d3.tim.tick = d.tim.tick := by simp [d3, d2, d1]
  have hi : ∀ d, (idle d).tim.tick = d.tim.tick := fun _ => rfl
  split <;> simp [h, hi]

theorem firstRole_tick (k : Nat) (high : Bool) (d : Dev) : (firstRole k high d).tim.tick = d.tim.tick := by simp [firstRole]

@[simp] theorem roleApply_tick (k : Nat) (high : Bool) (kind : Nat) (d : Dev) : (roleApply k high kind d).tim.tick = d.tim.tick := by
  unfold roleApply
  dsimp only
  split <;> simp

/-! ## Packets -/

@[simp] theorem netFrame_tick (d : Dev) (p base dst n : Nat) : (d.netFrame p base dst n).tim.tick = d.tim.tick := by simp [Dev.netFrame]

theorem stampFrame_tick (p o t : Nat) (f : Bytes) (d : Dev) : (stampFrame p o t f d).2.tim.tick = d.tim.tick := by
  unfold stampFrame
  dsimp only
  split
  · rfl
  · split
    · rfl
    · simp

@[simp] theorem sendFrame_tick (p q : Nat) (f : Bytes) (mark : Bool) (d : Dev) : (sendFrame p q f mark d).tim.tick = d.tim.tick := by
  unfold sendFrame
  extract_lets x o r f1 f2 d1 pre _ d2
  have h : d1.tim.tick = d.tim.tick := by
    cases mark
    · rfl
    · exact stampFrame_tick _ _ _ _ _
  simp [d2, h]

@[simp] theorem txLeg_tick (t leg : Nat) (pkt : Bytes) (d : Dev) : (txLeg t leg pkt d).tim.tick = d.tim.tick := by simp [txLeg]

@[simp] theorem txSend_tick (t p n : Nat) (d : Dev) : (txSend t p n d).tim.tick = d.tim.tick := by simp [txSend]

@[simp] theorem txBacklog_tick (lo hi t : Nat) (d : Dev) : (txBacklog lo hi t d).tim.tick = d.tim.tick := by simp [txBacklog]

@[simp] theorem txDue_tick (b t : Nat) (d : Dev) : (txDue b t d).tim.tick = d.tim.tick := by
  unfold txDue
  extract_lets x u s live
  split <;> simp

@[simp] theorem countMismatch_tick (d : Dev) : (countMismatch d).tim.tick = d.tim.tick := rfl

/-! ## The roles of the pair -/

theorem takeConfirm_tick (k : Nat) (t : Bool × Nat) (d : Dev) : (takeConfirm k t d).tim.tick = d.tim.tick := by simp [takeConfirm]

theorem takeDrop_tick (d : Dev) : (takeDrop d).tim.tick = d.tim.tick := by
  unfold takeDrop
  extract_lets _ d1
  split <;> simp [d1]

theorem takeBegin_tick (k : Nat) (high : Bool) (d : Dev) : (takeBegin k high d).tim.tick = d.tim.tick := by simp [takeBegin]

@[simp] theorem sampleRole_tick (k : Nat) (arb : Bool) (d : Dev) : (sampleRole k arb d).tim.tick = d.tim.tick := by
  unfold sampleRole
  split <;> simp [firstRole_tick, takeConfirm_tick, takeDrop_tick, takeBegin_tick]

theorem staleNow_tick (c : Nat) (d : Dev) : (staleNow c d).tim.tick = d.tim.tick := by simp [staleNow]

@[simp] theorem linkAge_tick (k : Nat) (d : Dev) : (linkAge k d).tim.tick = d.tim.tick := by
  unfold linkAge
  split
  · rfl
  · rw [ite_tick]
    split
    · simp [judgeStale]
    · split <;> simp [staleNow_tick]

@[simp] theorem pairBoundary_tick (k : Nat) (arb : Bool) (d : Dev) : (pairBoundary k arb d).tim.tick = d.tim.tick := by
  unfold pairBoundary
  extract_lets d1 _ d2 d3
  have h : d2.tim.tick = d.tim.tick := by
    simp only [d2, d1, Dev.setP_tim]
    split <;> simp
  have h3 : d3.tim.tick = d2.tim.tick := by
    simp only [d3]
    split <;> simp
  simp [h, h3]

@[simp] theorem tickFrames_tick (d : Dev) : (tickFrames d).tim.tick = d.tim.tick := by simp [tickFrames, sendStatus, sendTime]

@[simp] theorem heartbeat_tick (served : Bool) (d : Dev) : (heartbeat served d).tim.tick = d.tim.tick := by simp [heartbeat]

end Sys2Proof.Machine
end

section
/-! PROOFS. The work of a tick keeps its number (O44). -/

open Sys2Proof

namespace Sys2Proof.Machine

/-! ## The work of a tick: the delay lines and the conditioned channels -/

@[simp] theorem clearLines_tick (k : Nat) (d : Dev) : (clearLines k d).tim.tick = d.tim.tick := by simp [clearLines]

@[simp] theorem pushLines_tick (d : Dev) : (pushLines d).tim.tick = d.tim.tick := by
  unfold pushLines
  split
  · rfl
  · exact forRun_tick _ _ fun i d => by split <;> simp

@[simp] theorem toneFeed_tick (t idx : Nat) (x : List Int) (live : Bool) (d : Dev) : (toneFeed t idx x live d).tim.tick = d.tim.tick :=
  congrArg (fun k => k.1.tick) (toneFeed_kept t idx x live d)

@[simp] theorem feedInTones_tick (b : Nat) (d : Dev) : (feedInTones b d).tim.tick = d.tim.tick := by simp [feedInTones]

theorem condChan_tick (c b : Nat) (match_ : Bool) (d : Dev) : (condChan c b match_ d).tim.tick = d.tim.tick := by
  unfold condChan
  extract_lets x r put fe u k h taps _ fin
  have hput : ∀ d v, (put d v).tim.tick = d.tim.tick := fun _ _ => rfl
  have hfin : ∀ v h clips, (fin v h clips).tim.tick = d.tim.tick := by simp [fin, hput]
  split
  · exact hput _ _
  · split
    · exact hput _ _
    · split
      · split
        · exact hput _ _
        · exact hfin _ _ _
      · exact hfin _ _ _

@[simp] theorem condAll_tick (b : Nat) (d : Dev) : (condAll b d).tim.tick = d.tim.tick := by simp [condAll, condChan_tick]

/-! ## The work of a tick: paths and lanes -/

@[simp] theorem rotate_tick (m : Nat) (d : Dev) : (rotate m d).tim.tick = d.tim.tick := by simp [rotate]

@[simp] theorem serve_tick (d : Dev) (q l : Nat) : (d.serve q l).tim.tick = d.tim.tick := rfl

@[simp] theorem takeover_tick (b : Nat) (d : Dev) : (takeover b d).tim.tick = d.tim.tick := by
  unfold takeover
  extract_lets d1
  have h : d1.tim.tick = d.tim.tick := by simp [d1]
  split <;> simp [h]

theorem promotePath_tick (l o j c old s : Nat) (d : Dev) : (promotePath l o j c old s d).tim.tick = d.tim.tick := by
  unfold promotePath
  extract_lets
  split <;> rfl

theorem promote_tick (l j : Nat) (outs : List Nat) (o : Nat) (d : Dev) : (promote l j outs o d).tim.tick = d.tim.tick := by
  simp [promote, promotePath_tick]

theorem combinePath_tick (l o slot m i j c s : Nat) (d : Dev) : (combinePath l o slot m i j c s d).tim.tick = d.tim.tick := rfl

theorem combineLead_tick (m l : Nat) (d : Dev) : (combineLead m l d).tim.tick = d.tim.tick := by
  unfold combineLead
  extract_lets y os i j outs d1 d2
  have h : d1.tim.tick = d.tim.tick := by simp [d1, promote_tick]
  have h2 : d2.tim.tick = d.tim.tick := by
    refine (forRun_tick os d1 fun o d => ?_).trans h
    split
    · exact forRun_tick _ _ (combinePath_tick l o _ m i j _)
    · rfl
  simp [h2]

@[simp] theorem combine_tick (m : Nat) (d : Dev) : (combine m d).tim.tick = d.tim.tick := by simp [combine, combineLead_tick]

@[simp] theorem rotateTick_tick (m : Nat) (d : Dev) : (rotateTick m d).tim.tick = d.tim.tick := by simp [rotateTick]

/-! ## The work of a tick: units -/

theorem feStart_tick (e : Nat) (d : Dev) : (feStart e d).tim.tick = d.tim.tick := by simp [feStart, Dev.setGrp]

theorem evMismatch_tick (kind id : Nat) (d : Dev) : (evMismatch kind id d).tim.tick = d.tim.tick := by
  unfold evMismatch
  extract_lets ev srcKind mine ins dk outs
  have h : ∀ side n d, (ev side n d).tim.tick = d.tim.tick := by simp [ev]
  rw [h, h]

@[simp] theorem unitUp_tick (kind i : Nat) (d : Dev) : (unitUp kind i d).tim.tick = d.tim.tick := by
  simp [unitUp, feStart_tick, evMismatch_tick]

@[simp] theorem unitDown_tick (kind i : Nat) (d : Dev) : (unitDown kind i d).tim.tick = d.tim.tick := by simp [unitDown, cnvStop]

@[simp] theorem unitTick_tick (k key : Nat) (d : Dev) : (unitTick k key d).tim.tick = d.tim.tick := by simp [unitTick]

@[simp] theorem unitsTick_tick (k : Nat) (d : Dev) : (unitsTick k d).tim.tick = d.tim.tick := by simp [unitsTick, feClear]

/-! ## The work of a tick: trajectories and law jobs -/

theorem trjEval_tick (o m : Nat) (d : Dev) : (trjEval o m d).tim.tick = d.tim.tick := by
  unfold trjEval
  extract_lets x
  split
  · split <;> rfl
  · rfl

theorem trjPath_tick (o i m s : Nat) (free_ : Bool) (d : Dev) : (trjPath o i m s free_ d).tim.tick = d.tim.tick := by simp [trjPath]

@[simp] theorem trjBlock_tick (m : Nat) (d : Dev) : (trjBlock m d).tim.tick = d.tim.tick := by
  unfold trjBlock
  extract_lets os d1 outs d2 _ d3 f
  have h1 : d1.tim.tick = d.tim.tick := forRun_tick os d fun o d => trjEval_tick o m d
  have h2 : d2.tim.tick = d1.tim.tick := by
    refine forRun_tick os d1 fun o d => ?_
    dsimp only
    split
    · split
      · exact forRun_tick _ _ fun s d => trjPath_tick _ _ _ _ _ d
      · rfl
    · rfl
  have h3 : d3.tim.tick = d.tim.tick := by
    simp only [d3]
    split
    · rfl
    · exact h2.trans h1
  clear_value f
  refine (forRun_tick os d3 fun o d => ?_).trans h3
  dsimp only
  split
  · rfl
  · rw [Dev.setObj_tim]

@[simp] theorem missJob_tick (d : Dev) (j : Job) : (d.missJob j).tim.tick = d.tim.tick := by simp [Dev.missJob]

@[simp] theorem traceJobs_tick (d : Dev) (kind n tick cyc : Nat) : (d.traceJobs kind n tick cyc).tim.tick = d.tim.tick := by
  obtain ⟨_, _, _, _, h⟩ := trace_eq d _
  exact congrArg (·.tim.tick) h

theorem issueOne_tick (l j o : Nat) (d : Dev × Nat) : (issueOne l j o d).1.tim.tick = d.1.tim.tick := by
  unfold issueOne
  dsimp only
  split
  · rfl
  · split
    · exact missJob_tick _ _
    · rfl

theorem issueFor_tick (l j : Nat) (restart : Bool) (p : Nat → Bool) (d : Dev × Nat) : (issueFor l j restart p d).1.tim.tick = d.1.tim.tick := by
  refine (forRun_fst_tick _ _ (issueOne_tick l j)).trans ?_
  cases restart <;> rfl

theorem issueLead_tick (k l : Nat) (d : Dev × Nat) : (issueLead k l d).1.tim.tick = d.1.tim.tick := by
  unfold issueLead
  extract_lets y live half split begins j1 j2 d1
  have h : d1.1.tim.tick = d.1.tim.tick := by
    simp only [d1]
    split <;> simp [issueFor_tick]
  split
  · rfl
  · split <;> simp [issueFor_tick, h]

@[simp] theorem issueJobs_tick (d : Dev) : (issueJobs d).tim.tick = d.tim.tick := by
  unfold issueJobs
  have h : ∀ l, (forRun (fun l d => issueLead d.1.tim.tick l d) l (d, 0)).1.tim.tick = d.tim.tick :=
    fun l => forRun_fst_tick l (d, 0) fun l d => issueLead_tick _ l d
  split
  · rfl
  · dsimp only
    split
    · exact h _
    · exact (traceJobs_tick _ _ _ _ _).trans (h _)

/-! ## The work of a tick: room correction -/

theorem cnvSwap_tick (k m s : Nat) (d : Dev) : (cnvSwap k m s d).tim.tick = d.tim.tick := by
  unfold cnvSwap
  extract_lets o o'
  split <;> simp

theorem t1Frame_tick (f s : Nat) (d : Dev) : (t1Frame f s d).tim.tick = d.tim.tick := rfl

theorem t2Frame_tick (f : Nat) (inFade : Bool) (s : Nat) (d : Dev) : (t2Frame f inFade s d).tim.tick = d.tim.tick := rfl

theorem t2Close_tick (f : Nat) (d : Dev) : (t2Close f d).tim.tick = d.tim.tick :=
  forRun_tick (f := t2Frame f _) _ _ (t2Frame_tick f _)

theorem cnvFlag_tick (s : Nat) (d : Dev) : (cnvFlag s d).tim.tick = d.tim.tick := rfl

@[simp] theorem cnvTick_tick (k : Nat) (d : Dev) : (cnvTick k d).tim.tick = d.tim.tick := by
  unfold cnvTick
  extract_lets m u d1 os d2 d3 d4
  have h1 : d1.tim.tick = d.tim.tick := by simp [d1, cnvStart]
  have h2 : d2.tim.tick = d.tim.tick := (forRun_tick _ _ (cnvSwap_tick k m)).trans h1
  have h3 : d3.tim.tick = d.tim.tick := by simp [d3, forRun_tick _ _ (t1Frame_tick _), h2]
  have h4 : d4.tim.tick = d.tim.tick := by simp [d4, t2Close_tick, h3]
  split
  · exact h1
  · exact (forRun_tick _ _ cnvFlag_tick).trans h4

/-! ## The work of a tick: migrations and plans -/

@[simp] theorem beginMigration_tick (l a b replan : Nat) (d : Dev) : (beginMigration l a b replan d).tim.tick = d.tim.tick := rfl

@[simp] theorem reclock_tick (p : Nat) (d : Dev) : (reclock p d).tim.tick = d.tim.tick := by
  unfold reclock
  extract_lets
  split <;> rfl

@[simp] theorem replanDone_tick (j : Nat) (d : Dev) : (replanDone j d).tim.tick = d.tim.tick := by
  unfold replanDone
  dsimp only
  split <;> simp

@[simp] theorem migrationEnd_tick (k : Nat) (d : Dev) : (migrationEnd k d).tim.tick = d.tim.tick := by
  unfold migrationEnd
  split
  · rfl
  · split
    · split
      · rfl
      · split <;> simp
    · rfl

theorem proveGo_tick (n : Nat) (d : Dev) : (proveGo n d).tim.tick = d.tim.tick := by
  induction n generalizing d with
  | zero => rfl
  | succ n ih =>
    unfold proveGo
    split
    · rfl
    · split
      · rfl
      · split
        · simp [ih]
        · split
          · split <;> simp
          · simp [ih]

theorem laneGo_tick (p : Nat) (d : Dev) : (laneGo p d).tim.tick = d.tim.tick := by
  unfold laneGo
  extract_lets x mine d1
  split
  · rfl
  · split
    · rfl
    · split
      · rfl
      · split
        · simp
        · split
          · simp [d1]
          · split
            · rfl
            · split <;> simp

@[simp] theorem planGo_tick (d : Dev) : (planGo d).tim.tick = d.tim.tick := by simp [planGo, proveGo_tick, laneGo_tick]

/-! ## The end of the work of a tick: entry to DOZE -/

theorem drcDo_tick (d : Dev) (r : DReq) : (d.drcDo r).tim.tick = d.tim.tick := by simp [Dev.drcDo]

@[simp] theorem drcDrain_tick (d : Dev) : d.drcDrain.tim.tick = d.tim.tick := by simp [Dev.drcDrain, drcDo_tick]

@[simp] theorem drcCond_tick (d : Dev) (c : Cond) : (d.drcCond c).tim.tick = d.tim.tick := by
  simp [Dev.drcCond, Dev.t2Check, Dev.t2Out, Dev.setCond]

theorem portDown_tick (p : Nat) (d : Dev) : (portDown p d).tim.tick = d.tim.tick := by simp [portDown]

theorem pulseEnd_tick (pin : Nat) (d : Dev) : (pulseEnd pin d).tim.tick = d.tim.tick := by simp [pulseEnd, Dev.advance]

@[simp] theorem setPower_tick (d : Dev) (p : PowSt) : (d.setPower p).tim.tick = d.tim.tick := by simp [Dev.setPower]

@[simp] theorem beginEntry_tick (d : Dev) (hib : Bool) : (d.beginEntry hib).tim.tick = d.tim.tick := by
  simp [Dev.beginEntry, portDown_tick, pulseEnd_tick]

/-! ## The tick -/

/-- The stages begin their work on a tick whose work meets no fault. -/
theorem tickWork_tick (d : Dev) (h : d.pair.waitFaults = []) : (tickWork d).tim.tick = d.tim.tick := by
  simp [tickWork, h]

/-- 01 R22: the boundary makes the tick in progress the next one; what ends the tick before it is done by then. -/
theorem tickGo_tick (i : TickIn) (d : Dev) (h : i.faults = []) : (tickGo i d).tim.tick = d.tim.tick + 1 := by
  unfold tickGo
  extract_lets k d1 d2 _ d3 fresh d4 d5 d6 d7 d8 _ d9 wait _ d10 d11
  have h5 : d5.tim.tick = k := by simp [d5, d4, d3]
  have h8 : d8.tim.tick = k := by simp [d8, d7, d6, h5]
  clear_value d8
  have h9 : d9.tim.tick = k := h8
  have h10 : d10.tim.tick = k := by simp only [d10, Dev.setP_tim, h9]
  have h11 : d11.tim.tick = k := by
    simp only [d11]
    split
    · exact h10
    · exact (tickWork_tick d10 h).trans h10
  simp [forget, h11, k]

end Sys2Proof.Machine
end

section
/-! PROOFS. Tick boundaries and the boundary of timed commands (O44). -/

open Sys2Proof

namespace Sys2Proof.Machine

/-! ## The tick boundary (01 R22) -/

/-- A boundary that names units the device has, and no fault, runs. -/
theorem exec_tickBoundary {s : State} {i : TickIn} {d : Dev} (hu : ∀ x ∈ i.tdm, x.1 < 1280) (hf : i.faults = [])
    (hd : (if s.dev.ticking then tickGo i s.dev else s.dev) = d) : exec (.tickBoundary i) s = .next (leaves s d) := by
  have hg : i.tdm.all (fun x => decide (x.1 < 1280)) = true := List.all_eq_true.mpr fun x hx => decide_eq_true (hu x hx)
  show run (_ && _) _ s = _
  rw [hg, hf]
  exact run_leaves hd

theorem tickBoundary_ticks {s : State} {i : TickIn} (hu : ∀ x ∈ i.tdm, x.1 < 1280) (hf : i.faults = []) (ht : s.dev.ticking = true) :
    Completes (.tickBoundary i) s (fun t => t.dev.tim.tick = s.dev.tim.tick + 1 ∧ t.pending = s.pending) :=
  ⟨_, exec_tickBoundary hu hf (if_pos ht), (congrArg Tim.tick (leaves_tim s _)).trans (tickGo_tick i s.dev hf), leaves_pending s _⟩

theorem tickBoundary_idle {s : State} {i : TickIn} (hu : ∀ x ∈ i.tdm, x.1 < 1280) (hf : i.faults = []) (ht : s.dev.ticking = false) :
    Does (.tickBoundary i) [] s (fun _ => True) :=
  does_nothing (exec_tickBoundary hu hf (if_neg (by simp [ht])))

theorem tickBoundary_fault (s : State) {i : TickIn} (h : ∃ x ∈ i.tdm, 1280 ≤ x.1) : exec (.tickBoundary i) s = .fault .noSuchUnit := by
  obtain ⟨x, hx, hn⟩ := h
  have hg : i.tdm.all (fun x => decide (x.1 < 1280)) = false :=
    List.all_eq_false.mpr ⟨x, hx, by simpa using hn⟩
  show run (_ && _) _ s = _
  rw [hg]
  rfl

/-! ## Timed commands at their boundary (14 R374) -/

/-- The device at the boundary of its one waiting timed command: its time is that of the boundary, and nothing waits. -/
def Dev.atBoundary (d : Dev) : Dev :=
  { d.advance (boundT d.rate (d.tim.tick + 1)) with hst := { d.hst with timed := [] } }

theorem timedBoundary_one {d : Dev} {c : Timed} (h : d.hst.timed = [c]) (hd : d.timedDue c = true) : timedBoundary d = timedApply d.atBoundary c := by
  have ha : (d.advance (boundT d.rate (d.tim.tick + 1))).timedDue c = true := hd
  simp [timedBoundary, h, hd, ha, Dev.atBoundary]

theorem timedBoundary_none {d : Dev} (h : ∀ c ∈ d.hst.timed, d.tim.tick + 1 + leadOf c.op < c.block) : timedBoundary d = d := by
  have hn : d.hst.timed.filter d.timedDue = [] :=
    List.filter_eq_nil_iff.mpr fun c hc => by simpa [Dev.timedDue] using h c hc
  simp [timedBoundary, hn]

/-- 01 R32: a setting that no later one forestalls is made. -/
theorem setItem_newest {d : Dev} {c : Ctx} {key b : Nat} (f : Dev → Dev)
    (h : ∀ b' o, tget none d.hst.lastSet key = some (b', o) → ¬ (b' = b ∧ c.ord < o)) :
    d.setItem c key b f = f { d with hst := { d.hst with lastSet := tput none d.hst.lastSet key (some (b, c.ord)) } } := by
  unfold Dev.setItem
  dsimp only
  split
  · next b' o heq => exact if_neg (h b' o heq)
  · rfl

theorem timedDue_of_gainSet {d : Dev} {c : Timed} (ho : c.op = 0x0711) (hb : c.block ≤ d.tim.tick + 3) : d.timedDue c = true := by
  simp only [Dev.timedDue, ho, decide_eq_true_eq]
  exact hb

/-- The gain `g` of object `o` set for block `b` by the command of place `n` in the order of taking (01 R32). -/
def Dev.gainSet (d : Dev) (o b n : Nat) (g : Int) : Dev :=
  Dev.setObj { d with hst := { d.hst with lastSet := tput none d.hst.lastSet (4 * o) (some (b, n)) } } o { d.obj o with gain := g }

/-- OBJ_GAIN_SET passes its checks and sets the gain for the block that its context names. -/
theorem cmdObjGainSet_sets {d : Dev} {x : Ctx} {p : Bytes} {b : Nat} (hl : p.length = 8) (ho : u16 p 0 < nObj d.rate) (hz : u16 p 2 = 0)
    (hb : x.blk = some b) (hs : x.slot = none)
    (hn : ∀ b' o, tget none d.hst.lastSet (4 * u16 p 0) = some (b', o) → ¬ (b' = b ∧ x.ord < o)) :
    cmdObjGainSet.body x p d = ok (d.gainSet (u16 p 0) b x.ord (s32 p 4)) := by
  have hr : rsv p 2 2 = false := by rw [rsv, show uN 2 p 2 = 0 from hz]; rfl
  show checks _ d (ok (d.setItem x _ _ _)) = _
  rw [hb, hs, Option.getD_some, setItem_newest _ hn]
  simp [checks, firstErr, hl, hr, Nat.not_le.mpr ho, Dev.gainSet]

theorem cmdObjGainSet_refuses {d : Dev} {x : Ctx} {p : Bytes} (hl : p.length ≠ 8) : cmdObjGainSet.body x p d = no 0x101 d := by
  show checks _ d _ = _
  simp [checks, firstErr, hl]

theorem timedApply_gainSet {d : Dev} {c : Timed} (hop : c.op = 0x0711) (hl : c.payload.length = 8) (ho : u16 c.payload 0 < nObj d.rate)
    (hz : u16 c.payload 2 = 0)
    (hn : ∀ b o, tget none d.hst.lastSet (4 * u16 c.payload 0) = some (b, o) → ¬ (b = c.block ∧ c.ord < o)) :
    timedApply d c = d.gainSet (u16 c.payload 0) c.block c.ord (s32 c.payload 4) := by
  unfold timedApply
  rw [show batchCmd c.op = some cmdObjGainSet by rw [hop]; rfl]
  dsimp only
  rw [cmdObjGainSet_sets hl ho hz rfl rfl hn]
  exact if_pos (beq_self_eq_true d.units)

theorem timedApply_refused {d : Dev} {c : Timed} (hop : c.op = 0x0711) (hl : c.payload.length ≠ 8) : timedApply d c = d.timedDropped c 3 0x101 := by
  unfold timedApply
  rw [show batchCmd c.op = some cmdObjGainSet by rw [hop]; rfl]
  dsimp only
  rw [cmdObjGainSet_refuses hl]
  exact if_pos (show 256 ≤ 0x101 by decide)

theorem timedCommandBoundary_sets {s : State} {c : Timed} (ht : s.dev.hst.timed = [c]) (hop : c.op = 0x0711) (hb : c.block ≤ s.dev.tim.tick + 3)
    (hl : c.payload.length = 8) (ho : u16 c.payload 0 < nObj s.dev.rate) (hz : u16 c.payload 2 = 0)
    (hn : ∀ b o, tget none s.dev.hst.lastSet (4 * u16 c.payload 0) = some (b, o) → ¬ (b = c.block ∧ c.ord < o)) :
    Does .timedCommandBoundary [.tim, .trj] s (fun t => t.dev.hst.timed = [] ∧ t.dev.tim.tick = s.dev.tim.tick ∧
      At {} s.dev.trj.obj t.dev.trj.obj (u16 c.payload 0) { s.dev.obj (u16 c.payload 0) with gain := s32 c.payload 4 }) := by
  have hd := (timedBoundary_one ht (timedDue_of_gainSet hop hb)).trans (timedApply_gainSet (d := s.dev.atBoundary) hop hl ho hz hn)
  refine does_changes (run_leaves hd) ?_ (htim := .inl (by decide)) (htrj := .inl (by decide))
  rw [leaves_hst_timed, leaves_tim, leaves_trj]
  exact ⟨rfl, rfl, tget_tput_self _ _ _ _, fun _ h => tget_tput_other _ _ _ h⟩

/-- An event raised is held, unless more than 32 are. -/
theorem raises_raise {s : State} {d : Dev} (code : Nat) (p : Bytes) (hq : d.hst.evq = s.dev.hst.evq) : Raises s (leaves s (d.raise code 0 p)) code 0 p :=
  fun h => ⟨_, mem_leaves (mem_hold_self _ (hq ▸ h)), rfl, rfl, rfl⟩

theorem timedCommandBoundary_drops {s : State} {c : Timed} (ht : s.dev.hst.timed = [c]) (hop : c.op = 0x0711) (hb : c.block ≤ s.dev.tim.tick + 3)
    (hl : c.payload.length ≠ 8) : Does .timedCommandBoundary [.tim] s (fun t => t.dev.hst.timed = [] ∧ t.dev.tim.tick = s.dev.tim.tick ∧
      Raises s t 0x8110 0 (le 1 c.tag ++ le 1 3 ++ le 2 0x0711 ++ le 4 c.seq ++ le 8 c.block ++ le 2 0x101 ++ zb 6)) := by
  have hd := (timedBoundary_one ht (timedDue_of_gainSet hop hb)).trans (timedApply_refused (d := s.dev.atBoundary) hop hl)
  rw [Dev.timedDropped, hop] at hd
  have hr := raises_raise (d := s.dev.atBoundary) 0x8110 (le 1 c.tag ++ le 1 3 ++ le 2 0x0711 ++ le 4 c.seq ++ le 8 c.block ++ le 2 0x101 ++ zb 6)
    (s := s) rfl
  obtain ⟨_, _, he⟩ := Dev.raise_eq s.dev.atBoundary 0x8110 0 (le 1 c.tag ++ le 1 3 ++ le 2 0x0711 ++ le 4 c.seq ++ le 8 c.block ++ le 2 0x101 ++ zb 6)
  rw [he] at hd hr
  refine does_changes (run_leaves hd) ⟨?_, ?_, hr⟩ (htim := .inl (by decide))
  · rw [leaves_hst_timed]; rfl
  · rw [leaves_tim]; rfl

/-! ## The obligation -/

/-- Settles O44, from the lemmas above, a part of the statement each. -/
theorem boundaries : Obligations.Boundaries :=
  ⟨fun _ _ hu hf ht => tickBoundary_ticks hu hf ht,
   fun _ _ hu hf ht => tickBoundary_idle hu hf ht,
   fun s _ h => tickBoundary_fault s h,
   fun _ ht hb hw => outBlockHandover_hands ht hb hw,
   fun _ h => outBlockHandover_idle h,
   fun _ _ ht hop hb hl ho hz hn => timedCommandBoundary_sets ht hop hb hl ho hz hn,
   fun _ _ ht hop hb hl => timedCommandBoundary_drops ht hop hb hl,
   fun _ h => does_nothing (run_leaves (timedBoundary_none h))⟩

end Sys2Proof.Machine
end

section
/-! PROOFS. What an event of the time unit leaves: a strike, an event raised, a snapshot (O4, O5, O6). -/

open Sys2Proof

namespace Sys2Proof.Machine

/-! ## Frames of the time unit -/

/-- An event that changes time, the health counts, the undone cycles and the held events changes no other kind of state; each of the first
three is named in `w` or stays. -/
theorem does_timed {i : Instr} {w : List Part} {s : State} {d : Dev} {eff : State → Prop} (hi : exec i s = .next (leaves s d))
    (hd : d = { s.dev with tim := d.tim, hlt := d.hlt, undo := d.undo, hst := { s.dev.hst with evq := d.hst.evq, evLost := d.hst.evLost } })
    (he : eff (leaves s d)) (htim : Part.tim ∈ w ∨ d.tim = s.dev.tim := by exact .inr rfl)
    (hhlt : Part.hlt ∈ w ∨ d.hlt = s.dev.hlt := by exact .inr rfl) (hundo : Part.undo ∈ w ∨ d.undo = s.dev.undo := by exact .inr rfl) :
    Does i w s eff :=
  does_leaves hi (by rw [hd]) (fun p hp => by
    rw [hd]
    cases p
    case tim => exact htim.resolve_left hp
    case hlt => exact congrArg (fun h : Hlt => { h with flags := s.dev.hlt.flags }) (hhlt.resolve_left hp)
    case undo => exact hundo.resolve_left hp
    case rings => exact ⟨rfl, rfl, rfl, rfl, rfl, rfl⟩
    case irq => exact ⟨rfl, rfl, rfl⟩
    case mbox => exact fun _ => rfl
    all_goals rfl) he

/-- An event that sets the time unit alone. -/
theorem does_tim {i : Instr} {s : State} {tm : Tim} {eff : State → Prop} (hi : exec i s = .next (leaves s { s.dev with tim := tm }))
    (he : ∀ t : State, t.dev.tim = tm → eff t) : Does i [.tim] s eff :=
  does_timed hi rfl (he _ (leaves_tim _ _)) (.inl (List.mem_singleton_self _))

/-! ## Tables written at one key -/

theorem at_tput {α : Type} [DecidableEq α] (z : α) (t : Tbl α) (k : Nat) (v : α) : At z t (tput z t k v) k v :=
  ⟨tget_tput_self _ _ _ _, fun _ h => tget_tput_other _ _ _ h⟩

theorem at_tdel {α : Type} (z : α) (t : Tbl α) (k : Nat) : At z t (tdel t k) k z := ⟨tget_tdel_self _ _ _, fun _ h => tget_tdel_other _ _ h⟩

/-! ## Strikes (17 R431) -/

/-- An entry of a strike joins the fault log alone; the channels stay. -/
theorem logCh_strike (d : Dev) (c cause src det : Nat) : ∃ l : Hlt, d.logCh c 0 cause src det = { d with hlt := l } ∧ l.ch = d.hlt.ch :=
  ⟨_, rfl, rfl⟩

/-- 17 R431: a channel after a strike in tick `k`. -/
def Chan.struck (x : Chan) (k : Nat) : Chan := { x with level := x.level + 1, leak := true, strikes := x.strikes + 1, lastTick := some k }

/-- A strike that retires nothing changes the health counts alone. -/
theorem Strikable.strikeBy_eq {s : State} {c : Nat} (h : Strikable s c) {d : Dev} (ret : Dev → Dev) (src det : Nat) (hh : d.hlt = s.dev.hlt)
    (ht : d.tim.tick = s.dev.tim.tick) : ∃ l : Hlt, Dev.strikeBy ret d c src det = { d with hlt := l } ∧
      tget {} l.ch c = (s.dev.chan c).struck s.dev.tim.tick := by
  obtain ⟨hr, hl, hv⟩ := h
  have hc : d.chan c = s.dev.chan c := by rw [Dev.chan, hh, Dev.chan]
  obtain ⟨l, hlog, hch⟩ := logCh_strike
    { d with hlt := { d.hlt with ch := tput {} d.hlt.ch c ((s.dev.chan c).struck s.dev.tim.tick) } } c 0 src det
  refine ⟨l, ?_, by simp only [hch, tget_tput_self]⟩
  unfold Dev.strikeBy
  dsimp only
  rw [hc, ht, if_neg (by simp [hr]), if_neg hl, if_neg (by omega)]
  exact hlog

/-- An event that sets time and then strikes a channel. -/
theorem does_struck {i : Instr} {w : List Part} {s : State} {c src det : Nat} {ret : Dev → Dev} {tm : Tim} {eff : State → Prop}
    (h : Strikable s c) (hi : exec i s = .next (leaves s (Dev.strikeBy ret { s.dev with tim := tm } c src det)))
    (he : ∀ t : State, t.dev.tim = tm → Struck s t c → eff t) (hw : Part.hlt ∈ w) (htim : Part.tim ∈ w ∨ tm = s.dev.tim)
    (hk : tm.tick = s.dev.tim.tick := by exact rfl) : Does i w s eff := by
  obtain ⟨l, hl, hch⟩ := h.strikeBy_eq (d := { s.dev with tim := tm }) ret src det rfl hk
  rw [hl] at hi
  refine does_timed hi rfl (he _ (leaves_tim _ _) ?_) htim (.inl hw)
  rw [Struck, Dev.chan, leaves_hlt_ch]
  exact hch

/-! ## Events raised (14 R380) -/

theorem raises_of_raise {s : State} {d : Dev} (code : Nat) {inst : Nat} (p : Bytes) (hn : inst ≤ 254) (hq : d.hst.evq = s.dev.hst.evq) :
    Raises s (leaves s (d.raise code inst p)) code inst p :=
  fun h => ⟨_, mem_leaves (mem_hold_self _ (hq ▸ h)), rfl, if_neg (Nat.not_lt.mpr hn), rfl⟩

/-- An event that sets time and undone cycles and then raises an event. -/
theorem does_raises {i : Instr} {w : List Part} {s : State} {tm : Tim} {u : Tbl (Option Undo)} {code inst : Nat} {p : Bytes} {eff : State → Prop}
    (hi : exec i s = .next (leaves s (Dev.raise { s.dev with tim := tm, undo := u } code inst p))) (hn : inst ≤ 254)
    (he : ∀ t : State, t.dev.tim = tm → Raises s t code inst p → eff t) (htim : Part.tim ∈ w ∨ tm = s.dev.tim := by exact .inr rfl)
    (hundo : Part.undo ∈ w ∨ u = s.dev.undo := by exact .inr rfl) : Does i w s eff := by
  have hr := raises_of_raise (s := s) (d := { s.dev with tim := tm, undo := u }) code p hn rfl
  obtain ⟨_, _, h⟩ := Dev.raise_eq { s.dev with tim := tm, undo := u } code inst p
  rw [h] at hi hr
  exact does_timed hi rfl (he _ (leaves_tim _ _) hr) htim (hundo := hundo)

/-! ## Snapshots (02 R71) -/

/-- A table mapped by what leaves the unlisted value reads the mapped values. -/
theorem tget_map {α : Type} {z : α} (f : α → α) (t : Tbl α) (k : Nat) (hf : f z = z) :
    tget z (t.map (fun x => (x.1, f x.2))) k = f (tget z t k) := by
  induction t with
  | nil => exact hf.symm
  | cons x r ih =>
    simp only [List.map_cons, tget]
    split
    · rfl
    · exact ih

theorem snapBegin_port (d : Dev) (p : Nat) : (snapBegin d).port p = { d.port p with shd := (d.port p).ctr } :=
  tget_map (fun x : Port => { x with shd := x.ctr }) _ _ rfl

theorem snapBegin_rx (d : Dev) (r : Nat) : (snapBegin d).rx r = { d.rx r with shd := (d.rx r).ctr } :=
  tget_map (fun x : RxStr => { x with shd := x.ctr }) _ _ rfl

theorem snapBegin_tx (d : Dev) (t : Nat) : (snapBegin d).tx t = { d.tx t with shd := (d.tx t).ctr } :=
  tget_map (fun x : TxStr => { x with shd := x.ctr }) _ _ rfl

theorem snapBegin_tc (d : Dev) (m : Nat) : (snapBegin d).tc m = { d.tc m with shd := (d.tc m).ctr } :=
  tget_map (fun x : Tdm => { x with shd := x.ctr }) _ _ rfl

theorem snapBegin_madi (d : Dev) (m : Nat) : (snapBegin d).madi m = { d.madi m with shd := (d.madi m).ctr } :=
  tget_map (fun x : Madi => { x with shd := x.ctr }) _ _ rfl

theorem snapBegin_chan (d : Dev) (c : Nat) : (snapBegin d).chan c = { d.chan c with shadow := (d.chan c).strikes } :=
  tget_map (fun x : Chan => { x with shadow := x.strikes }) _ _ rfl

theorem leaves_port (s : State) (d : Dev) (p : Nat) : (leaves s d).dev.port p = d.port p := by simp only [Dev.port, leaves_net]
theorem leaves_rx (s : State) (d : Dev) (r : Nat) : (leaves s d).dev.rx r = d.rx r := by simp only [Dev.rx, leaves_str]
theorem leaves_tx (s : State) (d : Dev) (t : Nat) : (leaves s d).dev.tx t = d.tx t := by simp only [Dev.tx, leaves_str]
theorem leaves_tc (s : State) (d : Dev) (m : Nat) : (leaves s d).dev.tc m = d.tc m := by simp only [Dev.tc, leaves_sap]
theorem leaves_madi (s : State) (d : Dev) (m : Nat) : (leaves s d).dev.madi m = d.madi m := by simp only [Dev.madi, leaves_sap]
theorem leaves_chan (s : State) (d : Dev) (c : Nat) : (leaves s d).dev.chan c = d.chan c := by simp only [Dev.chan, leaves_hlt_ch]

/-- An event that sets the time unit and then begins a snapshot. -/
theorem does_snapBegin {i : Instr} {s : State} {tm : Tim} {eff : State → Prop}
    (hi : exec i s = .next (leaves s (snapBegin { s.dev with tim := tm }))) (he : eff (leaves s (snapBegin { s.dev with tim := tm }))) :
    Does i [.tim, .net, .str, .sap, .hlt] s eff :=
  does_leaves hi rfl (fun p hp => by
    cases p
    case tim | net | str | sap | hlt => exact absurd (by decide) hp
    case rings => exact ⟨rfl, rfl, rfl, rfl, rfl, rfl⟩
    case irq => exact ⟨rfl, rfl, rfl⟩
    case mbox => exact fun _ => rfl
    all_goals rfl) he

theorem snapNow_begins {s : State} (h : s.dev.tim.snapBusy = false) : Does .snapNow [.tim, .net, .str, .sap, .hlt] s (fun t =>
    t.dev.tim = { s.dev.tim with snapBusy := true, snapSeq := s.dev.tim.snapSeq + 1 } ∧
    (∀ p, t.dev.port p = { s.dev.port p with shd := (s.dev.port p).ctr }) ∧
    (∀ r, t.dev.rx r = { s.dev.rx r with shd := (s.dev.rx r).ctr }) ∧
    (∀ x, t.dev.tx x = { s.dev.tx x with shd := (s.dev.tx x).ctr }) ∧
    (∀ c, t.dev.tc c = { s.dev.tc c with shd := (s.dev.tc c).ctr }) ∧
    (∀ m, t.dev.madi m = { s.dev.madi m with shd := (s.dev.madi m).ctr }) ∧
    (∀ c, t.dev.chan c = { s.dev.chan c with shadow := (s.dev.chan c).strikes })) :=
  does_snapBegin (tm := s.dev.tim) (run_leaves (f := snapshot) (if_neg (by simp [h])))
    ⟨leaves_tim _ _, fun _ => (leaves_port ..).trans (snapBegin_port ..), fun _ => (leaves_rx ..).trans (snapBegin_rx ..),
     fun _ => (leaves_tx ..).trans (snapBegin_tx ..), fun _ => (leaves_tc ..).trans (snapBegin_tc ..),
     fun _ => (leaves_madi ..).trans (snapBegin_madi ..), fun _ => (leaves_chan ..).trans (snapBegin_chan ..)⟩

theorem snapNow_queues {s : State} (h : s.dev.tim.snapBusy = true) : Does .snapNow [.tim] s (fun t =>
    t.dev.tim = { s.dev.tim with snapQueued := s.dev.tim.snapQueued + 1 }) :=
  does_tim (run_leaves (f := snapshot) (if_pos h)) fun _ ht => ht

theorem snapshotCopyDone_ends {s : State} (h : s.dev.tim.snapBusy = true) (hq : s.dev.tim.snapQueued = 0) :
    Does .snapshotCopyDone [.tim] s (fun t => t.dev.tim = { s.dev.tim with snapBusy := false, snapQueued := 0 }) := by
  refine does_tim (run_leaves (f := snapDone) ?_) fun _ ht => ht
  simp [snapDone, h, hq]

theorem snapshotCopyDone_begins {s : State} {n : Nat} (h : s.dev.tim.snapBusy = true) (hq : s.dev.tim.snapQueued = n + 1) :
    Does .snapshotCopyDone [.tim, .net, .str, .sap, .hlt] s (fun t =>
      t.dev.tim = { s.dev.tim with snapBusy := true, snapQueued := n, snapSeq := s.dev.tim.snapSeq + 1 } ∧
      (∀ p, (t.dev.port p).shd = (s.dev.port p).ctr) ∧ (∀ c, (t.dev.chan c).shadow = (s.dev.chan c).strikes)) := by
  have hd : snapDone s.dev = snapBegin { s.dev with tim := { s.dev.tim with snapBusy := false, snapQueued := n } } := by
    simp [snapDone, h, hq]
  refine does_snapBegin (run_leaves (f := snapDone) hd) ⟨leaves_tim _ _, fun p => ?_, fun c => ?_⟩
  · rw [leaves_port, snapBegin_port]; rfl
  · rw [leaves_chan, snapBegin_chan]; rfl

/-- Settles O5, from the lemmas above, a part of the statement each. -/
theorem snapshots : Obligations.Snapshots :=
  ⟨fun _ h => snapNow_begins h, fun _ h => snapNow_queues h, fun _ h hq => snapshotCopyDone_ends h hq,
   fun _ _ h hq => snapshotCopyDone_begins h hq⟩

end Sys2Proof.Machine
end

section
/-! PROOFS. The events of time (O6). -/

open Sys2Proof

namespace Sys2Proof.Machine

/-! ## Loss of lock (02 R50, R53) -/

/-- The time unit after a lock is lost at its present instant. -/
def Tim.unlocked (x : Tim) : Tim := { x with quality := .holdover, qualSet := 1, uBase := some 1000, uSince := x.now, lockRun := 0, lockEst := [] }

theorem loseLock_unlocked {d : Dev} (h : d.tim.quality ≠ .locked) : d.loseLock = d := if_neg (by simpa using h)

theorem loseLock_locked {d : Dev} (h : d.tim.quality = .locked) :
    d.loseLock = Dev.strikeBy (fun d => d.retire1 1173 1 2) { d with tim := d.tim.unlocked } 1173 0 0 := if_pos (by simp [h])

/-- At the base instant the uncertainty is the base. -/
theorem uNow_unlocked {d : Dev} {x : Tim} (h : d.tim = x.unlocked) : d.uNow = some 1000 := by simp [Dev.uNow, h, Tim.unlocked, ceilDiv]

theorem masterLost_drops {s : State} (hp : s.dev.tim.ptpS.slavePort ≠ 255) (hq : s.dev.tim.quality ≠ .locked) : Does .masterLost [.tim] s (fun t =>
    t.dev.tim.ptpS.slavePort = 255 ∧ t.dev.tim.ptpS.masterId = 0 ∧ t.dev.tim.quality = s.dev.tim.quality) :=
  does_tim (run_leaves (f := masterLost) ((if_neg hp).trans (loseLock_unlocked (d := s.dev.dropMaster) hq)))
    fun _ ht => by rw [ht]; exact ⟨rfl, rfl, rfl⟩

theorem masterLost_strikes {s : State} (hp : s.dev.tim.ptpS.slavePort ≠ 255) (hq : s.dev.tim.quality = .locked) (hk : Strikable s 1173) :
    Does .masterLost [.tim, .hlt] s (fun t =>
      t.dev.tim.ptpS.slavePort = 255 ∧ t.dev.tim.quality = .holdover ∧ t.dev.uNow = some 1000 ∧ Struck s t 1173) :=
  does_struck hk (run_leaves (f := masterLost) ((if_neg hp).trans (loseLock_locked (d := s.dev.dropMaster) hq)))
    (fun _ ht hs => ⟨by rw [ht]; rfl, by rw [ht]; rfl, uNow_unlocked ht, hs⟩) (by decide) (.inl (by decide))

theorem ppsInMissing_strikes {s : State} (hm : s.dev.tim.ppsMode = 2) (hq : s.dev.tim.quality = .locked) (hk : Strikable s 1173) :
    Does .ppsInMissing [.tim, .hlt] s (fun t => t.dev.tim.quality = .holdover ∧ t.dev.uNow = some 1000 ∧ Struck s t 1173) :=
  does_struck hk (run_leaves (f := ppsMissing) ((if_pos hm).trans (loseLock_locked hq)))
    (fun _ ht hs => ⟨by rw [ht]; rfl, uNow_unlocked ht, hs⟩) (by decide) (.inl (by decide))

/-! ## PPS, pins and media clocks (02 R60 to R63) -/

theorem ppsInEdge_records {s : State} {n : Nat} (hm : s.dev.tim.ppsMode = 1)
    (hl : (((n : Int) - second * rne n second).natAbs : Int) ≤ s.dev.tim.ppsLimit * 256) : Does (.ppsInEdge n) [.tim] s (fun t =>
      t.dev.tim = { s.dev.tim with now := max s.dev.tim.now (n * 2 ^ 24), ppsSeen := true
                                   ppsIn := BitVec.ofInt 32 (q248 ((n : Int) - second * rne n second)) }) := by
  refine does_tim (run_leaves (f := ppsEdge n) ?_) fun _ ht => ht
  have h0 : (s.dev.advance n).tim.ppsMode ≠ 0 := by simp [Dev.advance, hm]
  have h2 : (s.dev.advance n).tim.ppsMode ≠ 2 := by simp [Dev.advance, hm]
  exact (if_neg h0).trans ((if_neg h2).trans (if_neg (Int.not_lt.mpr hl)))

theorem trigOutPulseEnd_ends {s : State} {n : Nat} (hn : n < 8) (hp : tget 0 s.dev.tim.toutPulse n ≠ 0) :
    Does (.trigOutPulseEnd n) [.tim] s (fun t => At 0 s.dev.tim.toutPulse t.dev.tim.toutPulse n 0 ∧
      (∀ c, tget none s.dev.tim.toutNext n = some c → tget (true, 0) t.dev.tim.tout n = c ∧ tget none t.dev.tim.toutNext n = none)) := by
  refine does_tim (run_below hn (if_neg hp)) fun t ht => ?_
  rw [ht]
  refine ⟨at_tdel _ _ _, fun c hc => ⟨?_, tget_tdel_self _ _ _⟩⟩
  simp [Dev.advance, hc]

theorem mclkSwitch_ends {s : State} {n : Nat} (hn : n < 4) :
    Does (.mclkSwitch n) [.tim] s (fun t => At false s.dev.tim.mclkSwitching t.dev.tim.mclkSwitching n false) :=
  does_tim (run_below hn rfl) fun _ ht => by rw [ht]; exact at_tdel _ _ _

/-! ## The servo, and the leak of a channel (02 R49, 17 R431, R439) -/

theorem offsetLargeReport_raises {s : State} (he : s.dev.tim.servoEn = true) (ha : s.dev.audioStopped = false)
    (ho : 1000 * 65536 < s.dev.tim.offset.natAbs) :
    Does .offsetLargeReport [] s (fun t => Raises s t 0x8200 0 (leI 8 (rne s.dev.tim.offset 65536))) :=
  does_raises (run_leaves (f := offsetLarge) (if_pos (by simp only [he, ha, ho]; rfl))) (by decide) fun _ _ hr => hr

theorem servoCheck_strikes {s : State} {dt dr : Int} (hr : 0 < dr)
    (he : 250 * dr * 30517578125 < ((dt * 10 ^ 6 - dr * 30517578125).natAbs : Int) * 10 ^ 6) (hk : Strikable s 1173) :
    Does (.servoCheck dt dr) [.hlt] s (fun t => Struck s t 1173) :=
  does_struck hk (run_leaves (f := servoCheck dt dr) (if_pos ⟨hr, he⟩)) (fun _ _ hs => hs) (by decide) (.inr rfl)

theorem strikeLeak_leaks {s : State} {c : Nat} (hc : c < 1176) (hr : (s.dev.chan c).retired = false) (hl : (s.dev.chan c).level ≠ 0) :
    Does (.strikeLeak c) [.hlt] s (fun t => At {} s.dev.hlt.ch t.dev.hlt.ch c
      { s.dev.chan c with level := (s.dev.chan c).level - 1, leak := decide (1 < (s.dev.chan c).level) }) := by
  refine does_timed (run_below (f := fun d => d.leak c) hc (if_neg (by simp [hr, hl]))) rfl ?_ (hhlt := .inl (by decide))
  rw [leaves_hlt_ch]
  exact at_tput _ _ _ _

/-- Settles O6, from the lemmas above, a part of the statement each. -/
theorem timeEvents : Obligations.TimeEvents :=
  ⟨fun _ hp hq => masterLost_drops hp hq,
   fun _ hp hq hk => masterLost_strikes hp hq hk,
   fun _ hm hq hk => ppsInMissing_strikes hm hq hk,
   fun _ _ hm hl => ppsInEdge_records hm hl,
   fun _ => does_tim (run_leaves rfl) fun _ ht => by rw [ht]; exact ⟨rfl, rfl⟩,
   fun _ => does_tim (run_leaves rfl) fun _ ht => ht,
   fun _ _ hn hp => trigOutPulseEnd_ends hn hp,
   fun _ _ hn => mclkSwitch_ends hn,
   fun _ he ha ho => offsetLargeReport_raises he ha ho,
   fun _ _ _ hr he hk => servoCheck_strikes hr he hk,
   fun _ _ hc hr hl => strikeLeak_leaks hc hr hl,
   fun _ => does_tim (run_leaves (f := fun d => { d with tim := { d.tim with refIn := false } }) rfl) fun _ ht => ht,
   fun _ => does_tim (run_leaves (f := fun d => { d with tim := { d.tim with refIn := true } }) rfl) fun _ ht => ht⟩

end Sys2Proof.Machine
end

section
/-! PROOFS. The increment and the steps of device time (O4). -/

open Sys2Proof

namespace Sys2Proof.Machine

/-! ## The increment (02 R46, R47) -/

theorem timIncCommit_stores {s : State} {hi : W32} (hl : 0x01FFBE76C8B4 ≤ hi.toNat % 65536 * 2 ^ 32 + s.dev.tim.incLo.toNat)
    (hu : hi.toNat % 65536 * 2 ^ 32 + s.dev.tim.incLo.toNat ≤ 0x02004189374C) : Does (.timIncCommit hi) [.tim] s (fun t =>
      t.dev.tim = { s.dev.tim with inc := hi.toNat % 65536 * 2 ^ 32 + s.dev.tim.incLo.toNat }) := by
  refine does_tim (run_leaves (f := incCommit hi) (d := { s.dev with tim := { s.dev.tim with
    inc := hi.toNat % 65536 * 2 ^ 32 + s.dev.tim.incLo.toNat } }) ?_) fun _ ht => ht
  unfold incCommit
  generalize hi.toNat % 65536 * 2 ^ 32 + s.dev.tim.incLo.toNat = v at hl hu ⊢
  simp [Dev.setInc, Nat.min_eq_right hu, Nat.max_eq_right hl]

/-- An increment that its limit `w` takes the place of. -/
theorem timIncCommit_clamps {s : State} {hi : W32} {v w : Nat} (hv : hi.toNat % 65536 * 2 ^ 32 + s.dev.tim.incLo.toNat = v)
    (hw : max 0x01FFBE76C8B4 (min 0x02004189374C v) = w) (hn : w ≠ v) (hk : Strikable s 1173) : Does (.timIncCommit hi) [.tim, .hlt] s (fun t =>
      t.dev.tim = { s.dev.tim with inc := w, incClamp := true } ∧ Struck s t 1173) := by
  refine does_struck hk (run_leaves (f := incCommit hi) (d := Dev.strike { s.dev with tim := { s.dev.tim with inc := w, incClamp := true } } 1173 0 0) ?_)
    (fun _ ht hs => ⟨ht, hs⟩) (by decide) (.inl (by decide))
  simp only [incCommit, Dev.setInc, hv, hw, if_neg hn, bne_iff_ne.mpr hn, Bool.or_true]

/-! ## What a step of time keeps (02 R48)

A lemma named `f_pace` says that `f` leaves device time and its tick, the render rate, the pair and the completed responses. -/

/-- Device time, its tick, the render rate, the pair and the completed responses. -/
def Dev.pace (d : Dev) : Nat × Nat × Nat × Pair × List Rsp := (d.tim.now, d.tim.tick, d.rate, d.pair, d.hst.rspQ)

theorem missJob_pace (d : Dev) (j : Job) : (d.missJob j).pace = d.pace := by unfold Dev.missJob; split <;> rfl

theorem raise_pace (d : Dev) (code inst : Nat) (p : Bytes) : (d.raise code inst p).pace = d.pace := by simp [Dev.pace]

theorem trace_pace (d : Dev) (t : TraceEnt) : (d.trace t).pace = d.pace := by
  obtain ⟨_, _, _, _, h⟩ := trace_eq d t
  rw [h]; rfl

/-- A discarded job that runs ends without a response. -/
theorem lawAbort_pace {d : Dev} {e pc : Nat} {j : Job} (hr : (d.eng e).run = some j) (ht : j.test = none) :
    (d.lawAbort e 10 pc none false).pace = d.pace := by
  unfold Dev.lawAbort
  simp only [hr, ht, Option.isSome_none, Bool.false_and, Bool.false_eq_true, if_false, show ¬ 10 ≤ 3 by decide]
  exact missJob_pace _ _

theorem dropOn_pace (p : Job → Bool) (coll : Bool) (e : Nat) (d : Dev) : (dropOn p coll false e d).pace = d.pace := by
  unfold dropOn
  extract_lets x hit d1 y d2
  have h1 : d1.pace = d.pace := by
    unfold d1; split
    · split
      · exact missJob_pace _ _
      · rfl
    · rfl
  have h2 : d2.pace = d1.pace := by
    unfold d2; split
    · split
      · exact missJob_pace _ _
      · rfl
    · rfl
  split
  · next h =>
    obtain ⟨j, hr, ht⟩ : ∃ j, (d2.eng e).run = some j ∧ j.test = none := by
      clear_value d2
      cases hr : (d2.eng e).run with
      | none => rw [hr] at h; exact nomatch h
      | some j =>
        rw [hr] at h
        exact ⟨j, rfl, Option.isNone_iff_eq_none.mp (Bool.and_elim_left h)⟩
    exact (lawAbort_pace hr ht).trans (h2.trans h1)
  · exact h2.trans h1

theorem discard_pace (p : Job → Bool) (coll : Bool) (d : Dev) : (d.discard p coll false).1.pace = d.pace := by
  unfold Dev.discard
  extract_lets gone slots runs _ d1 d2
  have h2 : d2.pace = d1.pace := foldl_keeps Dev.pace _ _ missJob_pace
  exact (forRun_keeps Dev.pace _ _ (dropOn_pace p coll)).trans h2

theorem discardAll_pace (d : Dev) : d.discardAll.pace = d.pace := by
  unfold Dev.discardAll
  dsimp only
  split
  · exact discard_pace _ _ _
  · exact (trace_pace _ _).trans (discard_pace _ _ _)

theorem undoCycle_pace (d : Dev) (m : Nat) : (d.undoCycle m).pace = d.pace := by
  unfold Dev.undoCycle
  split
  · rfl
  · extract_lets d1 d2 d3 put
    have h1 : d1.pace = d.pace := forRun_keeps Dev.pace _ _ fun _ _ => rfl
    have h2 : d2.pace = d1.pace := forRun_keeps Dev.pace _ _ fun _ _ => rfl
    have h3 : d3.pace = d2.pace := forRun_keeps Dev.pace _ _ fun _ _ => rfl
    exact h3.trans (h2.trans h1)

theorem stepSlot_pace (old m : Nat) (d : Dev) : (stepSlot old m d).pace = d.pace := by
  unfold stepSlot
  dsimp only
  split
  · rfl
  · split
    · exact (raise_pace _ _ _ _).trans (undoCycle_pace d m)
    · split
      · exact undoCycle_pace d m
      · rfl

theorem dropTimed_pace (d : Dev) (p : Timed → Bool) (cause : Nat) : (d.dropTimed p cause).pace = d.pace := by
  have hgo : ∀ l k d, (dropGo p cause l k d).pace = d.pace := by
    intro l
    induction l with
    | nil => exact fun _ _ => rfl
    | cons t ts ih =>
      intro k d
      unfold dropGo; split
      · exact (ih _ _).trans (raise_pace _ _ _ _)
      · exact ih _ _
  exact hgo _ _ _

/-- 02 R48: device time becomes `new`, and the tick the one that holds it. -/
theorem stepTo_pace (d : Dev) (new : Nat) :
    (d.stepTo new).pace = (new, tickOf d.rate (rneN new (2 ^ 24)), d.rate, d.pair, d.hst.rspQ) := by
  have hk := discardAll_pace d
  simp only [Dev.pace, Prod.mk.injEq] at hk
  obtain ⟨-, -, hrate, hpair, hq⟩ := hk
  unfold Dev.stepTo
  extract_lets old k d1 shift _ _ d2 _ d3 d4 d5 t
  have h3 : d3.pace = (new, tickOf d.rate (rneN new (2 ^ 24)), d.rate, d.pair, d.hst.rspQ) := by
    rw [← hrate, ← hpair, ← hq]; rfl
  have h5 : d5.pace = d4.pace := forRun_keeps Dev.pace _ _ (stepSlot_pace old)
  split
  · exact (dropTimed_pace _ _ _).trans (h5.trans h3)
  · exact h5.trans h3

/-- What a step of device time leaves, by field. -/
theorem stepTo_fields (d : Dev) (new : Nat) : (d.stepTo new).tim.now = new ∧ (d.stepTo new).tim.tick = tickOf d.rate (rneN new (2 ^ 24)) ∧
    (d.stepTo new).rate = d.rate ∧ (d.stepTo new).pair = d.pair ∧ (d.stepTo new).hst.rspQ = d.hst.rspQ := by
  simpa only [Dev.pace, Prod.mk.injEq] using stepTo_pace d new

theorem timStepGo_refused {s : State} (v : W32) (h : s.dev.audioStopped = false) :
    Does (.timStepGo v) [.tim] s (fun t => t.dev.tim = { s.dev.tim with stepRefused := true }) :=
  does_tim (run_leaves (f := stepGo v) (if_pos (by simp [h]))) fun _ ht => ht

theorem timStepGo_steps {s : State} (v : W32) (h : s.dev.audioStopped = true) : Completes (.timStepGo v) s (fun t =>
    t.dev.tim.now = (((s.dev.tim.now : Int) + (wrapI 64 (s.dev.tim.stepHi.toNat * 2 ^ 32 + s.dev.tim.stepLo.toNat) * 65536
      + (v.toNat % 65536 : Nat)) * 2 ^ 24) % (2 ^ 48 * 10 ^ 9 * 2 ^ 40 : Int)).toNat ∧
    t.dev.tim.tick = tickOf s.dev.rate t.dev.now16) := by
  refine ⟨_, run_leaves (f := stepGo v) (if_neg (by simp [h])), ?_⟩
  simp only [Dev.now16, leaves_tim]
  obtain ⟨hnow, htick, -⟩ := stepTo_fields s.dev (((s.dev.tim.now : Int) + (wrapI 64 (s.dev.tim.stepHi.toNat * 2 ^ 32 + s.dev.tim.stepLo.toNat) * 65536
      + (v.toNat % 65536 : Nat)) * 2 ^ 24) % (2 ^ 48 * 10 ^ 9 * 2 ^ 40 : Int)).toNat
  exact ⟨hnow, by rw [hnow]; exact htick⟩

/-- Settles O4, from the lemmas above, a part of the statement each. -/
theorem timeCounter : Obligations.TimeCounter :=
  ⟨fun _ _ hl hu => timIncCommit_stores hl hu,
   fun _ _ hl hk => timIncCommit_clamps rfl (by omega) (by omega) hk,
   fun _ _ hu hk => timIncCommit_clamps rfl (by omega) (by omega) hk,
   fun _ v h => timStepGo_refused v h,
   fun _ v h => timStepGo_steps v h⟩

end Sys2Proof.Machine
end

section
/-! PROOFS. The commands of time (O8). -/

open Sys2Proof

namespace Sys2Proof.Machine

/-! ## Commands that answer at once -/

/-- Checks none of which fails pass. -/
theorem checks_pass {l : List (Bool × Nat)} (d : Dev) (r : Rep) (h : ∀ x ∈ l, x.1 = false) : checks l d r = r := by
  have hn : firstErr l = none := by
    induction l with
    | nil => rfl
    | cons x l ih =>
      obtain ⟨hx, hl⟩ := List.forall_mem_cons.mp h
      rw [firstErr, hx]
      exact ih hl
  rw [checks, hn]

section
variable {i : AcpReq → Instr} {c : Cmd} {s : State} {r : AcpReq} {b p : Bytes} {d : Dev}

/-- A plain command whose body accepts, with the pair and the completed responses as they were, is answered at once. -/
theorem answers_of_body {P : State → Prop} (h : Plain s r b) (hi : exec (i r) s = run true (acpTake c r) s)
    (hb : c.body (plainCtx c.op s.dev r []) b (taken s.dev r) = okData p d) (hp : d.pair = s.dev.pair) (hq : d.hst.rspQ = s.dev.hst.rspQ)
    (hP : P (leaves s (answered d c.op r 0 p))) : Answers (i r) c.op r s p P := by
  refine ⟨_, hi.trans (plain_done h c d p hb (by rw [hp]; exact h.alone)), ?_, hP⟩
  rw [leaves_hst_rspQ]
  exact congrArg (· ++ _) hq

/-- A plain command whose body sets the time unit alone. -/
theorem answers_of_tim {w : List Part} {tm : Tim} {eff : State → Prop} (h : Plain s r b) (hi : exec (i r) s = run true (acpTake c r) s)
    (hb : c.body (plainCtx c.op s.dev r []) b (taken s.dev r) = okData p { taken s.dev r with tim := tm })
    (hw : Part.tim ∈ w ∨ tm = s.dev.tim) (he : ∀ t : State, t.dev.tim = tm → eff t) :
    Answers (i r) c.op r s p (fun t => eff t ∧ Frame w s t) := by
  refine answers_of_body h hi hb rfl rfl ⟨he _ (leaves_tim _ _), frame_leaves rfl h.calm fun k hk => same_answered ?_⟩
  cases k
  case tim => exact hw.resolve_left hk
  case rings => exact ⟨rfl, rfl, rfl, rfl, rfl, rfl⟩
  case irq => exact ⟨rfl, rfl, rfl⟩
  case mbox => exact fun _ => rfl
  all_goals rfl

/-- A plain command whose body answers with what the device holds. -/
theorem answers_of_read (h : Plain s r b) (hi : exec (i r) s = run true (acpTake c r) s)
    (hb : c.body (plainCtx c.op s.dev r []) b (taken s.dev r) = okData p (taken s.dev r)) : Answers (i r) c.op r s p (Frame [] s) := by
  obtain ⟨t, ht, hq, -, hf⟩ := answers_of_tim (w := []) (tm := s.dev.tim) (eff := fun _ => True) h hi hb (.inr rfl) fun _ _ => trivial
  exact ⟨t, ht, hq, hf⟩

end

theorem timeGet_reads : Reads .timeGet 0x0200 (fun b _ => b = []) (fun _ s => timeValue s.dev.nowNs s.dev.nowFrac s.dev.tim.quality.code
    ++ le 8 (tickOf s.dev.rate s.dev.now16) ++ le 8 (s.dev.uNow.getD (2 ^ 64 - 1)) ++ leI 4 (q248 s.dev.tim.offset)
    ++ le 4 (if 0 ≤ rne s.dev.tim.pathDelay 256 ∧ rne s.dev.tim.pathDelay 256 < 2 ^ 32 then (rne s.dev.tim.pathDelay 256).toNat
             else Config.outOfRange s.dev.tim.pathDelay)
    ++ be 8 s.dev.tim.ptpS.masterId ++ le 1 s.dev.tim.ptpS.slavePort ++ le 1 s.dev.tim.ptpS.portState ++ le 1 s.dev.tim.ptpS.masterClass ++ zb 5) := by
  rintro s r b h rfl
  exact answers_of_read (c := cmdTimeGet) h rfl (checks_pass (l := [(([] : Bytes).length != 0, 0x101)]) (taken s.dev r) _ (by simp))

/-! ## Steps the host asks for (02 R48) -/

theorem timeStep_steps {s : State} {r : AcpReq} {b : Bytes} (h : Plain s r b) (hl : b.length = 16) (hz : uN 6 b 10 = 0)
    (h0 : 0 ≤ (s.dev.tim.now : Int) + (s64 b 0 * 65536 + (u16 b 8 : Nat)) * 2 ^ 24)
    (hu : (s.dev.tim.now : Int) + (s64 b 0 * 65536 + (u16 b 8 : Nat)) * 2 ^ 24 < 2 ^ 104) (ha : s.dev.audioStopped = true)
    (hm : s.dev.tim.ptp.mode = 0) : Answers (.timeStep r) 0x0202 r s [] (fun t =>
      (t.dev.tim.now : Int) = (s.dev.tim.now : Int) + (s64 b 0 * 65536 + (u16 b 8 : Nat)) * 2 ^ 24) := by
  have hb : cmdTimeStep.body (plainCtx 0x0202 s.dev r []) b (taken s.dev r) =
      ok ((taken s.dev r).stepTo ((s.dev.tim.now : Int) + (s64 b 0 * 65536 + (u16 b 8 : Nat)) * 2 ^ 24).toNat) := by
    have hr : rsv b 10 6 = false := by rw [rsv, hz]; rfl
    refine (checks_pass _ _ ?_).trans (if_neg ?_)
    · refine List.forall_mem_cons.mpr ⟨by simp [hl], List.forall_mem_singleton.mpr ?_⟩
      rw [hr, taken_tim, decide_eq_false (Int.not_lt.mpr h0), decide_eq_false (Int.not_le.mpr hu)]; rfl
    · rw [show (taken s.dev r).audioStopped = true from ha, taken_tim, hm]; simp
  obtain ⟨hnow, -, -, hpair, hq⟩ := stepTo_fields (taken s.dev r) ((s.dev.tim.now : Int) + (s64 b 0 * 65536 + (u16 b 8 : Nat)) * 2 ^ 24).toNat
  refine answers_of_body (i := .timeStep) (c := cmdTimeStep) h rfl hb hpair hq ?_
  rw [leaves_tim, answered_tim, hnow, Int.toNat_of_nonneg h0]

/-- 02 R48: a device whose host has set its time: in holdover, of unknown uncertainty. -/
def Dev.unsure (d : Dev) : Dev :=
  { d.setQuality .holdover with tim := { (d.setQuality .holdover).tim with uBase := none, lockRun := 0, lockEst := [] } }

theorem unsure_now (d : Dev) : d.unsure.tim.now = d.tim.now := rfl
theorem unsure_quality (d : Dev) : d.unsure.tim.quality = .holdover := rfl
theorem unsure_uBase (d : Dev) : d.unsure.tim.uBase = none := rfl
theorem unsure_pair (d : Dev) : d.unsure.pair = d.pair := rfl
theorem unsure_rspQ (d : Dev) : d.unsure.hst.rspQ = d.hst.rspQ := rfl

/-- A command whose body sets device time answers at once. -/
theorem answers_unsure {s : State} {r : AcpReq} {b : Bytes} {n : Nat} (h : Plain s r b)
    (hb : cmdTimeSet.body (plainCtx 0x0203 s.dev r []) b (taken s.dev r) = ok ((taken s.dev r).stepTo n).unsure) :
    Answers (.timeSet r) 0x0203 r s [] (fun t => t.dev.tim.now = n ∧ t.dev.tim.quality = .holdover ∧ t.dev.tim.uBase = none) := by
  obtain ⟨hnow, -, -, hpair, hq⟩ := stepTo_fields (taken s.dev r) n
  refine answers_of_body (i := .timeSet) (c := cmdTimeSet) h rfl hb ((unsure_pair _).trans hpair) ((unsure_rspQ _).trans hq) ?_
  rw [leaves_tim, answered_tim, unsure_now, unsure_quality, unsure_uBase]
  exact ⟨hnow, rfl, rfl⟩

theorem timeSet_steps {s : State} {r : AcpReq} {b : Bytes} (h : Plain s r b) (hl : b.length = 16) (hz : uN 5 b 11 = 0)
    (ha : s.dev.audioStopped = true) (hm : s.dev.tim.ptp.mode = 0) (hp : s.dev.tim.ppsMode ≠ 2 ∨ s.dev.tim.quality ≠ .locked) :
    Answers (.timeSet r) 0x0203 r s [] (fun t => t.dev.tim.now = (u64 b 0 * 65536 + u16 b 8) * 2 ^ 24 ∧ t.dev.tim.quality = .holdover
      ∧ t.dev.tim.uBase = none) := by
  have hr : rsv b 11 5 = false := by rw [rsv, hz]; rfl
  have hg : (s.dev.tim.ppsMode == 2 && s.dev.tim.quality == .locked) = false := by
    rw [Bool.and_eq_false_iff, beq_eq_false_iff_ne, beq_eq_false_iff_ne]; exact hp
  refine answers_unsure h ((checks_pass _ _ (by simp [hl, hr])).trans (if_neg ?_))
  rw [show (taken s.dev r).audioStopped = true from ha, taken_tim, hm, hg]; simp

/-! ## Settings of the time unit (02 R55, R57, R60 to R63) -/

theorem tscSet_sets : Sets .tscSet 0x0204 [.tim]
    (fun b s => b.length = 12 ∧ u8 b 0 < 16 ∧ uN 3 b 1 = 0 ∧ (s.dev.unit 4 (u8 b 0)).st ≠ .retired) (fun _ _ => [])
    (fun b s t => At 0 s.dev.tim.tscRx t.dev.tim.tscRx (u8 b 0) (BitVec.ofNat 32 (u32 b 4)) ∧
      At 0 s.dev.tim.tscTx t.dev.tim.tscTx (u8 b 0) (BitVec.ofNat 32 (u32 b 8))) := by
  rintro s r b h ⟨hl, hp, hz, hu⟩
  have hr : rsv b 1 3 = false := by rw [rsv, hz]; rfl
  have hg : (taken s.dev r).retired 4 (u8 b 0) = false := beq_eq_false_iff_ne.mpr hu
  refine answers_of_tim (c := cmdTscSet) h rfl (checks_pass _ _ ?_) (.inl (by decide)) fun t ht => ?_
  · simp only [hl, hr, hg, bne_self_eq_false, Bool.or_false, List.mem_cons, List.not_mem_nil, or_false, forall_eq_or_imp, forall_eq,
      decide_eq_false_iff_not, true_and, and_true]
    omega
  · beta_reduce; rw [ht]
    exact ⟨at_tput _ _ _ _, at_tput _ _ _ _⟩

theorem mclkConfig_sets : Sets .mclkConfig 0x0205 [.tim] (fun b _ => b.length = 4 ∧ u8 b 0 < 4 ∧ u8 b 1 ≤ 1 ∧ u8 b 2 ≤ 1 ∧ u8 b 3 ≤ 3)
    (fun _ _ => []) (fun b s t => At 0 s.dev.tim.mclk t.dev.tim.mclk (u8 b 0) (BitVec.ofNat 32 (u8 b 3 + 4 * u8 b 2 + 8 * u8 b 1))) := by
  rintro s r b h ⟨hl, h0, h1, h2, h3⟩
  refine answers_of_tim (c := cmdMclkConfig) h rfl (checks_pass _ _ ?_) (.inl (by decide)) fun t ht => ?_
  · simp only [hl, bne_self_eq_false, List.mem_cons, List.not_mem_nil, or_false, forall_eq_or_imp, forall_eq, Bool.or_eq_false_iff,
      decide_eq_false_iff_not, true_and]
    omega
  · beta_reduce; rw [ht]
    exact at_tput _ _ _ _

theorem ppsConfig_sets : Sets .ppsConfig 0x0206 [.tim] (fun b s => b.length = 12 ∧ u8 b 0 ≤ 2 ∧ u8 b 1 ≤ 1 ∧ u16 b 2 = 0 ∧ 1 ≤ u32 b 4 ∧
      u32 b 4 ≤ 500000 ∧ ¬ (u8 b 0 = 2 ∧ s.dev.tim.ptp.mode ≠ 0)) (fun _ _ => [])
    (fun b _ t => t.dev.tim.ppsMode = u8 b 0 ∧ t.dev.tim.ppsGate = (u8 b 1 == 1) ∧ t.dev.tim.ppsWidth = u32 b 4 ∧ t.dev.tim.ppsLimit = s32 b 8) := by
  rintro s r b h ⟨hl, h0, h1, hz, h4, h5, hm⟩
  have hr : rsv b 2 2 = false := by rw [rsv, show uN 2 b 2 = 0 from hz]; rfl
  refine answers_of_tim (c := cmdPpsConfig) h rfl (checks_pass _ _ ?_) (.inl (by decide)) fun t ht => ?_
  · simp only [hl, hr, taken_tim, bne_self_eq_false, Bool.or_false, List.mem_cons, List.not_mem_nil, or_false, forall_eq_or_imp, forall_eq,
      Bool.or_eq_false_iff, decide_eq_false_iff_not, Bool.and_eq_false_imp, beq_iff_eq, bne_eq_false_iff_eq, true_and]
    omega
  · beta_reduce; rw [ht]; exact ⟨rfl, rfl, rfl, rfl⟩

/-- 02 R63: the setting `c` of a pin, which waits for a pulse on it to end. -/
def Tim.setTout (x : Tim) (n : Nat) (c : Bool × Nat) : Tim :=
  if tget 0 x.toutPulse n = 0 then { x with tout := tput (true, 0) x.tout n c } else { x with toutNext := tput none x.toutNext n (some c) }

theorem setTout_eq (d : Dev) (n : Nat) (c : Bool × Nat) :
    (if tget 0 d.tim.toutPulse n = 0 then { d with tim := { d.tim with tout := tput (true, 0) d.tim.tout n c } }
     else { d with tim := { d.tim with toutNext := tput none d.tim.toutNext n (some c) } }) = { d with tim := d.tim.setTout n c } := by
  unfold Tim.setTout; split <;> rfl

theorem setTout_idle {x : Tim} {n : Nat} (c : Bool × Nat) (h : tget 0 x.toutPulse n = 0) :
    x.setTout n c = { x with tout := tput (true, 0) x.tout n c } := if_pos h

theorem setTout_busy {x : Tim} {n : Nat} (c : Bool × Nat) (h : tget 0 x.toutPulse n ≠ 0) :
    x.setTout n c = { x with toutNext := tput none x.toutNext n (some c) } := if_neg h

theorem trigOutConfig_sets : Sets .trigOutConfig 0x0207 [.tim] (fun b _ => b.length = 8 ∧ u8 b 0 < 8 ∧ u8 b 1 ≤ 1 ∧ u16 b 2 = 0 ∧
      u32 b 4 % 8 = 0 ∧ 8 ≤ u32 b 4 ∧ u32 b 4 ≤ 10 ^ 9) (fun _ _ => [])
    (fun b s t => (tget 0 s.dev.tim.toutPulse (u8 b 0) = 0 → tget (true, 0) t.dev.tim.tout (u8 b 0) = (u8 b 1 == 1, u32 b 4 / 8)) ∧
      (tget 0 s.dev.tim.toutPulse (u8 b 0) ≠ 0 → t.dev.tim.tout = s.dev.tim.tout ∧
        tget none t.dev.tim.toutNext (u8 b 0) = some (u8 b 1 == 1, u32 b 4 / 8))) := by
  rintro s r b h ⟨hl, h0, h1, hz, h4, h5, h6⟩
  have hr : rsv b 2 2 = false := by rw [rsv, show uN 2 b 2 = 0 from hz]; rfl
  refine answers_of_tim (c := cmdTrigOutConfig) h rfl ((checks_pass _ _ ?_).trans (congrArg ok (setTout_eq _ _ _))) (.inl (by decide))
    fun t ht => ?_
  · simp only [hl, hr, h4, bne_self_eq_false, Bool.or_false, List.mem_cons, List.not_mem_nil, or_false, forall_eq_or_imp, forall_eq,
      Bool.or_eq_false_iff, decide_eq_false_iff_not, true_and]
    omega
  · beta_reduce
    rw [ht, taken_tim]
    refine ⟨fun hp => ?_, fun hp => ?_⟩
    · rw [setTout_idle _ hp]; exact tget_tput_self _ _ _ _
    · rw [setTout_busy _ hp]; exact ⟨rfl, by simp only [tget_tput_self]⟩

/-- 02 R50: what is locked goes into holdover, in the time unit alone. -/
theorem relock_eq (d : Dev) : ∃ x : Tim, d.relock = { d with tim := x } ∧ (d.tim.quality = .locked → x.quality = .holdover) := by
  unfold Dev.relock
  split
  · exact ⟨_, rfl, fun _ => rfl⟩
  · next h => exact ⟨d.tim, rfl, fun hq => absurd (beq_iff_eq.mpr hq) h⟩

/-- 02 Table 2.12: the PTP settings a request gives. -/
def ptpCfgOf (b : Bytes) : PtpCfg :=
  { profile := u8 b 0, domain := u8 b 1, mode := u8 b 2, oneStep := u8 b 3, portMask := u16 b 4, priority1 := u8 b 6, priority2 := u8 b 7
    logSync := s8 b 8, logAnnounce := s8 b 9, logDelayReq := s8 b 10, announceTimeout := u8 b 11, slewMax := u16 b 12
    clockClass := u8 b 14, holdDrift := u8 b 15 }

theorem ptpConfig_sets : Sets .ptpConfig 0x0201 [.tim] (fun b s => b.length = 16 ∧ u8 b 0 ≤ 1 ∧ u8 b 1 ≤ 127 ∧ u8 b 2 ≤ 3 ∧ u8 b 3 ≤ 1 ∧
      ((u8 b 2 = 1 ∨ u8 b 2 = 2) → ((rangeFrom 0 16).filter (u16 b 4).testBit).length = 1) ∧
      (u8 b 2 = 3 → ((rangeFrom 0 16).filter (u16 b 4).testBit).length ≠ 0) ∧ -7 ≤ s8 b 8 ∧ s8 b 8 ≤ 0 ∧ -3 ≤ s8 b 9 ∧ s8 b 9 ≤ 1 ∧
      -7 ≤ s8 b 10 ∧ s8 b 10 ≤ 5 ∧ 2 ≤ u8 b 11 ∧ u8 b 11 ≤ 10 ∧ 1 ≤ u16 b 12 ∧ u16 b 12 ≤ 500 ∧ u8 b 15 ≠ 0 ∧
      (∀ p, p < 16 → (u16 b 4).testBit p = true → (s.dev.unit 4 p).st ≠ .retired) ∧ ¬ (u8 b 2 ≠ 0 ∧ s.dev.tim.ppsMode = 2))
    (fun _ _ => [])
    (fun b s t => t.dev.tim.ptp = ptpCfgOf b ∧ t.dev.tim.ptpS.slavePort = 255 ∧ (s.dev.tim.quality = .locked → t.dev.tim.quality = .holdover)) := by
  rintro s r b h ⟨hl, h0, h1, h2, h3, hone, hany, hs0, hs1, ha0, ha1, hd0, hd1, ht0, ht1, hw0, hw1, hh, hu, hm⟩
  obtain ⟨x, hx, hq⟩ := relock_eq (taken s.dev r)
  have hgone : (rangeFrom 0 16).any (fun p => (u16 b 4).testBit p && (taken s.dev r).retired 4 p) = false := by
    rw [List.any_eq_false]
    intro p hp hc
    obtain ⟨hbit, hret⟩ := Bool.and_eq_true_iff.mp hc
    exact hu p (mem_rangeFrom hp).2 hbit (beq_iff_eq.mp hret)
  refine answers_of_tim (c := cmdPtpConfig) h rfl ((checks_pass _ _ ?_).trans (by rw [hx]; rfl)) (.inl (by decide)) fun t ht => ?_
  · simp only [hl, hgone, taken_tim]
    generalize ((rangeFrom 0 16).filter (u16 b 4).testBit).length = n at hone hany ⊢
    simp only [bne_self_eq_false, List.mem_cons, List.not_mem_nil, or_false, forall_eq_or_imp, forall_eq, Bool.or_eq_false_iff,
      decide_eq_false_iff_not, Bool.and_eq_false_imp, Bool.or_eq_true, beq_iff_eq, bne_eq_false_iff_eq, beq_eq_false_iff_ne, bne_iff_ne, true_and]
    omega
  · beta_reduce; rw [ht]; exact ⟨rfl, rfl, hq⟩

/-- Settles O8, from the lemmas above, a part of the statement each. -/
theorem timeCommands : Obligations.TimeCommands :=
  ⟨timeGet_reads, ptpConfig_sets,
   fun _ _ _ h hl hz h0 hu ha hm => timeStep_steps h hl hz h0 hu ha hm,
   fun _ _ _ h hl hz ha hm hp => timeSet_steps h hl hz ha hm hp,
   tscSet_sets, mclkConfig_sets, ppsConfig_sets, trigOutConfig_sets⟩

end Sys2Proof.Machine
end

section
/-! PROOFS. Time-trigger slots (O9). -/

open Sys2Proof

namespace Sys2Proof.Machine

/-! ## Commands of the slots (02 R67, R73) -/

/-- A request in range with an action other than BATCH carries no batch. -/
theorem batchLen_of_trigRange {b : Bytes} (h : trigRange b = false) (ha : u8 b 17 ≠ 4) : u32 b 24 = 0 := by
  unfold trigRange at h
  dsimp only at h
  rw [if_neg ha] at h
  simp only [Bool.or_eq_false_iff] at h
  obtain ⟨⟨⟨-, hlen⟩, -⟩, -⟩ := h
  simpa using hlen

/-- 02 R67: slot `x` as a request `b` with an action other than BATCH arms it. -/
def Slot.armedBy (x : Slot) (b : Bytes) : Slot :=
  { x with
    time := u64 b 0 * 65536 + u16 b 8, action := u8 b 17, armed := true, target := u16 b 18, period := u32 b 20, firings := 0
    leadBegun := false, batch := [], alarm := none }

theorem triggerSet_arms : Sets .triggerSet 0x0210 [.tim] (fun b s => b.length = 32 ∧ trigRange b = false ∧ u8 b 17 ≠ 4 ∧ u8 b 17 ≠ 0 ∧
      s.dev.leadOn (s.dev.slot (u8 b 16)) = false ∧ s.dev.tim.quality ≠ .invalid ∧ s.dev.inLead (u8 b 17) (u64 b 0 * 65536 + u16 b 8) = false)
    (fun _ _ => le 4 0xFFFFFFFF)
    (fun b s t => At {} s.dev.tim.slots t.dev.tim.slots (u8 b 16) ((s.dev.slot (u8 b 16)).armedBy b)) := by
  rintro s r b h ⟨hl, hr, h4, h0, hon, hq, hlead⟩
  have hdrop : b.drop 32 = [] := List.drop_eq_nil_of_le hl.le
  have hlate : (u8 b 17 != 0 && ((taken s.dev r).tim.quality == .invalid || (taken s.dev r).inLead (u8 b 17) (u64 b 0 * 65536 + u16 b 8))) = false := by
    rw [show (taken s.dev r).inLead (u8 b 17) (u64 b 0 * 65536 + u16 b 8) = false from hlead, taken_tim, beq_eq_false_iff_ne.mpr hq]
    exact Bool.and_false _
  refine answers_of_tim (c := cmdTriggerSet)
    (tm := { s.dev.tim with slots := tput {} s.dev.tim.slots (u8 b 16) ((s.dev.slot (u8 b 16)).armedBy b) })
    h rfl ?_ (.inl (by decide)) fun t ht => ?_
  · unfold cmdTriggerSet
    dsimp only
    rw [if_neg (by simp [hl, batchLen_of_trigRange hr h4]), if_neg (by simp [hr]),
      if_neg (by rw [show (taken s.dev r).leadOn ((taken s.dev r).slot (u8 b 16)) = false from hon]; exact Bool.false_ne_true),
      if_neg (by rw [hlate]; exact Bool.false_ne_true), if_neg h4, hdrop, bne_iff_ne.mpr h0]
    rfl
  · beta_reduce; rw [ht]; exact at_tput _ _ _ _

theorem triggerCancel_disarms : Sets .triggerCancel 0x0211 [.tim]
    (fun b s => b.length = 4 ∧ u8 b 0 < 32 ∧ uN 3 b 1 = 0 ∧ s.dev.leadOn (s.dev.slot (u8 b 0)) = false) (fun _ _ => [])
    (fun b s t => At {} s.dev.tim.slots t.dev.tim.slots (u8 b 0) { s.dev.slot (u8 b 0) with armed := false }) := by
  rintro s r b h ⟨hl, hm, hz, hon⟩
  have hr : rsv b 1 3 = false := by rw [rsv, hz]; rfl
  refine answers_of_tim (c := cmdTriggerCancel) h rfl (checks_pass _ _ ?_) (.inl (by decide)) fun t ht => ?_
  · simp only [hl, hr, show (taken s.dev r).leadOn ((taken s.dev r).slot (u8 b 0)) = false from hon, bne_self_eq_false, Bool.or_false,
      List.mem_cons, List.not_mem_nil, or_false, forall_eq_or_imp, forall_eq, decide_eq_false_iff_not, true_and, and_true]
    omega
  · beta_reduce; rw [ht]; exact at_tput _ _ _ _

theorem triggerStatus_reads : Reads .triggerStatus 0x0212 (fun b _ => b = []) (fun _ s => (rangeFrom 0 32).flatMap (fun m => le 1 (s.dev.slot m).action
    ++ le 1 (b01 (s.dev.slot m).armed + 2 * b01 (s.dev.slot m).fired + 4 * b01 (s.dev.slot m).skipped) ++ le 2 (s.dev.slot m).target
    ++ le 4 (s.dev.slot m).period ++ le 8 (s.dev.nextNs (s.dev.slot m)))) := by
  rintro s r b h rfl
  exact answers_of_read (c := cmdTriggerStatus) h rfl (checks_pass (l := [(([] : Bytes).length != 0, 0x101)]) (taken s.dev r) _ (by simp))

/-! ## The lead of a slot with RENDER_START (02 R70) -/

/-- A STOPPED RENDER that is not retired passes the checks of its start. -/
theorem startErr_render {d : Dev} (h : (d.unit 0 0).st = .stopped) : d.startErr 0 0 = none := by simp [Dev.startErr, Dev.startBad, h]

/-- 01 Table 1.9: an audio unit that starts at block `j`, in the tick in progress. -/
def Dev.startingAt (d : Dev) (j : Nat) : FUnit := { st := .starting, startBlk := some j, startVal := d.tim.tick }

theorem startUnit_render {d : Dev} (j : Nat) (h : (d.unit 0 0).st = .stopped) : startUnit 0 j 0 d = d.setUnit 0 0 (d.startingAt j) := by
  unfold startUnit
  dsimp only
  rw [if_neg (by rw [h]; decide)]
  rfl

/-- A run of RENDER alone, STOPPED, makes it STARTING at block `j`. -/
theorem funcRun_startsRender {d : Dev} (tag seq slot j : Nat) (h : (d.unit 0 0).st = .stopped) :
    (funcRun 0 0 1 0 tag seq slot j d).units = (d.setUnit 0 0 (d.startingAt j)).units ∧ (funcRun 0 0 1 0 tag seq slot j d).tim = d.tim := by
  have his : (rangeFrom 0 1).filter (fun i => !d.retired 0 i) = [0] := by simp [rangeFrom, Dev.retired, h]
  unfold funcRun
  rw [his]
  exact ⟨(congrArg Dev.units (startUnit_render j h) :), (congrArg Dev.tim (startUnit_render j h) :)⟩

/-- The request of a run of RENDER alone, for a control cycle of slot `m` at block `j`, is accepted. -/
theorem funcBody_startsRender {d e : Dev} (op m j : Nat) (h : (d.unit 0 0).st = .stopped) :
    funcBody 0 (e.batchCtx op m j) (oneUnit 0 0) d = okData (funcRsp 0xFFFF j) (funcRun 0 0 1 0 0 0 m j d) := by
  show (match firstFail (d.startErr 0) 0 [0] with
    | some (i, e) => noWith e (funcRsp i 0) d
    | none => okData (funcRsp 0xFFFF j) (funcRun 0 0 1 0 0 0 m j d)) = _
  rw [firstFail, startErr_render h]
  rfl

theorem spliceAgain_eq (d : Dev) : ∃ p, d.spliceAgain = { d with pair := p } := by
  unfold Dev.spliceAgain
  split
  · exact ⟨_, rfl⟩
  · exact ⟨d.pair, rfl⟩

/-- The device in which the action of slot `m` is carried out: its time is that of the lead, and the action has its place in the order. -/
def Dev.atLead (d : Dev) (m : Nat) : Dev :=
  let e := d.advance (boundT d.rate ((d.slot m).block d.rate - 2))
  { e with hst := { e.hst with ord := e.hst.ord + 1 } }

/-- The lead of a slot whose run is accepted begins. -/
theorem trigLead_begins {d e : Dev} {m : Nat} {data : Bytes} (ha : (d.slot m).armed = true) (hl : (d.slot m).leadBegun = false)
    (hx : (d.slot m).action = 1)
    (he : funcBody 0 ((d.atLead m).batchCtx 0x0110 m ((d.slot m).block d.rate)) (oneUnit 0 0) (d.atLead m) = okData data e) :
    (trigLead m d).units = e.units ∧ (trigLead m d).tim.slots = tput {} e.tim.slots m { d.slot m with leadBegun := true } := by
  have hrun : (d.slot m).run = (0, 0) := by rw [Slot.run, hx]; rfl
  have hidle : ¬ (!(d.slot m).armed || (d.slot m).leadBegun || !audioAction (d.slot m).action) = true := by rw [ha, hl, hx]; decide
  obtain ⟨p, hp⟩ := spliceAgain_eq e
  unfold trigLead
  dsimp only
  unfold Dev.atLead at he
  dsimp only at he
  rw [if_neg hidle, hrun, if_neg (by rw [hx]; decide), he, if_neg (show ¬ 256 ≤ (okData data e).st from Nat.not_succ_le_zero 255)]
  dsimp only
  split
  · exact ⟨rfl, rfl⟩
  · rw [show (okData data e).dev.spliceAgain = _ from hp]; exact ⟨rfl, rfl⟩

theorem triggerLead_startsRender {s : State} {m : Nat} (hm : m < 32) (ha : (s.dev.slot m).armed = true) (hl : (s.dev.slot m).leadBegun = false)
    (hx : (s.dev.slot m).action = 1) (hr : (s.dev.unit 0 0).st = .stopped) : Completes (.triggerLeadBoundary m) s (fun t =>
      (t.dev.unit 0 0).st = .starting ∧ (t.dev.unit 0 0).startBlk = some ((s.dev.slot m).block s.dev.rate) ∧
      At {} s.dev.tim.slots t.dev.tim.slots m { s.dev.slot m with leadBegun := true }) := by
  obtain ⟨hu, ht⟩ := funcRun_startsRender (d := s.dev.atLead m) 0 0 m ((s.dev.slot m).block s.dev.rate) hr
  obtain ⟨hunits, hslots⟩ := trigLead_begins ha hl hx (funcBody_startsRender 0x0110 m _ hr)
  have hunit : (leaves s (trigLead m s.dev)).dev.unit 0 0 = (s.dev.atLead m).startingAt ((s.dev.slot m).block s.dev.rate) := by
    rw [Dev.unit, leaves_units, hunits, hu]
    exact Dev.setUnit_unit _ _ _ _
  refine ⟨_, run_below (f := trigLead m) hm rfl, ?_⟩
  beta_reduce
  rw [hunit, leaves_tim, hslots, ht]
  exact ⟨rfl, rfl, at_tput _ _ _ _⟩

/-! ## Firings (02 R66, R68) -/

section
variable {s : State} {m : Nat} (ha : (s.dev.slot m).armed = true) (hd : s.dev.pwr.st ≠ .doze) (hh : s.dev.pwr.st ≠ .hibernate)
include ha hd hh

/-- An armed slot of a device that is awake fires. -/
theorem fires_of_armed : ¬ (!(s.dev.slot m).armed || s.dev.pwr.st == .doze || s.dev.pwr.st == .hibernate) = true := by
  simp [ha, hd, hh]

theorem triggerFire_audio (hm : m < 32) (hx : audioAction (s.dev.slot m).action = true) (hb : (s.dev.slot m).leadBegun = true) :
    Does (.triggerFire m) [.tim, .undo] s (fun t => At {} s.dev.tim.slots t.dev.tim.slots m (s.dev.slot m).fire ∧
      Raises s t 0x8210 m (le 1 m ++ le 1 (s.dev.slot m).action ++ zb 6 ++ le 8 ((s.dev.slot m).block s.dev.rate))) := by
  refine does_raises (run_below (f := trigFire m) hm ((if_neg (fires_of_armed ha hd hh)).trans ((if_pos hx).trans (if_neg (by simp [hb])))))
    (by omega) (fun t ht hr => ⟨?_, hr⟩) (.inl (by decide)) (.inl (by decide))
  rw [ht]; exact at_tput _ _ _ _

theorem triggerFire_alarm (hm : m < 32) (hx : (s.dev.slot m).action = 7) : Does (.triggerFire m) [.tim] s (fun t =>
    At {} s.dev.tim.slots t.dev.tim.slots m (s.dev.slot m).fire ∧
    Raises s t 0x8210 m (le 1 m ++ le 1 (s.dev.slot m).action ++ zb 6 ++ le 8 ((s.dev.slot m).fireT s.dev.rate / 65536))) := by
  have hf : trigFire m s.dev = ((s.dev.advance ((s.dev.slot m).fireT s.dev.rate)).setSlot m (s.dev.slot m).fire).raise 0x8210 m
      (le 1 m ++ le 1 (s.dev.slot m).action ++ zb 6 ++ le 8 ((s.dev.slot m).fireT s.dev.rate / 65536)) := by
    unfold trigFire
    dsimp only
    rw [if_neg (fires_of_armed ha hd hh), if_neg (by rw [hx]; decide), if_neg (by rw [hx]; decide), if_neg (by rw [hx]; decide)]
  refine does_raises (run_below hm hf) (by omega) (fun t ht hr => ⟨?_, hr⟩) (.inl (by decide))
  rw [ht]; exact at_tput _ _ _ _

end

theorem fire_once {x : Slot} (h : x.period = 0) : x.fire = { x with armed := false, fired := true, leadBegun := false } := if_pos h

theorem fire_again {x : Slot} (h : x.period ≠ 0) : x.fire = { x with fired := true, firings := x.firings + 1 } := if_neg h

/-- Settles O9, from the lemmas above, a part of the statement each. -/
theorem triggers : Obligations.Triggers :=
  ⟨triggerSet_arms, triggerCancel_disarms, triggerStatus_reads,
   fun _ _ hm ha hl hx hr => triggerLead_startsRender hm ha hl hx hr,
   fun _ _ hm ha hx hb hd hh => triggerFire_audio ha hd hh hm hx hb,
   fun _ _ hm ha hx hd hh => triggerFire_alarm ha hd hh hm hx,
   fun _ h => fire_once h,
   fun _ h => fire_again h⟩

end Sys2Proof.Machine
end

section
/-! PROOFS. Knots, live gains and the trajectory deadline (O20). -/

open Sys2Proof

namespace Sys2Proof.Machine

/-! ## Checks, fields and runs -/

/-- Checks none of which fails name no status. -/
theorem firstErr_pass {l : List (Bool × Nat)} (h : ∀ x ∈ l, x.1 = false) : firstErr l = none := by
  induction l with
  | nil => rfl
  | cons x l ih =>
    obtain ⟨hx, hl⟩ := List.forall_mem_cons.mp h
    rw [firstErr, hx]
    exact ih hl

/-- A reserved field that reads 0. -/
theorem rsv_of_zero {p : Bytes} {o n : Nat} (h : uN n p o = 0) : rsv p o n = false := by rw [rsv, h]; rfl

/-- A run of steps, step `i` of which changes what is read at key `f + i` by `g i` and nothing else read, changes what is read at the keys
of the run alone. -/
theorem read_forRun {σ β : Type} {step : Nat → σ → σ} (read : σ → Nat → β) (f : Nat) (g : Nat → β → β)
    (h : ∀ i d k, read (step i d) k = if k = f + i then g i (read d k) else read d k) (a n : Nat) (d : σ) (k : Nat) :
    read (forRun step (rangeFrom a n) d) k = if f + a ≤ k ∧ k < f + a + n then g (k - f) (read d k) else read d k := by
  induction n generalizing a d with
  | zero => exact (if_neg (by omega)).symm
  | succ n ih =>
    rw [rangeFrom, forRun, ih, h]
    by_cases hk : k = f + a
    · subst hk
      rw [if_neg (by omega), if_pos rfl, if_pos (by omega), Nat.add_sub_cancel_left]
    · simp only [if_neg hk, show (f + (a + 1) ≤ k ∧ k < f + (a + 1) + n) ↔ (f + a ≤ k ∧ k < f + a + (n + 1)) by omega]

/-! ## Commands of the trajectory engine -/

/-- Device `e` is device `d` but for trajectories and the note of which settings were made. -/
def TrjOnly (d e : Dev) : Prop := e = { d with trj := e.trj, hst := { d.hst with lastSet := e.hst.lastSet } }

theorem TrjOnly.trans {d e f : Dev} (h : TrjOnly d e) (h' : TrjOnly e f) : TrjOnly d f := by
  unfold TrjOnly at *
  rw [h', h]

theorem forRun_trjOnly {f : Nat → Dev → Dev} (h : ∀ k d, TrjOnly d (f k d)) (l : List Nat) (d : Dev) : TrjOnly d (forRun f l d) := by
  induction l generalizing d with
  | nil => rfl
  | cons k l ih => exact (h k d).trans (ih _)

/-- An object written reads as written, and every other as it was. -/
theorem setObj_at (d : Dev) (o : Nat) (x : Obj) : At {} d.trj.obj (d.setObj o x).trj.obj o x := at_tput _ _ _ _

theorem setObj_trjOnly (d : Dev) (o : Nat) (x : Obj) : TrjOnly d (d.setObj o x) := Eq.refl _

section
variable {i : AcpReq → Instr} {c : Cmd} {s : State} {r : AcpReq} {b p : Bytes} {d : Dev} {P : State → Prop}

/-- A command whose body changes trajectories, and notes which settings it made, changes no other kind of state. -/
theorem frame_of_trj (h : Plain s r b) (hd : TrjOnly (taken s.dev r) d) (op st : Nat) (p : Bytes) :
    Frame [.trj] s (leaves s (answered d op r st p)) := by
  refine frame_leaves (by rw [show d = _ from hd]; rfl) h.calm fun k hk => same_answered ?_
  rw [show d = _ from hd]
  cases k
  case trj => exact absurd (List.mem_singleton_self _) hk
  case rings => exact ⟨rfl, rfl, rfl, rfl, rfl, rfl⟩
  case irq => exact ⟨rfl, rfl, rfl⟩
  case mbox => exact fun _ => rfl
  all_goals rfl

/-- A plain command whose body accepts, and changes trajectories alone. -/
theorem answers_of_trj (h : Plain s r b) (hi : exec (i r) s = run true (acpTake c r) s)
    (hb : c.body (plainCtx c.op s.dev r []) b (taken s.dev r) = okData p d)
    (hd : TrjOnly (taken s.dev r) d)
    (hP : ∀ t : State, t.dev.trj = d.trj → Frame [.trj] s t → P t) : Answers (i r) c.op r s p P :=
  answers_of_body h hi hb (by rw [show d = _ from hd]; rfl) (by rw [show d = _ from hd]; rfl) (hP _ (leaves_trj _ _) (frame_of_trj h hd _ _ _))

/-- A plain command whose body refuses, and changes trajectories alone. -/
theorem refuses_of_trj {st : Nat} (h : Plain s r b) (hi : exec (i r) s = run true (acpTake c r) s)
    (hb : c.body (plainCtx c.op s.dev r []) b (taken s.dev r) = no st d) (hst : 256 ≤ st)
    (hd : TrjOnly (taken s.dev r) d)
    (hP : ∀ t : State, t.dev.trj = d.trj → Frame [.trj] s t → P t) : Refuses (i r) c.op r s st [] P := by
  have ht : acpTake c r s.dev [] = answered d c.op r st [] := by
    rw [acpTake_plain h c []]
    simp only [hb]
    rw [if_pos (show 256 ≤ (no st d).st from hst)]
    exact refuse_plain d c.op r st [] h.flags
  refine ⟨_, hi.trans (run_leaves ht), ?_, hP _ (leaves_trj _ _) (frame_of_trj h hd _ _ _)⟩
  rw [leaves_hst_rspQ, show d = _ from hd]
  rfl

end

/-! ## Knots (03 R81 to R84, R105) -/

/-- Applying a record reads and changes nothing of the host interface. -/
theorem recApply_hst (vt : Nat) (r : KRec) (d : Dev) (h : Hst) (c : KCount) :
    recApply vt r ({ d with hst := h }, c) = (recApply vt r (d, c)).map (fun x => ({ x.1 with hst := h }, x.2)) := by
  unfold recApply
  dsimp only
  rw [show Dev.obj { d with hst := h } r.obj = d.obj r.obj from rfl]
  split <;> rfl

theorem recsApply_hst (vt : Nat) (rs : List KRec) (d : Dev) (h : Hst) (c : KCount) :
    recsApply vt rs ({ d with hst := h }, c) = (recsApply vt rs (d, c)).map (fun x => ({ x.1 with hst := h }, x.2)) := by
  induction rs generalizing d c with
  | nil => rfl
  | cons r rs ih =>
    unfold recsApply
    rw [recApply_hst]
    cases recApply vt r (d, c) with
    | none => rfl
    | some x => exact ih x.1 x.2

theorem recApply_eq {vt : Nat} {r : KRec} {d e : Dev} {c k : KCount} (h : recApply vt r (d, c) = some (e, k)) : e = { d with trj := e.trj } := by
  unfold recApply at h
  dsimp only at h
  split at h
  · exact nomatch h
  · obtain ⟨rfl, -⟩ := Prod.mk.inj (Option.some.inj h)
    rfl

/-- Applying records changes trajectories alone. -/
theorem recsApply_eq {vt : Nat} {rs : List KRec} {d e : Dev} {c k : KCount} (h : recsApply vt rs (d, c) = some (e, k)) :
    e = { d with trj := e.trj } := by
  induction rs generalizing d c with
  | nil => obtain ⟨rfl, -⟩ := Prod.mk.inj (Option.some.inj h); rfl
  | cons r rs ih =>
    unfold recsApply at h
    cases hr : recApply vt r (d, c) with
    | none => rw [hr] at h; exact nomatch h
    | some x =>
      rw [hr] at h
      rw [ih h, recApply_eq (e := x.1) (k := x.2) hr]

/-- The records of a KNOT_PUSH. -/
def pushed (b : Bytes) : List KRec := (rangeFrom 0 (u32 b 0)).map (fun i => recOf ((b.drop (8 + 48 * i)).take 48))

/-- Counting what applying knots did leaves the objects. -/
theorem knotCount_obj (d : Dev) (k : KCount) : (d.knotCount k).trj.obj = d.trj.obj := rfl

section
variable {s : State} {r : AcpReq} {b : Bytes} (h : Plain s r b) (h0 : 0 < u32 b 0) (hn : u32 b 0 ≤ 1024) (hl : b.length = 8 + 48 * u32 b 0)
  (hz : u32 b 4 = 0) (hv : ∀ i, i < u32 b 0 → recBad s.dev.rate ((b.drop (8 + 48 * i)).take 48) = false)
include h0 hn hl hz hv

/-- KNOT_PUSH of valid records applies them. -/
theorem cmdKnotPush_applies : cmdKnotPush.body (plainCtx 0x0710 s.dev r []) b (taken s.dev r) =
    (match recsApply s.dev.tim.tick (pushed b) (taken s.dev r, {}) with
    | none => no 0x106 ((taken s.dev r).trjCount 3 (u32 b 0))
    | some (d, k) => okData (words [k.late, k.dup, k.repl]) (d.knotCount k)) := by
  have hbad : ((rangeFrom 0 (u32 b 0)).map (fun i => (b.drop (8 + 48 * i)).take 48)).any (recBad s.dev.rate) = false := by
    simp only [List.any_eq_false, List.mem_map, forall_exists_index, and_imp, forall_apply_eq_imp_iff₂, Bool.not_eq_true]
    exact fun i hi => hv i (by have := mem_rangeFrom hi; omega)
  have hpass := firstErr_pass (l := [(b.length != 8 + 48 * u32 b 0, 0x101), (u32 b 0 == 0 || decide (1024 < u32 b 0) || rsv b 4 4 ||
    ((rangeFrom 0 (u32 b 0)).map (fun i => (b.drop (8 + 48 * i)).take 48)).any (recBad s.dev.rate), 0x102)]) (by
      simp [hl, hbad, rsv_of_zero (n := 4) hz, Nat.not_lt.mpr hn, Nat.ne_of_gt h0])
  unfold cmdKnotPush
  dsimp only [cmdA]
  rw [show (taken s.dev r).rate = s.dev.rate from rfl, hpass, List.map_map]
  rfl

include h

theorem knotPush_answers {d : Dev} {k : KCount} (hr : recsApply s.dev.tim.tick (pushed b) (s.dev, {}) = some (d, k)) :
    Answers (.knotPush r) 0x0710 r s (words [k.late, k.dup, k.repl]) (fun t => t.dev.trj = (d.knotCount k).trj ∧ Frame [.trj] s t) := by
  have hb := cmdKnotPush_applies (r := r) h0 hn hl hz hv
  have hd := recsApply_eq hr
  rw [show taken s.dev r = { s.dev with hst := (taken s.dev r).hst } from rfl, recsApply_hst, hr] at hb
  refine answers_of_trj (c := cmdKnotPush) h rfl hb ?_ fun t ht hf => ⟨ht, hf⟩
  rw [hd]
  rfl

theorem knotPush_refuses (hr : recsApply s.dev.tim.tick (pushed b) (s.dev, {}) = none) :
    Refuses (.knotPush r) 0x0710 r s 0x106 [] (fun t => (∀ o, t.dev.obj o = s.dev.obj o) ∧
      tget 0 t.dev.trj.ctr 3 = tget 0 s.dev.trj.ctr 3 + BitVec.ofNat 32 (u32 b 0) ∧ Frame [.trj] s t) := by
  have hb := cmdKnotPush_applies (r := r) h0 hn hl hz hv
  rw [show recsApply _ _ (taken s.dev r, {}) = _ from recsApply_hst _ _ s.dev (taken s.dev r).hst {}, hr] at hb
  refine refuses_of_trj (c := cmdKnotPush) h rfl hb (by decide) rfl fun t ht hf => ⟨fun o => ?_, ?_, hf⟩
  · rw [Dev.obj, ht]; rfl
  · rw [ht]; exact tget_tput_self _ _ _ _

end

/-- 03 R83: the knot a record that is on time makes. -/
def KRec.knot (r : KRec) : Knot := { r := r, eff := r.time * 65536, synth := false, vel := if r.flags.testBit 1 then some r.vel else none }

/-- The first knot of an empty queue, on time, is the queue. -/
theorem knotApply_first {r : KRec} {f : Nat} (f1 : Nat) (c : KCount) (h : f ≤ r.time * 65536) : knotApply r f f1 [] c = ([r.knot], c) := by
  have ht : r.flags.testBit 1 = decide (r.flags / 2 % 2 = 1) := by rw [Nat.testBit_eq_decide_div_mod_eq]
  simp [knotApply, lastLe, KRec.knot, ht, Nat.not_lt.mpr h]

/-- A queue of one knot holds one, whenever it is. -/
theorem qDepth_singleton (k : Knot) (f : Nat) : qDepth [k] f = 1 := by
  unfold qDepth lastLe
  split <;> rfl

theorem recsApply_first {vt : Nat} {r : KRec} {d : Dev} (c : KCount) (hq : (d.obj r.obj).queue = []) (h : boundT d.rate (vt + 3) ≤ r.time * 65536) :
    recsApply vt [r] (d, c) = some (d.setObj r.obj { d.obj r.obj with queue := [r.knot] }, c) := by
  simp [recsApply, recApply, hq, knotApply_first _ _ h, qDepth_singleton]

theorem knotPush_first {s : State} {r : AcpReq} {b : Bytes} {k : KRec} (h : Plain s r b) (hl : b.length = 56) (hn : u32 b 0 = 1) (hz : u32 b 4 = 0)
    (hv : recBad s.dev.rate (b.drop 8) = false) (hk : k = recOf (b.drop 8)) (hq : (s.dev.obj k.obj).queue = [])
    (ht : boundT s.dev.rate (s.dev.tim.tick + 3) ≤ k.time * 65536) : Answers (.knotPush r) 0x0710 r s (words [0, 0, 0]) (fun t =>
      At {} s.dev.trj.obj t.dev.trj.obj k.obj { s.dev.obj k.obj with queue := [k.knot] } ∧ Frame [.trj] s t) := by
  have hdrop : (b.drop (8 + 48 * 0)).take 48 = b.drop 8 := List.take_of_length_le (by rw [List.length_drop]; omega)
  have hp : pushed b = [k] := by rw [pushed, hn, hk, rangeFrom, rangeFrom, List.map_singleton, hdrop]
  have hone : ∀ i, i < u32 b 0 → recBad s.dev.rate ((b.drop (8 + 48 * i)).take 48) = false := fun i hi => by
    obtain rfl : i = 0 := by omega
    rw [hdrop]; exact hv
  obtain ⟨t, hx, ha, hd, hf⟩ := knotPush_answers h (by omega) (by omega) (by omega) hz hone
    (hp ▸ recsApply_first {} hq ht : recsApply s.dev.tim.tick (pushed b) (s.dev, {}) = _)
  refine ⟨t, hx, ha, ?_, hf⟩
  rw [hd, knotCount_obj]
  exact setObj_at s.dev k.obj _

/-! ## Live gains and cleared queues (03 R100, R82) -/

theorem objGainSet_sets {s : State} {r : AcpReq} {b : Bytes} (h : Plain s r b) (hl : b.length = 8) (ho : u16 b 0 < nObj s.dev.rate)
    (hz : u16 b 2 = 0) (hn : Newest s (4 * u16 b 0) (s.dev.tim.tick + 3)) : Answers (.objGainSet r) 0x0711 r s [] (fun t =>
      At {} s.dev.trj.obj t.dev.trj.obj (u16 b 0) { s.dev.obj (u16 b 0) with gain := s32 b 4, gainVal := s32 b 4 } ∧ Frame [.trj] s t) := by
  refine answers_of_trj (c := cmdObjGainSet) h rfl ((checks_pass _ _ ?_).trans (congrArg ok (setItem_newest _ hn))) rfl
    fun t ht hf => ⟨?_, hf⟩
  · simp [hl, rsv_of_zero (n := 2) hz, Nat.not_le.mpr ho]
  · rw [ht]; exact setObj_at (taken s.dev r) _ _

/-- Empties the queue of object `i`. -/
def Dev.clearQueue (i : Nat) (d : Dev) : Dev := d.setObj i { d.obj i with queue := [] }

theorem clearQueue_trjOnly (i : Nat) (d : Dev) : TrjOnly d (d.clearQueue i) := setObj_trjOnly _ _ _

theorem clearQueue_obj (i : Nat) (d : Dev) (k : Nat) :
    (d.clearQueue i).obj k = if k = 0 + i then { d.obj k with queue := [] } else d.obj k := by
  rw [Nat.zero_add]
  split
  · next hk => rw [hk, Dev.clearQueue, Dev.setObj_obj]
  · next hk => exact Dev.setObj_obj_other d _ hk

theorem objClear_clears : Sets .objClear 0x0712 [.trj] (fun b s => b.length = 4 ∧ 0 < u16 b 2 ∧ u16 b 0 + u16 b 2 ≤ nObj s.dev.rate)
    (fun _ _ => [])
    (fun b s t => ∀ o, t.dev.obj o = (if u16 b 0 ≤ o ∧ o < u16 b 0 + u16 b 2 then { s.dev.obj o with queue := [] } else s.dev.obj o)) := by
  rintro s r b h ⟨hl, h0, hn⟩
  have hread := read_forRun Dev.obj 0 (fun _ x => { x with queue := [] }) clearQueue_obj (u16 b 0) (u16 b 2) (taken s.dev r)
  simp only [Nat.zero_add] at hread
  refine answers_of_trj (c := cmdObjClear) (d := forRun Dev.clearQueue (rangeFrom (u16 b 0) (u16 b 2)) (taken s.dev r)) h rfl (checks_pass _ _ ?_)
    (forRun_trjOnly clearQueue_trjOnly _ _) fun t ht hf => ⟨fun o => ?_, hf⟩
  · simp [hl, Nat.not_lt.mpr hn, Nat.ne_of_gt h0]
  · exact (congrArg (fun x : Trj => tget ({} : Obj) x.obj o) ht).trans (hread o)

/-! ## The deadline (03 R95) -/

/-- An entry of a table reads the unlisted value, or stands in the table. -/
theorem tget_eq_or_mem {α : Type} (z : α) (t : Tbl α) (k : Nat) : tget z t k = z ∨ (k, tget z t k) ∈ t := by
  induction t with
  | nil => exact .inl rfl
  | cons x r ih =>
    unfold tget
    split
    · next hk => exact .inr (hk ▸ List.mem_cons_self ..)
    · exact ih.imp_right (List.mem_cons_of_mem _)

/-- 03 R95: a path that keeps its delay over the next block. -/
def PathE.held (e : PathE) : PathE := { e with dmidn := e.d1, d1n := e.d1 }

/-- Every path of a table whose paths keep their delays ends the next block where it begins. -/
theorem held_delays (p : Tbl PathE) (k : Nat) :
    let e := tget ({} : PathE) ((p.map (fun x => (x.1, x.2.held))).filter (fun x => x.2 != ({} : PathE))) k
    e.dmidn = e.d1 ∧ e.d1n = e.d1 := by
  intro e
  obtain he | he := tget_eq_or_mem ({} : PathE) ((p.map (fun x => (x.1, x.2.held))).filter (fun x => x.2 != ({} : PathE))) k
  · rw [show e = {} from he]; exact ⟨rfl, rfl⟩
  · obtain ⟨x, -, hx⟩ := List.mem_map.mp (List.mem_of_mem_filter he)
    rw [show e = x.2.held from (congrArg Prod.snd hx).symm]
    exact ⟨rfl, rfl⟩

/-- The device at a missed deadline, before the engine's strike. -/
def Dev.trjMiss (d : Dev) : Dev :=
  { d with
    rnd := { d.rnd with path := (d.rnd.path.map (fun x => (x.1, x.2.held))).filter (fun x => x.2 != ({} : PathE)) }
    trj := { d.trj with ctr := bump d.trj.ctr 6 1, late := true, missed := true } }

theorem trjDeadline_rendering {d : Dev} (h : d.rendering = true) : trjDeadline d = d.trjMiss.strike 1164 0 0 := if_neg (by simp [h])

theorem trjDeadline_holds {s : State} (h : s.dev.rendering = true) (hk : Strikable s 1164) : Does .trjDeadline [.trj, .rnd, .hlt] s (fun t =>
    Struck s t 1164 ∧ t.dev.trj.missed = true ∧ t.dev.trj.late = true ∧ tget 0 t.dev.trj.ctr 6 = tget 0 s.dev.trj.ctr 6 + 1 ∧
    ∀ k, (tget ({} : PathE) t.dev.rnd.path k).dmidn = (tget ({} : PathE) t.dev.rnd.path k).d1 ∧
      (tget ({} : PathE) t.dev.rnd.path k).d1n = (tget ({} : PathE) t.dev.rnd.path k).d1) := by
  obtain ⟨l, hl, hch⟩ := hk.strikeBy_eq (d := s.dev.trjMiss) (fun d => d.retire 1164 1) 0 0 rfl rfl
  refine does_leaves (run_leaves ((trjDeadline_rendering h).trans hl)) rfl (fun p hp => ?_) ⟨?_, ?_⟩
  · cases p
    case trj | rnd | hlt => exact absurd (by decide) hp
    case rings => exact ⟨rfl, rfl, rfl, rfl, rfl, rfl⟩
    case irq => exact ⟨rfl, rfl, rfl⟩
    case mbox => exact fun _ => rfl
    all_goals rfl
  · rw [Struck, Dev.chan, leaves_hlt_ch]
    exact hch
  · rw [leaves_trj, leaves_rnd]
    exact ⟨rfl, rfl, tget_tput_self _ _ _ _, held_delays s.dev.rnd.path⟩

/-- Settles O20, from the lemmas above, a part of the statement each. -/
theorem trajectories : Obligations.Trajectories :=
  ⟨fun _ _ _ _ _ h h0 hn hl hz hv hr => knotPush_answers h h0 hn hl hz hv hr,
   fun _ _ _ h h0 hn hl hz hv hr => knotPush_refuses h h0 hn hl hz hv hr,
   fun _ _ _ _ h hl hn hz hv hk hq ht => knotPush_first h hl hn hz hv hk hq ht,
   fun _ _ _ h hl ho hz hn => objGainSet_sets h hl ho hz hn,
   objClear_clears,
   fun _ h hk => trjDeadline_holds h hk⟩

end Sys2Proof.Machine
end

section
/-! PROOFS. The commands of layouts, loudspeakers, routes and objects (O21). -/

open Sys2Proof

namespace Sys2Proof.Machine

/-! ## Layouts (03 R77, 06 R159) -/

/-- 03 Table 3.1: layout `x` with the settings of a request. -/
def Layout.setBy (x : Layout) (b : Bytes) : Layout :=
  { x with
    mode := u8 b 1, period := u8 b 2, phase := u8 b 3, law := u16 b 4, att := u8 b 6, scale := s32 b 8, refDelay := s32 b 12
    speed := u32 b 16, slew := u32 b 20, refDist := u32 b 24, minDist := u32 b 28, attMax := s32 b 32 }

/-- 06 R159: a layout that agrees with every layout of its group that is not STOPPED may stand in the group. -/
theorem groupClash_false {d : Dev} {lead : Nat → Nat} {k : Nat} {x : Layout}
    (h : ∀ j, j < 32 → j ≠ k → lead j = lead k → (d.unit 1 j).st ≠ .stopped → groupEq x (d.layout j) = true) : d.groupClash lead k x = false := by
  simp only [Dev.groupClash, groupMembers, List.any_eq_false, List.mem_filter, Bool.and_eq_true, beq_iff_eq, bne_iff_ne, Bool.not_eq_true',
    Dev.stopped, beq_eq_false_iff_ne]
  rintro j ⟨hj, hlead⟩ ⟨⟨hk, hst⟩, hne⟩
  exact absurd (h j (mem_rangeFrom hj).2 hk hlead hst) (by simp [hne])

theorem layoutConfig_sets : Sets .layoutConfig 0x0700 [.trj] (fun b s => b.length = 40 ∧ u8 b 0 ≤ 31 ∧ u8 b 1 ≤ 3 ∧ u8 b 2 ≤ 3 ∧
      u8 b 3 < 2 ^ u8 b 2 ∧ u8 b 6 ≤ 2 ∧ u8 b 7 = 0 ∧
      1 ≤ s32 b 8 ∧ 100 * 65536 ≤ u32 b 16 ∧ u32 b 16 ≤ 1000 * 65536 ∧ u32 b 20 ≤ 0x80000 ∧ u32 b 24 ≠ 0 ∧ u32 b 28 ≠ 0 ∧ 1 ≤ s32 b 32 ∧ u32 b 36 = 0 ∧
      (s.dev.unit 1 (u8 b 0)).st = .stopped ∧
      (∀ j, j < 32 → j ≠ u8 b 0 → s.dev.leadOf j = s.dev.leadOf (u8 b 0) → (s.dev.unit 1 j).st ≠ .stopped →
        (s.dev.layout j).law = u16 b 4 ∧ (s.dev.layout j).period = u8 b 2 ∧ (s.dev.layout j).phase = u8 b 3 ∧ (s.dev.layout j).scale = s32 b 8))
    (fun _ _ => [])
    (fun b s t => At {} s.dev.trj.lay t.dev.trj.lay (u8 b 0) ((s.dev.layout (u8 b 0)).setBy b)) := by
  rintro s r b h ⟨hl, h0, h1, h2, h3, h6, h7, h8, h16, h16', h20, h24, h28, h32, h36, hst, hgroup⟩
  have hclash : (taken s.dev r).groupClash (taken s.dev r).leadOf (u8 b 0) ((s.dev.layout (u8 b 0)).setBy b) = false := by
    refine groupClash_false fun j hj hk hlead hs => ?_
    obtain ⟨hlaw, hperiod, hphase, hscale⟩ := hgroup j hj hk hlead hs
    simp [groupEq, Layout.setBy, show (taken s.dev r).layout j = s.dev.layout j from rfl, hlaw, hperiod, hphase, hscale]
  refine answers_of_trj (c := cmdLayoutConfig)
    (d := { taken s.dev r with trj := { s.dev.trj with lay := tput {} s.dev.trj.lay (u8 b 0) ((s.dev.layout (u8 b 0)).setBy b) } })
    h rfl (checks_pass _ _ ?_) rfl fun t ht hf => ⟨?_, hf⟩
  · refine List.forall_mem_cons.mpr ⟨by simp [hl], List.forall_mem_cons.mpr ⟨?_, List.forall_mem_singleton.mpr ?_⟩⟩
    · simp only [rsv_of_zero (n := 1) h7, rsv_of_zero (n := 4) h36, Bool.or_false, Bool.or_eq_false_iff, decide_eq_false_iff_not,
        beq_eq_false_iff_ne]
      omega
    · exact Bool.or_eq_false_iff.mpr ⟨by simp [Dev.stopped, show (taken s.dev r).unit 1 (u8 b 0) = s.dev.unit 1 (u8 b 0) from rfl, hst], hclash⟩
  · beta_reduce; rw [ht]; exact at_tput _ _ _ _

theorem layoutGet_reads : Reads .layoutGet 0x0701 (fun b _ => b.length = 4 ∧ u8 b 0 ≤ 31 ∧ uN 3 b 1 = 0) (fun b s =>
    (s.dev.layout (u8 b 0)).bytes (u8 b 0) ++ le 1 (s.dev.unit 1 (u8 b 0)).st.code ++ zb 3 ++ le 4 (s.dev.layout (u8 b 0)).jobs.toNat) := by
  rintro s r b h ⟨hl, hk, hz⟩
  refine answers_of_read (c := cmdLayoutGet) h rfl (checks_pass _ _ ?_)
  simp [hl, rsv_of_zero hz, hk]

/-! ## Loudspeakers (03 R78) -/

/-- A field of an entry is a field of the request that holds the entry. -/
theorem uN_entry {n m k : Nat} (b : Bytes) (o : Nat) (h : k + n ≤ m) : uN n ((b.drop o).take m) k = uN n b (o + k) := by
  rw [uN, uN, List.drop_take, List.take_take, List.drop_drop, Nat.min_eq_left (by omega)]

/-- A run none of whose members fails passes. -/
theorem firstFail_pass {f : Nat → Option Nat} {l : List Nat} (i : Nat) (h : ∀ k ∈ l, f k = none) : firstFail f i l = none := by
  induction l generalizing i with
  | nil => rfl
  | cons k l ih =>
    obtain ⟨hk, hl⟩ := List.forall_mem_cons.mp h
    rw [firstFail, hk]
    exact ih _ hl

/-- 03 Table 3.2: entry `i` of a request of SPEAKER_SET. -/
def spkEntry (b : Bytes) (i : Nat) : Bytes := (b.drop (8 + 32 * i)).take 32

/-- Writes the loudspeakers of a run. -/
def setSpks (b : Bytes) (f n : Nat) (t : Tbl Speaker) : Tbl Speaker :=
  forRun (fun i t => tput {} t (f + i) (spkOf (spkEntry b i))) (rangeFrom 0 n) t

theorem setSpks_get (b : Bytes) (f n : Nat) (t : Tbl Speaker) (k : Nat) :
    tget {} (setSpks b f n t) k = if f ≤ k ∧ k < f + n then spkOf (spkEntry b (k - f)) else tget {} t k :=
  read_forRun (tget {}) f (fun i _ => spkOf (spkEntry b i)) (fun _ _ _ => tget_tput _ _ _ _ _) 0 n t k

theorem spkEntry_layout (b : Bytes) (i : Nat) : (spkOf (spkEntry b i)).layout = u8 b (26 + 32 * i) := by
  rw [show 26 + 32 * i = 8 + 32 * i + 18 by omega]
  exact uN_entry b _ (by decide)

/-- 03 Table 3.2: entry `i` names no layout, or holds a reserved field. -/
def spkBad (b : Bytes) (i : Nat) : Bool := decide (31 < (spkOf (spkEntry b i)).layout) || rsv (spkEntry b i) 19 1 || rsv (spkEntry b i) 28 4

theorem spkBad_false {b : Bytes} {i : Nat} (hlay : u8 b (26 + 32 * i) ≤ 31) (h1 : u8 b (27 + 32 * i) = 0) (h4 : u32 b (36 + 32 * i) = 0) :
    spkBad b i = false := by
  have hr1 : rsv (spkEntry b i) 19 1 = false :=
    rsv_of_zero ((uN_entry b _ (by decide)).trans (by rw [show 8 + 32 * i + 19 = 27 + 32 * i by omega]; exact h1))
  have hr4 : rsv (spkEntry b i) 28 4 = false :=
    rsv_of_zero ((uN_entry b _ (by decide)).trans (by rw [show 8 + 32 * i + 28 = 36 + 32 * i by omega]; exact h4))
  rw [spkBad, spkEntry_layout, hr1, hr4, decide_eq_false (Nat.not_lt.mpr hlay)]
  rfl

/-- SPEAKER_SET of entries in range, whose layouts before and after are STOPPED, writes them. -/
theorem cmdSpeakerSet_writes {d : Dev} {b : Bytes} (x : Ctx) (hl : b.length = 8 + 32 * u16 b 2) (h0 : 0 < u16 b 2) (hn : u16 b 0 + u16 b 2 ≤ 512)
    (hz : u32 b 4 = 0) (he : ∀ i, i < u16 b 2 → u8 b (26 + 32 * i) ≤ 31 ∧ u8 b (27 + 32 * i) = 0 ∧ u32 b (36 + 32 * i) = 0 ∧
      (d.unit 1 (d.layOf (u16 b 0 + i))).st = .stopped ∧ (d.unit 1 (u8 b (26 + 32 * i))).st = .stopped) :
    cmdSpeakerSet.body x b d = ok { d with trj := { d.trj with spk := setSpks b (u16 b 0) (u16 b 2) d.trj.spk } } := by
  have hbad : (rangeFrom 0 (u16 b 2)).any (spkBad b) = false := by
    refine List.any_eq_false.mpr fun i hi => ?_
    obtain ⟨hlay, h1, h4, -, -⟩ := he i (by have := mem_rangeFrom hi; omega)
    rw [spkBad_false hlay h1 h4]
    decide
  have hpass := firstErr_pass (l := [(b.length != 8 + 32 * u16 b 2, 0x101), (u16 b 2 == 0 || decide (512 < u16 b 0 + u16 b 2) || rsv b 4 4 ||
    (rangeFrom 0 (u16 b 2)).any (spkBad b), 0x102)]) (by simp [hl, hbad, rsv_of_zero (n := 4) hz, Nat.not_lt.mpr hn, Nat.ne_of_gt h0])
  have hfail : firstFail (fun i => if d.stopped 1 (d.layOf (u16 b 0 + i)) && d.stopped 1 (spkOf (spkEntry b i)).layout then none else some 0x103) 0
      (rangeFrom 0 (u16 b 2)) = none := by
    refine firstFail_pass 0 fun i hi => if_pos ?_
    obtain ⟨-, -, -, hbefore, hafter⟩ := he i (by have := mem_rangeFrom hi; omega)
    simp [Dev.stopped, spkEntry_layout, hbefore, hafter]
  unfold spkBad spkEntry at hpass
  unfold spkEntry at hfail
  simp only [cmdSpeakerSet, cmdA, hpass, hfail]
  rfl

theorem speakerSet_sets : Sets .speakerSet 0x0702 [.trj] (fun b s => b.length = 8 + 32 * u16 b 2 ∧ 0 < u16 b 2 ∧ u16 b 0 + u16 b 2 ≤ 512 ∧
      u32 b 4 = 0 ∧ (∀ i, i < u16 b 2 → u8 b (26 + 32 * i) ≤ 31 ∧ u8 b (27 + 32 * i) = 0 ∧ u32 b (36 + 32 * i) = 0 ∧
        (s.dev.unit 1 (s.dev.layOf (u16 b 0 + i))).st = .stopped ∧ (s.dev.unit 1 (u8 b (26 + 32 * i))).st = .stopped)) (fun _ _ => [])
    (fun b s t => (∀ i, i < u16 b 2 → t.dev.spk (u16 b 0 + i) = spkOf ((b.drop (8 + 32 * i)).take 32)) ∧
      (∀ o, (o < u16 b 0 ∨ u16 b 0 + u16 b 2 ≤ o) → t.dev.spk o = s.dev.spk o)) := by
  rintro s r b h ⟨hl, h0, hn, hz, he⟩
  refine answers_of_trj (c := cmdSpeakerSet) h rfl (cmdSpeakerSet_writes _ hl h0 hn hz he) rfl fun t ht hf =>
    ⟨⟨fun i hi => ?_, fun o ho => ?_⟩, hf⟩
  · rw [Dev.spk, ht]
    refine (setSpks_get b _ _ _ _).trans ((if_pos (by omega)).trans ?_)
    rw [Nat.add_sub_cancel_left]; rfl
  · rw [Dev.spk, ht]
    exact (setSpks_get b _ _ _ _).trans (if_neg (by omega))

theorem speakerGet_reads : Reads .speakerGet 0x0703 (fun b _ => b.length = 4 ∧ 0 < u16 b 2 ∧ u16 b 0 + u16 b 2 ≤ 512)
    (fun b s => (rangeFrom (u16 b 0) (u16 b 2)).flatMap (fun o => (s.dev.spk o).bytes)) := by
  rintro s r b h ⟨hl, h0, hn⟩
  refine answers_of_read (c := cmdSpeakerGet) h rfl (checks_pass _ _ ?_)
  simp [hl, Nat.not_lt.mpr hn, Nat.ne_of_gt h0]

/-! ## Routes (03 R80) -/

/-- Writes a routing word. -/
def Dev.setRoute (d : Dev) (w : Nat) (v : W32) : Dev :=
  { d with trj := { d.trj with route := tput (if w = 0 then 0xFFFFFFFF else 0) d.trj.route w v } }

theorem setRoute_routeWord (d : Dev) (w : Nat) (v : W32) (k : Nat) : (d.setRoute w v).routeWord k = if k = w then v else d.routeWord k := by
  split
  · next h => rw [h]; exact tget_tput_self _ _ _ _
  · next h => exact tget_tput_apart _ _ _ _ h

/-- 01 R32: the device with the note that command `c` has set item `key` for block `b`. -/
def Dev.noted (d : Dev) (c : Ctx) (key b : Nat) : Dev :=
  { d with hst := { d.hst with lastSet := tput none d.hst.lastSet key (some (b, c.ord)) } }

/-- 01 R32: a setting of trajectories changes nothing else, whether a later one forestalls it or not. -/
theorem setItem_trjOnly (d : Dev) (c : Ctx) (key b : Nat) {f : Dev → Dev} (h : ∀ d, TrjOnly d (f d)) : TrjOnly d (d.setItem c key b f) := by
  have hput : TrjOnly d (f (d.noted c key b)) := TrjOnly.trans (show TrjOnly d (d.noted c key b) from Eq.refl _) (h _)
  unfold Dev.setItem
  dsimp only
  split
  · split
    · exact Eq.refl _
    · exact hput
  · exact hput

/-- 01 R32: no command taken after `c` has set item `key` of the device for block `b`. -/
def Dev.newest (d : Dev) (c : Ctx) (key b : Nat) : Prop := ∀ b' o, tget none d.hst.lastSet key = some (b', o) → ¬ (b' = b ∧ c.ord < o)

/-- A command's own setting forestalls none of its others. -/
theorem newest_noted {d : Dev} {c : Ctx} {key b : Nat} (j : Nat) (h : d.newest c key b) : (d.noted c j b).newest c key b := by
  intro b' o hs
  simp only [Dev.noted, tget_tput] at hs
  split at hs
  · obtain ⟨-, rfl⟩ := Prod.mk.inj (Option.some.inj hs)
    exact fun hc => Nat.lt_irrefl _ hc.2
  · exact h b' o hs

/-- Word `i` of a request of ROUTE_SET. -/
def routeVal (p : Bytes) (i : Nat) : W32 := BitVec.ofNat 32 (u32 p (8 + 4 * i))

/-- Member `i` of a run of routing words from `f`, set by command `c` for block `b`. -/
def routeStep (c : Ctx) (b f : Nat) (p : Bytes) (i : Nat) (d : Dev) : Dev :=
  d.setItem c (4 * (f + i) + 1) b (fun d => d.setRoute (f + i) (routeVal p i))

/-- The same with nothing to forestall it. -/
def routePut (c : Ctx) (b f : Nat) (p : Bytes) (i : Nat) (d : Dev) : Dev := (d.noted c (4 * (f + i) + 1) b).setRoute (f + i) (routeVal p i)

theorem routeStep_trjOnly (c : Ctx) (b f : Nat) (p : Bytes) (i : Nat) (d : Dev) : TrjOnly d (routeStep c b f p i d) :=
  setItem_trjOnly d _ _ _ fun d => show TrjOnly d (d.setRoute (f + i) (routeVal p i)) from Eq.refl _

theorem routeRun_put {c : Ctx} {b f : Nat} (p : Bytes) {l : List Nat} {d : Dev} (h : ∀ i ∈ l, d.newest c (4 * (f + i) + 1) b) :
    forRun (routeStep c b f p) l d = forRun (routePut c b f p) l d := by
  induction l generalizing d with
  | nil => rfl
  | cons i l ih =>
    obtain ⟨hi, hl⟩ := List.forall_mem_cons.mp h
    rw [forRun, forRun, show routeStep c b f p i d = routePut c b f p i d from setItem_newest _ hi]
    exact ih fun j hj => newest_noted (4 * (f + i) + 1) (hl j hj)

/-- A run of routing words none of which a later command has set reads as written, and every other word as it was. -/
theorem routeRun_routeWord {c : Ctx} {b f n : Nat} (p : Bytes) {d : Dev} (h : ∀ i, i < n → d.newest c (4 * (f + i) + 1) b) (k : Nat) :
    (forRun (routeStep c b f p) (rangeFrom 0 n) d).routeWord k = if f ≤ k ∧ k < f + n then routeVal p (k - f) else d.routeWord k := by
  rw [routeRun_put p fun i hi => h i (by have := mem_rangeFrom hi; omega)]
  exact read_forRun Dev.routeWord f (fun i _ => routeVal p i) (fun i d k => setRoute_routeWord (d.noted c _ b) (f + i) _ k) 0 n d k

theorem routeSet_sets : Sets .routeSet 0x0704 [.trj] (fun b s => b.length = 8 + 4 * u16 b 2 ∧ 0 < u16 b 2 ∧ u16 b 0 + u16 b 2 ≤ 256 ∧
      u32 b 4 = 0 ∧ (∀ i, i < u16 b 2 → Newest s (4 * (u16 b 0 + i) + 1) (s.dev.tim.tick + 3))) (fun _ _ => [])
    (fun b s t => (∀ i, i < u16 b 2 → t.dev.routeWord (u16 b 0 + i) = BitVec.ofNat 32 (u32 b (8 + 4 * i))) ∧
      (∀ w, (w < u16 b 0 ∨ u16 b 0 + u16 b 2 ≤ w) → t.dev.routeWord w = s.dev.routeWord w)) := by
  rintro s r b h ⟨hl, h0, hn, hz, hnew⟩
  have hread := routeRun_routeWord (c := plainCtx 0x0704 s.dev r []) b (d := taken s.dev r) hnew
  refine answers_of_trj (c := cmdRouteSet)
    (d := forRun (routeStep (plainCtx 0x0704 s.dev r []) (s.dev.tim.tick + 3) (u16 b 0) b) (rangeFrom 0 (u16 b 2)) (taken s.dev r))
    h rfl (checks_pass _ _ ?_) (forRun_trjOnly (routeStep_trjOnly _ _ _ _) _ _) fun t ht hf => ?_
  · simp [hl, rsv_of_zero (n := 4) hz, Nat.not_lt.mpr hn, Nat.ne_of_gt h0]
  · have hword : ∀ k, t.dev.routeWord k = _ := fun k =>
      (congrArg (fun x : Trj => tget (if k = 0 then 0xFFFFFFFF else 0) x.route k) ht).trans (hread k)
    refine ⟨⟨fun i hi => ?_, fun w hw => ?_⟩, hf⟩
    · rw [hword, if_pos (by omega), Nat.add_sub_cancel_left, routeVal]
    · rw [hword, if_neg (by omega)]; rfl

/-! ## The mode of delays, and what the reading commands answer (03 R94, R104, R106) -/

theorem trjConfig_sets : Sets .trjConfig 0x0705 [.trj] (fun b s => b.length = 4 ∧ u32 b 0 ≤ 1 ∧ (s.dev.unit 0 0).st = .stopped) (fun _ _ => [])
    (fun b s t => t.dev.trj = { s.dev.trj with fold := u32 b 0 == 1 }) := by
  rintro s r b h ⟨hl, h0, hst⟩
  refine answers_of_trj (c := cmdTrjConfig) h rfl (checks_pass _ _ ?_) rfl fun t ht hf => ⟨ht, hf⟩
  simp [hl, h0, Dev.stopped, show (taken s.dev r).unit 0 0 = s.dev.unit 0 0 from rfl, hst]

theorem trjStatsGet_reads : Reads .trjStatsGet 0x0720 (fun b _ => b = [])
    (fun _ s => words ((rangeFrom 0 10).map (fun i => (tget 0 s.dev.trj.ctr i).toNat))) := by
  rintro s r b h rfl
  exact answers_of_read (c := cmdTrjStatsGet) h rfl (checks_pass (l := [(([] : Bytes).length != 0, 0x101)]) (taken s.dev r) _ (by simp))

theorem objStateGet_reads {s : State} {r : AcpReq} {b : Bytes} {x : Obj} {q : Nat} (h : Plain s r b) (hl : b.length = 4)
    (ho : u16 b 0 < nObj s.dev.rate) (hz : u16 b 2 = 0) (hx : x = s.dev.obj (u16 b 0)) (hq : q = qDepth x.queue (boundT s.dev.rate (s.dev.tim.tick + 3))) :
    Answers (.objStateGet r) 0x0713 r s (
      (match s.dev.trj.block with
       | some m => if x.ev.valid then timeValue (boundT s.dev.rate (m + 1) / 65536) (boundT s.dev.rate (m + 1) % 65536) s.dev.tim.quality.code
          else timeValue 0 0 3
       | none => timeValue 0 0 3)
      ++ leI 4 x.ev.pos.x ++ leI 4 x.ev.pos.y ++ leI 4 x.ev.pos.z ++ leI 4 x.ev.vel.x ++ leI 4 x.ev.vel.y ++ leI 4 x.ev.vel.z ++ leI 4 x.ev.gain
      ++ leI 4 x.gainVal ++ le 1 q
      ++ le 1 (b01 x.ev.placed + 2 * b01 (!x.queue.isEmpty && q == 1 && (lastLe (boundT s.dev.rate (s.dev.tim.tick + 3)) x.queue).isSome)
        + 4 * b01 ((x.queue.drop ((lastLe (boundT s.dev.rate (s.dev.tim.tick + 3)) x.queue).getD 0)).head?.elim false Knot.synth))
      ++ le 1 x.ev.prio ++ le 1 x.ev.lay ++ le 4 x.ev.route.toNat ++ le 2 x.ev.ext ++ zb 6) (Frame [] s) := by
  have hsyn : ∀ l : List Knot, l.head?.elim false Knot.synth = (match l with | k :: _ => k.synth | [] => false) := fun l => by
    cases l <;> rfl
  subst hx hq
  rw [hsyn]
  refine answers_of_read (c := cmdObjStateGet) h rfl (checks_pass _ _ ?_)
  simp [hl, rsv_of_zero (n := 2) hz, Nat.not_le.mpr ho]

/-- Settles O21, from the lemmas above, a part of the statement each. -/
theorem layoutCommands : Obligations.LayoutCommands :=
  ⟨layoutConfig_sets, layoutGet_reads, speakerSet_sets, speakerGet_reads, routeSet_sets, trjConfig_sets,
   fun _ _ _ _ _ h hl ho hz hx hq => objStateGet_reads h hl ho hz hx hq,
   trjStatsGet_reads⟩

end Sys2Proof.Machine
end

section
/-! PROOFS. The commands of the filter chain (O19). -/

open Sys2Proof

namespace Sys2Proof.Machine

/-! ## Commands of the filter chain -/

/-- A plain command whose body accepts, and changes the filter chain alone. -/
theorem answers_of_flt {i : AcpReq → Instr} {c : Cmd} {s : State} {r : AcpReq} {b p : Bytes} {x : Flt} {eff : State → Prop} (h : Plain s r b)
    (hi : exec (i r) s = run true (acpTake c r) s)
    (hb : c.body (plainCtx c.op s.dev r []) b (taken s.dev r) = okData p { taken s.dev r with flt := x })
    (he : ∀ t : State, t.dev.flt = x → eff t) : Answers (i r) c.op r s p (fun t => eff t ∧ Frame [.flt] s t) := by
  refine answers_of_body h hi hb rfl rfl ⟨he _ (leaves_flt _ _), frame_leaves rfl h.calm fun k hk => same_answered ?_⟩
  cases k
  case flt => exact absurd (List.mem_singleton_self _) hk
  case rings => exact ⟨rfl, rfl, rfl, rfl, rfl, rfl⟩
  case irq => exact ⟨rfl, rfl, rfl⟩
  case mbox => exact fun _ => rfl
  all_goals rfl

/-- A unit that is STOPPED passes the checks of a setting: it is STOPPED and not RETIRED. -/
theorem stopped_of_st {d : Dev} {k i : Nat} (h : (d.unit k i).st = .stopped) : d.stopped k i = true ∧ d.retired k i = false := by
  rw [Dev.stopped, Dev.retired, h]
  exact ⟨rfl, rfl⟩

/-! ## Filter engines (04 R110, R123) -/

theorem fltEngineConfig_sets : Sets .fltEngineConfig 0x0600 [.flt] (fun b s => b.length = 8 ∧ u8 b 0 ≤ 5 ∧
      (if u8 b 0 < 4 then u8 b 1 ≤ 2 else u8 b 1 = 3) ∧ ¬ (u8 b 1 = 1 ∧ s.dev.rate < 2) ∧ u8 b 2 ≤ 1 ∧ u8 b 3 ≤ 1 ∧ 1 ≤ u16 b 4 ∧
      u16 b 4 ≤ slotLimit (u8 b 1) (u8 b 3) ∧ u16 b 6 = 0 ∧ s.dev.mappedAbove (u8 b 0) (u16 b 4) = false ∧
      (s.dev.unit 3 (u8 b 0)).st = .stopped) (fun _ _ => [])
    (fun b s t => t.dev.fe (u8 b 0) = { s.dev.fe (u8 b 0) with kind := u8 b 1, profile := u8 b 2, align := u8 b 3, slots := u16 b 4 } ∧
      (∀ e, e ≠ u8 b 0 → t.dev.fe e = s.dev.fe e)) := by
  rintro s r b h ⟨hl, he, hk, hrate, hprof, hal, hn, hlim, hz, hmap, hst⟩
  obtain ⟨hstop, hret⟩ := stopped_of_st (d := taken s.dev r) hst
  rw [← taken_rate s.dev r] at hrate
  refine answers_of_flt (c := cmdFltEngineConfig) h rfl (checks_pass _ _ ?_) fun t ht => ⟨?_, fun e hne => ?_⟩
  · simp only [hl, hret, hstop, rsv_of_zero (n := 2) hz, show (taken s.dev r).mappedAbove (u8 b 0) (u16 b 4) = false from hmap,
      Bool.or_false, Bool.not_true, bne_self_eq_false, List.mem_cons, List.not_mem_nil, or_false, forall_eq_or_imp, forall_eq,
      Bool.or_eq_false_iff, decide_eq_false_iff_not, Bool.and_eq_false_imp, decide_eq_true_eq, beq_eq_false_iff_ne, bne_eq_false_iff_eq,
      beq_iff_eq, true_and, and_true]
    split at hk <;> omega
  · rw [Dev.fe, ht]; exact tget_tput_self _ _ _ _
  · rw [Dev.fe, ht]; exact tget_tput_apart _ _ _ _ hne

theorem fltEngineGet_reads : Reads .fltEngineGet 0x0601 (fun b _ => b.length = 4 ∧ u8 b 0 ≤ 5 ∧ uN 3 b 1 = 0)
    (fun b s => (s.dev.fe (u8 b 0)).bytes (u8 b 0) ++
      le 1 (s.dev.unit 3 (u8 b 0)).st.code ++ zb 3 ++ words [baseGd (s.dev.fe (u8 b 0)).kind (s.dev.fe (u8 b 0)).profile * 65536,
        (s.dev.fe (u8 b 0)).skewMax, (s.dev.fe (u8 b 0)).miss.toNat, (s.dev.fe (u8 b 0)).clip.toNat]) := by
  rintro s r b h ⟨hl, he, hz⟩
  refine answers_of_read (c := cmdFltEngineGet) h rfl (checks_pass _ _ ?_)
  simp [hl, he, rsv_of_zero hz]

/-! ## Routes (04 R107) -/

/-- Entry `i` of FLT_CHAN_MAP as a route; 255 is DIRECT. -/
def mapEntry (b : Bytes) (i : Nat) : Route :=
  if u8 b (8 + 4 * i) = 255 then {} else { engine := u8 b (8 + 4 * i), slot := u16 b (10 + 4 * i) }

theorem rangeFrom_getElem? (a : Nat) {n i : Nat} (h : i < n) : (rangeFrom a n)[i]? = some (a + i) := by
  induction n generalizing a i with
  | zero => omega
  | succ n ih =>
    cases i with
    | zero => rfl
    | succ i =>
      rw [rangeFrom, List.getElem?_cons_succ, ih (a + 1) (by omega)]
      congr 1; omega

theorem mapRoutes_getD (b : Bytes) {n i : Nat} (h : i < n) : (mapRoutes b n).getD i {} = mapEntry b i := by
  rw [mapRoutes, List.getD_eq_getElem?_getD, List.getElem?_map, rangeFrom_getElem? 0 h, Nat.zero_add]
  rfl

/-- The routes of one side after a run of new ones. -/
def mapPut (b : Bytes) (f n : Nat) (t : Tbl Route) : Tbl Route :=
  forRun (fun i t => tput {} t (f + i) ((mapRoutes b n).getD i {})) (rangeFrom 0 n) t

/-- A run of routes reads as written, and every other route as it was. -/
theorem mapPut_get (b : Bytes) (f n : Nat) (t : Tbl Route) (k : Nat) :
    tget {} (mapPut b f n t) k = if f ≤ k ∧ k < f + n then mapEntry b (k - f) else tget {} t k := by
  refine (read_forRun (tget {}) f (fun i _ => (mapRoutes b n).getD i {}) (fun _ _ _ => tget_tput _ _ _ _ _) 0 n t k).trans ?_
  by_cases hk : f ≤ k ∧ k < f + n
  · rw [if_pos hk, if_pos (by omega), mapRoutes_getD b (by omega)]
  · rw [if_neg hk, if_neg (by omega)]

theorem mapPut_member (b : Bytes) (f : Nat) {n i : Nat} (t : Tbl Route) (h : i < n) : tget {} (mapPut b f n t) (f + i) = mapEntry b i := by
  rw [mapPut_get, if_pos (by omega), Nat.add_sub_cancel_left]

theorem mapPut_outside (b : Bytes) {f n k : Nat} (t : Tbl Route) (h : k < f ∨ f + n ≤ k) : tget {} (mapPut b f n t) k = tget {} t k := by
  rw [mapPut_get, if_neg (by omega)]

/-- The routes of the side that a request names. -/
def Dev.routes (d : Dev) (side : Nat) : Tbl Route := if side = 0 then d.flt.inmap else d.flt.outmap

/-- 04 R107: an engine stands on a side: FE0 to FE3 take inputs, FE4 and FE5 outputs. -/
def onSide (side e : Nat) : Prop := if side = 0 then e ≤ 3 else e = 4 ∨ e = 5

theorem onSide_le {side e : Nat} (h : onSide side e) : e ≤ 5 := by unfold onSide at h; split at h <;> omega

/-- 04 R107: entry `i` of FLT_CHAN_MAP is DIRECT, or a slot of a STOPPED engine of the side; the route it replaces is DIRECT, or of an engine
that is STOPPED or RETIRED. -/
structure MapOk (d : Dev) (b : Bytes) (i : Nat) : Prop where
  reserved : u8 b (9 + 4 * i) = 0
  after : u8 b (8 + 4 * i) = 255 ∨ (onSide (u8 b 0) (u8 b (8 + 4 * i)) ∧ (d.unit 3 (u8 b (8 + 4 * i))).st = .stopped ∧
    u16 b (10 + 4 * i) < (d.fe (u8 b (8 + 4 * i))).slots)
  before : (tget {} (d.routes (u8 b 0)) (u16 b 2 + i)).engine = 15 ∨
    (d.unit 3 (tget {} (d.routes (u8 b 0)) (u16 b 2 + i)).engine).st = .stopped ∨
    (d.unit 3 (tget {} (d.routes (u8 b 0)) (u16 b 2 + i)).engine).st = .retired

/-- Entry `i` of FLT_CHAN_MAP holds a reserved field, or a route that is neither DIRECT nor a slot of an engine of the side. -/
def mapBad (d : Dev) (b : Bytes) (i : Nat) : Bool :=
  rsv b (9 + 4 * i) 1 || u8 b (8 + 4 * i) == 15 || ((mapEntry b i).engine != 15 &&
    ((if u8 b 0 = 0 then decide (3 < (mapEntry b i).engine) else (mapEntry b i).engine != 4 && (mapEntry b i).engine != 5)
      || decide ((d.fe (mapEntry b i).engine).slots ≤ (mapEntry b i).slot)))

/-- Entry `i` of FLT_CHAN_MAP concerns an engine at work, after or before. -/
def mapBusy (d : Dev) (b : Bytes) (i : Nat) : Bool :=
  let o := tget {} (d.routes (u8 b 0)) (u16 b 2 + i)
  ((mapEntry b i).engine != 15 && !d.stopped 3 (mapEntry b i).engine) || (o.engine != 15 && !d.stopped 3 o.engine && !d.retired 3 o.engine)

/-- An engine of a side passes the check that an engine stands on it. -/
theorem onSide_checked {side e : Nat} (h : onSide side e) : (if side = 0 then decide (3 < e) else e != 4 && e != 5) = false := by
  unfold onSide at h
  split at h
  · next h0 => rw [if_pos h0, decide_eq_false (Nat.not_lt.mpr h)]
  · next h0 => rcases h with rfl | rfl <;> simp [h0]

/-- An entry that may be set passes the checks of FLT_CHAN_MAP. -/
theorem mapOk_checks {d : Dev} {b : Bytes} {i : Nat} (h : MapOk d b i) :
    mapBad d b i = false ∧ ((mapEntry b i).engine != 15 && d.retired 3 (mapEntry b i).engine) = false ∧ mapBusy d b i = false := by
  obtain ⟨hz, hafter, hbefore⟩ := h
  have hold : let o := tget {} (d.routes (u8 b 0)) (u16 b 2 + i); (o.engine != 15 && !d.stopped 3 o.engine && !d.retired 3 o.engine) = false := by
    obtain hd | hs | hr := hbefore
    · simp [hd]
    · simp [Dev.stopped, hs]
    · simp [Dev.retired, hr]
  rw [mapBad, mapBusy, hold, rsv_of_zero (n := 1) hz]
  obtain hd | ⟨hon, hst, hslot⟩ := hafter
  · simp [mapEntry, hd]
  · obtain ⟨hstop, hret⟩ := stopped_of_st hst
    have h5 := onSide_le hon
    rw [show mapEntry b i = { engine := u8 b (8 + 4 * i), slot := u16 b (10 + 4 * i) } from if_neg (by omega)]
    simp [onSide_checked hon, hstop, hret, hslot, show u8 b (8 + 4 * i) ≠ 15 by omega]

/-- A setting of a run whose fields are in range, and no member of which fails, is done. -/
theorem runSet_pass {l : List (Bool × Nat)} {one : Nat → Option Nat} {run : List Nat} {d : Dev} {a : Rep} (hl : ∀ x ∈ l, x.1 = false)
    (hone : ∀ k ∈ run, one k = none) : (match firstErr l with
      | some e => no e d
      | none => match firstFail one 0 run with
        | some (_, e) => no e d
        | none => a) = a := by
  rw [firstErr_pass hl, firstFail_pass 0 hone]

/-- The filter chain with the routes of a side replaced. -/
def Flt.setRoutes (x : Flt) (side : Nat) (t : Tbl Route) : Flt := if side = 0 then { x with inmap := t } else { x with outmap := t }

/-- FLT_CHAN_MAP of entries that may be set, no two of one slot, writes their routes. -/
theorem cmdFltChanMap_writes {d : Dev} {b : Bytes} (x : Ctx) (hl : b.length = 8 + 4 * u16 b 4) (hside : u8 b 0 ≤ 1) (h1 : u8 b 1 = 0)
    (h6 : u16 b 6 = 0) (hrun : runBad d.rate (u8 b 0) (u16 b 2) (u16 b 4) = false) (he : ∀ i, i < u16 b 4 → MapOk d b i)
    (hclash : slotClash (mapPut b (u16 b 2) (u16 b 4) (d.routes (u8 b 0))) = false) :
    cmdFltChanMap.body x b d =
      ok { d with flt := d.flt.setRoutes (u8 b 0) (mapPut b (u16 b 2) (u16 b 4) (d.routes (u8 b 0))) } := by
  have hmem : ∀ i ∈ rangeFrom 0 (u16 b 4), (mapRoutes b (u16 b 4)).getD i {} = mapEntry b i ∧ MapOk d b i := fun i hi =>
    have hlt : i < u16 b 4 := by have := mem_rangeFrom hi; omega
    ⟨mapRoutes_getD b hlt, he i hlt⟩
  refine (runSet_pass ?_ ?_).trans ?_
  · refine List.forall_mem_cons.mpr ⟨by simp [hl], List.forall_mem_singleton.mpr ?_⟩
    refine Bool.or_eq_false_iff.mpr ⟨Bool.or_eq_false_iff.mpr ⟨?_, List.any_eq_false.mpr fun i hi => ?_⟩, hclash⟩
    · simp [hside, rsv_of_zero (n := 1) h1, rsv_of_zero (n := 2) h6, hrun]
    · obtain ⟨hget, hok⟩ := hmem i hi
      rw [Bool.not_eq_true, hget]
      exact (mapOk_checks hok).1
  · intro i hi
    obtain ⟨hget, hok⟩ := hmem i hi
    obtain ⟨-, hret, hbusy⟩ := mapOk_checks hok
    refine firstErr_pass (List.forall_mem_cons.mpr ⟨?_, List.forall_mem_singleton.mpr ?_⟩)
    · simp only [hget, hret]
    · simp only [hget]; exact hbusy
  · unfold Flt.setRoutes
    rfl

theorem fltChanMap_in : Sets .fltChanMap 0x0602 [.flt] (fun b s => b.length = 8 + 4 * u16 b 4 ∧ u8 b 0 = 0 ∧ u8 b 1 = 0 ∧ u16 b 6 = 0 ∧
      runBad s.dev.rate 0 (u16 b 2) (u16 b 4) = false ∧
      (∀ i, i < u16 b 4 → u8 b (9 + 4 * i) = 0 ∧ (u8 b (8 + 4 * i) = 255 ∨ (u8 b (8 + 4 * i) ≤ 3 ∧ (s.dev.unit 3 (u8 b (8 + 4 * i))).st = .stopped ∧
        u16 b (10 + 4 * i) < (s.dev.fe (u8 b (8 + 4 * i))).slots)) ∧
        ((s.dev.inRoute (u16 b 2 + i)).engine = 15 ∨ (s.dev.unit 3 (s.dev.inRoute (u16 b 2 + i)).engine).st = .stopped ∨
          (s.dev.unit 3 (s.dev.inRoute (u16 b 2 + i)).engine).st = .retired)) ∧
      slotClash (forRun (fun i t => tput {} t (u16 b 2 + i) ((mapRoutes b (u16 b 4)).getD i {})) (rangeFrom 0 (u16 b 4)) s.dev.flt.inmap) = false)
    (fun _ _ => [])
    (fun b s t => (∀ i, i < u16 b 4 → t.dev.inRoute (u16 b 2 + i) = (if u8 b (8 + 4 * i) = 255 then {}
        else { engine := u8 b (8 + 4 * i), slot := u16 b (10 + 4 * i) })) ∧
      (∀ c, (c < u16 b 2 ∨ u16 b 2 + u16 b 4 ≤ c) → t.dev.inRoute c = s.dev.inRoute c) ∧ t.dev.flt.outmap = s.dev.flt.outmap) := by
  rintro s r b h ⟨hl, h0, h1, h6, hrun, he, hclash⟩
  have hside : (taken s.dev r).routes (u8 b 0) = s.dev.flt.inmap := if_pos h0
  refine answers_of_flt (c := cmdFltChanMap) h rfl
    (cmdFltChanMap_writes _ hl (by omega) h1 h6 (h0.symm ▸ hrun) (fun i hi => ?_) (hside.symm ▸ hclash)) fun t ht => ?_
  · obtain ⟨hz, hafter, hbefore⟩ := he i hi
    exact ⟨hz, hafter.imp_right (And.imp_left (if_pos h0).mpr), hside.symm ▸ hbefore⟩
  · rw [hside, Flt.setRoutes, if_pos h0] at ht
    simp only [Dev.inRoute, ht]
    exact ⟨fun i hi => mapPut_member b _ _ hi, fun c hc => mapPut_outside b _ hc, rfl⟩

theorem fltChanMap_out : Sets .fltChanMap 0x0602 [.flt] (fun b s => b.length = 8 + 4 * u16 b 4 ∧ u8 b 0 = 1 ∧ u8 b 1 = 0 ∧ u16 b 6 = 0 ∧
      runBad s.dev.rate 1 (u16 b 2) (u16 b 4) = false ∧
      (∀ i, i < u16 b 4 → u8 b (9 + 4 * i) = 0 ∧ (u8 b (8 + 4 * i) = 255 ∨ ((u8 b (8 + 4 * i) = 4 ∨ u8 b (8 + 4 * i) = 5) ∧
        (s.dev.unit 3 (u8 b (8 + 4 * i))).st = .stopped ∧ u16 b (10 + 4 * i) < (s.dev.fe (u8 b (8 + 4 * i))).slots)) ∧
        ((s.dev.outRoute (u16 b 2 + i)).engine = 15 ∨ (s.dev.unit 3 (s.dev.outRoute (u16 b 2 + i)).engine).st = .stopped ∨
          (s.dev.unit 3 (s.dev.outRoute (u16 b 2 + i)).engine).st = .retired)) ∧
      slotClash (forRun (fun i t => tput {} t (u16 b 2 + i) ((mapRoutes b (u16 b 4)).getD i {})) (rangeFrom 0 (u16 b 4)) s.dev.flt.outmap) = false)
    (fun _ _ => [])
    (fun b s t => (∀ i, i < u16 b 4 → t.dev.outRoute (u16 b 2 + i) = (if u8 b (8 + 4 * i) = 255 then {}
        else { engine := u8 b (8 + 4 * i), slot := u16 b (10 + 4 * i) })) ∧
      (∀ c, (c < u16 b 2 ∨ u16 b 2 + u16 b 4 ≤ c) → t.dev.outRoute c = s.dev.outRoute c) ∧ t.dev.flt.inmap = s.dev.flt.inmap) := by
  rintro s r b h ⟨hl, h0, h1, h6, hrun, he, hclash⟩
  have hne : u8 b 0 ≠ 0 := by omega
  have hside : (taken s.dev r).routes (u8 b 0) = s.dev.flt.outmap := if_neg hne
  refine answers_of_flt (c := cmdFltChanMap) h rfl
    (cmdFltChanMap_writes _ hl (by omega) h1 h6 (h0.symm ▸ hrun) (fun i hi => ?_) (hside.symm ▸ hclash)) fun t ht => ?_
  · obtain ⟨hz, hafter, hbefore⟩ := he i hi
    exact ⟨hz, hafter.imp_right (And.imp_left (if_neg hne).mpr), hside.symm ▸ hbefore⟩
  · rw [hside, Flt.setRoutes, if_neg hne] at ht
    simp only [Dev.outRoute, ht]
    exact ⟨fun i hi => mapPut_member b _ _ hi, fun c hc => mapPut_outside b _ hc, rfl⟩

/-! ## Phase delays (04 R117, R118) -/

/-- A run of phase delays written. -/
def phasePut (b : Bytes) (f n : Nat) (t : Tbl Nat) : Tbl Nat := forRun (fun i t => tput 0 t (f + i) (u32 b (8 + 4 * i))) (rangeFrom 0 n) t

theorem phasePut_member (b : Bytes) (f : Nat) {n i : Nat} (t : Tbl Nat) (h : i < n) : tget 0 (phasePut b f n t) (f + i) = u32 b (8 + 4 * i) := by
  refine (read_forRun (tget 0) f (fun i _ => u32 b (8 + 4 * i)) (fun _ _ _ => tget_tput _ _ _ _ _) 0 n t (f + i)).trans ?_
  rw [if_pos (by omega), Nat.add_sub_cancel_left]

/-- The route that member `i` of a request of FLT_PHASE_SET concerns. -/
def Dev.phaseRoute (d : Dev) (b : Bytes) (i : Nat) : Route := if u8 b 0 = 0 then d.inRoute (u16 b 2 + i) else d.outRoute (u16 b 2 + i)

/-- The filter chain with a run of phase delays of the side that a request names. -/
def Flt.setPhases (x : Flt) (b : Bytes) : Flt :=
  if u8 b 0 = 0 then { x with inphase := phasePut b (u16 b 2) (u16 b 4) x.inphase }
  else { x with outphase := phasePut b (u16 b 2) (u16 b 4) x.outphase }

/-- FLT_PHASE_SET of delays in range, on routes of STOPPED engines that align by phase, writes them. -/
theorem cmdFltPhaseSet_writes {d : Dev} {b : Bytes} (x : Ctx) (hl : b.length = 8 + 4 * u16 b 4) (hside : u8 b 0 ≤ 1) (h1 : u8 b 1 = 0)
    (h6 : u16 b 6 = 0) (hrun : runBad d.rate (u8 b 0) (u16 b 2) (u16 b 4) = false)
    (he : ∀ i, i < u16 b 4 → u32 b (8 + 4 * i) ≤ 0x3FFFF ∧ (d.phaseRoute b i).engine ≠ 15 ∧ (d.fe (d.phaseRoute b i).engine).align ≠ 0 ∧
      (d.unit 3 (d.phaseRoute b i).engine).st = .stopped) :
    cmdFltPhaseSet.body x b d = ok { d with flt := d.flt.setPhases b } := by
  refine (runSet_pass ?_ fun i hi => ?_).trans (by unfold Flt.setPhases phasePut; rfl)
  · refine List.forall_mem_cons.mpr ⟨by simp [hl], List.forall_mem_singleton.mpr (Bool.or_eq_false_iff.mpr ⟨?_, ?_⟩)⟩
    · simp [hside, rsv_of_zero (n := 1) h1, rsv_of_zero (n := 2) h6, hrun]
    · refine List.any_eq_false.mpr fun i hi => ?_
      obtain ⟨hmax, heng, hal, -⟩ := he i (by have := mem_rangeFrom hi; omega)
      unfold Dev.phaseRoute at heng hal
      simp [hmax, heng, hal]
  · obtain ⟨-, -, -, hst⟩ := he i (by have := mem_rangeFrom hi; omega)
    obtain ⟨hstop, hret⟩ := stopped_of_st hst
    unfold Dev.phaseRoute at hstop hret
    exact firstErr_pass (by simp [hstop, hret])

theorem fltPhaseSet_sets : Sets .fltPhaseSet 0x0603 [.flt] (fun b s => b.length = 8 + 4 * u16 b 4 ∧ u8 b 0 ≤ 1 ∧ u8 b 1 = 0 ∧ u16 b 6 = 0 ∧
      runBad s.dev.rate (u8 b 0) (u16 b 2) (u16 b 4) = false ∧
      (∀ i r, i < u16 b 4 → r = (if u8 b 0 = 0 then s.dev.inRoute (u16 b 2 + i) else s.dev.outRoute (u16 b 2 + i)) →
        u32 b (8 + 4 * i) ≤ 0x3FFFF ∧ r.engine ≠ 15 ∧ (s.dev.fe r.engine).align ≠ 0 ∧ (s.dev.unit 3 r.engine).st = .stopped))
    (fun _ _ => [])
    (fun b _ t => ∀ i, i < u16 b 4 → tget 0 (if u8 b 0 = 0 then t.dev.flt.inphase else t.dev.flt.outphase) (u16 b 2 + i) = u32 b (8 + 4 * i)) := by
  rintro s r b h ⟨hl, hside, h1, h6, hrun, he⟩
  refine answers_of_flt (c := cmdFltPhaseSet) h rfl
    (cmdFltPhaseSet_writes _ hl hside h1 h6 hrun fun i hi => he i _ hi rfl) fun t ht i hi => ?_
  rw [ht, taken_flt, Flt.setPhases]
  split
  · exact phasePut_member b _ _ hi
  · exact phasePut_member b _ _ hi

theorem fltDelayGet_reads : Reads .fltDelayGet 0x0604 (fun b s => b.length = 8 ∧ u8 b 0 ≤ 1 ∧ u8 b 1 = 0 ∧ u16 b 6 = 0 ∧
      runBad s.dev.rate (u8 b 0) (u16 b 2) (u16 b 4) = false)
    (fun b s => words ((rangeFrom (u16 b 2) (u16 b 4)).map (s.dev.condDelay (u8 b 0)))) := by
  rintro s r b h ⟨hl, hside, h1, h6, hrun⟩
  refine answers_of_read (c := cmdFltDelayGet) h rfl (checks_pass _ _ ?_)
  simp [hl, hside, rsv_of_zero (n := 1) h1, rsv_of_zero (n := 2) h6, hrun]

/-! ## Filter coefficients (04 R112) -/

theorem fltCoefGet_answers {s : State} {r : AcpReq} {b : Bytes} {x : Route} {ph tp : Nat} (h : Plain s r b) (hl : b.length = 4) (hside : u8 b 0 ≤ 1)
    (h1 : u8 b 1 = 0) (hrun : runBad s.dev.rate (u8 b 0) (u16 b 2) 1 = false)
    (hx : x = (if u8 b 0 = 0 then s.dev.inRoute (u16 b 2) else s.dev.outRoute (u16 b 2)))
    (hph : ph = (if x.engine = 15 then 0 else Config.fltPhases (s.dev.fe x.engine).kind (s.dev.fe x.engine).profile s.dev.rate))
    (htp : tp = (if x.engine = 15 then 0 else Config.fltTaps (s.dev.fe x.engine).kind (s.dev.fe x.engine).profile s.dev.rate)) :
    Answers (.fltCoefGet r) 0x0605 r s (le 2 ph ++ le 2 tp ++ (rangeFrom 0 ph).flatMap (fun p => (rangeFrom 0 tp).flatMap (fun q =>
      leI 4 (s.dev.coefOf (u8 b 0) (u16 b 2) p q)))) (Frame [] s) := by
  subst hx hph htp
  refine answers_of_read (c := cmdFltCoefGet) h rfl (checks_pass _ _ ?_)
  simp [hl, hside, rsv_of_zero (n := 1) h1, hrun]

/-! ## Asynchronous groups (04 R113, R114) -/

/-- 04 R113: a used group of the engine, other than the one configured, holds a slot of the run that a request names. -/
def Dev.grpClash (d : Dev) (b : Bytes) : Bool :=
  (rangeFrom 0 16).any (fun g => g != u8 b 1 && (d.grp (u8 b 0) g).srcKind != 0 &&
    overlaps (u16 b 6) (u16 b 8) (d.grp (u8 b 0) g).first (d.grp (u8 b 0) g).count)

theorem grpClash_false {d : Dev} {b : Bytes} (h : ∀ g, g < 16 → g ≠ u8 b 1 → (d.grp (u8 b 0) g).srcKind ≠ 0 →
    overlaps (u16 b 6) (u16 b 8) (d.grp (u8 b 0) g).first (d.grp (u8 b 0) g).count = false) : d.grpClash b = false := by
  refine List.any_eq_false.mpr fun g hm hc => ?_
  simp only [Bool.and_eq_true, bne_iff_ne] at hc
  obtain ⟨⟨hother, hused⟩, hover⟩ := hc
  exact Bool.false_ne_true ((h g (mem_rangeFrom hm).2 hother hused).symm.trans hover)

theorem asrcGroupConfig_sets : Sets .asrcGroupConfig 0x0610 [.flt] (fun b s => b.length = 16 ∧ u8 b 0 ≤ 3 ∧ u8 b 1 ≤ 15 ∧
      asrcSrcOk (u8 b 2) (u16 b 4) = true ∧ u8 b 3 ≤ 6 ∧
      asrcRate (u8 b 3) ≤ frOf s.dev.rate ∧ uN 6 b 10 = 0 ∧ (s.dev.fe (u8 b 0)).kind = 2 ∧ (s.dev.unit 3 (u8 b 0)).st = .stopped ∧
      (u8 b 2 = 0 ∨ (1 ≤ u16 b 8 ∧ u16 b 6 + u16 b 8 ≤ (s.dev.fe (u8 b 0)).slots ∧ ∀ g, g < 16 → g ≠ u8 b 1 → (s.dev.grp (u8 b 0) g).srcKind ≠ 0 →
        overlaps (u16 b 6) (u16 b 8) (s.dev.grp (u8 b 0) g).first (s.dev.grp (u8 b 0) g).count = false)))
    (fun _ _ => [])
    (fun b s t => At {} s.dev.flt.grp t.dev.flt.grp (16 * u8 b 0 + u8 b 1) (if u8 b 2 = 0 then { slips := (s.dev.grp (u8 b 0) (u8 b 1)).slips }
      else { s.dev.grp (u8 b 0) (u8 b 1) with srcKind := u8 b 2, srcId := u16 b 4, rate := u8 b 3, first := u16 b 6, count := u16 b 8 })) := by
  rintro s r b h ⟨hl, he, hg, hsrc, hcode, hrate, hz, hkind, hst, hslots⟩
  obtain ⟨hstop, hret⟩ := stopped_of_st (d := taken s.dev r) hst
  have hfit : (u8 b 2 != 0 && (u16 b 8 == 0 || decide ((s.dev.fe (u8 b 0)).slots < u16 b 6 + u16 b 8) || s.dev.grpClash b)) = false := by
    obtain h0 | ⟨hn, hin, hapart⟩ := hslots
    · simp [h0]
    · simp [grpClash_false hapart, hin, Nat.ne_of_gt hn]
  rw [← taken_rate s.dev r] at hrate
  refine answers_of_flt (c := cmdAsrcGroupConfig) h rfl (checks_pass _ _ ?_) fun t ht => ?_
  · refine List.forall_mem_cons.mpr ⟨by simp [hl], List.forall_mem_cons.mpr ⟨?_, by simp [hstop, hret]⟩⟩
    refine Bool.or_eq_false_iff.mpr ⟨Bool.or_eq_false_iff.mpr ⟨?_, hfit⟩, by simp [show ((taken s.dev r).fe (u8 b 0)).kind = 2 from hkind]⟩
    simp [-taken_rate, he, hg, hsrc, hcode, hrate, rsv_of_zero hz]
  · beta_reduce; rw [ht]; exact at_tput _ _ _ _

theorem asrcGroupStatus_reads : Reads .asrcGroupStatus 0x0611 (fun b _ => b.length = 4 ∧ u8 b 0 ≤ 3 ∧ u8 b 1 ≤ 15 ∧ u16 b 2 = 0) (fun b s =>
    le 1 (s.dev.grp (u8 b 0) (u8 b 1)).st.code ++ le 1 (b01 (s.dev.grp (u8 b 0) (u8 b 1)).rangeErr) ++ zb 2 ++ leI 4 (s.dev.grp (u8 b 0) (u8 b 1)).dev
    ++ leI 4 (s.dev.grp (u8 b 0) (u8 b 1)).fill ++ le 4 (s.dev.grp (u8 b 0) (u8 b 1)).slips.toNat) := by
  rintro s r b h ⟨hl, he, hg, hz⟩
  refine answers_of_read (c := cmdAsrcGroupStatus) h rfl (checks_pass _ _ ?_)
  simp [hl, he, hg, rsv_of_zero (n := 2) hz]

/-! ## Tone detectors (04 R122) -/

theorem tdConfig_sets : Sets .tdConfig 0x0620 [.flt] (fun b s => b.length = 24 ∧ u8 b 0 ≤ 63 ∧ u8 b 1 ≤ 1 ∧ u8 b 2 ≤ 2 ∧ u8 b 3 ≤ 1 ∧ u16 b 6 = 0 ∧
      u32 b 20 = 0 ∧ u16 b 4 < (if u8 b 2 = 0 then nObj s.dev.rate else if u8 b 2 = 1 then 64 else 512) ∧ 10 * 65536 ≤ u32 b 8 ∧
      u32 b 8 * 100 ≤ frOf s.dev.rate * 65536 * 45 ∧ 256 ≤ u32 b 12 ∧ u32 b 12 ≤ 65536 ∧ u32 b 12 % 16 = 0) (fun _ _ => [])
    (fun b s t => At {} s.dev.flt.td t.dev.flt.td (u8 b 0) { s.dev.tone (u8 b 0) with
      enable := u8 b 1 == 1, srcKind := u8 b 2, window := u8 b 3, src := u16 b 4, freq := u32 b 8, n := u32 b 12, thresh := s16 b 16
      hyst := u16 b 18, start := none, buf := [], bad := false, full := none, cfgBlk := s.dev.tim.tick + 1 }) := by
  rintro s r b h ⟨hl, h0, h1, h2, h3, hz6, hz20, hsrc, hf, hf', hn, hn', hn16⟩
  rw [← taken_rate s.dev r] at hsrc hf'
  refine answers_of_flt (c := cmdTdConfig) h rfl (checks_pass _ _ ?_) fun t ht => ?_
  · simp only [hl, rsv_of_zero (n := 2) hz6, rsv_of_zero (n := 4) hz20, hn16, bne_self_eq_false, Bool.or_false, List.mem_cons,
      List.not_mem_nil, or_false, forall_eq_or_imp, forall_eq, Bool.or_eq_false_iff, decide_eq_false_iff_not, true_and]
    split
    case h_1 hobj => rw [if_pos hobj] at hsrc; rw [decide_eq_false_iff_not]; omega
    case h_2 hin => rw [if_neg (by omega), if_pos hin] at hsrc; rw [decide_eq_false_iff_not]; omega
    case h_3 hobj hin => rw [if_neg hobj, if_neg hin] at hsrc; rw [decide_eq_false_iff_not]; omega
  · beta_reduce; rw [ht]; exact at_tput _ _ _ _

theorem tdRead_reads : Reads .tdRead 0x0621 (fun b _ => b.length = 4 ∧ 0 < u8 b 1 ∧ u8 b 0 + u8 b 1 ≤ 64 ∧ u16 b 2 = 0) (fun b s =>
    (rangeFrom (u8 b 0) (u8 b 1)).flatMap (fun n => le 8 (s.dev.tone n).block ++ leI 2 (s.dev.tone n).level ++ le 2 (s.dev.tone n).phase
      ++ le 1 (b01 (s.dev.tone n).present + 2 * b01 (s.dev.tone n).valid) ++ zb 3)) := by
  rintro s r b h ⟨hl, h0, hn, hz⟩
  refine answers_of_read (c := cmdTdRead) h rfl (checks_pass _ _ ?_)
  simp [hl, hn, Nat.ne_of_gt h0, rsv_of_zero (n := 2) hz]

/-- Settles O19, from the lemmas above, a part of the statement each. -/
theorem filterCommands : Obligations.FilterCommands :=
  ⟨fltEngineConfig_sets, fltEngineGet_reads, fltChanMap_in, fltChanMap_out, fltPhaseSet_sets, fltDelayGet_reads,
   fun _ _ _ _ _ _ h hl hside h1 hrun hx hph htp => fltCoefGet_answers h hl hside h1 hrun hx hph htp,
   asrcGroupConfig_sets, asrcGroupStatus_reads, tdConfig_sets, tdRead_reads⟩

end Sys2Proof.Machine
end

section
/-! PROOFS. The law engines' bundles and their words (O59): each field's decoder reads just the encodings, stated as an equivalence, and
the bundle's is put together from them. -/

open Sys2Proof

namespace Sys2Proof.Machine

/-! ## Codes of the compute operations (05 Table 5.7) -/

/-- In a table that lists no code twice, a code's operation is the one listed with it. -/
theorem opIn_eq_some_iff {l : List (COp × Nat)} (h : (l.map Prod.snd).Nodup) (n : Nat) (o : COp) : opIn l n = some o ↔ (o, n) ∈ l := by
  induction l with
  | nil => simp [opIn]
  | cons x r ih =>
    obtain ⟨p, m⟩ := x
    obtain ⟨hm, hr⟩ := List.nodup_cons.mp h
    rw [opIn, List.mem_cons, Prod.mk.injEq]
    by_cases hn : m = n
    · subst hn
      have : (o, m) ∉ r := fun hmem => hm (List.mem_map.mpr ⟨_, hmem, rfl⟩)
      simp [this, eq_comm]
    · rw [if_neg hn, ih hr]
      simp [Ne.symm hn]

/-- In a table that lists no operation twice, a listed operation's code is the one listed with it. -/
theorem codeIn_eq_iff {l : List (COp × Nat)} (h : (l.map Prod.fst).Nodup) {o : COp} (ho : o ∈ l.map Prod.fst) (n : Nat) :
    codeIn l o = n ↔ (o, n) ∈ l := by
  induction l with
  | nil => simp at ho
  | cons x r ih =>
    obtain ⟨p, m⟩ := x
    obtain ⟨hm, hr⟩ := List.nodup_cons.mp h
    rw [codeIn, List.mem_cons, Prod.mk.injEq]
    by_cases hp : p = o
    · subst hp
      have : (p, n) ∉ r := fun hmem => hm (List.mem_map.mpr ⟨_, hmem, rfl⟩)
      simp [this, eq_comm]
    · rw [if_neg hp, ih hr ((List.mem_cons.mp ho).resolve_left (Ne.symm hp))]
      simp [Ne.symm hp]

theorem mem_copTable (o : COp) : o ∈ copTable.map Prod.fst := by cases o <;> decide

/-- Table 5.7 gives each operation one code, and each code one operation. -/
theorem opIn_copTable (n : Nat) (o : COp) : opIn copTable n = some o ↔ codeIn copTable o = n :=
  (opIn_eq_some_iff (by decide) n o).trans (codeIn_eq_iff (by decide) (mem_copTable o) n).symm

theorem codeIn_copTable_lt (o : COp) : codeIn copTable o < 64 := by cases o <;> decide

/-! ## Slots (05 Tables 5.5, 5.6 and 5.8) -/

theorem b01_lt (b : Bool) : b01 b < 2 := by cases b <;> decide

theorem beq_one_eq_iff (x : Nat) (b : Bool) : (x % 2 == 1) = b ↔ x % 2 = b01 b := by
  rcases Nat.mod_two_eq_zero_or_one x with h | h <;> cases b <;> simp [b01, h]

/-! ## Fields of a number -/

/-- A number's low bits are a field `a` above `n` bits `b` just where its bits from `n` on are `a` and those below are `b`. -/
theorem field_iff (n k : Nat) {N w a b : Nat} (hN : 2 ^ N = 2 ^ n * k) (hb : b < 2 ^ n) :
    w % 2 ^ N = a * 2 ^ n + b ↔ w / 2 ^ n % k = a ∧ w % 2 ^ n = b := by
  rw [hN, Nat.mod_mul]
  constructor
  · intro h
    have hmod := congrArg (· % 2 ^ n) h
    have hdiv := congrArg (· / 2 ^ n) h
    simp only [Nat.add_mul_mod_self_left, Nat.mul_add_mod_self_right, Nat.mod_mod, Nat.mod_eq_of_lt hb] at hmod
    simp only [Nat.add_mul_div_left _ _ (Nat.two_pow_pos n), Nat.div_eq_of_lt (Nat.mod_lt w (Nat.two_pow_pos n)), Nat.zero_add,
      Nat.add_comm (a * _), Nat.add_mul_div_right _ _ (Nat.two_pow_pos n), Nat.div_eq_of_lt hb] at hdiv
    exact ⟨hdiv, hmod⟩
  · rintro ⟨rfl, rfl⟩
    rw [Nat.add_comm, Nat.mul_comm]

/-- A field that is 0. -/
theorem zero_field_iff (n k : Nat) {N w b : Nat} (hN : 2 ^ N = 2 ^ n * k) (hb : b < 2 ^ n) :
    w % 2 ^ N = b ↔ w / 2 ^ n % k = 0 ∧ w % 2 ^ n = b := by
  rw [← field_iff n k hN hb, Nat.zero_mul, Nat.zero_add]

/-- The field of `n` bits at the low end of a number is `f`. -/
theorem ofNat_eq_iff {n : Nat} (x : Nat) (f : BitVec n) : BitVec.ofNat n x = f ↔ x % 2 ^ n = f.toNat := by
  rw [← BitVec.toNat_inj, BitVec.toNat_ofNat]

/-- A number of at most `n` bits is the field `f`. -/
theorem lt_and_ofNat_eq_iff {n : Nat} (x : Nat) (f : BitVec n) : x < 2 ^ n ∧ BitVec.ofNat n x = f ↔ x = f.toNat := by
  rw [ofNat_eq_iff]
  constructor
  · rintro ⟨hx, hf⟩
    exact (Nat.mod_eq_of_lt hx).symm.trans hf
  · rintro rfl
    exact ⟨f.isLt, Nat.mod_eq_of_lt f.isLt⟩

theorem encCompute_lt (c : Compute) : encCompute c < 2 ^ 26 := by
  obtain ⟨o, ⟨f1, f2, f3, f4⟩⟩ := c
  have := codeIn_copTable_lt o
  have := f1.isLt; have := f2.isLt; have := f3.isLt; have := f4.isLt
  simp only [encCompute]
  omega

theorem decCompute_eq_some_iff (w : Nat) (c : Compute) : decCompute w = some c ↔ w % 2 ^ 26 = encCompute c := by
  obtain ⟨o, ⟨f1, f2, f3, f4⟩⟩ := c
  have hw : decCompute w = some ⟨o, ⟨f1, f2, f3, f4⟩⟩ ↔ w / 2 ^ 20 % 64 = codeIn copTable o ∧
      w / 2 ^ 15 % 2 ^ 5 = f1.toNat ∧ w / 2 ^ 10 % 2 ^ 5 = f2.toNat ∧ w / 2 ^ 5 % 2 ^ 5 = f3.toNat ∧ w % 2 ^ 5 = f4.toNat := by
    rw [eq_comm (a := w / 2 ^ 20 % 64), ← opIn_copTable, decCompute]
    cases opIn copTable (w / 2 ^ 20 % 64) <;> simp [ofNat_eq_iff]
  have := f1.isLt; have := f2.isLt; have := f3.isLt; have := f4.isLt
  rw [hw, encCompute, Nat.add_assoc, Nat.add_assoc, Nat.add_assoc, field_iff 20 64 (by decide) (by dsimp only; omega),
    field_iff 15 (2 ^ 5) (by decide) (by dsimp only; omega), field_iff 10 (2 ^ 5) (by decide) (by dsimp only; omega),
    field_iff 5 (2 ^ 5) (by decide) f4.isLt]

/-- A move is encoded in 18 bits, and leaves bit 0 to ROT. -/
theorem encMove_lt (m : Option Move) : encMove m < 2 ^ 18 ∧ encMove m % 2 = 0 := by
  cases m with
  | none => decide
  | some m =>
    obtain ⟨st, d, p, am, k⟩ := m
    have := b01_lt st
    have := d.isLt; have := p.isLt; have := am.isLt; have := k.isLt
    simp only [encMove]
    omega

/-- The decoder of a move leaves bit 0, which is ROT's. -/
theorem decMove_eq_some_iff (w : Nat) (m : Option Move) : decMove w = some m ↔ w % 2 ^ 18 = encMove m + w % 2 := by
  have hr : w % 2 < 2 := Nat.mod_lt w (by decide)
  cases m with
  | none =>
    have hd : decMove w = some none ↔ w / 2 ^ 17 % 2 = 0 ∧ w / 2 % 2 ^ 16 = 0 := by
      unfold decMove; split_ifs <;> simp [*, -Nat.reducePow]
    rw [hd, encMove, Nat.zero_add, zero_field_iff 17 2 (N := 18) (by decide) (by omega), zero_field_iff 1 (2 ^ 16) (N := 17) (by decide) hr,
      Nat.pow_one, and_iff_left rfl]
  | some m =>
    obtain ⟨st, d, p, am, k⟩ := m
    have hd : decMove w = some (some ⟨st, d, p, am, k⟩) ↔ w / 2 ^ 17 % 2 = 1 ∧ w / 2 ^ 16 % 2 = b01 st ∧ w / 2 ^ 11 % 2 ^ 5 = d.toNat ∧
        w / 2 ^ 8 % 2 ^ 3 = p.toNat ∧ w / 2 ^ 6 % 2 ^ 2 = am.toNat ∧ w / 2 ^ 3 % 2 ^ 3 = k.toNat ∧ w / 2 % 4 = 0 := by
      unfold decMove
      split_ifs with h h' h4
      · simp [h, -Nat.reducePow]
      · simp [h, -Nat.reducePow]
      · simp [h4, -Nat.reducePow]
      · have h1 := Nat.mod_two_ne_zero.mp h
        simp [h1, not_not.mp h4, ofNat_eq_iff, beq_one_eq_iff, -Nat.reducePow]
    have := b01_lt st
    have := d.isLt; have := p.isLt; have := am.isLt; have := k.isLt
    have he : encMove (some ⟨st, d, p, am, k⟩) + w % 2 = 1 * 2 ^ 17 + (b01 st * 2 ^ 16 + (d.toNat * 2 ^ 11 + (p.toNat * 2 ^ 8 +
        (am.toNat * 2 ^ 6 + (k.toNat * 2 ^ 3 + w % 2))))) := by
      simp only [encMove]; omega
    rw [hd, he, field_iff 17 2 (by decide) (by omega), field_iff 16 2 (by decide) (by omega), field_iff 11 (2 ^ 5) (by decide) (by omega),
      field_iff 8 (2 ^ 3) (by decide) (by omega), field_iff 6 (2 ^ 2) (by decide) (by omega), field_iff 3 (2 ^ 3) (by decide) (by omega),
      zero_field_iff 1 4 (N := 3) (by decide) hr, Nat.pow_one, and_iff_left rfl]

theorem encMem_lt (a : GenMem) : encMem a < 2 ^ 32 := by
  obtain ⟨r, p, am, m, d⟩ := a
  have := r.isLt; have := p.isLt; have := am.isLt; have := m.isLt; have := d.isLt
  simp only [encMem]
  omega

theorem decMem_eq_some_iff (w : Nat) (a : GenMem) : decMem w = some a ↔ w % 2 ^ 32 = encMem a := by
  obtain ⟨r, p, am, m, d⟩ := a
  have hd : decMem w = some ⟨r, p, am, m, d⟩ ↔ w / 2 ^ 25 % 2 ^ 7 = r.toNat ∧ w / 2 ^ 22 % 2 ^ 3 = p.toNat ∧ w / 2 ^ 20 % 2 ^ 2 = am.toNat ∧
      w / 2 ^ 17 % 2 ^ 3 = m.toNat ∧ w / 2 ^ 16 % 2 = 0 ∧ w % 2 ^ 16 = d.toNat := by
    unfold decMem
    split_ifs with h
    · simp [h, -Nat.reducePow]
    · simp [not_not.mp h, ofNat_eq_iff, -Nat.reducePow]
  have := r.isLt; have := p.isLt; have := am.isLt; have := m.isLt; have := d.isLt
  rw [hd, encMem, Nat.add_assoc, Nat.add_assoc, Nat.add_assoc, field_iff 25 (2 ^ 7) (by decide) (by dsimp only; omega),
    field_iff 22 (2 ^ 3) (by decide) (by dsimp only; omega), field_iff 20 (2 ^ 2) (by decide) (by dsimp only; omega),
    field_iff 17 (2 ^ 3) (by decide) (by dsimp only; omega), zero_field_iff 16 2 (N := 17) (by decide) d.isLt]

/-- The layout of MOVR in the general slot. -/
theorem mod_eq_encGen_movr_iff (w : Nat) (rd rs : BitVec 7) : w % 2 ^ 36 = encGen (.movr rd rs) ↔
    w / 2 ^ 32 % 16 = 3 ∧ w / 2 ^ 25 % 2 ^ 7 = rd.toNat ∧ w / 2 ^ 18 % 2 ^ 7 = rs.toNat ∧ w % 2 ^ 18 = 0 := by
  have := rd.isLt; have := rs.isLt
  rw [encGen, Nat.add_assoc, field_iff 32 16 (by decide) (by omega), field_iff 25 (2 ^ 7) (by decide) (by omega),
    ← Nat.add_zero (rs.toNat * 2 ^ 18), field_iff 18 (2 ^ 7) (by decide) (by decide)]

/-- The layout of ADDI and LDIS in the general slot. -/
theorem mod_eq_imm_iff (w k : Nat) (r : BitVec 7) (i : BitVec 16) : w % 2 ^ 36 = k * 2 ^ 32 + r.toNat * 2 ^ 25 + i.toNat ↔
    w / 2 ^ 32 % 16 = k ∧ w / 2 ^ 25 % 2 ^ 7 = r.toNat ∧ w / 2 ^ 16 % 2 ^ 9 = 0 ∧ w % 2 ^ 16 = i.toNat := by
  have := r.isLt; have := i.isLt
  rw [Nat.add_assoc, field_iff 32 16 (by decide) (by omega), field_iff 25 (2 ^ 7) (by decide) (by omega),
    zero_field_iff 16 (2 ^ 9) (N := 25) (by decide) i.isLt]

theorem encGen_lt (g : GenOp) : encGen g < 2 ^ 36 := by
  cases g with
  | nop => decide
  | ld a => have := encMem_lt a; simp only [encGen]; omega
  | st a => have := encMem_lt a; simp only [encGen]; omega
  | movr rd rs => have := rd.isLt; have := rs.isLt; simp only [encGen]; omega
  | addi r i => have := r.isLt; have := i.isLt; simp only [encGen]; omega
  | ldis r i => have := r.isLt; have := i.isLt; simp only [encGen]; omega

theorem decGen_eq_some_iff (w : Nat) (g : GenOp) : decGen w = some g ↔ w % 2 ^ 36 = encGen g := by
  constructor
  · intro h
    unfold decGen at h
    split at h
    case h_1 hk =>
      obtain ⟨hz, hg⟩ := Option.ite_none_right_eq_some.mp h
      obtain rfl := Option.some.inj hg
      exact (zero_field_iff 32 16 (by decide) (by decide)).mpr ⟨hk, hz⟩
    case h_2 hk | h_3 hk =>
      obtain ⟨a, ha, rfl⟩ := Option.map_eq_some_iff.mp h
      exact (field_iff 32 16 (by decide) (encMem_lt a)).mpr ⟨hk, (Nat.mod_mod w _).symm.trans ((decMem_eq_some_iff _ _).mp ha)⟩
    case h_4 hk =>
      obtain ⟨hz, hg⟩ := Option.ite_none_right_eq_some.mp h
      obtain rfl := Option.some.inj hg
      exact (mod_eq_encGen_movr_iff w _ _).mpr ⟨hk, rfl, rfl, hz⟩
    case h_5 hk | h_6 hk =>
      obtain ⟨hz, hg⟩ := Option.ite_none_right_eq_some.mp h
      obtain rfl := Option.some.inj hg
      exact (mod_eq_imm_iff w _ _ _).mpr ⟨hk, rfl, hz, rfl⟩
    case h_7 => exact nomatch h
  · intro h
    cases g with
    | nop =>
      obtain ⟨hk, hz⟩ := (zero_field_iff 32 16 (N := 36) (by decide) (by decide)).mp h
      rw [decGen, hk]; exact if_pos hz
    | ld a | st a =>
      obtain ⟨hk, ha⟩ := (field_iff 32 16 (by decide) (encMem_lt a)).mp h
      rw [decGen, hk]
      exact Option.map_eq_some_iff.mpr ⟨a, (decMem_eq_some_iff _ _).mpr ((Nat.mod_mod w _).trans ha), rfl⟩
    | movr rd rs =>
      obtain ⟨hk, hd, hs, hz⟩ := (mod_eq_encGen_movr_iff w rd rs).mp h
      rw [decGen, hk]
      exact (if_pos hz).trans (by rw [(ofNat_eq_iff _ _).mpr hd, (ofNat_eq_iff _ _).mpr hs])
    | addi r i | ldis r i =>
      obtain ⟨hk, hr, hz, hi⟩ := (mod_eq_imm_iff w _ r i).mp h
      rw [decGen, hk]
      exact (if_pos hz).trans (by rw [(ofNat_eq_iff _ _).mpr hr, (ofNat_eq_iff _ _).mpr hi])

/-! ## Control slots and bundles (05 Tables 5.4 and 5.9) -/

/-- The layout of COP, COND and the operand bits. -/
theorem mod_eq_encCtlBits_iff {w cop cond ops : Nat} (hc : cond < 2 ^ 4) (ho : ops < 2 ^ 52) : w % 2 ^ 62 = encCtlBits cop cond ops ↔
    w / 2 ^ 56 % 64 = cop ∧ w / 2 ^ 52 % 16 = cond ∧ w % 2 ^ 52 = ops := by
  rw [encCtlBits, Nat.add_assoc, field_iff 56 64 (by decide) (by omega), field_iff 52 16 (by decide) ho]

/-- An operand of at most 52 bits in the control slot. -/
theorem toNat_lt_of_le {n : Nat} (hn : n ≤ 52) (f : BitVec n) : f.toNat < 2 ^ 52 :=
  f.isLt.trans_le (Nat.pow_le_pow_right (by decide) hn)

/-- The layout of LOOP's bounds below its count. -/
theorem mod_eq_bounds_iff (o : Nat) (ls e : BitVec 14) : o % 2 ^ 32 = ls.toNat * 2 ^ 14 + e.toNat ↔
    o / 2 ^ 28 % 2 ^ 4 = 0 ∧ o / 2 ^ 14 % 2 ^ 14 = ls.toNat ∧ o % 2 ^ 14 = e.toNat := by
  have := ls.isLt; have := e.isLt
  rw [zero_field_iff 28 (2 ^ 4) (N := 32) (by decide) (by omega), field_iff 14 (2 ^ 14) (by decide) e.isLt]

/-- LOOP's operands: the count with its kind, and the bounds below it. -/
theorem eq_loop_iff {o k : Nat} (ls e : BitVec 14) : o = k * 2 ^ 32 + ls.toNat * 2 ^ 14 + e.toNat ↔
    o / 2 ^ 32 = k ∧ o / 2 ^ 28 % 2 ^ 4 = 0 ∧ o / 2 ^ 14 % 2 ^ 14 = ls.toNat ∧ o % 2 ^ 14 = e.toNat := by
  have := ls.isLt; have := e.isLt
  rw [← mod_eq_bounds_iff, Nat.add_assoc]
  omega

/-- The count of LOOP is immediate. -/
theorem count_imm_iff {o : Nat} (ho : o < 2 ^ 52) (n : BitVec 16) :
    o / 2 ^ 32 = n.toNat ↔ o / 2 ^ 49 = 0 ∧ o / 2 ^ 48 % 2 = 0 ∧ o / 2 ^ 32 % 2 ^ 16 = n.toNat := by
  have := n.isLt
  omega

/-- The count of LOOP stands in a register. -/
theorem count_reg_iff {o : Nat} (ho : o < 2 ^ 52) (d : BitVec 5) :
    o / 2 ^ 32 = 2 ^ 16 + d.toNat ↔ o / 2 ^ 49 = 0 ∧ o / 2 ^ 48 % 2 ≠ 0 ∧ o / 2 ^ 37 % 2 ^ 11 = 0 ∧ o / 2 ^ 32 % 2 ^ 5 = d.toNat := by
  have := d.isLt
  omega

/-- SRSET's operands: the mask above the value. -/
theorem eq_srset_iff (o : Nat) (m v : BitVec 16) : o = m.toNat * 2 ^ 16 + v.toNat ↔ o < 2 ^ 32 ∧ o / 2 ^ 16 % 2 ^ 16 = m.toNat ∧ o % 2 ^ 16 = v.toNat := by
  have := m.isLt; have := v.isLt
  omega

theorem encCtlBits_lt {cop cond ops : Nat} (hk : cop < 64) (hc : cond < 2 ^ 4) (ho : ops < 2 ^ 52) : encCtlBits cop cond ops < 2 ^ 62 := by
  simp only [encCtlBits]
  omega

/-- LOOP's operands, a count of at most 17 bits above its bounds, fit the control slot. -/
theorem loop_lt {k : Nat} (hk : k < 2 ^ 17) (ls e : BitVec 14) : k * 2 ^ 32 + ls.toNat * 2 ^ 14 + e.toNat < 2 ^ 52 := by
  have := ls.isLt; have := e.isLt
  omega

theorem srset_lt (m v : BitVec 16) : m.toNat * 2 ^ 16 + v.toNat < 2 ^ 52 := by
  have := m.isLt; have := v.isLt
  omega

/-- A register count's operands are those of a count of its number and 2^16. -/
theorem encCtl_loop_reg (d : BitVec 5) (ls e : BitVec 14) :
    encCtl (.loop (.reg d) ls e) = encCtlBits 4 0 ((2 ^ 16 + d.toNat) * 2 ^ 32 + ls.toNat * 2 ^ 14 + e.toNat) := by
  rw [encCtl, Nat.add_mul, ← Nat.pow_add]

theorem imm_lt (n : BitVec 16) : n.toNat < 2 ^ 17 := n.isLt.trans (by decide)

theorem reg_lt (d : BitVec 5) : 2 ^ 16 + d.toNat < 2 ^ 17 := by
  have := d.isLt
  omega

theorem decCtl_eq_some_iff (w : Nat) (o : CtlOp) : decCtl w = some o ↔ w % 2 ^ 62 = encCtl o := by
  have ho : w % 2 ^ 52 < 2 ^ 52 := Nat.mod_lt w (by decide)
  have hcond : (BitVec.ofNat 4 (w / 2 ^ 52 % 16)).toNat = w / 2 ^ 52 % 16 := by simp
  constructor
  · intro h
    unfold decCtl at h
    dsimp only at h
    split at h
    case h_1 hk | h_9 hk | h_11 hk | h_12 hk =>
      obtain ⟨⟨hz, h0⟩, hg⟩ := Option.ite_none_right_eq_some.mp h
      obtain rfl := Option.some.inj hg
      exact (mod_eq_encCtlBits_iff (by decide) (by decide)).mpr ⟨hk, hz, h0⟩
    case h_2 hk | h_3 hk | h_4 hk | h_10 hk =>
      obtain ⟨hz, hg⟩ := Option.ite_none_right_eq_some.mp h
      obtain rfl := Option.some.inj hg
      exact (mod_eq_encCtlBits_iff (BitVec.isLt _) (toNat_lt_of_le (by decide) _)).mpr ⟨hk, hcond.symm, (lt_and_ofNat_eq_iff _ _).mp ⟨hz, rfl⟩⟩
    case h_5 hk =>
      split_ifs at h with h0 h1 h2
      all_goals
        obtain rfl := Option.some.inj h
        rw [not_or, not_or, not_ne_iff, not_ne_iff, not_ne_iff] at h0
        obtain ⟨hz, h28, h49⟩ := h0
      · exact (mod_eq_encCtlBits_iff (by decide) (loop_lt (imm_lt _) _ _)).mpr ⟨hk, hz, (eq_loop_iff _ _).mpr
          ⟨(count_imm_iff ho _).mpr ⟨h49, h1, rfl⟩, h28, rfl, rfl⟩⟩
      · rw [encCtl_loop_reg]
        exact (mod_eq_encCtlBits_iff (by decide) (loop_lt (reg_lt _) _ _)).mpr ⟨hk, hz, (eq_loop_iff _ _).mpr
          ⟨(count_reg_iff ho _).mpr ⟨h49, h1, h2, rfl⟩, h28, rfl, rfl⟩⟩
    case h_6 hk =>
      obtain ⟨⟨hz, h0⟩, hg⟩ := Option.ite_none_right_eq_some.mp h
      obtain rfl := Option.some.inj hg
      exact (mod_eq_encCtlBits_iff (by decide) (toNat_lt_of_le (by decide) _)).mpr ⟨hk, hz, (lt_and_ofNat_eq_iff (n := 4) _ _).mp ⟨h0, rfl⟩⟩
    case h_7 hk =>
      obtain ⟨⟨hz, h0⟩, hg⟩ := Option.ite_none_right_eq_some.mp h
      obtain rfl := Option.some.inj hg
      exact (mod_eq_encCtlBits_iff (by decide) (srset_lt _ _)).mpr ⟨hk, hz, (eq_srset_iff _ _ _).mpr ⟨h0, rfl, rfl⟩⟩
    case h_8 hk =>
      obtain ⟨h0, hg⟩ := Option.ite_none_right_eq_some.mp h
      obtain rfl := Option.some.inj hg
      exact (mod_eq_encCtlBits_iff (BitVec.isLt _) (by decide)).mpr ⟨hk, hcond.symm, h0⟩
    case h_13 => exact nomatch h
  · intro h
    have hcode : ∀ c : BitVec 4, w / 2 ^ 52 % 16 = c.toNat → BitVec.ofNat 4 (w / 2 ^ 52 % 16) = c := fun c hc => by
      rw [hc, BitVec.ofNat_toNat, BitVec.setWidth_eq]
    unfold decCtl
    dsimp only
    cases o with
    | nop | rti | bkpt | sync =>
      obtain ⟨hk, hz, h0⟩ := (mod_eq_encCtlBits_iff (by decide) (by decide)).mp h
      rw [hk]
      exact if_pos ⟨hz, h0⟩
    | br c t | bri c t | call c t | trap c t =>
      obtain ⟨hk, hc, ht⟩ := (mod_eq_encCtlBits_iff (BitVec.isLt _) (toNat_lt_of_le (by decide) _)).mp h
      obtain ⟨hlt, ht⟩ := (lt_and_ofNat_eq_iff _ _).mpr ht
      rw [hk]
      exact (if_pos hlt).trans (by rw [hcode c hc, ht])
    | loop n ls e =>
      cases n with
      | imm n =>
        obtain ⟨hk, hz, hl⟩ := (mod_eq_encCtlBits_iff (by decide) (loop_lt (imm_lt n) ls e)).mp h
        obtain ⟨hn, h28, hls, he⟩ := (eq_loop_iff ls e).mp hl
        obtain ⟨h49, h48, hn⟩ := (count_imm_iff ho n).mp hn
        rw [hk]
        refine (if_neg (by simp only [hz, h28, h49, ne_eq, not_true_eq_false, or_self, not_false_eq_true])).trans ((if_pos h48).trans ?_)
        rw [(ofNat_eq_iff _ n).mpr hn, (ofNat_eq_iff _ ls).mpr hls, (ofNat_eq_iff _ e).mpr he]
      | reg d =>
        rw [encCtl_loop_reg] at h
        obtain ⟨hk, hz, hl⟩ := (mod_eq_encCtlBits_iff (by decide) (loop_lt (reg_lt d) ls e)).mp h
        obtain ⟨hd, h28, hls, he⟩ := (eq_loop_iff ls e).mp hl
        obtain ⟨h49, h48, h37, hd⟩ := (count_reg_iff ho d).mp hd
        rw [hk]
        refine (if_neg (by simp only [hz, h28, h49, ne_eq, not_true_eq_false, or_self, not_false_eq_true])).trans
          ((if_neg h48).trans ((if_pos h37).trans ?_))
        rw [(ofNat_eq_iff _ d).mpr hd, (ofNat_eq_iff _ ls).mpr hls, (ofNat_eq_iff _ e).mpr he]
    | rotn k =>
      obtain ⟨hk, hz, ht⟩ := (mod_eq_encCtlBits_iff (by decide) (toNat_lt_of_le (by decide) _)).mp h
      obtain ⟨hlt, ht⟩ := (lt_and_ofNat_eq_iff _ _).mpr ht
      rw [hk]
      exact (if_pos ⟨hz, hlt⟩).trans (by rw [ht])
    | srset m v =>
      obtain ⟨hk, hz, hmv⟩ := (mod_eq_encCtlBits_iff (by decide) (srset_lt m v)).mp h
      obtain ⟨hlt, hm, hv⟩ := (eq_srset_iff _ m v).mp hmv
      rw [hk]
      exact (if_pos ⟨hz, hlt⟩).trans (by rw [(ofNat_eq_iff _ m).mpr hm, (ofNat_eq_iff _ v).mpr hv])
    | jend c =>
      obtain ⟨hk, hc, h0⟩ := (mod_eq_encCtlBits_iff (BitVec.isLt _) (by decide)).mp h
      rw [hk]
      exact (if_pos h0).trans (by rw [hcode c hc])

theorem encCtl_lt (o : CtlOp) : encCtl o < 2 ^ 62 := by
  cases o with
  | nop | rti | bkpt | sync => exact encCtlBits_lt (by decide) (by decide) (by decide)
  | br c t | call c t | bri c t | trap c t => exact encCtlBits_lt (by decide) c.isLt (toNat_lt_of_le (by decide) t)
  | loop n ls e =>
    cases n with
    | imm n => exact encCtlBits_lt (by decide) (by decide) (loop_lt (imm_lt n) ls e)
    | reg d => rw [encCtl_loop_reg]; exact encCtlBits_lt (by decide) (by decide) (loop_lt (reg_lt d) ls e)
  | rotn k => exact encCtlBits_lt (by decide) (by decide) (toNat_lt_of_le (by decide) k)
  | srset m v => exact encCtlBits_lt (by decide) (by decide) (srset_lt m v)
  | jend c => exact encCtlBits_lt (by decide) c.isLt (by decide)

/-- ROT stands in bit 0 below an X move. -/
theorem eq_encMove_add_iff (u : Nat) (m : Option Move) (r : Bool) :
    u % 2 ^ 18 = encMove m + b01 r ↔ u % 2 ^ 18 = encMove m + u % 2 ∧ u % 2 = b01 r := by
  have hm := (encMove_lt m).2
  have hr := b01_lt r
  have h2 : u % 2 ^ 18 % 2 = u % 2 := Nat.mod_mod_of_dvd u (by decide)
  generalize u % 2 ^ 18 = x at h2 ⊢
  generalize encMove m = y at hm ⊢
  omega

theorem encMove_add_lt (m : Option Move) (r : Bool) : encMove m + b01 r < 2 ^ 18 := by
  have := encMove_lt m; have := b01_lt r
  omega

/-- The layout of a PARALLEL bundle. -/
theorem mod_eq_par_iff (w : Nat) (c : Compute) (x y : Option Move) (r : Bool) : w % 2 ^ 64 = encBundle (.par c x y r) ↔
    w / 2 ^ 62 % 4 = 0 ∧ w / 2 ^ 36 % 2 ^ 26 = encCompute c ∧
    (w / 2 ^ 18 % 2 ^ 18 = encMove x + w / 2 ^ 18 % 2 ∧ w / 2 ^ 18 % 2 = b01 r) ∧ w % 2 ^ 18 = encMove y + w % 2 ∧ w % 2 = 0 := by
  have hc := encCompute_lt c
  have hx := encMove_add_lt x r
  have hy := (encMove_lt y).1
  have h0 := eq_encMove_add_iff w y false
  rw [show b01 false = 0 from rfl, Nat.add_zero] at h0
  rw [encBundle, Nat.add_assoc, zero_field_iff 62 4 (N := 64) (by decide) (by omega), field_iff 36 (2 ^ 26) (by decide) (by omega),
    field_iff 18 (2 ^ 18) (by decide) hy, eq_encMove_add_iff, h0]

/-- The layout of a GENERAL bundle. -/
theorem mod_eq_gen_iff (w : Nat) (c : Compute) (g : GenOp) : w % 2 ^ 64 = encBundle (.gen c g) ↔
    w / 2 ^ 62 % 4 = 1 ∧ w / 2 ^ 36 % 2 ^ 26 = encCompute c ∧ w % 2 ^ 36 = encGen g := by
  have hc := encCompute_lt c
  have hg := encGen_lt g
  rw [encBundle, Nat.add_assoc, field_iff 62 4 (by decide) (by omega), field_iff 36 (2 ^ 26) (by decide) hg]

/-- The layout of LDI. -/
theorem mod_eq_ldi_iff (w : Nat) (r : BitVec 7) (i : BitVec 32) : w % 2 ^ 64 = encBundle (.ldi r i) ↔
    w / 2 ^ 62 % 4 = 3 ∧ w / 2 ^ 55 % 2 ^ 7 = r.toNat ∧ w / 2 ^ 32 % 2 ^ 23 = 0 ∧ w % 2 ^ 32 = i.toNat := by
  have hr := r.isLt
  have hi := i.isLt
  rw [encBundle, Nat.add_assoc, field_iff 62 4 (by decide) (by omega), field_iff 55 (2 ^ 7) (by decide) (by omega),
    zero_field_iff 32 (2 ^ 23) (N := 55) (by decide) hi]

/-- A number reads as a bundle just where its low 64 bits are the bundle's encoding. -/
theorem decBundle_eq_some_iff (w : Nat) (b : Bundle) : decBundle w = some b ↔ w % 2 ^ 64 = encBundle b := by
  constructor
  · intro h
    unfold decBundle at h
    split at h
    case h_1 hk =>
      split at h
      case h_2 => exact nomatch h
      case h_1 c x y hc hx hy =>
        obtain ⟨hz, hb⟩ := Option.ite_none_right_eq_some.mp h
        obtain rfl := Option.some.inj hb
        exact (mod_eq_par_iff w c x y _).mpr ⟨hk, (decCompute_eq_some_iff _ _).mp hc,
          ⟨(decMove_eq_some_iff _ _).mp hx, (beq_one_eq_iff _ _).mp rfl⟩, (decMove_eq_some_iff _ _).mp hy, hz⟩
    case h_2 hk =>
      split at h
      case h_2 => exact nomatch h
      case h_1 c g hc hg =>
        obtain rfl := Option.some.inj h
        exact (mod_eq_gen_iff w c g).mpr ⟨hk, (decCompute_eq_some_iff _ _).mp hc,
          (Nat.mod_mod w _).symm.trans ((decGen_eq_some_iff _ _).mp hg)⟩
    case h_3 hk =>
      obtain ⟨o, ho, rfl⟩ := Option.map_eq_some_iff.mp h
      exact (field_iff 62 4 (by decide) (encCtl_lt o)).mpr ⟨hk, (Nat.mod_mod w _).symm.trans ((decCtl_eq_some_iff _ _).mp ho)⟩
    case h_4 _ h0 h1 h2 =>
      obtain ⟨hz, hb⟩ := Option.ite_none_right_eq_some.mp h
      obtain rfl := Option.some.inj hb
      have hk : w / 2 ^ 62 % 4 = 3 := by
        have : w / 2 ^ 62 % 4 ≠ 0 ∧ w / 2 ^ 62 % 4 ≠ 1 ∧ w / 2 ^ 62 % 4 ≠ 2 := ⟨h0, h1, h2⟩
        omega
      exact (mod_eq_ldi_iff w _ _).mpr ⟨hk, rfl, hz, rfl⟩
  · intro h
    cases b with
    | par c x y r =>
      obtain ⟨hk, hc, ⟨hx, hr⟩, hy, hz⟩ := (mod_eq_par_iff w c x y r).mp h
      rw [decBundle, hk]
      simp only [(decCompute_eq_some_iff _ c).mpr hc, (decMove_eq_some_iff _ x).mpr hx, (decMove_eq_some_iff _ y).mpr hy,
        (beq_one_eq_iff _ r).mpr hr]
      exact if_pos hz
    | gen c g =>
      obtain ⟨hk, hc, hg⟩ := (mod_eq_gen_iff w c g).mp h
      rw [decBundle, hk]
      simp only [(decCompute_eq_some_iff _ c).mpr hc, (decGen_eq_some_iff _ g).mpr ((Nat.mod_mod w _).trans hg)]
    | ctl o =>
      obtain ⟨hk, ho⟩ := (field_iff 62 4 (by decide) (encCtl_lt o)).mp h
      rw [decBundle, hk]
      exact Option.map_eq_some_iff.mpr ⟨o, (decCtl_eq_some_iff _ _).mpr ((Nat.mod_mod w _).trans ho), rfl⟩
    | ldi r i =>
      obtain ⟨hk, hr, hz, hi⟩ := (mod_eq_ldi_iff w r i).mp h
      rw [decBundle, hk]
      exact (if_pos hz).trans (by rw [(ofNat_eq_iff _ r).mpr hr, (ofNat_eq_iff _ i).mpr hi])

theorem encBundle_lt (b : Bundle) : encBundle b < 2 ^ 64 := by
  cases b with
  | par c x y r =>
    have := encCompute_lt c; have := b01_lt r; have := encMove_lt x; have := encMove_lt y
    simp only [encBundle]; omega
  | gen c g => have := encCompute_lt c; have := encGen_lt g; simp only [encBundle]; omega
  | ctl o => have := encCtl_lt o; simp only [encBundle]; omega
  | ldi r i => have := r.isLt; have := i.isLt; simp only [encBundle]; omega

/-- A word reads as a bundle just where it is the bundle's word. -/
theorem decodeBundle_eq_some_iff (w : BitVec 64) (b : Bundle) : decodeBundle w = some b ↔ encodeBundle b = w := by
  rw [decodeBundle, decBundle_eq_some_iff, Nat.mod_eq_of_lt w.isLt, encodeBundle, ofNat_eq_iff, Nat.mod_eq_of_lt (encBundle_lt b), eq_comm]

/-- Settles O59: reading a word and writing a bundle are each other's inverse, `decodeBundle_eq_some_iff`. -/
theorem bundleEncoding : Obligations.BundleEncoding :=
  ⟨fun b => (decodeBundle_eq_some_iff _ b).mpr rfl, fun w b h => (decodeBundle_eq_some_iff w b).mp h⟩

end Sys2Proof.Machine
end

section
/-! PROOFS. The rules about a law engine that its statements rest on: an engine written and read back, results landing, the words of its
memories, the count that advances, and the ways an engine comes to its next bundle (05). -/

open Sys2Proof

namespace Sys2Proof.Machine

/-! ## An engine written twice -/

theorem tdel_tdel {α : Type} (t : Tbl α) (k : Nat) : tdel (tdel t k) k = tdel t k := by
  induction t with
  | nil => rfl
  | cons x r ih =>
    obtain ⟨j, v⟩ := x
    by_cases h : j = k <;> simp [tdel, h, ih]

theorem tdel_tins {α : Type} (t : Tbl α) (k : Nat) (v : α) : tdel (tins t k v) k = tdel t k := by
  induction t with
  | nil => simp [tins, tdel]
  | cons x r ih =>
    obtain ⟨j, w⟩ := x
    by_cases h : j < k
    · simp [tins, tdel, h, ih]
    · simp [tins, tdel, h]

/-- Of two writes to one key the second alone counts. -/
theorem tput_tput {α : Type} [DecidableEq α] (z : α) (t : Tbl α) (k : Nat) (u v : α) : tput z (tput z t k u) k v = tput z t k v := by
  have h : tdel (tput z t k u) k = tdel t k := by
    unfold tput; split
    · exact tdel_tdel t k
    · rw [tdel_tins, tdel_tdel]
  unfold tput at h ⊢
  rw [h]

@[simp] theorem Dev.setEng_setEng (d : Dev) (e : Nat) (x y : LawEng) : (d.setEng e x).setEng e y = d.setEng e y := by
  simp only [Dev.setEng, tput_tput]

theorem leaves_eng (s : State) (d : Dev) (k : Nat) : (leaves s d).dev.eng k = d.eng k := by
  rw [Dev.eng, leaves_law]; rfl

/-! ## Landing (05 R136) -/

theorem landAt_nil {x : LawEng} (h : x.flight = []) (n : Nat) : x.landAt n = x := by
  unfold LawEng.landAt
  rw [h, landGo]
  exact h ▸ rfl

theorem landRun_nil {x : LawEng} (h : x.flight = []) (n k : Nat) : landRun n k x = x := by
  induction k generalizing n with
  | zero => rfl
  | succ k ih => rw [landRun, landAt_nil h]; exact ih _

theorem drain_nil {x : LawEng} (h : x.flight = []) : x.drain = x := landRun_nil h _ _

theorem drainCycles_nil {x : LawEng} (h : x.flight = []) : x.drainCycles = 0 := by rw [LawEng.drainCycles, h]; rfl

/-- Cycles pass and nothing is in flight to land. -/
theorem cycles_drain {x : LawEng} (h : x.flight = []) (n : Nat) : (x.cycles n).drain = x.cycles n := drain_nil h

theorem halt_nil {x : LawEng} (h : x.flight = []) :
    x.halt = { x.cycles 0 with st := .halted, inHandler := x.st == .handler, haltReq := false, resumed := false } := by
  rw [LawEng.halt, drainCycles_nil h, cycles_drain h]

/-- What landing one result and setting the results in flight keep, landing all that are due keeps. -/
theorem landGo_keeps {α : Type} (π : LawEng → α) (h : ∀ x l, π (x.landOne l) = π x) (hf : ∀ x fl, π { x with flight := fl } = π x)
    (n : Nat) (ks : List Nat) (fl keep : List Land) (x : LawEng) : π (landGo n ks fl keep x) = π x := by
  induction fl generalizing ks keep x with
  | nil => exact hf x keep
  | cons l r ih =>
    unfold landGo
    split
    · exact ih _ _ _
    · split
      · split <;> exact (ih _ _ _).trans (h x l)
      · exact ih _ _ _

/-- No result lands in the words of X memory. -/
theorem landGo_x (n : Nat) (ks : List Nat) (fl keep : List Land) (x : LawEng) : (landGo n ks fl keep x).x = x.x :=
  landGo_keeps (·.x) (fun x l => by unfold LawEng.landOne; split <;> rfl) (fun _ _ => rfl) n ks fl keep x

/-- No result lands in what says whether debug acts on the engine and whether it issues. -/
theorem landGo_st_dbg (n : Nat) (ks : List Nat) (fl keep : List Land) (x : LawEng) :
    ((landGo n ks fl keep x).st, (landGo n ks fl keep x).dbg) = (x.st, x.dbg) :=
  landGo_keeps (fun x => (x.st, x.dbg)) (fun x l => by unfold LawEng.landOne; split <;> rfl) (fun _ _ => rfl) n ks fl keep x

/-- What stays in flight at a bundle is due after it. -/
theorem mem_flight_landGo {n : Nat} {l : Land} (ks : List Nat) (fl keep : List Land) (x : LawEng) (h : l ∈ (landGo n ks fl keep x).flight) :
    l ∈ keep ∨ l ∈ fl ∧ n < l.due := by
  induction fl generalizing ks keep x with
  | nil => exact .inl h
  | cons k r ih =>
    have hcons : ∀ {ks' keep' x'}, l ∈ (landGo n ks' r keep' x').flight → (∀ o ∈ keep', o ∈ keep ∨ o = k ∧ n < o.due) →
        l ∈ keep ∨ l ∈ k :: r ∧ n < l.due := fun hm hk => by
      rcases ih _ _ _ hm with hl | ⟨hl, hd⟩
      · rcases hk l hl with hl | ⟨rfl, hd⟩
        · exact .inl hl
        · exact .inr ⟨List.mem_cons_self, hd⟩
      · exact .inr ⟨List.mem_cons_of_mem _ hl, hd⟩
    unfold landGo at h
    split at h
    · exact hcons h fun o ho => .inl ho
    · split at h
      · split at h
        · exact hcons h fun o ho => .inl (List.mem_of_mem_filter ho)
        · exact hcons h fun o ho => .inl ho
      · exact hcons h fun o ho => (List.mem_append.mp ho).imp id fun ho => by
          obtain rfl := List.mem_singleton.mp ho
          exact ⟨rfl, by omega⟩

/-- After landing bundle by bundle what stays in flight is due after the last of them. -/
theorem mem_flight_landRun {n k : Nat} {l : Land} {x : LawEng} (h : l ∈ (landRun n (k + 1) x).flight) : l ∈ x.flight ∧ n + k < l.due := by
  induction k generalizing n x with
  | zero => exact (mem_flight_landGo _ _ _ _ h).resolve_left nofun
  | succ k ih =>
    obtain ⟨hl, hd⟩ := ih h
    exact ⟨((mem_flight_landGo _ _ _ _ hl).resolve_left nofun).1, by omega⟩

theorem landRun_st_dbg (n k : Nat) (x : LawEng) : ((landRun n k x).st, (landRun n k x).dbg) = (x.st, x.dbg) := by
  induction k generalizing n x with
  | zero => rfl
  | succ k ih => exact (ih _ _).trans (landGo_st_dbg _ _ _ _ _)

/-- Nothing due within ten bundles stays in flight after a drain. -/
theorem flight_drain {x : LawEng} (h : ∀ l ∈ x.flight, l.due ≤ x.issued + 9) : x.drain.flight = [] :=
  List.eq_nil_iff_forall_not_mem.mpr fun l hl => by
    obtain ⟨hm, hd⟩ := mem_flight_landRun (k := 9) hl
    have := h l hm
    omega

theorem lawEng_x (s : State) (e : Nat) : (s.lawEng e).x = (s.dev.eng e).x := landGo_x _ _ _ _ _

theorem lawEng_st (s : State) (e : Nat) : (s.lawEng e).st = (s.dev.eng e).st := (Prod.mk.inj (landGo_st_dbg _ _ _ _ _)).1

/-- Landing leaves an engine running what it ran. -/
theorem lawEng_active (s : State) (e : Nat) : (s.lawEng e).active = (s.dev.eng e).active := by
  rw [LawEng.active, lawEng_st]; rfl

/-! ## Words of memory (05 R124, 12 R313) -/

theorem lawRead_congr {d d' : Dev} {x y : LawEng} (hf : y.frame = x.frame) (hx : y.x = x.x) (hy : y.y = x.y)
    (hs : ∀ w, d'.scrWord w = d.scrWord w) (a : LAddr) : d'.lawRead y a = d.lawRead x a := by
  cases a <;> simp only [Dev.lawRead, hf, hx, hy, hs]

/-- The engine with the word of its own memories at `a` written. -/
def LawEng.put (x : LawEng) (a : LAddr) (v : W32) : LawEng :=
  match a with
  | .x w => if w < 1024 then { x with frame := tput 0 x.frame w v } else { x with x := tput 0 x.x w v }
  | .y w => { x with y := tput 0 x.y w v }
  | _ => x

theorem put_eq (x : LawEng) (a : LAddr) (v : W32) : ∃ f m n, x.put a v = { x with frame := f, x := m, y := n } := by
  unfold LawEng.put
  split
  · split <;> exact ⟨_, _, _, rfl⟩
  · exact ⟨_, _, _, rfl⟩
  · exact ⟨_, _, _, rfl⟩

/-- Of an engine's own memories a write changes the word written. -/
theorem lawRead_put (d : Dev) (x : LawEng) {a : LAddr} (v : W32) (b : LAddr) (ha : (∃ w, a = .x w) ∨ ∃ w, a = .y w) :
    d.lawRead (x.put a v) b = if b = a then v else d.lawRead x b := by
  rcases ha with ⟨w, rfl⟩ | ⟨w, rfl⟩
  · cases b
    case x k =>
      by_cases hw : w < 1024 <;> by_cases hk : k < 1024 <;> simp [LawEng.put, Dev.lawRead, hw, hk, tget_tput] <;> omega
    all_goals by_cases hw : w < 1024 <;> simp [LawEng.put, Dev.lawRead, hw]
  · cases b <;> simp [LawEng.put, Dev.lawRead, tget_tput]

/-! ## The next bundle (05 R136, R140, R143) -/

/-- The loop engine's work is in the PC, LC, SR, the loop cache and the cycle counts alone. -/
theorem loopEdge_eq (x : LawEng) : ∃ cy bu lc sr pc ca, x.loopEdge = { x with cyc := cy, busy := bu, lc := lc, sr := sr, pc := pc, cached := ca } := by
  unfold LawEng.loopEdge
  split
  · split
    · cases decide (64 < x.le - x.ls + 1) <;> exact ⟨_, _, _, _, _, _, rfl⟩
    · exact ⟨_, _, _, _, _, _, rfl⟩
  · exact ⟨_, _, _, _, _, _, rfl⟩

/-- The next bundle is set in the PC, the loop's and delay slots' registers and the counts alone. -/
theorem advance_eq (x : LawEng) (br : Bool) (tg : Option Nat) (rcp : Bool) : ∃ cy bu lc sr pc ca sl ta la, x.advance br tg rcp = { x with
    cyc := cy, busy := bu, lc := lc, sr := sr, pc := pc, cached := ca, slots := sl, target := ta, lastRcp := la
    issued := x.issued + 1, resumed := false } := by
  cases br
  · obtain ⟨_, _, _, _, _, _, h⟩ := loopEdge_eq (x.cycles 1)
    unfold LawEng.advance
    dsimp only
    rw [if_neg Bool.false_ne_true, h]
    exact ⟨_, _, _, _, _, _, _, _, _, rfl⟩
  · exact ⟨_, _, _, _, _, _, _, _, _, rfl⟩

/-- R140: after a branch come two delay slots. -/
theorem advance_branch (x : LawEng) (tg : Option Nat) (rcp : Bool) : x.advance true tg rcp = { x.cycles 1 with
    slots := 2, target := tg, pc := x.pc + 1, issued := x.issued + 1, resumed := false, lastRcp := if rcp then some x.issued else x.lastRcp } := rfl

/-- Outside loops the PC steps by one, and a delay slot counts down to the target. -/
theorem advance_step {x : LawEng} (h : x.sr.getLsbD 7 = false) (rcp : Bool) : x.advance false none rcp = { x.cycles 1 with
    pc := if x.slots = 1 then x.target.getD (x.pc + 1) else x.pc + 1, slots := x.slots - 1, target := if x.slots ≤ 1 then none else x.target
    issued := x.issued + 1, resumed := false, lastRcp := if rcp then some x.issued else x.lastRcp } := by
  have hl : (x.cycles 1).loopEdge = { x.cycles 1 with pc := x.pc + 1 } := if_neg (fun hc => Bool.false_ne_true (h.symm.trans hc.1))
  simp only [LawEng.advance, Bool.false_eq_true, if_false, hl]
  rfl

/-- 05 R156: debug acts on an engine that has advanced as it did before. -/
theorem dbg_advance (x : LawEng) (br : Bool) (tg : Option Nat) (rcp : Bool) : (x.advance br tg rcp).dbg = x.dbg := by
  obtain ⟨_, _, _, _, _, _, _, _, _, h⟩ := advance_eq x br tg rcp
  rw [h]; rfl

/-- `z` is `x` but for its results in flight, RRB, the words of its memories and the cycles it counted. -/
def LawEng.Beside (x z : LawEng) : Prop :=
  z = { x with flight := z.flight, rrb := z.rrb, frame := z.frame, x := z.x, y := z.y, cyc := z.cyc, busy := z.busy }

theorem LawEng.Beside.dbg {x z : LawEng} (h : x.Beside z) : z.dbg = x.dbg := by rw [h]; rfl

/-- An engine that has issued a bundle that is no branch. -/
theorem issued_of {s t : State} {e : Nat} {z : LawEng} {rcp : Bool} (hz : (s.lawEng e).Beside z) (ht : t.dev.eng e = z.advance false none rcp)
    (ho : ∀ k, k ≠ e → t.dev.eng k = s.dev.eng k) : Issued s t e := by
  obtain ⟨_, _, _, _, _, _, _, _, _, ha⟩ := advance_eq z false none rcp
  refine ⟨?_, ?_, ?_, fun hs hl => ?_, ho⟩
  · rw [ht, ha, hz]
  · rw [ht, ha, hz]
  · rw [ht, ha, hz]
  · rw [hz] at ht
    rw [ht, advance_step (by exact hl)]
    exact ⟨if_neg (by show ¬ _ = 1; rw [hs]; decide), by show _ - 1 = 0; rw [hs], rfl, rfl, rfl, rfl, rfl, rfl, rfl, rfl, rfl, rfl, rfl, rfl, rfl⟩

end Sys2Proof.Machine
end

section
/-! PROOFS. What becomes of an engine at its next bundle (05 R130, R139, R150, R156): it faults, is held, or issues it; and what a bundle
that issues does to the engine's results in flight and the words of memory. -/

open Sys2Proof

namespace Sys2Proof.Machine

/-! ## Stalls (05 R139) -/

theorem stall_nil {x : LawEng} {b : Bundle} (h : x.flight = []) (hr : x.lastRcp = none ∨ isRcp b = false) : x.stall b = 0 := by
  simp only [LawEng.stall, h, List.filter_nil, List.map_nil, maxN, Nat.zero_max]
  rcases hr with hr | hr
  · rw [hr]
  · cases x.lastRcp with
    | none => rfl
    | some n => exact if_neg (by cases b <;> simp_all [isRcp])

theorem afterStall_nil {x : LawEng} {b : Bundle} (h : x.flight = []) (hr : x.lastRcp = none ∨ isRcp b = false) :
    x.afterStall (x.stall b) = x := by rw [stall_nil h hr]; rfl

/-! ## An engine at its next bundle (05 R130, R156) -/

/-- Engine `e`, with its results landed, comes to its next bundle: it runs a job or a handler, and neither a halt nor an interrupt is due. -/
structure Comes (s : State) (e : Nat) : Prop where
  active : (s.dev.eng e).active = true
  unhalted : ((s.lawEng e).dbg && ((s.lawEng e).haltReq || ((s.lawEng e).atBreak && !(s.lawEng e).resumed))) = false
  quiet : (s.lawEng e).irqDue = false

/-- The device with engine `e`'s results landed. -/
def State.landed (s : State) (e : Nat) : Dev := s.dev.setEng e (s.lawEng e)

section
variable {s : State} {e : Nat}

@[simp] theorem landed_eng : (s.landed e).eng e = s.lawEng e := Dev.setEng_eng _ _ _

theorem Comes.issue_eq (h : Comes s e) (b : Option Bundle) : issue e b s.dev =
    if !inWindow (s.lawEng e).protCode (s.lawEng e).pc then (s.landed e).lawAbort e 2 (s.lawEng e).pc (some (s.lawEng e).pc) true
    else match b with
      | none => (s.landed e).lawAbort e 1 (s.lawEng e).pc none true
      | some b =>
        if !bundleOk b || !(s.lawEng e).placed b then (s.landed e).lawAbort e 1 (s.lawEng e).pc none true
        else if (s.landed e).issueHeld e b then s.landed e
        else Dev.issueOk ((s.landed e).setEng e ((s.lawEng e).afterStall ((s.lawEng e).stall b))) e b := by
  have hh := h.unhalted
  have hq := h.quiet
  unfold issue
  dsimp only
  rw [if_neg (by simp [h.active])]
  unfold State.lawEng at hh hq ⊢
  rw [hh, hq]
  rfl

/-- A PC outside the code window is a PMEM fault. -/
theorem Comes.issue_outside (h : Comes s e) (b : Option Bundle) (hw : inWindow (s.lawEng e).protCode (s.lawEng e).pc = false) :
    issue e b s.dev = (s.landed e).lawAbort e 2 (s.lawEng e).pc (some (s.lawEng e).pc) true := by
  rw [h.issue_eq, hw]; rfl

/-- A bundle that is illegal, or illegal where it stands, is an ILLEGAL fault. -/
theorem Comes.issue_illegal (h : Comes s e) {b : Bundle} (hw : inWindow (s.lawEng e).protCode (s.lawEng e).pc = true)
    (hb : bundleOk b = false ∨ (s.lawEng e).placed b = false) :
    issue e (some b) s.dev = (s.landed e).lawAbort e 1 (s.lawEng e).pc none true := by
  rw [h.issue_eq, hw, if_neg (by decide)]
  exact if_pos (by rcases hb with hb | hb <;> rw [hb] <;> simp)

/-- A bundle that is held changes nothing but to land what was due. -/
theorem Comes.issue_held (h : Comes s e) {b : Bundle} (hw : inWindow (s.lawEng e).protCode (s.lawEng e).pc = true) (hb : bundleOk b = true)
    (hp : (s.lawEng e).placed b = true) (hh : (s.landed e).issueHeld e b = true) : issue e (some b) s.dev = s.landed e := by
  rw [h.issue_eq, hw]
  dsimp only
  rw [hb, hp, hh]; rfl

/-- A bundle that is legal where it stands and not held issues, after its stall. -/
theorem Comes.issue_goes (h : Comes s e) {b : Bundle} (hw : inWindow (s.lawEng e).protCode (s.lawEng e).pc = true) (hb : bundleOk b = true)
    (hp : (s.lawEng e).placed b = true) (hh : (s.landed e).issueHeld e b = false) :
    issue e (some b) s.dev = Dev.issueOk ((s.landed e).setEng e ((s.lawEng e).afterStall ((s.lawEng e).stall b))) e b := by
  rw [h.issue_eq, hw]
  dsimp only
  rw [hb, hp, hh]; rfl

end

/-! ## Accesses (05 R124, R125) -/

/-- A Y move reaches a word of Y memory, and an X move one of X memory, or none. -/
theorem moveAddr_cases (x : LawEng) (y : Bool) (a : Nat) :
    x.moveAddr y a = .fault ∨ (y = false ∧ x.moveAddr y a = .x (a / 4)) ∨ (y = true ∧ x.moveAddr y a = .y (a / 4 - 0x4000)) := by
  cases y <;> simp only [LawEng.moveAddr, Bool.false_eq_true, if_false, if_true] <;> split_ifs <;> simp

/-- A bundle one of whose accesses faults is a DMEM fault. -/
theorem issueOk_fault {d : Dev} {e : Nat} {b : Bundle} {a : Access} (ha : a ∈ d.accesses (d.eng e) b) (hf : a.at_ = .fault) :
    ∃ q ∈ d.accesses (d.eng e) b, q.at_ = .fault ∧ d.issueOk e b = d.lawAbort e 3 (d.eng e).pc (some q.addr) true := by
  cases hq : (d.accesses (d.eng e) b).find? (fun a => a.at_ == .fault) with
  | none => exact absurd (beq_iff_eq.mpr hf) (List.find?_eq_none.mp hq a ha)
  | some q =>
    refine ⟨q, List.mem_of_find?_eq_some hq, beq_iff_eq.mp (List.find?_some (p := fun a : Access => a.at_ == .fault) hq), ?_⟩
    unfold Dev.issueOk
    dsimp only
    rw [hq]

/-! ## A bundle that issues (05 R136 to R156) -/

/-- What is left of the issue of a bundle whose accesses all reach a word: the control slots that end or leave the job's course, and the
results of the rest with the next bundle set. -/
def Dev.proceeds (d : Dev) (e : Nat) (b : Bundle) : Dev :=
  let x := d.eng e
  match b with
  | .ctl (.jend c) => if condHolds x.sr c then (d.setEng e (x.cycles 1)).lawEnd e else d.setEng e (x.advance false none false)
  | .ctl .rti => d.setEng e { x.cycles 1 with
      sr := x.esr, ictl := x.ictl ||| 1, pc := x.epc, st := .job, inHandler := false, issued := x.issued + 1, resumed := false }
  | .ctl (.trap c n) =>
    if condHolds x.sr c then
      if x.en 0 then (d.setEng e (x.advance false none false)).lawEntry e (6 + 256 * n.toNat) none else d.lawAbort e 1 x.pc none true
    else d.setEng e (x.advance false none false)
  | .ctl .bkpt => d.setEng e (x.advance false none false)
  | .ctl (.bri c p) =>
    if condHolds x.sr c && decide (16383 < x.ptr p) then d.lawAbort e 2 x.pc (some (x.ptr p)) true
    else d.setEng e (x.advance true (x.branchTo (.bri c p)) false)
  | .ctl o => (d.results e x b).setEng e (((d.results e x b).eng e).advance (hasSlots b) (x.branchTo o) false)
  | _ => (d.results e x b).setEng e (((d.results e x b).eng e).advance false none (isRcp b))

/-- Debug does not act on an engine on which it did not before the bundle's results. -/
theorem issueOk_proceeds {d : Dev} {e : Nat} {b : Bundle} (hr : ∀ a ∈ d.accesses (d.eng e) b, a.at_ ≠ .fault ∧ d.deadWord a = false)
    (hd : (d.eng e).dbg = false) (hres : ((d.results e (d.eng e) b).eng e).dbg = false) : d.issueOk e b = d.proceeds e b := by
  have hf : (d.accesses (d.eng e) b).find? (fun a => a.at_ == .fault) = none :=
    List.find?_eq_none.mpr fun a ha => by simpa using (hr a ha).1
  have hw : (d.accesses (d.eng e) b).any d.deadWord = false := List.any_eq_false.mpr fun a ha => by simp [(hr a ha).2]
  unfold Dev.issueOk
  dsimp only
  rw [hf]
  dsimp only
  rw [if_neg (by rw [hw]; exact Bool.false_ne_true)]
  simp only [dbg_advance, hd, hres, Bool.false_and, Bool.false_eq_true, if_false]
  cases b with
  | ctl o => cases o <;> rfl
  | par c x y r => rfl
  | gen c g => rfl
  | ldi r i => rfl

/-! ## Stores and results (05 R138; 12 R313, R322, R329) -/

/-- The device with scratch banks `c`. -/
def Dev.banked (d : Dev) (c : Scb) : Dev := { d with scb := c }

/-- What an access does to the scratch banks beside its word leaves their words. -/
theorem testYield_eq (d : Dev) (n : Nat) : ∃ c, d.testYield n = d.banked c ∧ c.bank = d.scb.bank := by
  unfold Dev.testYield; split <;> exact ⟨_, rfl, rfl⟩

theorem postModify_eq (p : BitVec 3) (st : Option Int) (bt : Bool) (x : LawEng) (d : Dev) :
    ∃ c, (postModify p st bt x d).2 = d.banked c ∧ c.bank = d.scb.bank := by
  unfold postModify
  cases st with
  | none => exact ⟨_, rfl, rfl⟩
  | some v =>
    dsimp only
    split
    · unfold Dev.bwPost; dsimp only; split <;> exact ⟨_, rfl, rfl⟩
    · exact ⟨_, rfl, rfl⟩

theorem scrWord_of_bank {d d' : Dev} (h : d'.scb.bank = d.scb.bank) (w : Nat) : d'.scrWord w = d.scrWord w :=
  scrWord_congr (fun n => by simp only [Dev.bank, h]) w

/-- A store to X or Y memory is a store of the engine's own. -/
theorem storeAt_own (d : Dev) (e : Nat) (x : LawEng) {a : LAddr} (v : W32) (h : ∀ w, a ≠ .s w) :
    storeAt e a v (d.setEng e x) = d.setEng e (x.put a v) := by
  cases a with
  | x w => simp only [storeAt, Dev.setEng_eng, LawEng.put]; split <;> exact Dev.setEng_setEng _ _ _ _
  | y w => simp only [storeAt, Dev.setEng_eng, LawEng.put]; exact Dev.setEng_setEng _ _ _ _
  | s w => exact absurd rfl (h w)
  | fault => rfl
  | wait => rfl

/-- A store that reaches a word changes that word alone, and no engine but in its own memories. -/
theorem storeAt_eq (d : Dev) (e : Nat) (x : LawEng) {a : LAddr} (v : W32) (hf : a ≠ .fault) (hw : a ≠ .wait) :
    ∃ c, storeAt e a v (d.setEng e x) = (d.banked c).setEng e (x.put a v) ∧
      ∀ b, (d.banked c).lawRead (x.put a v) b = if b = a then v else d.lawRead x b := by
  by_cases hs : ∃ w, a = .s w
  · obtain ⟨w, rfl⟩ := hs
    obtain ⟨c, hc, hb⟩ := testYield_eq (d.setEng e x) (w / 65536)
    refine ⟨((d.setEng e x).testYield (w / 65536)).setScrWord w v |>.scb, ?_, fun b => ?_⟩
    · simp only [storeAt]
      rw [hc]; rfl
    · cases b
      case s k =>
        refine (scrWord_setScrWord ((d.setEng e x).testYield (w / 65536)) w k v).trans ?_
        simp only [LAddr.s.injEq]
        split
        · rfl
        · exact scrWord_congr (fun n => Dev.testYield_bank (d.setEng e x) (w / 65536) n) k
      all_goals simp [Dev.lawRead, LawEng.put]
  · have ha : (∃ w, a = .x w) ∨ ∃ w, a = .y w := by
      cases a with
      | x w => exact .inl ⟨w, rfl⟩
      | y w => exact .inr ⟨w, rfl⟩
      | s w => exact absurd ⟨w, rfl⟩ hs
      | fault => exact absurd rfl hf
      | wait => exact absurd rfl hw
    exact ⟨d.scb, storeAt_own d e x v (fun w h => hs ⟨w, h⟩), fun b => lawRead_put d x v b ha⟩

/-- The engine `z` with the word of a store move of engine `x`. -/
def LawEng.putMove (x z : LawEng) (d : Dev) (y : Bool) (m : Option Move) : LawEng :=
  match m with
  | some v => if v.store then z.put (d.moveAccess x y v).at_ (x.dw v.d) else z
  | none => z

theorem putMove_eq (x z : LawEng) (d : Dev) (y : Bool) (m : Option Move) : ∃ f a b, x.putMove z d y m = { z with frame := f, x := a, y := b } := by
  unfold LawEng.putMove
  split
  · split
    · exact put_eq _ _ _
    · exact ⟨_, _, _, rfl⟩
  · exact ⟨_, _, _, rfl⟩

theorem moveStores_eq (d : Dev) (e : Nat) (x z : LawEng) (y : Bool) (m : Option Move) :
    moveStores e x y m (d.setEng e z) = d.setEng e (x.putMove z d y m) := by
  cases m with
  | none => rfl
  | some v =>
    simp only [moveStores, LawEng.putMove]
    split
    · refine storeAt_own d e z _ fun w hw => ?_
      rcases moveAddr_cases x y ((d.addrOf x v.p v.am v.m 0 false).1) with h | ⟨-, h⟩ | ⟨-, h⟩ <;> exact nomatch h.symm.trans hw
    · rfl

/-- The engine a PARALLEL bundle leaves, before the next bundle is set. -/
def LawEng.afterPar (x : LawEng) (d : Dev) (c : Compute) (mx my : Option Move) (rot : Bool) : LawEng :=
  { x.putMove (x.putMove x d false mx) d true my with
    flight := x.flight ++ (x.compute c ++ d.moveLands x false mx ++ d.moveLands x true my), rrb := if rot then (x.rrb + 15) % 16 else x.rrb }

/-- What a post-modify lands does not hang on the engines' states but the one whose pointer it is. -/
@[simp] theorem postModify_setEng (p : BitVec 3) (st : Option Int) (bt : Bool) (x : LawEng) (d : Dev) (e : Nat) (z : LawEng) :
    (postModify p st bt x (d.setEng e z)).1 = (postModify p st bt x d).1 := by
  cases st with
  | none => rfl
  | some v => unfold postModify; dsimp only; split <;> rfl

theorem moveLands_setEng (d : Dev) (e : Nat) (x z : LawEng) (y : Bool) (m : Option Move) :
    (d.setEng e z).moveLands x y m = d.moveLands x y m := by
  cases m with
  | none => rfl
  | some v => simp only [Dev.moveLands, postModify_setEng]; rfl

theorem results_par (d : Dev) (e : Nat) (x : LawEng) (c : Compute) (mx my : Option Move) (rot : Bool) :
    (d.setEng e x).results e x (.par c mx my rot) = d.setEng e (x.afterPar d c mx my rot) := by
  unfold Dev.results
  dsimp only
  rw [moveStores_eq, moveStores_eq, Dev.setEng_eng, Dev.setEng_setEng, moveLands_setEng, moveLands_setEng]
  rfl

/-- 12 Table 5.11: the access reaches a scratch bank. -/
def LAddr.scratch : LAddr → Bool
  | .s _ => true
  | _ => false

/-- The device after an access to `a` has made a test of its bank yield. -/
def Dev.yieldAt (d : Dev) : LAddr → Dev
  | .s w => d.testYield (w / 65536)
  | _ => d

theorem yieldAt_eq (d : Dev) (a : LAddr) : ∃ sc, d.yieldAt a = d.banked sc ∧ sc.bank = d.scb.bank := by
  cases a
  case s w => exact testYield_eq d (w / 65536)
  all_goals exact ⟨d.scb, rfl, rfl⟩

theorem results_ld_eq (d : Dev) (e : Nat) (x : LawEng) (c : Compute) (a : GenMem) (y : Dev)
    (hy : y = (d.setEng e x).yieldAt (d.memAccess x a false).at_) :
    (d.setEng e x).results e x (.gen c (.ld a)) =
      (postModify a.p (y.addrOf x a.p a.am a.m a.disp true).2 true x y).2.setEng e { x with
        flight := x.flight ++ x.compute c ++ x.moveTo a.reg.toNat ((d.setEng e x).lawRead x (d.memAccess x a false).at_).toInt true
          (d.memAccess x a false).at_.scratch ++ (postModify a.p (y.addrOf x a.p a.am a.m a.disp true).2 true x y).1 } := by
  have hm : (d.setEng e x).memAccess x a false = d.memAccess x a false := rfl
  subst hy
  unfold Dev.results
  dsimp only
  rw [hm]
  cases (d.memAccess x a false).at_ <;> rfl

/-- LD lands its word, and the scratch banks keep theirs. -/
theorem results_ld (d : Dev) (e : Nat) (x : LawEng) (c : Compute) (a : GenMem) : ∃ sc pm, sc.bank = d.scb.bank ∧
    (d.setEng e x).results e x (.gen c (.ld a)) = (d.banked sc).setEng e { x with
      flight := x.flight ++ x.compute c ++ x.moveTo a.reg.toNat (d.lawRead x (d.memAccess x a false).at_).toInt true
        (d.memAccess x a false).at_.scratch ++ pm } := by
  obtain ⟨sc, hy, hb⟩ := yieldAt_eq (d.setEng e x) (d.memAccess x a false).at_
  rw [results_ld_eq d e x c a _ hy.symm]
  obtain ⟨sc', hp, hb'⟩ := postModify_eq a.p ((Dev.banked (d.setEng e x) sc).addrOf x a.p a.am a.m a.disp true).2 true x
    (Dev.banked (d.setEng e x) sc)
  rw [hp, show (d.setEng e x).lawRead x (d.memAccess x a false).at_ = d.lawRead x (d.memAccess x a false).at_ from
    lawRead_congr rfl rfl rfl (fun _ => rfl) _]
  exact ⟨sc', _, hb'.trans hb, Dev.setEng_setEng (d.banked sc') e x _⟩

/-- ST writes its word and no other. -/
theorem results_st (d : Dev) (e : Nat) (x : LawEng) (c : Compute) (a : GenMem) (hf : (d.memAccess x a true).at_ ≠ .fault)
    (hw : (d.memAccess x a true).at_ ≠ .wait) : ∃ sc pm, (d.setEng e x).results e x (.gen c (.st a)) = (d.banked sc).setEng e
      { x.put (d.memAccess x a true).at_ (BitVec.ofInt 32 (x.readCode e a.reg.toNat)) with flight := x.flight ++ x.compute c ++ pm } ∧
    ∀ b, (d.banked sc).lawRead (x.put (d.memAccess x a true).at_ (BitVec.ofInt 32 (x.readCode e a.reg.toNat))) b =
      if b = (d.memAccess x a true).at_ then BitVec.ofInt 32 (x.readCode e a.reg.toNat) else d.lawRead x b := by
  obtain ⟨sc, hp, hb⟩ := postModify_eq a.p ((d.setEng e x).addrOf x a.p a.am a.m a.disp true).2 true x (d.setEng e x)
  obtain ⟨sc', hs, hr⟩ := storeAt_eq (d.banked sc) e x (BitVec.ofInt 32 (x.readCode e a.reg.toNat)) hf hw
  refine ⟨sc', (postModify a.p ((d.setEng e x).addrOf x a.p a.am a.m a.disp true).2 true x (d.setEng e x)).1, ?_, fun b => (hr b).trans ?_⟩
  · unfold Dev.results
    dsimp only
    rw [hp, show (d.setEng e x).memAccess x a true = d.memAccess x a true from rfl]
    rw [show (d.setEng e x).banked sc = (d.banked sc).setEng e x from rfl, hs, Dev.setEng_eng]
    exact Dev.setEng_setEng _ _ _ _
  · rw [lawRead_congr (d := d) (d' := d.banked sc) rfl rfl rfl (scrWord_of_bank hb)]

end Sys2Proof.Machine
end

section
/-! PROOFS. What a bundle that issues leaves (05 R136 to R143), whatever stands beside its compute slot. -/

open Sys2Proof

namespace Sys2Proof.Machine

theorem Issues.comes {s : State} {e : Nat} {b : Bundle} (h : Issues s e b) : Comes s e :=
  ⟨h.active, by rw [h.free]; rfl, h.quiet⟩

/-- No bundle but JEND is held where none of its accesses waits. -/
theorem issueHeld_of_reached {d : Dev} {e : Nat} {b : Bundle} (hw : ∀ a ∈ d.accesses (d.eng e) b, a.at_ ≠ .wait) (hj : ∀ c, b ≠ .ctl (.jend c)) :
    d.issueHeld e b = false := by
  have hany : (d.accesses (d.eng e) b).any (fun a => a.at_ == .wait) = false :=
    List.any_eq_false.mpr fun a ha => by simpa using hw a ha
  unfold Dev.issueHeld
  dsimp only
  rw [hany]
  clear hw hany
  cases b with
  | ctl o =>
    cases o
    case jend c => exact absurd rfl (hj c)
    all_goals rfl
  | par c x y r => rfl
  | gen c g => rfl
  | ldi r i => rfl

theorem Issues.unheld {s : State} {e : Nat} {b : Bundle} (h : Issues s e b) (hj : ∀ c, b ≠ .ctl (.jend c)) :
    (s.landed e).issueHeld e b = false :=
  issueHeld_of_reached (by rw [landed_eng]; exact fun a ha => (h.reached a ha).2.1) hj

/-- A bundle that issues proceeds at once. -/
theorem Issues.proceeds {s : State} {e : Nat} {b : Bundle} (h : Issues s e b) (hh : (s.landed e).issueHeld e b = false)
    (hd : (((s.landed e).results e (s.lawEng e) b).eng e).dbg = false) : issue e (some b) s.dev = (s.landed e).proceeds e b := by
  rw [h.comes.issue_goes h.inCode h.legal h.placed hh, afterStall_nil h.clear h.spaced]
  have hl : (s.landed e).setEng e (s.lawEng e) = s.landed e := Dev.setEng_setEng _ _ _ _
  rw [hl]
  exact issueOk_proceeds (by rw [landed_eng]; exact fun a ha => ⟨(h.reached a ha).1, (h.reached a ha).2.2⟩) (by rw [landed_eng]; exact h.free)
    (by rw [landed_eng]; exact hd)

theorem afterPar_beside (x : LawEng) (d : Dev) (c : Compute) (mx my : Option Move) (rot : Bool) : x.Beside (x.afterPar d c mx my rot) := by
  obtain ⟨_, _, _, hx⟩ := putMove_eq x x d false mx
  obtain ⟨_, _, _, hy⟩ := putMove_eq x (x.putMove x d false mx) d true my
  unfold LawEng.Beside LawEng.afterPar
  rw [hy, hx]

/-- A move that is no store writes no word. -/
theorem putMove_of_no_store (x z : LawEng) (d : Dev) (y : Bool) {m : Option Move} (h : ∀ v, m = some v → v.store = false) :
    x.putMove z d y m = z := by
  cases m with
  | none => rfl
  | some v => exact if_neg (by rw [h v rfl]; exact Bool.false_ne_true)

/-- What a PARALLEL or GENERAL bundle does before the next bundle is set: it adds the results of its compute slot to those in flight, and
without a store it changes no word. -/
theorem results_side (d : Dev) (e : Nat) (x : LawEng) (c : Compute) (sd : Side)
    (hr : ∀ a ∈ d.accesses x (sd.bundle c), a.at_ ≠ .fault ∧ a.at_ ≠ .wait) : ∃ sc z fl,
      (d.setEng e x).results e x (sd.bundle c) = (d.banked sc).setEng e z ∧ x.Beside z ∧ z.flight = x.flight ++ x.compute c ++ fl ∧
      ((∀ a ∈ d.accesses x (sd.bundle c), a.store = false) → ∀ a, (d.banked sc).lawRead z a = d.lawRead x a) := by
  cases sd with
  | moves mx my rot =>
    refine ⟨d.scb, _, d.moveLands x false mx ++ d.moveLands x true my, results_par d e x c mx my rot, afterPar_beside x d c mx my rot, ?_, fun hs a => ?_⟩
    · simp [LawEng.afterPar]
    · have h1 := putMove_of_no_store x x d false (m := mx) fun v hv =>
        hs (d.moveAccess x false v) (by subst hv; simp [Side.bundle, Dev.accesses])
      have h2 := putMove_of_no_store x x d true (m := my) fun v hv =>
        hs (d.moveAccess x true v) (by subst hv; simp [Side.bundle, Dev.accesses])
      refine lawRead_congr (d := d) (d' := d.banked d.scb) ?_ ?_ ?_ (fun _ => rfl) a <;> simp only [LawEng.afterPar, h1, h2]
  | gen g =>
    cases g with
    | nop => exact ⟨d.scb, _, [], Dev.setEng_setEng _ _ _ _, rfl, (List.append_nil _).symm, fun _ a => lawRead_congr rfl rfl rfl (fun _ => rfl) a⟩
    | ld a =>
      obtain ⟨sc, pm, hb, h⟩ := results_ld d e x c a
      exact ⟨sc, _, _, h, rfl, List.append_assoc _ _ _, fun _ a => lawRead_congr rfl rfl rfl (scrWord_of_bank hb) a⟩
    | st a =>
      obtain ⟨hf, hw⟩ := hr (d.memAccess x a true) (List.mem_singleton_self _)
      obtain ⟨sc, pm, h, -⟩ := results_st d e x c a hf hw
      obtain ⟨_, _, _, hp⟩ := put_eq x (d.memAccess x a true).at_ (BitVec.ofInt 32 (x.readCode e a.reg.toNat))
      refine ⟨sc, _, pm, h, ?_, rfl, fun hs => ?_⟩
      · rw [hp]; rfl
      · exact nomatch hs (d.memAccess x a true) (List.mem_singleton_self _)
    | movr rd rs => exact ⟨d.scb, _, _, Dev.setEng_setEng _ _ _ _, rfl, rfl, fun _ a => lawRead_congr rfl rfl rfl (fun _ => rfl) a⟩
    | addi r i => exact ⟨d.scb, _, _, Dev.setEng_setEng _ _ _ _, rfl, rfl, fun _ a => lawRead_congr rfl rfl rfl (fun _ => rfl) a⟩
    | ldis r i => exact ⟨d.scb, _, _, Dev.setEng_setEng _ _ _ _, rfl, rfl, fun _ a => lawRead_congr rfl rfl rfl (fun _ => rfl) a⟩

/-- An event that changes engine `e` and the scratch banks changes no other kind of state. -/
theorem does_engine {i : Instr} {w : List Part} {s : State} {e : Nat} {z : LawEng} {sc : Scb} {P : State → Prop}
    (hi : exec i s = .next (leaves s ((s.dev.banked sc).setEng e z))) (hs : Part.scb ∈ w ∨ sc = s.dev.scb)
    (he : ∀ t : State, t.dev.eng e = z → (∀ k, k ≠ e → t.dev.eng k = s.dev.eng k) →
      (∀ x a, t.dev.lawRead x a = (s.dev.banked sc).lawRead x a) → P t) (hl : Part.law ∈ w := by exact List.mem_cons_self) : Does i w s P := by
  refine does_leaves hi rfl (fun p hp => ?_) (he _ ?_ (fun k hk => ?_) fun x a => ?_)
  · cases p
    case law => exact absurd hl hp
    case scb => exact hs.resolve_left hp
    case rings => exact ⟨rfl, rfl, rfl, rfl, rfl, rfl⟩
    case irq => exact ⟨rfl, rfl, rfl⟩
    case mbox => exact fun _ => rfl
    all_goals rfl
  · rw [leaves_eng, Dev.setEng_eng]
  · rw [leaves_eng, Dev.setEng_eng_other _ _ hk]; rfl
  · exact lawRead_congr rfl rfl rfl (fun k => leaves_scrWord s _ k) a

/-- A bundle that is no control slot sets its results and then the next bundle. -/
theorem Issues.plain {s : State} {e : Nat} {b : Bundle} (h : Issues s e b) (hj : ∀ c, b ≠ .ctl (.jend c)) {sc : Scb} {z : LawEng}
    (hres : (s.landed e).results e (s.lawEng e) b = (s.dev.banked sc).setEng e z) (hz : (s.lawEng e).Beside z)
    (hp : ∀ d : Dev, d.proceeds e b = (d.results e (d.eng e) b).setEng e (((d.results e (d.eng e) b).eng e).advance false none (isRcp b)) := by
      exact fun _ => rfl) : issue e (some b) s.dev = (s.dev.banked sc).setEng e (z.advance false none (isRcp b)) := by
  rw [h.proceeds (h.unheld hj) (by rw [hres, Dev.setEng_eng, hz.dbg]; exact h.free), hp, landed_eng, hres, Dev.setEng_eng, Dev.setEng_setEng]

/-- A PARALLEL or GENERAL bundle that issues. -/
theorem Issues.side {s : State} {e : Nat} {c : Compute} {sd : Side} (h : Issues s e (sd.bundle c)) : ∃ sc z fl rcp,
    issue e (some (sd.bundle c)) s.dev = (s.dev.banked sc).setEng e (z.advance false none rcp) ∧ (s.lawEng e).Beside z ∧
    z.flight = (s.lawEng e).compute c ++ fl ∧
    ((∀ a ∈ s.dev.accesses (s.lawEng e) (sd.bundle c), a.store = false) → ∀ a, (s.dev.banked sc).lawRead z a = s.dev.lawRead (s.lawEng e) a) := by
  obtain ⟨sc, z, fl, hres, hz, hfl, hk⟩ := results_side s.dev e (s.lawEng e) c sd fun a ha => ⟨(h.reached a ha).1, (h.reached a ha).2.1⟩
  refine ⟨sc, z, fl, isRcp (sd.bundle c), h.plain ?_ hres hz ?_, hz, by rw [hfl, h.clear]; rfl, hk⟩
  · cases sd <;> exact nofun
  · cases sd <;> exact fun _ => rfl

end Sys2Proof.Machine
end

section
/-! PROOFS. What a control bundle that issues leaves (05 R140 to R151), and its returns from handlers (O60). -/

open Sys2Proof

namespace Sys2Proof.Machine

/-- Setting the next bundle leaves the results in flight. -/
@[simp] theorem advance_flight (x : LawEng) (br : Bool) (tg : Option Nat) (rcp : Bool) : (x.advance br tg rcp).flight = x.flight := by
  obtain ⟨_, _, _, _, _, _, _, _, _, h⟩ := advance_eq x br tg rcp
  rw [h]

/-- Setting the next bundle rotates no register. -/
@[simp] theorem advance_rrb (x : LawEng) (br : Bool) (tg : Option Nat) (rcp : Bool) : (x.advance br tg rcp).rrb = x.rrb := by
  obtain ⟨_, _, _, _, _, _, _, _, _, h⟩ := advance_eq x br tg rcp
  rw [h]

/-- The engine with more results in flight. -/
def LawEng.fly (x : LawEng) (l : List Land) : LawEng := { x with flight := x.flight ++ l }

section
variable {s : State} {e : Nat}

/-- An event that changes engine `e` changes no other kind of state. -/
theorem does_law {i : Instr} {z : LawEng} {P : State → Prop} (hi : exec i s = .next (leaves s (s.dev.setEng e z)))
    (he : ∀ t : State, t.dev.eng e = z → (∀ k, k ≠ e → t.dev.eng k = s.dev.eng k) →
      (∀ x a, t.dev.lawRead x a = s.dev.lawRead x a) → P t) : Does i [.law] s P :=
  does_engine (sc := s.dev.scb) hi (.inr rfl) he

@[simp] theorem landed_setEng (z : LawEng) : (s.landed e).setEng e z = s.dev.setEng e z := Dev.setEng_setEng _ _ _ _

/-- A control bundle that holds no job and whose results leave debug as it was proceeds at once. -/
theorem Issues.control {o : CtlOp} (h : Issues s e (.ctl o)) {z : LawEng} (hj : ∀ c, o ≠ .jend c)
    (hz : (s.landed e).results e (s.lawEng e) (.ctl o) = s.dev.setEng e z) (hd : z.dbg = (s.lawEng e).dbg) :
    issue e (some (.ctl o)) s.dev = (s.landed e).proceeds e (.ctl o) :=
  h.proceeds (h.unheld fun c hc => hj c (Bundle.ctl.inj hc)) (by rw [hz, Dev.setEng_eng, hd]; exact h.free)

/-- A control bundle that ends no job and leaves no handler sets its results and then the next bundle. -/
theorem Issues.next {o : CtlOp} (h : Issues s e (.ctl o)) {z : LawEng} (hj : ∀ c, o ≠ .jend c)
    (hz : (s.landed e).results e (s.lawEng e) (.ctl o) = s.dev.setEng e z) (hd : z.dbg = (s.lawEng e).dbg)
    (hp : ∀ d : Dev, d.proceeds e (.ctl o) = (d.results e (d.eng e) (.ctl o)).setEng e
      (((d.results e (d.eng e) (.ctl o)).eng e).advance (hasSlots (.ctl o)) ((d.eng e).branchTo o) false) := by exact fun _ => rfl) :
    issue e (some (.ctl o)) s.dev = s.dev.setEng e (z.advance (hasSlots (.ctl o)) ((s.lawEng e).branchTo o) false) := by
  rw [h.control hj hz hd, hp, landed_eng, hz, Dev.setEng_eng, Dev.setEng_setEng]

/-- R141: a bundle that may not stand in a delay slot stands in none. -/
theorem Issues.slots_eq {b : Bundle} (h : Issues s e b) (hb : slotBarred b = true) : (s.lawEng e).slots = 0 := by
  have hp := h.placed
  simp only [LawEng.placed, hb, Bool.and_true, Bool.and_eq_true, Bool.not_eq_true'] at hp
  simpa using hp.1.1

/-- The engine RTI leaves (05 R148). -/
def LawEng.returned (x : LawEng) : LawEng :=
  { x.cycles 1 with sr := x.esr, ictl := x.ictl ||| 1, pc := x.epc, st := .job, inHandler := false, issued := x.issued + 1, resumed := false }

theorem Issues.rti (h : Issues s e (.ctl .rti)) : issue e (some (.ctl .rti)) s.dev = s.dev.setEng e (s.lawEng e).returned := by
  rw [h.control (z := s.lawEng e) nofun rfl rfl]
  simp only [Dev.proceeds, landed_eng, landed_setEng]
  rfl

end

/-- Settles O60: RTI issues at once, and leaves the engine `returned`; in no delay slot, by its placement. -/
theorem returnFromHandler : Obligations.ReturnFromHandler := by
  intro s e h
  refine does_law (run_below h.engine h.rti) fun t ht ho _ => ?_
  rw [ht]
  exact ⟨rfl, rfl, rfl, h.slots_eq rfl, rfl, rfl, rfl, ⟨rfl, rfl, rfl, rfl, rfl, rfl, rfl, rfl, rfl, rfl, rfl, rfl, rfl⟩, rfl, ho⟩

end Sys2Proof.Machine
end

section
/-! PROOFS. The accumulator instructions (O24). -/

open Sys2Proof

namespace Sys2Proof.Machine

/-- An instruction of the compute slot whose results are among those of its slot computes them. -/
theorem computes_of_compute {i : Nat → CFields → Side → Instr} {op : COp} {res : LawEng → CFields → List Land}
    (hi : ∀ e f sd s, exec (i e f sd) s = run (decide (e < 8)) (issue e (some (sd.bundle ⟨op, f⟩))) s)
    (hr : ∀ x f, res x f ⊆ x.compute ⟨op, f⟩) : Computes i op res := by
  intro s e f sd h
  obtain ⟨sc, z, fl, rcp, hd, hz, hfl, hk⟩ := h.side
  obtain ⟨_, _, _, _, _, _, _, _, _, ha⟩ := advance_eq z false none rcp
  refine does_engine ((hi e f sd s).trans (run_below h.engine hd)) (.inl (by decide)) fun t ht ho hw =>
    ⟨issued_of hz ht ho, fun l hl => ?_, fun hs a _ => ?_⟩
  · rw [ht, ha]
    exact hfl ▸ List.mem_append_left _ (hr _ _ hl)
  · rw [hw, ht]
    exact (lawRead_congr (by rw [ha]) (by rw [ha]) (by rw [ha]) (fun _ => rfl) a).trans (hk hs a)

/-- 05 R132: an accumulator result is its value, saturated or wrapped, in both views, with AOV where it does not fit. -/
theorem accOut_eq (x : LawEng) (n : BitVec 5) (r : Int) : x.accOut n r = x.toAcc n r ++ x.aov r := by
  simp only [LawEng.accOut, LawEng.toAcc, LawEng.aov, LawEng.lands]
  split <;> simp

theorem toAcc_subset (x : LawEng) (n : BitVec 5) (r : Int) : x.toAcc n r ⊆ x.accOut n r := by
  rw [accOut_eq]; exact List.subset_append_left _ _

theorem abs_eq_natAbs (v : Int) : (if v < 0 then -v else v) = (v.natAbs : Int) := by split <;> omega

/-- NORMA shifts by the redundant sign bits above 8, right where there are fewer. -/
theorem norma_shift (v : Int) (n : Nat) : (if (n : Int) - 8 < 0 then v / 2 ^ (-((n : Int) - 8)).toNat else v * 2 ^ ((n : Int) - 8).toNat) =
    if n < 8 then v / 2 ^ (8 - n) else v * 2 ^ (n - 8) := by
  by_cases h : n < 8
  · rw [if_pos h, if_pos (by omega), show (-((n : Int) - 8)).toNat = 8 - n by omega]
  · rw [if_neg h, if_neg (by omega), show ((n : Int) - 8).toNat = n - 8 by omega]

/-- 05 R134: AS sets where a result saturates. -/
theorem asOut_eq (x : LawEng) (v : Int) (k : Nat) : x.asOut (satI 32 v != v) k = x.satSets k v := by
  by_cases h : satI 32 v = v <;> simp [LawEng.asOut, LawEng.satSets, LawEng.lands, h]

/-- Settles O24: the results of each operation's slot are those of its table row, by the rules of accumulator results above. -/
theorem accumulatorOps : Obligations.AccumulatorOps := by
  refine ⟨computes_of_compute (fun _ _ _ _ => rfl) fun x f => ?mpy, computes_of_compute (fun _ _ _ _ => rfl) fun x f => ?mac,
    computes_of_compute (fun _ _ _ _ => rfl) fun x f => ?msu, computes_of_compute (fun _ _ _ _ => rfl) fun x f => ?adda,
    computes_of_compute (fun _ _ _ _ => rfl) fun x f => ?suba, computes_of_compute (fun _ _ _ _ => rfl) fun x f => ?nega,
    computes_of_compute (fun _ _ _ _ => rfl) fun x f => ?absa, computes_of_compute (fun _ _ _ _ => rfl) fun x f => ?clra,
    computes_of_compute (fun _ _ _ _ => rfl) fun x f => ?shla, computes_of_compute (fun _ _ _ _ => rfl) fun x f => ?shra,
    computes_of_compute (fun _ _ _ _ => rfl) fun x f => ?mvda, computes_of_compute (fun _ _ _ _ => rfl) fun x f => ?expa,
    computes_of_compute (fun _ _ _ _ => rfl) fun x f => ?norma, computes_of_compute (fun _ _ _ _ => rfl) fun x f => ?mvad⟩
  case mpy | mac | msu | adda | suba | nega | shla => rw [← accOut_eq]; exact List.Subset.refl _
  case absa =>
    rw [← abs_eq_natAbs]
    rw [← accOut_eq]; exact List.Subset.refl _
  case clra | shra | mvda => exact toAcc_subset x f.f1 _
  case expa => exact List.Subset.refl _
  case norma =>
    refine List.append_subset.mpr ⟨List.subset_append_right _ _, List.Subset.trans ?_ (List.subset_append_left _ _)⟩
    rw [norma_shift]
    split <;> exact toAcc_subset x f.f1 _
  case mvad =>
    rw [← asOut_eq]
    exact List.Subset.refl _

end Sys2Proof.Machine
end

section
/-! PROOFS. A result lands at its bundle and not before (O26). -/

open Sys2Proof

namespace Sys2Proof.Machine

theorem slowBefore_nil (n : Nat) (l : Land) : slowBefore [] n l = false := by
  cases h : l.tgt <;> simp [slowBefore, h]

/-- A result due later stays in flight. -/
theorem landAt_later {x : LawEng} {n : Nat} {l : Land} (h : x.flight = [l]) (hn : n < l.due) : x.landAt n = x := by
  rw [LawEng.landAt, h, landGo, slowBefore_nil, if_neg Bool.false_ne_true, if_neg (Nat.not_le.mpr hn), landGo]
  exact h ▸ rfl

/-- The only result in flight lands once due, and nothing is left in flight. -/
theorem landAt_due {x : LawEng} {n : Nat} {l : Land} (h : x.flight = [l]) (hn : l.due ≤ n) : x.landAt n = { x.landOne l with flight := [] } := by
  rw [LawEng.landAt, h, landGo, slowBefore_nil, if_neg Bool.false_ne_true, if_pos hn]
  split <;> rfl

/-! ## SR and ICTL bit by bit (05 Table 5.3, Table 5.13) -/

/-- A word with the one bit `k`, set where `a` holds. -/
theorem getLsbD_bit {w k : Nat} (hk : k < w) (a : Bool) (i : Nat) : (BitVec.ofNat w (2 ^ k * b01 a)).getLsbD i = (decide (i = k) && a) := by
  cases a
  · simp [b01]
  · rw [b01, if_pos rfl, Nat.mul_one, BitVec.getLsbD_ofNat, Nat.testBit_two_pow, Bool.and_true]
    by_cases h : i = k
    · simp [h, hk]
    · simp [h, Ne.symm h]

/-- The word of the flags N, Z, V and C. -/
theorem getLsbD_flags (nn z v c : Bool) (i : Nat) : (BitVec.ofNat 16 (8 * b01 nn + 4 * b01 z + 2 * b01 v + b01 c)).getLsbD i =
    ((decide (i = 3) && nn) || (decide (i = 2) && z) || (decide (i = 1) && v) || (decide (i = 0) && c)) := by
  have hb : BitVec.ofNat 16 (8 * b01 nn + 4 * b01 z + 2 * b01 v + b01 c) =
      BitVec.ofNat 16 (2 ^ 3 * b01 nn) ||| BitVec.ofNat 16 (2 ^ 2 * b01 z) ||| BitVec.ofNat 16 (2 ^ 1 * b01 v) ||| BitVec.ofNat 16 (2 ^ 0 * b01 c) := by
    cases nn <;> cases z <;> cases v <;> cases c <;> decide
  rw [hb, BitVec.getLsbD_or, BitVec.getLsbD_or, BitVec.getLsbD_or, getLsbD_bit (by decide), getLsbD_bit (by decide), getLsbD_bit (by decide),
    getLsbD_bit (by decide)]

/-- The bits of SR a flag result leaves are 4 to 13. -/
theorem getLsbD_flagMask (i : Nat) : (0x3FF0 : BitVec 16).getLsbD i = decide (4 ≤ i ∧ i < 14) := by
  by_cases h : i < 16
  · exact (by decide : ∀ j : Fin 16, (0x3FF0 : BitVec 16).getLsbD j = decide (4 ≤ j.val ∧ j.val < 14)) ⟨i, h⟩
  · rw [BitVec.getLsbD_of_ge _ _ (by omega), decide_eq_false (by omega)]

/-- SR with its reserved bits 0 after a flag result. -/
theorem getLsbD_withFlags {sr : BitVec 16} (h : sr.toNat < 0x4000) (nn z v c : Bool) (i : Nat) :
    ((sr &&& 0x3FF0) ||| BitVec.ofInt 16 ((8 * b01 nn + 4 * b01 z + 2 * b01 v + b01 c : Nat) : Int)).getLsbD i =
      if 4 ≤ i then sr.getLsbD i
      else (decide (i = 3) && nn) || (decide (i = 2) && z) || (decide (i = 1) && v) || (decide (i = 0) && c) := by
  rw [BitVec.ofInt_natCast, BitVec.getLsbD_or, BitVec.getLsbD_and, getLsbD_flags, getLsbD_flagMask]
  by_cases h4 : 4 ≤ i
  · have hi : ∀ k, k < 4 → decide (i = k) = false := fun k hk => decide_eq_false (by omega)
    by_cases h14 : i < 14
    · simp [h4, h14, hi]
    · have hz : sr.getLsbD i = false := 
        Nat.testBit_lt_two_pow (h.trans_le (Nat.pow_le_pow_right (n := 2) (by decide) (Nat.le_of_not_lt h14)))
      simp [h4, hz, hi]
  · simp [h4]

/-- A write of all 16 bits and their mask reads back as one. -/
theorem ofInt_mask (m v : BitVec 16) : BitVec.ofInt 16 (((m.toNat * 65536 + v.toNat : Nat) : Int) / 65536) = m := by
  have hv := v.isLt
  rw [show ((m.toNat * 65536 + v.toNat : Nat) : Int) / 65536 = (m.toNat : Int) by omega, BitVec.ofInt_natCast, BitVec.ofNat_toNat,
    BitVec.setWidth_eq]

theorem ofInt_value (m v : BitVec 16) : BitVec.ofInt 16 ((m.toNat * 65536 + v.toNat : Nat) : Int) = v := by
  have hv := v.isLt
  rw [BitVec.ofInt_natCast]
  exact BitVec.eq_of_toNat_eq (by rw [BitVec.toNat_ofNat]; omega)

/-- Settles O26: the one result lands where it is due (`landAt_due`) and not before (`landAt_later`); fields of SR and ICTL by their bits. -/
theorem landings : Obligations.Landings := by
  refine ⟨fun x n l h hn => landAt_later h hn, fun x n k l h hn ht => ?pd, fun x n k l h hn ht => ?ptr, fun x n k l h hn ht => ?mdf,
    fun x n k l h hn ht => ?accF, fun x n k l h hn ht => ?acc, fun x n k l h hn ht => ?accW, fun x n l nn z v c h hn ht hv hs => ?flags,
    fun x n l a p h hn ht hv => ?sticky, fun x n l m v h hn ht hv => ?sr, fun x k hk => ?phys⟩
  case pd | ptr | mdf | accF | acc =>
    rw [landAt_due h hn, LawEng.landOne, ht]
    exact ⟨at_tput _ _ _ _, rfl⟩
  case accW =>
    rw [landAt_due h hn, LawEng.landOne, ht]
    exact ⟨at_tput _ _ _ _, at_tput _ _ _ _⟩
  case flags =>
    have hb : ∀ i, (x.landAt n).sr.getLsbD i = if 4 ≤ i then x.sr.getLsbD i
        else (decide (i = 3) && nn) || (decide (i = 2) && z) || (decide (i = 1) && v) || (decide (i = 0) && c) := by
      rw [landAt_due h hn, LawEng.landOne, ht, hv]
      exact getLsbD_withFlags hs nn z v c
    exact ⟨(hb 3).trans (by simp), (hb 2).trans (by simp), (hb 1).trans (by simp), (hb 0).trans (by simp), fun i hi => by rw [hb, if_pos hi]⟩
  case sticky =>
    have hsr : l.val.toNat % 2 * 16 + l.val.toNat / 2 % 2 * 32 = 2 ^ 5 * b01 a := by
      rw [hv]; cases a <;> cases p <;> decide
    have hictl : l.val.toNat / 4 % 4 * 256 = 2 ^ 9 * b01 p := by
      rw [hv]; cases a <;> cases p <;> decide
    rw [landAt_due h hn, LawEng.landOne, ht]
    simp only [hsr, hictl, BitVec.getLsbD_or]
    exact ⟨fun i => by rw [getLsbD_bit (by decide)], fun i => by rw [getLsbD_bit (by decide)]⟩
  case sr =>
    rw [landAt_due h hn, LawEng.landOne, ht, hv]
    simp only [ofInt_mask, ofInt_value]
  case phys => exact ⟨if_pos hk, (if_neg (by omega)).trans (by rw [Nat.add_sub_cancel_left])⟩

end Sys2Proof.Machine
end

section
/-! PROOFS. Branches, delay slots and loops (O28). -/

open Sys2Proof

namespace Sys2Proof.Machine

section
variable {s : State} {e : Nat}

/-- An engine two delay slots before `target` has branched, and no register of it has changed. -/
theorem sameRegs_branch (x : LawEng) (tg : Option Nat) : SameRegs x (x.advance true tg false) :=
  ⟨rfl, rfl, rfl, rfl, rfl, rfl, rfl, rfl, rfl, rfl, rfl, rfl, rfl⟩

/-- CALL's return bundle is in flight where its condition holds (05 R140). -/
theorem results_call (c : BitVec 4) (t : BitVec 14) : (s.landed e).results e (s.lawEng e) (.ctl (.call c t)) =
    s.dev.setEng e ((s.lawEng e).fly (if condHolds (s.lawEng e).sr c then
      [(s.lawEng e).lands 2 (.ptr 7) (((s.lawEng e).pc + 3 : Nat) : Int)] else [])) := by
  unfold Dev.results
  dsimp only
  split
  · exact landed_setEng _
  · rw [LawEng.fly, List.append_nil]; rfl

/-- The engine a NOP of the control slot leaves. -/
theorem Issues.nop (h : Issues s e (.ctl .nop)) :
    issue e (some (.ctl .nop)) s.dev = s.dev.setEng e ((s.lawEng e).advance false none false) :=
  h.next nofun rfl rfl

/-- A NOP's effect is what the next bundle's setting does. -/
theorem does_nop {P : State → Prop} (h : Issues s e (.ctl .nop))
    (he : ∀ t : State, t.dev.eng e = (s.lawEng e).advance false none false → P t) : Does (.lawNop e none) [.law] s P :=
  does_law (run_below h.engine h.nop) fun t ht _ _ => he t ht

end

/-! ## The loop's end (05 R142, R143) -/

theorem advance_last {x : LawEng} (h : x.sr.getLsbD 7 = true) (hp : x.pc = x.le) (hs : x.slots = 0) (hc : x.lc ≤ 1) :
    (x.advance false none false).pc = x.le + 1 ∧ (x.advance false none false).lc = 0 ∧ (x.advance false none false).sr = x.sr &&& 0x3F7F := by
  have hl : (x.cycles 1).loopEdge = { x.cycles 1 with lc := 0, sr := x.sr &&& 0x3F7F, pc := x.le + 1 } :=
    (if_pos ⟨h, hp⟩).trans (if_neg (by exact Nat.not_lt.mpr hc))
  have hs' : (x.cycles 1).slots = 0 := hs
  simp [LawEng.advance, hl, hs']

theorem loopEdge_again {x : LawEng} (h : x.sr.getLsbD 7 = true) (hp : x.pc = x.le) (hc : 1 < x.lc) :
    ∃ cy bu ca, x.loopEdge = { x with cyc := cy, busy := bu, lc := x.lc - 1, pc := x.ls, cached := ca } := by
  unfold LawEng.loopEdge
  rw [if_pos ⟨h, hp⟩, if_pos hc]
  cases decide (64 < x.le - x.ls + 1) <;> exact ⟨_, _, _, rfl⟩

theorem advance_again {x : LawEng} (h : x.sr.getLsbD 7 = true) (hp : x.pc = x.le) (hs : x.slots = 0) (hc : 1 < x.lc) :
    (x.advance false none false).pc = x.ls ∧ (x.advance false none false).lc = x.lc - 1 ∧ (x.advance false none false).sr = x.sr := by
  obtain ⟨_, _, _, hl⟩ := loopEdge_again (x := x.cycles 1) h hp hc
  have hs' : (x.cycles 1).slots = 0 := hs
  simp [LawEng.advance, hl, hs']
  exact ⟨rfl, rfl, rfl⟩

/-- Settles O28: a bundle with delay slots sets them (`advance_branch`), one without steps on (`advance_step`), and the end of a
loop's body goes to its start or leaves it (`advance_again`, `advance_last`). -/
theorem branchOps : Obligations.BranchOps := by
  refine ⟨fun s e c t h => ?br, fun s e c p h hp => ?bri, fun s e c t h => ?call, fun s e n a z h => ?loop, fun s e h h2 h7 => ?first,
    fun s e h h1 h7 => ?second, fun s e h h0 h7 hp hc => ?again, fun s e h h0 h7 hp hc => ?last, fun s e k h => ?rotn⟩
  case br =>
    refine does_law (run_below h.engine (h.next nofun rfl rfl)) fun u hu _ _ => ?_
    rw [hu]
    exact ⟨rfl, rfl, rfl, sameRegs_branch _ _⟩
  case bri =>
    have hi : issue e (some (.ctl (.bri c p))) s.dev = s.dev.setEng e ((s.lawEng e).advance true ((s.lawEng e).branchTo (.bri c p)) false) := by
      rw [h.control (z := s.lawEng e) nofun rfl rfl]
      simp only [Dev.proceeds, landed_eng, landed_setEng, decide_eq_false (Nat.not_lt.mpr hp), Bool.and_false, Bool.false_eq_true, if_false]
    refine does_law (run_below h.engine hi) fun u hu _ _ => ?_
    rw [hu]
    exact ⟨rfl, rfl, rfl, sameRegs_branch _ _⟩
  case call =>
    refine does_law (run_below h.engine (h.next nofun (results_call c t) rfl)) fun u hu _ _ => ?_
    rw [hu]
    refine ⟨rfl, rfl, rfl, sameRegs_branch _ _, fun hc => ?_⟩
    rw [advance_flight, if_pos hc]
    exact List.mem_append_right _ (List.mem_singleton_self _)
  case loop =>
    refine does_law (run_below h.engine (h.next nofun (landed_setEng _) rfl)) fun u hu _ _ => ?_
    rw [hu]
    exact ⟨rfl, rfl, rfl, rfl, rfl, rfl, rfl⟩
  case first =>
    refine does_nop h fun u hu => ?_
    rw [hu, advance_step h7, h2]
    exact ⟨rfl, rfl, rfl⟩
  case second =>
    refine does_nop h fun u hu => ?_
    rw [hu, advance_step h7, h1]
    exact ⟨rfl, rfl, rfl⟩
  case again =>
    refine does_nop h fun u hu => ?_
    rw [hu]
    exact advance_again h7 hp h0 hc
  case last =>
    refine does_nop h fun u hu => ?_
    obtain ⟨hpc, hlc, hsr⟩ := advance_last h7 hp h0 hc
    rw [hu, hpc, hlc, hsr]
    exact ⟨rfl, rfl, by simp⟩
  case rotn =>
    refine does_law (run_below h.engine (h.next nofun (landed_setEng _) rfl)) fun u hu ho _ => ⟨issued_of (by exact rfl) hu ho, ?_⟩
    rw [hu, advance_rrb]

end Sys2Proof.Machine
end

section
/-! PROOFS. A job aborted at a fault (05 R150, 01 R29, 15 Table 15.8). -/

open Sys2Proof

namespace Sys2Proof.Machine

/-- The engine an abort leaves (05 R150). -/
def LawEng.aborted (x : LawEng) (cause pc : Nat) (addr : Option Nat) : LawEng :=
  { x with
    st := .idle, inHandler := false, flight := [], slots := 0, target := none, ictl := noPend x.ictl, run := none
    haltReq := false, resumed := false
    ecause := cause, faultPc := pc, faultAddr := addr.elim x.faultAddr (BitVec.ofNat 32)
    faults := if cause ≤ 3 then x.faults + 1 else x.faults
    eccUncorr := if cause = 9 then x.eccUncorr + 1 else x.eccUncorr }

/-- What EV_LAW_FAULT tells of the law of an engine that a fault left. -/
def faultReport (law : Nat) (y : LawEng) : Bytes := le 2 law ++ le 2 y.ecause ++ le 4 y.faultPc ++ le 4 y.faultAddr.toNat

/-- An abort of an engine with no job. -/
theorem lawAbort_of_no_job {d : Dev} {e : Nat} (hr : (d.eng e).run = none) (cause pc : Nat) (addr : Option Nat) (strike : Bool) :
    d.lawAbort e cause pc addr strike = d.setEng e ((d.eng e).aborted cause pc addr) := by
  unfold Dev.lawAbort
  dsimp only
  rw [hr]
  cases addr <;> rfl

/-- An abort of a job with the cause of a fault is told of, and ends the test or misses the job. -/
theorem lawAbort_of_job {d : Dev} {e cause : Nat} {j : Job} (hr : (d.eng e).run = some j) (hc : cause ≤ 3) (pc : Nat) (addr : Option Nat)
    (strike : Bool) : d.lawAbort e cause pc addr strike =
      let y := (d.eng e).aborted cause pc addr
      let f := (d.setEng e y).raise 0x8800 e (faultReport j.law y)
      if j.test.isSome then f.finish 0x0831 e 0 (testAnswer y cause j.nOut) else f.missJob j := by
  have h9 : (strike && decide (9 ≤ cause)) = false := by rw [decide_eq_false (by omega), Bool.and_false]
  unfold Dev.lawAbort
  dsimp only
  rw [hr]
  dsimp only
  rw [if_pos hc, h9]
  cases addr <;> rfl

/-- An abort with the cause of a fault changes the engine, the scheduler and the host interface alone. -/
theorem lawAbort_eq (d : Dev) {e cause : Nat} (hc : cause ≤ 3) (pc : Nat) (addr : Option Nat) (strike : Bool) :
    ∃ c h, d.lawAbort e cause pc addr strike = { d.setEng e ((d.eng e).aborted cause pc addr) with sch := c, hst := h } := by
  cases hr : (d.eng e).run with
  | none => exact ⟨d.sch, d.hst, lawAbort_of_no_job hr cause pc addr strike⟩
  | some j =>
    rw [lawAbort_of_job hr hc]
    dsimp only
    obtain ⟨q, n, hq⟩ := Dev.raise_eq (d.setEng e ((d.eng e).aborted cause pc addr)) 0x8800 e (faultReport j.law ((d.eng e).aborted cause pc addr))
    rw [hq]
    split
    · obtain ⟨_, _, _, _, _, hf⟩ := finish_eq { d.setEng e ((d.eng e).aborted cause pc addr) with hst := { d.hst with evq := q, evLost := n } }
        0x0831 e 0 (testAnswer ((d.eng e).aborted cause pc addr) cause j.nOut)
      exact ⟨_, _, hf⟩
    · rename_i ht
      exact ⟨_, _, if_neg ht⟩

/-- An abort of a layout's job with the cause of a fault misses the job, and the event that tells of it is held. -/
theorem lawAbort_missed {d : Dev} {e cause : Nat} {j : Job} (he : e < 8) (hr : (d.eng e).run = some j) (ht : j.test = none) (hc : cause ≤ 3)
    (pc : Nat) (addr : Option Nat) (strike : Bool) : ∃ c q n, d.lawAbort e cause pc addr strike =
      { d.setEng e ((d.eng e).aborted cause pc addr) with sch := c, hst := { d.hst with evq := q, evLost := n } } ∧ c.miss = d.sch.miss + 1 ∧
      (d.hst.evq.length ≤ 32 → ∃ r ∈ q, r.code = 0x8800 ∧ r.inst = e ∧ r.payload = faultReport j.law ((d.eng e).aborted cause pc addr)) := by
  have hheld : d.hst.evq.length ≤ 32 → ∃ r ∈ ((d.setEng e ((d.eng e).aborted cause pc addr)).raise 0x8800 e
      (faultReport j.law ((d.eng e).aborted cause pc addr))).hst.evq, r.code = 0x8800 ∧ r.inst = e ∧
        r.payload = faultReport j.law ((d.eng e).aborted cause pc addr) :=
    fun hl => ⟨_, mem_hold_self _ hl, rfl, if_neg (by omega), rfl⟩
  obtain ⟨q, n, hq⟩ := Dev.raise_eq (d.setEng e ((d.eng e).aborted cause pc addr)) 0x8800 e (faultReport j.law ((d.eng e).aborted cause pc addr))
  obtain ⟨c, hm, -, hmiss⟩ := foldl_missJob [j] ((d.setEng e ((d.eng e).aborted cause pc addr)).raise 0x8800 e
    (faultReport j.law ((d.eng e).aborted cause pc addr))) (by simpa using ht)
  have ha : d.lawAbort e cause pc addr strike = ((d.setEng e ((d.eng e).aborted cause pc addr)).raise 0x8800 e
      (faultReport j.law ((d.eng e).aborted cause pc addr))).missJob j :=
    (lawAbort_of_job hr hc pc addr strike).trans (if_neg (by simp [ht]))
  rw [hq] at hheld hm hmiss ha
  exact ⟨c, q, n, ha.trans hm, hmiss, hheld⟩

section
variable {s : State} {e : Nat}

/-- An engine whose memories stand, with the scratch banks' words, keeps every word. -/
theorem keepsWords_of_eng {t : State} {y : LawEng} (hy : t.dev.eng e = y) (hf : y.frame = (s.lawEng e).frame) (hx : y.x = (s.lawEng e).x)
    (hm : y.y = (s.lawEng e).y) (hs : ∀ w, t.dev.scrWord w = s.dev.scrWord w) (p : LAddr → Prop) : KeepsWords s t e p :=
  fun a _ => by rw [hy]; exact lawRead_congr hf hx hm hs a

/-- An event that comes to an abort with the cause of a fault. -/
theorem completes_abort {i : Instr} {P : State → Prop} {cause pc : Nat} {addr : Option Nat} {strike : Bool} (hc : cause ≤ 3)
    (hi : exec i s = .next (leaves s ((s.landed e).lawAbort e cause pc addr strike)))
    (hP : ∀ t : State, t.dev.eng e = (s.lawEng e).aborted cause pc addr → (∀ k, k ≠ e → t.dev.eng k = s.dev.eng k) →
      KeepsWords s t e (fun _ => False) → P t) : Completes i s P := by
  obtain ⟨c, h, ha⟩ := lawAbort_eq (s.landed e) (e := e) hc pc addr strike
  rw [landed_eng, landed_setEng] at ha
  rw [ha] at hi
  have hy : (leaves s { s.dev.setEng e ((s.lawEng e).aborted cause pc addr) with sch := c, hst := h }).dev.eng e =
      (s.lawEng e).aborted cause pc addr := (leaves_eng _ _ _).trans (Dev.setEng_eng s.dev e _)
  exact ⟨_, hi, hP _ hy (fun k hk => (leaves_eng _ _ _).trans (Dev.setEng_eng_other s.dev _ hk))
    (keepsWords_of_eng hy rfl rfl rfl (fun w => leaves_scrWord _ _ w) _)⟩

/-- An event that aborts a job of a layout with the cause of a fault: EV_LAW_FAULT tells of it, and the job is missed. -/
theorem does_abort {i : Instr} {P : State → Prop} {j : Job} {cause pc : Nat} {addr : Option Nat} {strike : Bool} (he : e < 8) (hc : cause ≤ 3)
    (hr : (s.lawEng e).run = some j) (ht : j.test = none)
    (hi : exec i s = .next (leaves s ((s.landed e).lawAbort e cause pc addr strike)))
    (hP : ∀ t : State, t.dev.eng e = (s.lawEng e).aborted cause pc addr → t.dev.sch.miss = s.dev.sch.miss + 1 →
      Raises s t 0x8800 e (faultReport j.law ((s.lawEng e).aborted cause pc addr)) → KeepsWords s t e (fun _ => False) → P t) :
    Does i [.law, .sch] s P := by
  obtain ⟨c, q, n, ha, hm, hheld⟩ := lawAbort_missed (d := s.landed e) he (by rw [landed_eng]; exact hr) ht hc pc addr strike
  rw [landed_eng, landed_setEng] at ha
  rw [landed_eng] at hheld
  rw [ha] at hi
  have hy := (leaves_eng s { s.dev.setEng e ((s.lawEng e).aborted cause pc addr) with sch := c, hst := { s.dev.hst with evq := q, evLost := n } } e).trans
    (Dev.setEng_eng s.dev e ((s.lawEng e).aborted cause pc addr))
  refine does_changes hi (hP _ hy ?_ (fun hl => ?_)
    (keepsWords_of_eng hy rfl rfl rfl (fun w => leaves_scrWord _ _ w) _)) (hlaw := .inl (List.mem_cons_self ..)) (hsch := .inl (by decide))
  · rw [leaves_sch]; exact hm
  · obtain ⟨r, hr, hrest⟩ := hheld hl
    exact ⟨r, mem_leaves hr, hrest⟩

end

end Sys2Proof.Machine
end

section
/-! PROOFS. X and Y moves: where they reach and the bundles they stand in (05 R125, R138). -/

open Sys2Proof

namespace Sys2Proof.Machine

/-! ## Where a move reaches (05 R125) -/

theorem moveAddr_x {x : LawEng} {a : Nat} (h4 : a % 4 = 0) (h : a < 0x10000) (hw : inWindow x.protX (a / 4) = true) :
    x.moveAddr false a = .x (a / 4) :=
  (if_neg (not_not.mpr h4)).trans ((if_neg Bool.false_ne_true).trans (if_pos ⟨h, hw⟩))

theorem moveAddr_y {x : LawEng} {a : Nat} (h4 : a % 4 = 0) (h : 0x10000 ≤ a) (h' : a < 0x20000) (hw : inWindow x.protY (a / 4 - 0x4000) = true) :
    x.moveAddr true a = .y (a / 4 - 0x4000) :=
  (if_neg (not_not.mpr h4)).trans ((if_pos rfl).trans (if_pos ⟨h, h', hw⟩))

/-- A move outside its memory faults. -/
theorem moveAddr_fault {x : LawEng} {y : Bool} {a : Nat} (hx : y = false → 0x10000 ≤ a) (hy : y = true → a < 0x10000 ∨ 0x20000 ≤ a) :
    x.moveAddr y a = .fault := by
  unfold LawEng.moveAddr
  split
  · rfl
  · cases y
    · exact (if_neg Bool.false_ne_true).trans (if_neg fun h => absurd h.1 (Nat.not_lt.mpr (hx rfl)))
    · exact (if_pos rfl).trans (if_neg fun h => (hy rfl).elim (Nat.not_lt.mpr h.1) (Nat.not_le.mpr h.2.1))

/-- A move waits for no bank. -/
theorem moveAccess_at_ne_wait (d : Dev) (x : LawEng) (y : Bool) (m : Move) : (d.moveAccess x y m).at_ ≠ .wait := by
  rcases moveAddr_cases x y (d.moveAccess x y m).addr with h | ⟨-, h⟩ | ⟨-, h⟩ <;> exact fun hw => nomatch h.symm.trans hw

theorem mem_accesses_par {d : Dev} {x : LawEng} {c : Compute} {mx my : Option Move} {rot : Bool} {a : Access} :
    a ∈ d.accesses x (.par c mx my rot) ↔ (∃ m ∈ mx, a = d.moveAccess x false m) ∨ ∃ m ∈ my, a = d.moveAccess x true m := by
  simp [Dev.accesses, eq_comm]

/-- The bundle with move `mv` in the Y slot or the X slot. -/
def withMove (c : Compute) (y : Bool) (mv : Move) (other : Option Move) (rot : Bool) : Bundle :=
  if y then .par c other (some mv) rot else .par c (some mv) other rot

theorem exec_moveLoad {mv : Move} (h : mv.store = false) (e : Nat) (c : Compute) (y : Bool) (other : Option Move) (rot : Bool) (s : State) :
    exec (.moveLoad e c y mv other rot) s = run (decide (e < 8)) (issue e (some (withMove c y mv other rot))) s := by
  obtain ⟨st, d, p, am, m⟩ := mv
  obtain rfl : st = false := h
  cases y <;> rfl

theorem exec_moveStore {mv : Move} (h : mv.store = true) (e : Nat) (c : Compute) (y : Bool) (other : Option Move) (rot : Bool) (s : State) :
    exec (.moveStore e c y mv other rot) s = run (decide (e < 8)) (issue e (some (withMove c y mv other rot))) s := by
  obtain ⟨st, d, p, am, m⟩ := mv
  obtain rfl : st = true := h
  cases y <;> rfl

theorem mem_accesses_withMove (d : Dev) (x : LawEng) (c : Compute) (y : Bool) (mv : Move) (other : Option Move) (rot : Bool) :
    d.moveAccess x y mv ∈ d.accesses x (withMove c y mv other rot) := by
  cases y
  · exact mem_accesses_par.mpr (.inl ⟨mv, rfl, rfl⟩)
  · exact mem_accesses_par.mpr (.inr ⟨mv, rfl, rfl⟩)

end Sys2Proof.Machine
end

section
/-! PROOFS. Bundles that fault (O30, O31, O32): an illegal bundle, one that is illegal where it stands, a PC outside the code window and a
data access outside its windows. -/

open Sys2Proof

namespace Sys2Proof.Machine

section
variable {s : State} {e : Nat}

/-- Debug that does not act halts no engine. -/
theorem Comes.of_free (ha : (s.dev.eng e).active = true) (hd : (s.lawEng e).dbg = false) (hq : (s.lawEng e).irqDue = false) : Comes s e :=
  ⟨ha, by rw [hd]; rfl, hq⟩

/-- R141: a bundle without delay slots that ends, leaves and enters nothing may stand anywhere. -/
theorem placed_of_unbarred {x : LawEng} {b : Bundle} (hb : slotBarred b = false) (hs : hasSlots b = false) : x.placed b = true := by
  unfold LawEng.placed
  rw [hb, hs]
  cases b with
  | ctl o =>
    cases o
    case loop => exact nomatch hs
    all_goals simp
  | par c x y r => simp
  | gen c g => simp
  | ldi r i => simp

/-- A bundle one of whose accesses lies outside its windows is a DMEM fault at the address of one that does. -/
theorem Comes.issue_fault (h : Comes s e) {b : Bundle} {a : Access} (hf : (s.lawEng e).flight = []) (hr : (s.lawEng e).lastRcp = none ∨ isRcp b = false)
    (hw : inWindow (s.lawEng e).protCode (s.lawEng e).pc = true) (hb : bundleOk b = true) (hp : (s.lawEng e).placed b = true)
    (hj : ∀ c, b ≠ .ctl (.jend c)) (hn : ∀ a ∈ s.dev.accesses (s.lawEng e) b, a.at_ ≠ .wait) (ha : a ∈ s.dev.accesses (s.lawEng e) b)
    (hat : a.at_ = .fault) : ∃ q ∈ s.dev.accesses (s.lawEng e) b, q.at_ = .fault ∧
      issue e (some b) s.dev = (s.landed e).lawAbort e 3 (s.lawEng e).pc (some q.addr) true := by
  rw [h.issue_goes hw hb hp (issueHeld_of_reached (by rw [landed_eng]; exact hn) hj), afterStall_nil hf hr,
    show (s.landed e).setEng e (s.lawEng e) = s.landed e from landed_setEng _]
  have hfault := issueOk_fault (d := s.landed e) (e := e) (b := b) (a := a) (by rw [landed_eng]; exact ha) hat
  rw [landed_eng] at hfault
  exact hfault

end

/-- Settles O30: each of the three comes to an abort with its cause, which `does_abort` describes. -/
theorem engineFaults : Obligations.EngineFaults := by
  refine ⟨fun s e b i j he ha hd hq hr ht hw hb hi => ?illegal, fun s e j he ha hd hq hr ht hw => ?outside,
    fun s e c a j x hx he ha hd hq hr ht hf hrc hw hb hat => ?access⟩
  case illegal =>
    have hexec : exec i s = run (decide (e < 8)) (issue e (some b)) s := by
      rcases hi with ⟨r, v, rfl, rfl⟩ | ⟨f, sd, rfl, rfl⟩ | ⟨c, t, rfl, rfl⟩ <;> rfl
    refine does_abort he (by decide) hr ht (hexec.trans (run_below he ((Comes.of_free ha hd hq).issue_illegal hw hb))) fun t hy hm hE _ => ?_
    rw [hy]
    exact ⟨rfl, rfl, rfl, rfl, rfl, rfl, lawEng_x s e, hm, hE⟩
  case outside =>
    refine does_abort he (by decide) hr ht (run_below he ((Comes.of_free ha hd hq).issue_outside _ hw)) fun t hy hm _ _ => ?_
    rw [hy]
    exact ⟨rfl, rfl, rfl, rfl, rfl, hm⟩
  case access =>
    subst hx
    obtain ⟨q, hmem, -, hi⟩ := (Comes.of_free ha hd hq).issue_fault (a := s.dev.memAccess (s.lawEng e) a true) hf hrc hw hb
      (placed_of_unbarred rfl rfl) nofun
      (fun p hp => by rw [List.mem_singleton.mp hp, hat]; exact nofun) (List.mem_singleton_self _) hat
    obtain rfl := List.mem_singleton.mp hmem
    refine does_abort he (by decide) hr ht (run_below he hi) fun t hy hm _ hk => ?_
    rw [hy]
    exact ⟨rfl, rfl, rfl, rfl, rfl, hm, hk⟩

end Sys2Proof.Machine
end

section
/-! PROOFS. Branches where they may not stand (O31), and moves outside their memory (O32). -/

open Sys2Proof

namespace Sys2Proof.Machine

/-- R141: a barred bundle in a delay slot is out of place. -/
theorem not_placed_of_slot {x : LawEng} {b : Bundle} (hs : x.slots ≠ 0) (hb : slotBarred b = true) : x.placed b = false := by
  simp [LawEng.placed, hs, hb]

/-- R141: a bundle with delay slots at the end of an armed loop's body is out of place. -/
theorem not_placed_of_loop_end {x : LawEng} {b : Bundle} (h7 : x.sr.getLsbD 7 = true) (hl : x.le ≤ x.pc + 2) (hp : x.pc ≤ x.le)
    (hb : hasSlots b = true) : x.placed b = false := by
  unfold LawEng.placed
  simp [h7, hl, hp, hb]

/-- Settles O31: where the bundle stands, `placed` fails, and the abort with cause 1 is `completes_abort`'s. -/
theorem branchPlacement : Obligations.BranchPlacement := by
  intro s e i x hx he ha hd hq hw hi
  subst hx
  obtain ⟨b, hb, hp⟩ : ∃ b, exec i s = run (decide (e < 8)) (issue e (some b)) s ∧ (s.lawEng e).placed b = false := by
    rcases hi with ⟨hs, hi⟩ | ⟨hl, hi⟩
    · rcases hi with ⟨c, rfl⟩ | rfl | ⟨c, n, rfl⟩ | rfl <;> exact ⟨_, rfl, not_placed_of_slot hs rfl⟩
    · have hbar : ∀ b, slotBarred b = true → hasSlots b = true → (s.lawEng e).placed b = false := fun b hb hsl =>
        hl.elim (fun hs => not_placed_of_slot hs hb) fun ⟨h7, hle, hpc⟩ => not_placed_of_loop_end h7 hle hpc hsl
      rcases hi with ⟨c, t, rfl⟩ | ⟨c, p, rfl⟩ | ⟨c, t, rfl⟩ | ⟨n, a, z, rfl⟩ <;> exact ⟨_, rfl, hbar _ rfl rfl⟩
  refine completes_abort (by decide) (hb.trans (run_below he (Comes.issue_illegal ⟨ha, hd, hq⟩ hw (.inr hp)))) fun t hy ho _ => ?_
  rw [hy]
  exact ⟨rfl, rfl, rfl, rfl, rfl, rfl, ho⟩

/-- Settles O32: a move outside its memory faults (`moveAddr_fault`), and no access of its bundle waits. -/
theorem moveWindows : Obligations.MoveWindows := by
  refine ⟨fun s e c y mv other rot b i x hx he ha hd hq hf hr hw hok hb hi hX hY => ?_, fun d x mv h h4 hw => moveAddr_x h4 h hw,
    fun d x mv h h' h4 hw => moveAddr_y h4 h h' hw⟩
  subst hx
  obtain rfl : b = withMove c y mv other rot := hb
  have hpar : ∃ mx my, withMove c y mv other rot = .par c mx my rot := by cases y <;> exact ⟨_, _, rfl⟩
  have hexec : exec i s = run (decide (e < 8)) (issue e (some (withMove c y mv other rot))) s := by
    rw [hi]
    split
    · exact exec_moveStore ‹_› e c y other rot s
    · exact exec_moveLoad (Bool.eq_false_iff.mpr ‹_›) e c y other rot s
  have hmem := mem_accesses_withMove s.dev (s.lawEng e) c y mv other rot
  obtain ⟨mx, my, hpar⟩ := hpar
  rw [hpar] at hmem hexec hr hok
  have hne : ∀ a ∈ s.dev.accesses (s.lawEng e) (.par c mx my rot), a.at_ ≠ .wait := fun a ha =>
    (mem_accesses_par.mp ha).elim (fun ⟨m, _, h⟩ => h ▸ moveAccess_at_ne_wait _ _ _ _) fun ⟨m, _, h⟩ => h ▸ moveAccess_at_ne_wait _ _ _ _
  obtain ⟨q, -, -, hissue⟩ := Comes.issue_fault ⟨ha, hd, hq⟩ hf hr hw hok (placed_of_unbarred rfl rfl) nofun hne hmem (moveAddr_fault hX hY)
  refine completes_abort (by decide) (hexec.trans (run_below he hissue)) fun t hy _ hk => ?_
  rw [hy]
  exact ⟨rfl, rfl, rfl, rfl, rfl, hk⟩

end Sys2Proof.Machine
end

section
/-! PROOFS. SRSET, JEND, RTI, TRAP, BKPT and SYNC (O29), with the ends of jobs and the entries to handlers they rest on (05 R147, R151). -/

open Sys2Proof

namespace Sys2Proof.Machine

/-! ## Ends of jobs (05 R151) -/

/-- The engine JEND leaves with its job's frame bank with the collector. -/
def LawEng.jobEnded (x : LawEng) (j : Job) : LawEng :=
  { x.cycles 0 with
    st := .idle, inHandler := false, slots := 0, target := none, ictl := noPend x.ictl, run := none, haltReq := false
    resumed := false, aovJobs := if x.sr.getLsbD 4 then x.aovJobs + 1 else x.aovJobs, coll := some j, frameC := x.frame, frame := x.frameC }

theorem lawEnd_of_job {d : Dev} {e : Nat} {j : Job} (hf : (d.eng e).flight = []) (hr : (d.eng e).run = some j) (ht : j.test = none)
    (hl : j.library = false) : d.lawEnd e = d.setEng e ((d.eng e).jobEnded j) := by
  have hfault : d.libFault ((d.eng e).cycles 0) j = none := by rw [Dev.libFault, hl]; rfl
  have hfill : d.libFill ((d.eng e).cycles 0) j = (d.eng e).cycles 0 := by rw [Dev.libFill, hl]; rfl
  have hrun : ((d.eng e).cycles 0).run = some j := hr
  unfold Dev.lawEnd
  dsimp only
  rw [drainCycles_nil hf, cycles_drain hf, hrun]
  dsimp only
  rw [hfault]
  dsimp only
  rw [hfill, ht]
  rfl

/-! ## Entries to handlers (05 R147) -/

/-- The engine in its handler at `v`, entered for a cause and, for an interrupt, its pending bit. -/
def LawEng.entered (x : LawEng) (cause : Nat) (bit : Option Nat) (v : Nat) : LawEng :=
  { x.cycles 2 with
    epc := x.pc, esr := x.sr, sr := x.sr &&& 0x3F7F, ictl := (bit.elim x.ictl fun b => x.ictl &&& ~~~(BitVec.ofNat 32 (2 ^ b))) &&& 0xFFFFFFFE
    ecause := cause, st := .handler, pc := v }

theorem lawEntry_inside {d : Dev} {e v : Nat} (hf : (d.eng e).flight = []) (hv : v = ((d.eng e).ictl.extractLsb' 16 14).toNat)
    (hw : inWindow (d.eng e).protCode v = true) (cause : Nat) (bit : Option Nat) :
    d.lawEntry e cause bit = d.setEng e ((d.eng e).entered cause bit v) := by
  subst hv
  have hd : ((d.eng e).cycles ((d.eng e).drainCycles + 2)).drain = (d.eng e).cycles 2 := by rw [drainCycles_nil hf, cycles_drain hf]
  unfold Dev.lawEntry
  dsimp only
  rw [hd]
  refine (if_pos hw).trans ?_
  cases bit <;> rfl

section
variable {s : State} {e : Nat}

/-! ## JEND (05 R151, 06 R166) -/

/-- JEND has no results. -/
theorem Issues.jend {c : BitVec 4} (h : Issues s e (.ctl (.jend c))) (hh : (s.landed e).issueHeld e (.ctl (.jend c)) = false) :
    issue e (some (.ctl (.jend c))) s.dev = if condHolds (s.lawEng e).sr c then (s.dev.setEng e ((s.lawEng e).cycles 1)).lawEnd e
      else s.dev.setEng e ((s.lawEng e).advance false none false) := by
  rw [h.proceeds hh (by rw [show (s.landed e).results e (s.lawEng e) (.ctl (.jend c)) = s.landed e from rfl, landed_eng]; exact h.free)]
  simp only [Dev.proceeds, landed_eng, landed_setEng]

theorem issueHeld_jend {d : Dev} {x : LawEng} {c : BitVec 4} (hx : d.eng e = x) : d.issueHeld e (.ctl (.jend c)) =
    (condHolds x.sr c && x.coll.isSome && x.run.any (fun j => j.test.isNone)) := by
  subst hx
  unfold Dev.issueHeld
  dsimp only [Dev.accesses, List.any_nil]
  rw [Bool.false_or]
  cases (d.eng e).run <;> rfl

/-! ## TRAP (05 R147) -/

theorem Issues.trap {c : BitVec 4} {n : BitVec 8} (h : Issues s e (.ctl (.trap c n))) : issue e (some (.ctl (.trap c n))) s.dev =
    if condHolds (s.lawEng e).sr c then
      if (s.lawEng e).en 0 then (s.dev.setEng e ((s.lawEng e).advance false none false)).lawEntry e (6 + 256 * n.toNat) none
      else (s.landed e).lawAbort e 1 (s.lawEng e).pc none true
    else s.dev.setEng e ((s.lawEng e).advance false none false) := by
  rw [h.control (z := s.lawEng e) nofun rfl rfl]
  simp only [Dev.proceeds, landed_eng, landed_setEng]

/-- A control slot accesses no word. -/
theorem not_mem_accesses_ctl {d : Dev} {x : LawEng} {o : CtlOp} {p : Access → Prop} : ∀ a ∈ d.accesses x (.ctl o), p a :=
  fun _ h => absurd h List.not_mem_nil

/-! ## BKPT and SYNC (05 R149, R156) -/

theorem Issues.bkpt (h : Issues s e (.ctl .bkpt)) :
    issue e (some (.ctl .bkpt)) s.dev = s.dev.setEng e ((s.lawEng e).advance false none false) := by
  rw [h.control (z := s.lawEng e) nofun rfl rfl]
  simp only [Dev.proceeds, landed_eng, landed_setEng]

/-- BKPT halts an engine under debug once it has issued. -/
theorem Comes.bkpt_halts (h : Comes s e) (hf : (s.lawEng e).flight = []) (hd : (s.lawEng e).dbg = true) (hs : (s.lawEng e).slots = 0)
    (hw : inWindow (s.lawEng e).protCode (s.lawEng e).pc = true) :
    issue e (some (.ctl .bkpt)) s.dev = s.dev.setEng e ((s.lawEng e).advance false none false).halt := by
  have hp : (s.lawEng e).placed (.ctl .bkpt) = true := by simp [LawEng.placed, hs, hasSlots]
  rw [h.issue_goes hw rfl hp (issueHeld_of_reached not_mem_accesses_ctl nofun), afterStall_nil hf (.inr rfl), landed_setEng]
  unfold Dev.issueOk
  simp only [Dev.setEng_eng, hd, if_true, Dev.setEng_setEng]
  rfl

theorem stall_sync (x : LawEng) : x.stall (.ctl .sync) = 0 := by
  have hl : x.flight.filter (locked []) = [] := by
    apply List.filter_eq_nil_iff.mpr
    intro l _
    simp [locked]
  have hn : x.names (.ctl .sync) = [] := rfl
  unfold LawEng.stall
  rw [hn]
  dsimp only
  rw [hl]
  cases x.lastRcp <;> rfl

/-- SYNC issues with every result landed. -/
theorem Comes.sync (h : Comes s e) (hd : (s.lawEng e).dbg = false)
    (hw : inWindow (s.lawEng e).protCode (s.lawEng e).pc = true) : issue e (some (.ctl .sync)) s.dev =
      s.dev.setEng e ((((s.lawEng e).cycles (s.lawEng e).drainCycles).drain).advance false none false) := by
  have hp : (s.lawEng e).placed (.ctl .sync) = true := placed_of_unbarred rfl rfl
  have hdrain : (((s.lawEng e).cycles (s.lawEng e).drainCycles).drain).dbg = false := by
    rw [show (((s.lawEng e).cycles (s.lawEng e).drainCycles).drain).dbg = ((s.lawEng e).cycles (s.lawEng e).drainCycles).dbg from
      (Prod.mk.inj (landRun_st_dbg _ _ _)).2]
    exact hd
  have hres : (s.dev.setEng e (s.lawEng e)).results e (s.lawEng e) (.ctl .sync) =
      s.dev.setEng e ((s.lawEng e).cycles (s.lawEng e).drainCycles).drain := Dev.setEng_setEng _ _ _ _
  rw [h.issue_goes hw rfl hp (issueHeld_of_reached not_mem_accesses_ctl nofun), stall_sync, LawEng.afterStall, if_pos rfl, landed_setEng,
    issueOk_proceeds not_mem_accesses_ctl (by rw [Dev.setEng_eng]; exact hd) (by rw [Dev.setEng_eng, hres, Dev.setEng_eng]; exact hdrain)]
  unfold Dev.proceeds
  dsimp only
  rw [Dev.setEng_eng, hres, Dev.setEng_eng, Dev.setEng_setEng]
  rfl

end

/-- Settles O29: each instruction by what it leaves at its issue; JEND's end of the job by `lawEnd_of_job`, TRAP's entry by
`lawEntry_inside`, its fault by `does_abort`. -/
theorem controlOps : Obligations.ControlOps := by
  refine ⟨fun s e m v h => ?srset, fun s e c j h hc hr ht hl hcoll => ?jend, fun s e c j k h hc hr ht hcoll => ?jendHeld, fun s e c h hc => ?jendNot,
    fun s e h => ?rti, fun s e c n v h hc hen hv hw h7 => ?trap, fun s e c n j h hc hen hr ht => ?trapBarred, fun s e c n h hc => ?trapNot,
    fun s e h => ?bkpt, fun s e he ha hf hd hh hb hq hs h7 hw => ?bkptHalts, fun s e h => ?sync, fun s e x he hx ha hd hq _ hw hdue => ?syncDrains⟩
  case srset =>
    refine does_law (run_below h.engine (h.next nofun (landed_setEng _) rfl)) fun t ht ho _ => ⟨issued_of (by exact rfl) ht ho, ?_⟩
    rw [ht, advance_flight]
    exact List.mem_append_right _ (List.mem_singleton_self _)
  case jend =>
    have hheld : (s.landed e).issueHeld e (.ctl (.jend c)) = false := by
      rw [issueHeld_jend landed_eng, hcoll, Option.isSome_none, Bool.and_false, Bool.false_and]
    have hi : issue e (some (.ctl (.jend c))) s.dev = s.dev.setEng e (((s.lawEng e).cycles 1).jobEnded j) := by
      rw [h.jend hheld, if_pos hc, lawEnd_of_job (j := j) (by rw [Dev.setEng_eng]; exact h.clear) (by rw [Dev.setEng_eng]; exact hr) ht hl,
        Dev.setEng_eng, Dev.setEng_setEng]
    refine does_law (run_below h.engine hi) fun t hy ho _ => ?_
    rw [hy]
    exact ⟨rfl, rfl, rfl, rfl, rfl, ho⟩
  case jendHeld =>
    have hheld : (s.landed e).issueHeld e (.ctl (.jend c)) = true := by
      rw [issueHeld_jend landed_eng, hc, hcoll, hr, Option.any_some, ht]; rfl
    exact does_law (run_below h.engine (h.comes.issue_held h.inCode h.legal h.placed hheld)) fun t hy ho _ => ⟨hy, ho⟩
  case jendNot =>
    have hheld : (s.landed e).issueHeld e (.ctl (.jend c)) = false := by
      rw [issueHeld_jend landed_eng, hc, Bool.false_and, Bool.false_and]
    have hi := (h.jend hheld).trans (if_neg (by rw [hc]; exact Bool.false_ne_true))
    exact does_law (run_below h.engine hi) fun t hy ho _ => issued_of (by exact rfl) hy ho
  case rti =>
    refine does_law (run_below h.engine h.rti) fun t hy _ _ => ?_
    rw [hy]
    exact ⟨rfl, rfl, rfl, rfl, rfl, rfl, rfl⟩
  case trap =>
    have ha := advance_step h7 false
    have hi : issue e (some (.ctl (.trap c n))) s.dev =
        s.dev.setEng e (((s.lawEng e).advance false none false).entered (6 + 256 * n.toNat) none v) := by
      rw [h.trap, if_pos hc, if_pos hen, lawEntry_inside (v := v) (by rw [Dev.setEng_eng, advance_flight]; exact h.clear)
        (by rw [Dev.setEng_eng, ha]; exact hv) (by rw [Dev.setEng_eng, ha]; exact hw), Dev.setEng_eng, Dev.setEng_setEng]
    refine does_law (run_below h.engine hi) fun t hy _ _ => ?_
    rw [hy, ha]
    exact ⟨rfl, rfl, if_neg (by rw [h.slots_eq rfl]; decide), rfl, rfl, rfl, rfl⟩
  case trapBarred =>
    have hi := h.trap.trans ((if_pos hc).trans (if_neg (by rw [hen]; exact Bool.false_ne_true)))
    refine does_abort h.engine (by decide) hr ht (run_below h.engine hi) fun t hy hm hE _ => ?_
    rw [hy]
    exact ⟨rfl, rfl, rfl, rfl, hm, hE⟩
  case trapNot =>
    have hi := h.trap.trans (if_neg (by rw [hc]; exact Bool.false_ne_true))
    exact does_law (run_below h.engine hi) fun t hy ho _ => issued_of (by exact rfl) hy ho
  case bkpt => exact does_law (run_below h.engine h.bkpt) fun t hy ho _ => issued_of (by exact rfl) hy ho
  case bkptHalts =>
    have hcomes : Comes s e := ⟨ha, by rw [hh, hb]; simp, hq⟩
    refine does_law (run_below he (hcomes.bkpt_halts hf hd hs hw)) fun t hy _ _ => ?_
    rw [hy, halt_nil (by rw [advance_flight]; exact hf), advance_step h7]
    exact ⟨rfl, if_neg (by rw [hs]; decide)⟩
  case sync =>
    have hi := h.comes.sync h.free h.inCode
    rw [drainCycles_nil h.clear, cycles_drain h.clear] at hi
    refine does_law (run_below h.engine hi) fun t ht ho _ => ⟨issued_of (by exact rfl) ht ho, ?_⟩
    rw [ht, advance_flight]
    exact h.clear
  case syncDrains =>
    subst hx
    refine does_law (run_below he ((Comes.of_free (lawEng_active s e ▸ ha) hd hq).sync hd hw)) fun t hy _ _ => ?_
    rw [hy, advance_flight]
    exact flight_drain hdue

end Sys2Proof.Machine
end

section
/-! PROOFS. Interrupts, budgets, doorbells and debug (O35). -/

open Sys2Proof

namespace Sys2Proof.Machine

section
variable {s : State} {e : Nat}

/-- An event that writes engine `e` with `z` where it stands. -/
theorem does_at {i : Instr} {z : LawEng} (hi : exec i s = .next (leaves s (s.dev.setEng e z))) :
    Does i [.law] s (fun t => At {} s.dev.law t.dev.law e z) :=
  does_leaves hi rfl (fun p hp => by
    cases p
    case law => exact absurd List.mem_cons_self hp
    case rings => exact ⟨rfl, rfl, rfl, rfl, rfl, rfl⟩
    case irq => exact ⟨rfl, rfl, rfl⟩
    case mbox => exact fun _ => rfl
    all_goals rfl) (by rw [leaves_law]; exact setEng_at s.dev e z)

/-- An event that leaves the device as it was changes nothing. -/
theorem does_unchanged {i : Instr} {f : Dev → Dev} (he : e < 8) (hi : exec i s = run (decide (e < 8)) f s) (hf : f s.dev = s.dev) (w : List Part) :
    Does i w s (fun _ => True) :=
  does_nothing (hi.trans (run_below he hf))

theorem interruptEntry_due {c bit : Nat} (ha : (s.dev.eng e).active = true) (hq : (s.lawEng e).irqDue = true) (hd : (s.lawEng e).dbg = false)
    (hp : (s.lawEng e).pending = some (c, bit)) : interruptEntry e s.dev = (s.landed e).lawEntry e c (some bit) := by
  rw [← lawEng_active] at ha
  unfold interruptEntry
  dsimp only
  unfold State.lawEng at ha hq hd hp
  rw [ha, hq, hd, hp]
  exact if_pos (by simp)

theorem interruptEntry_not_due (hq : (s.lawEng e).irqDue = false) : interruptEntry e s.dev = s.dev := by
  unfold interruptEntry
  dsimp only
  unfold State.lawEng at hq
  rw [hq, Bool.and_false, Bool.false_and]
  rfl

end

/-! ## Debug (05 R155, R156) -/

theorem halted_inactive {x : LawEng} (h : x.st = .halted) : x.active = false := by rw [LawEng.active, h]; rfl

/-- A NOP of the control slot issues whether or not debug acts on the engine: it accesses no word. -/
theorem Comes.nop {s : State} {e : Nat} (h : Comes s e) (hf : (s.lawEng e).flight = [])
    (hw : inWindow (s.lawEng e).protCode (s.lawEng e).pc = true) :
    issue e (some (.ctl .nop)) s.dev = s.dev.setEng e ((s.lawEng e).advance false none false) := by
  have hp : (s.lawEng e).placed (.ctl .nop) = true := placed_of_unbarred rfl rfl
  rw [h.issue_goes hw rfl hp (issueHeld_of_reached not_mem_accesses_ctl nofun), afterStall_nil hf (.inr rfl),
    landed_setEng]
  have hres : (s.dev.setEng e (s.lawEng e)).results e (s.lawEng e) (.ctl .nop) = s.dev.setEng e (s.lawEng e) := rfl
  have hacc : (s.dev.setEng e (s.lawEng e)).accesses (s.lawEng e) (.ctl .nop) = [] := rfl
  unfold Dev.issueOk
  dsimp only
  rw [Dev.setEng_eng, hacc, hres, Dev.setEng_eng, Dev.setEng_setEng, List.any_nil, List.any_nil, Bool.and_false]
  rfl

/-- The engine goes on in the job or handler it halted in. -/
def LawEng.resume (x : LawEng) : LawEng := { x with st := if x.inHandler then .handler else .job, resumed := true }

theorem resume_active (x : LawEng) : x.resume.active = true := by
  unfold LawEng.active LawEng.resume
  cases x.inHandler <;> rfl

theorem lawResume_halted {d : Dev} {e : Nat} (hd : (d.eng e).dbg = true) (hs : (d.eng e).st = .halted) :
    lawResume e d = d.setEng e (d.eng e).resume := by
  simp [lawResume, hd, hs, LawEng.resume]

/-- The bundle at a PC of program memory that holds a NOP. -/
theorem fetch_nop {x : LawEng} (hp : 4096 ≤ x.pc) (hn : tget 0 x.prog x.pc = 0x8000000000000000) : x.fetch = some (.ctl .nop) := by
  rw [LawEng.fetch, if_neg (Nat.not_lt.mpr hp), hn]
  exact (decodeBundle_eq_some_iff _ _).mpr rfl

/-- The state with engine `e` gone on. -/
def State.resumed (s : State) (e : Nat) : State := { s with dev := s.dev.setEng e (s.dev.eng e).resume }

theorem State.resumed_dev (s : State) (e : Nat) : (s.resumed e).dev = s.dev.setEng e (s.dev.eng e).resume := rfl

/-- A step of a halted engine over a NOP. -/
theorem lawStep_nop {s : State} {e : Nat} (hd : (s.dev.eng e).dbg = true) (hs : (s.dev.eng e).st = .halted) (hh : (s.dev.eng e).haltReq = false)
    (hf : (s.dev.eng e).flight = []) (hq : (s.dev.eng e).irqDue = false) (hw : inWindow (s.dev.eng e).protCode (s.dev.eng e).pc = true)
    (hn : (s.dev.eng e).fetch = some (.ctl .nop)) :
    lawStep e s.dev = s.dev.setEng e ((s.dev.eng e).resume.advance false none false).halt := by
  have hx : (s.resumed e).lawEng e = (s.dev.eng e).resume := by
    rw [State.lawEng, State.resumed, Dev.setEng_eng]
    exact landAt_nil (x := (s.dev.eng e).resume) hf _
  have hc : Comes (s.resumed e) e := by
    refine ⟨?_, ?_, ?_⟩
    · rw [State.resumed, Dev.setEng_eng]; exact resume_active _
    · rw [hx, show (s.dev.eng e).resume.haltReq = false from hh, show (s.dev.eng e).resume.resumed = true from rfl]; simp
    · rw [hx]; exact hq
  have hi : issue e (some (.ctl .nop)) (s.resumed e).dev = (s.resumed e).dev.setEng e ((s.dev.eng e).resume.advance false none false) :=
    hx ▸ hc.nop (hx ▸ hf) (hx ▸ hw)
  have ha : ((s.dev.eng e).resume.advance false none false).active = true := by
    obtain ⟨_, _, _, _, _, _, _, _, _, h⟩ := advance_eq (s.dev.eng e).resume false none false
    rw [h]; exact resume_active _
  unfold lawStep
  dsimp only
  rw [if_pos (by rw [hd, hs]; rfl), hn, lawResume_halted hd hs, ← State.resumed_dev, hi, Dev.setEng_eng, if_pos ha, Dev.setEng_setEng,
    State.resumed_dev, Dev.setEng_setEng]

/-- Settles O35: an entry to the handler by `lawEntry_inside`, halts by `halt_nil`, a step by `lawStep_nop`, the rest by their definitions. -/
theorem engineEvents : Obligations.EngineEvents := by
  refine ⟨fun s e c bit v he ha hq hd hf hp hv hw => ?entry, fun s e he hq => ?noEntry, fun s e he ha hb => ?budget, fun s e he hr hen => ?doorbell,
    fun s e he hen => ?noDoorbell, fun s e he hd ha hf => ?halt, fun s e he hd hst => ?haltIdle, fun s e he hd hst => ?resume,
    fun s e he hd hst hh hf hq hs h7 hw hpc hprog => ?step, fun s e he hd => ⟨?noHalt, ?noResume, ?noStep⟩⟩
  case entry =>
    have hi := (interruptEntry_due ha hq hd hp).trans (lawEntry_inside (v := v) (by rw [landed_eng]; exact hf) (by rw [landed_eng]; exact hv)
      (by rw [landed_eng]; exact hw) c (some bit))
    rw [landed_eng, landed_setEng] at hi
    refine does_law (run_below he hi) fun t hy _ _ => ?_
    rw [hy]
    exact ⟨rfl, rfl, rfl, rfl, rfl, rfl, rfl, rfl⟩
  case noEntry =>
    exact does_leaves (run_below he (interruptEntry_not_due hq)) rfl (fun p _ => (frame_self [] s).2 p ‹_›) (by rw [leaves_law])
  case budget =>
    refine does_at (run_below he (if_pos ?_))
    rw [ha, Bool.true_and]
    exact bne_iff_ne.mpr hb
  case doorbell =>
    refine does_at (run_below he ?_)
    simp [lawDoorbell, hen, Option.isSome_iff_ne_none.mpr hr]
  case noDoorbell => exact does_unchanged he rfl (by simp [lawDoorbell, hen]) _
  case halt =>
    have hne : (s.dev.eng e).st ≠ .halted := fun h => by rw [halted_inactive h] at ha; exact nomatch ha
    have hi : haltReq e s.dev = s.dev.setEng e (s.dev.eng e).halt := by simp [haltReq, hd, ha, hne]
    refine does_law (run_below he hi) fun t hy ho _ => ?_
    rw [hy, halt_nil hf]
    exact ⟨rfl, rfl, rfl, rfl, ⟨rfl, rfl, rfl, rfl, rfl, rfl, rfl, rfl, rfl, rfl, rfl, rfl, rfl⟩, ho⟩
  case haltIdle =>
    refine does_at (run_below he ?_)
    simp [haltReq, hd, hst, LawEng.active]
  case resume =>
    refine does_at (run_below he ?_)
    simp [lawResume, hd, hst]
  case step =>
    refine does_law (run_below he (lawStep_nop hd hst hh hf hq hw (fetch_nop hpc hprog))) fun t hy ho _ => ?_
    rw [hy, halt_nil (by rw [advance_flight]; exact hf), advance_step (x := (s.dev.eng e).resume) h7]
    exact ⟨rfl, if_neg (by rw [show (s.dev.eng e).resume.slots = 0 from hs]; decide),
      ⟨rfl, rfl, rfl, rfl, rfl, rfl, rfl, rfl, rfl, rfl, rfl, rfl, rfl⟩, ho⟩
  case noHalt => exact does_unchanged he rfl (by simp [haltReq, hd]) _
  case noResume => exact does_unchanged he rfl (by simp [lawResume, hd]) _
  case noStep => exact does_unchanged he rfl (by simp [lawStep, hd]) _

end Sys2Proof.Machine
end

section
/-! PROOFS. Moves, loads, stores and immediates (O27). -/

open Sys2Proof

namespace Sys2Proof.Machine

/-! ## What a move lands (05 R126, R136, R138) -/

theorem moveTo_eq {x : LawEng} {c : Nat} {g : LTgt} (h : x.regOf c = some g) (v : Int) (ld lock : Bool) :
    x.moveTo c v ld lock = [{ due := x.issued + (if lock then 6 else moveLatency g ld), tgt := g, val := x.moveVal g v, lock := lock }] := by
  rw [LawEng.moveTo, h]

/-- A D register's code names it. -/
theorem regOf_d (x : LawEng) (n : BitVec 5) : x.regOf n.toNat = some (.pd (x.phys n.toNat)) := if_pos n.isLt

section
variable {x : LawEng} {d : Dev} {y : Bool} {mv : Move}

/-- A load lands the word at its pointer three bundles on. -/
theorem mem_moveLands_load (h : mv.store = false) :
    x.lands 3 (.pd (x.phys mv.d.toNat)) (d.lawRead x (d.moveAccess x y mv).at_).toInt ∈ d.moveLands x y (some mv) := by
  simp only [Dev.moveLands, h, Bool.false_eq_true, if_false]
  rw [moveTo_eq (regOf_d x mv.d)]
  exact List.mem_append_left _ (List.mem_singleton_self _)

/-- A pointer with post-modify lands one bundle on. -/
theorem mem_moveLands_ptr {v : Int} (h : (d.addrOf x mv.p mv.am mv.m 0 false).2 = some v) :
    x.lands 1 (.ptr mv.p.toNat) (((x.ptr mv.p : Int) + v) % 2 ^ 32) ∈ d.moveLands x y (some mv) := by
  have hn : (((((x.ptr mv.p : Int) + v) % 2 ^ 32).toNat : Nat) : Int) = ((x.ptr mv.p : Int) + v) % 2 ^ 32 :=
    Int.toNat_of_nonneg (Int.emod_nonneg _ (by decide))
  rw [← hn]
  simp only [Dev.moveLands, h]
  exact List.mem_append_right _ (List.mem_singleton_self _)

theorem addrOf_step_plain (h : mv.am = 0) : (d.addrOf x mv.p mv.am mv.m 0 false).2 = some 4 := by rw [h]; rfl

theorem addrOf_step_mdf (h : mv.am = 1) : (d.addrOf x mv.p mv.am mv.m 0 false).2 = some (x.mdf mv.m) := by rw [h]; rfl

/-- A pointer with a plain post-modify steps a word on. -/
theorem mem_moveLands_next (h : mv.am = 0) :
    x.lands 1 (.ptr mv.p.toNat) (((x.ptr mv.p + 4) % 2 ^ 32 : Nat) : Int) ∈ d.moveLands x y (some mv) := by
  have hm := mem_moveLands_ptr (y := y) (addrOf_step_plain (d := d) (x := x) h)
  rwa [show ((x.ptr mv.p : Int) + 4) % 2 ^ 32 = (((x.ptr mv.p + 4) % 2 ^ 32 : Nat) : Int) by omega] at hm

/-! ## The word a store move writes (05 R125, R138) -/

/-- A store move that reaches a word writes it and no other. -/
theorem lawRead_putMove_store (z : LawEng) (hs : mv.store = true) (hf : (d.moveAccess x y mv).at_ ≠ .fault) (b : LAddr) :
    d.lawRead (x.putMove z d y (some mv)) b = if b = (d.moveAccess x y mv).at_ then x.dw mv.d else d.lawRead z b := by
  have ha : (∃ w, (d.moveAccess x y mv).at_ = .x w) ∨ ∃ w, (d.moveAccess x y mv).at_ = .y w := by
    rcases moveAddr_cases x y (d.moveAccess x y mv).addr with h | ⟨-, h⟩ | ⟨-, h⟩
    · exact absurd h hf
    · exact .inl ⟨_, h⟩
    · exact .inr ⟨_, h⟩
  rw [LawEng.putMove, if_pos hs]
  exact lawRead_put d z _ b ha

/-- A Y move writes no word of X memory. -/
theorem lawRead_putMove_y_x (z : LawEng) (m : Option Move) (w : Nat) : d.lawRead (x.putMove z d true m) (.x w) = d.lawRead z (.x w) := by
  cases m with
  | none => rfl
  | some v =>
    rcases moveAddr_cases x true (d.moveAccess x true v).addr with h | ⟨hy, -⟩ | ⟨-, h⟩
    · have hput : x.putMove z d true (some v) = z := by
        unfold LawEng.putMove
        dsimp only
        rw [show (d.moveAccess x true v).at_ = .fault from h]
        split <;> rfl
      rw [hput]
    · exact nomatch hy
    · by_cases hs : v.store = true
      · rw [lawRead_putMove_store z hs (fun hf => nomatch h.symm.trans hf), if_neg (fun hw => nomatch hw.trans h)]
      · rw [putMove_of_no_store x z d true (fun u hu => by obtain rfl := Option.some.inj hu; exact Bool.eq_false_iff.mpr hs)]

theorem moveAccess_x (hf : (d.moveAccess x false mv).at_ ≠ .fault) : ∃ w, (d.moveAccess x false mv).at_ = .x w := by
  rcases moveAddr_cases x false (d.moveAccess x false mv).addr with h | ⟨-, h⟩ | ⟨h, -⟩
  · exact absurd h hf
  · exact ⟨_, h⟩
  · exact nomatch h

/-- Setting the next bundle leaves the words of memory. -/
theorem lawRead_advance (d : Dev) (x : LawEng) (br : Bool) (tg : Option Nat) (rcp : Bool) (a : LAddr) :
    d.lawRead (x.advance br tg rcp) a = d.lawRead x a := by
  obtain ⟨_, _, _, _, _, _, _, _, _, h⟩ := advance_eq x br tg rcp
  rw [h]
  exact lawRead_congr rfl rfl rfl (fun _ => rfl) a

theorem lawRead_afterPar (c : Compute) (mx my : Option Move) (rot : Bool) (a : LAddr) :
    d.lawRead (x.afterPar d c mx my rot) a = d.lawRead (x.putMove (x.putMove x d false mx) d true my) a :=
  lawRead_congr rfl rfl rfl (fun _ => rfl) a

end

section
variable {s : State} {e : Nat}

/-! ## A move and what stands beside it -/

/-- The engine the bundle of move `mv` leaves before the next bundle is set. -/
def LawEng.afterMove (x : LawEng) (d : Dev) (c : Compute) (y : Bool) (mv : Move) (other : Option Move) (rot : Bool) : LawEng :=
  if y then x.afterPar d c other (some mv) rot else x.afterPar d c (some mv) other rot

theorem afterMove_beside (x : LawEng) (d : Dev) (c : Compute) (y : Bool) (mv : Move) (other : Option Move) (rot : Bool) :
    x.Beside (x.afterMove d c y mv other rot) := by
  cases y <;> exact afterPar_beside _ _ _ _ _ _

theorem Issues.move {c : Compute} {y : Bool} {mv : Move} {other : Option Move} {rot : Bool} (h : Issues s e (withMove c y mv other rot)) :
    issue e (some (withMove c y mv other rot)) s.dev = s.dev.setEng e
      (((s.lawEng e).afterMove s.dev c y mv other rot).advance false none (isRcp (withMove c y mv other rot))) := by
  cases y <;> exact h.plain nofun (results_par s.dev e (s.lawEng e) _ _ _ _) (afterPar_beside _ _ _ _ _ _)

/-- What the move lands is in flight. -/
theorem moveLands_subset (x : LawEng) (d : Dev) (c : Compute) (y : Bool) (mv : Move) (other : Option Move) (rot : Bool) :
    d.moveLands x y (some mv) ⊆ (x.afterMove d c y mv other rot).flight := by
  cases y
  · exact fun l hl => List.mem_append_right _ (List.mem_append_left _ (List.mem_append_right _ hl))
  · exact fun l hl => List.mem_append_right _ (List.mem_append_right _ hl)

/-- A store move's word reads what it stored, whatever the other move stores: an X move reaches X memory alone, a Y move Y memory. -/
theorem lawRead_afterMove_self {x : LawEng} {d : Dev} {mv : Move} {y : Bool} (hs : mv.store = true) (hf : (d.moveAccess x y mv).at_ ≠ .fault)
    (c : Compute) (other : Option Move) (rot : Bool) :
    d.lawRead (x.afterMove d c y mv other rot) (d.moveAccess x y mv).at_ = x.dw mv.d := by
  cases y
  · obtain ⟨w, hw⟩ := moveAccess_x hf
    refine (lawRead_afterPar c _ _ rot _).trans ?_
    rw [hw, lawRead_putMove_y_x, lawRead_putMove_store x hs hf, if_pos hw.symm]
  · exact (lawRead_afterPar c _ _ rot _).trans ((lawRead_putMove_store _ hs hf _).trans (if_pos rfl))

/-- Beside a move that stores nothing a store move changes its word alone. -/
theorem lawRead_afterMove_other {x : LawEng} {d : Dev} {mv : Move} {y : Bool} (hs : mv.store = true) (hf : (d.moveAccess x y mv).at_ ≠ .fault)
    {other : Option Move} (ho : ∀ v, other = some v → v.store = false) (c : Compute) (rot : Bool) {a : LAddr}
    (ha : a ≠ (d.moveAccess x y mv).at_) : d.lawRead (x.afterMove d c y mv other rot) a = d.lawRead x a := by
  cases y
  · refine (lawRead_afterPar c _ _ rot _).trans ?_
    rw [putMove_of_no_store x _ d true ho, lawRead_putMove_store x hs hf, if_neg ha]
  · refine (lawRead_afterPar c _ _ rot _).trans ?_
    rw [putMove_of_no_store x x d false ho, lawRead_putMove_store x hs hf, if_neg ha]

/-! ## The address of a move (05 Table 5.6) -/

theorem moveAccess_addr_eq (x : LawEng) (d : Dev) (mv : Move) : (d.moveAccess x false mv).addr = (match mv.am.toNat with
    | 0 | 1 => x.ptr mv.p
    | 2 => (((x.ptr mv.p : Int) + x.mdf mv.m) % 2 ^ 32).toNat
    | _ => x.ptr mv.p) := by
  have hp : x.ptr mv.p < 2 ^ 32 := BitVec.isLt _
  have h3 : (((x.ptr mv.p : Int) + 0) % 2 ^ 32).toNat = x.ptr mv.p := by omega
  obtain ⟨st, dr, p, am, m⟩ := mv
  obtain ⟨⟨k, hk⟩⟩ := am
  match k, hk with
  | 0, _ => rfl
  | 1, _ => rfl
  | 2, _ => rfl
  | 3, _ => exact h3

/-! ## Moves of a register code (05 R126, R133, R136) -/

/-- A bundle with a move into a register, and no other memory access, lands it at the register's latency. -/
theorem does_moveTo {i : Instr} {b : Bundle} {c : Nat} {g : LTgt} {v : Int} {pre : List Land} (h : Issues s e b)
    (hi : exec i s = run (decide (e < 8)) (issue e (some b)) s) (hj : ∀ c, b ≠ .ctl (.jend c)) (hg : (s.lawEng e).regOf c = some g)
    (hres : (s.landed e).results e (s.lawEng e) b =
      s.dev.setEng e { s.lawEng e with flight := pre ++ (s.lawEng e).moveTo c v false false })
    (hp : ∀ d : Dev, d.proceeds e b = (d.results e (d.eng e) b).setEng e (((d.results e (d.eng e) b).eng e).advance false none (isRcp b)) := by
      exact fun _ => rfl) :
    Does i [.law] s (fun t => Issued s t e ∧ (s.lawEng e).lands (moveLatency g false) g ((s.lawEng e).moveVal g v) ∈ (t.dev.eng e).flight) := by
  refine does_law (hi.trans (run_below h.engine (h.plain hj (sc := s.dev.scb) hres rfl hp))) fun t ht ho _ => ⟨issued_of (by exact rfl) ht ho, ?_⟩
  rw [ht, advance_flight, moveTo_eq hg]
  exact List.mem_append_right _ (List.mem_singleton_self _)

end

/-- Settles O27: a move by the engine its bundle leaves (`Issues.move`), LD and ST by `results_ld` and `results_st`, the rest by `does_moveTo`. -/
theorem moveOps : Obligations.MoveOps := by
  refine ⟨fun s e c y mv other rot b hs hb h => ?load, fun s e c y mv other rot b hs hb h => ?store, fun x d mv => moveAccess_addr_eq x d mv,
    fun s e c a g v h hg hv => ?ld, fun s e c a h => ?st, fun s e c rd rs g h hg => ?movr, fun s e c r i g h hg => ?addi,
    fun s e c r i g h hg => ?ldis, fun s e r i g h hg => ?ldi⟩
  case load =>
    obtain rfl : b = withMove c y mv other rot := hb
    refine does_engine (sc := s.dev.scb) ((exec_moveLoad hs e c y other rot s).trans (run_below h.engine h.move)) (.inl (by decide)) fun t ht ho _ => ?_
    have hsub : s.dev.moveLands (s.lawEng e) y (some mv) ⊆ (t.dev.eng e).flight := by
      rw [ht, advance_flight]; exact moveLands_subset _ _ _ _ _ _ _
    refine ⟨issued_of (afterMove_beside _ _ _ _ _ _ _) ht ho, hsub (mem_moveLands_load hs), fun ha => hsub (mem_moveLands_next ha),
      fun ha => hsub (mem_moveLands_ptr (addrOf_step_mdf ha)), fun hr => ?_⟩
    rw [ht, advance_rrb]
    cases y <;> exact if_pos hr
  case store =>
    obtain rfl : b = withMove c y mv other rot := hb
    have hf := (h.reached _ (mem_accesses_withMove s.dev (s.lawEng e) c y mv other rot)).1
    refine does_engine (sc := s.dev.scb) ((exec_moveStore hs e c y other rot s).trans (run_below h.engine h.move)) (.inl (by decide)) fun t ht ho hr => ?_
    have hread : ∀ a, t.dev.lawRead (t.dev.eng e) a = s.dev.lawRead ((s.lawEng e).afterMove s.dev c y mv other rot) a := fun a => by
      rw [hr, ht, lawRead_advance]; rfl
    refine ⟨issued_of (afterMove_beside _ _ _ _ _ _ _) ht ho, (hread _).trans (lawRead_afterMove_self hs hf c other rot), fun hother a ha => ?_,
      fun ha => ?_⟩
    · refine (hread a).trans (lawRead_afterMove_other hs hf (fun v hv => ?_) c rot ha)
      subst hv
      simpa using hother
    · rw [ht, advance_flight]
      exact moveLands_subset _ _ _ _ _ _ _ (mem_moveLands_next ha)
  case ld =>
    subst hv
    obtain ⟨sc, pm, hb, hres⟩ := results_ld s.dev e (s.lawEng e) c a
    refine does_engine (run_below h.engine (h.plain nofun hres rfl)) (.inl (by decide)) fun t ht ho hr =>
      ⟨issued_of (by exact rfl) ht ho, fun p _ => ?_, ?_⟩
    · rw [hr, ht, lawRead_advance]
      exact lawRead_congr rfl rfl rfl (scrWord_of_bank hb) p
    · rw [ht, advance_flight, moveTo_eq hg]
      refine ⟨_, List.mem_append_left _ (List.mem_append_right _ (List.mem_singleton_self _)), rfl, rfl, fun hw => ?_, fun hw => ?_⟩
      · obtain ⟨w, hw⟩ := hw
        rw [hw]
        exact ⟨rfl, rfl⟩
      · have hn : (s.dev.memAccess (s.lawEng e) a false).at_.scratch = false := by
          cases hat : (s.dev.memAccess (s.lawEng e) a false).at_ with
          | s w => exact absurd hat (hw w)
          | _ => rfl
        rw [hn]
        exact ⟨rfl, rfl⟩
  case st =>
    obtain ⟨hf, hw, -⟩ := h.reached (s.dev.memAccess (s.lawEng e) a true) (List.mem_singleton_self _)
    obtain ⟨sc, pm, hres, hwords⟩ := results_st s.dev e (s.lawEng e) c a hf hw
    have hbeside : (s.lawEng e).Beside { (s.lawEng e).put (s.dev.memAccess (s.lawEng e) a true).at_
        (BitVec.ofInt 32 ((s.lawEng e).readCode e a.reg.toNat)) with flight := (s.lawEng e).flight ++ (s.lawEng e).compute c ++ pm } := by
      obtain ⟨_, _, _, hp⟩ := put_eq (s.lawEng e) (s.dev.memAccess (s.lawEng e) a true).at_ (BitVec.ofInt 32 ((s.lawEng e).readCode e a.reg.toNat))
      unfold LawEng.Beside
      rw [hp]
    refine does_engine (run_below h.engine (h.plain nofun hres hbeside)) (.inl (by decide)) fun t ht ho hr => ?_
    have hread : ∀ p, t.dev.lawRead (t.dev.eng e) p = if p = (s.dev.memAccess (s.lawEng e) a true).at_ then
        BitVec.ofInt 32 ((s.lawEng e).readCode e a.reg.toNat) else s.dev.lawRead (s.lawEng e) p := fun p => by
      rw [hr, ht, lawRead_advance, ← hwords p]
      exact lawRead_congr rfl rfl rfl (fun _ => rfl) p
    exact ⟨issued_of hbeside ht ho, (hread _).trans (if_pos rfl), fun p hp => (hread p).trans (if_neg hp)⟩
  case movr => exact does_moveTo h rfl nofun hg (landed_setEng _)
  case addi => exact does_moveTo h rfl nofun hg (landed_setEng _)
  case ldis => exact does_moveTo h rfl nofun hg (landed_setEng _)
  case ldi => exact does_moveTo h rfl nofun hg (landed_setEng _)

end Sys2Proof.Machine
end

section
/-! PROOFS. Decisions, dispatch and collection of law jobs (O33). -/

open Sys2Proof

namespace Sys2Proof.Machine

/-! ## Tables with entries dropped -/

/-- A table that keeps the keys of `p` alone reads the others as unlisted. -/
theorem tget_filter {α : Type} (z : α) (p : Nat → Bool) (t : Tbl α) (k : Nat) :
    tget z (t.filter (fun x => p x.1)) k = if p k then tget z t k else z := by
  induction t with
  | nil => exact (ite_self _).symm
  | cons x t ih =>
    obtain ⟨i, v⟩ := x
    rw [List.filter_cons]
    by_cases hk : i = k
    · subst hk
      cases hp : p i <;> simp [tget, ih, hp]
    · cases hp : p i <;> simp [tget, ih, hk]

/-! ## What a decision takes (06 R169, R170) -/

theorem oldestHigh_mem {p : Job → Bool} {l : List Job} {k : Job} (h : oldestHigh p l = some k) : k ∈ l ∧ p k = true := by
  induction l with
  | nil => exact nomatch h
  | cons a l ih =>
    rw [oldestHigh] at h
    cases ho : oldestHigh p l with
    | none =>
      rw [ho] at h
      obtain ⟨hp, ha⟩ := Option.ite_none_right_eq_some.mp h
      exact Option.some.inj ha ▸ ⟨List.mem_cons_self .., hp⟩
    | some q =>
      simp only [ho] at h
      split at h
      · next hc => exact Option.some.inj h ▸ ⟨List.mem_cons_self .., (Bool.and_eq_true_iff.mp hc).1⟩
      · exact (ih (ho.trans h)).imp_left (List.mem_cons_of_mem _)

theorem oldestHigh_none {p : Job → Bool} {l : List Job} (h : ∀ k ∈ l, p k = false) : oldestHigh p l = none := by
  refine Option.eq_none_iff_forall_ne_some.mpr fun k hk => ?_
  obtain ⟨hmem, hp⟩ := oldestHigh_mem hk
  exact Bool.false_ne_true ((h k hmem).symm.trans hp)

/-- The job that stands before every later one of its level, with every earlier one of a lower level, is taken. -/
theorem oldestHigh_split {p : Job → Bool} {l1 l2 : List Job} {j : Job} (hj : p j = true) (h1 : ∀ k ∈ l1, p k = true → k.prio < j.prio)
    (h2 : ∀ k ∈ l2, p k = true → k.prio ≤ j.prio) : oldestHigh p (l1 ++ j :: l2) = some j := by
  induction l1 with
  | nil =>
    rw [List.nil_append, oldestHigh]
    cases ho : oldestHigh p l2 with
    | none => exact if_pos hj
    | some k =>
      obtain ⟨hmem, hp⟩ := oldestHigh_mem ho
      exact if_pos (by simp [hj, h2 k hmem hp])
  | cons a l1 ih =>
    obtain ⟨ha, h1⟩ := List.forall_mem_cons.mp h1
    rw [List.cons_append, oldestHigh, ih h1]
    refine if_neg fun hc => ?_
    obtain ⟨hp, hle⟩ := Bool.and_eq_true_iff.mp hc
    exact absurd (of_decide_eq_true hle) (Nat.not_le.mpr (ha hp))

section
variable {d : Dev} {e : Nat} {j : Job} {l1 l2 : List Job}

theorem schedPick_empty (h : d.sch.queue = []) : d.schedPick e = none := by
  simp [Dev.schedPick, h, oldestHigh]

/-- Without affinity a decision takes the oldest job of the highest level. -/
theorem schedPick_oldest (ha : d.affinity = false) (hq : d.sch.queue = l1 ++ j :: l2) (h1 : ∀ k ∈ l1, k.prio < j.prio)
    (h2 : ∀ k ∈ l2, k.prio ≤ j.prio) : d.schedPick e = some (j, 0) := by
  simp only [Dev.schedPick, ha, hq, oldestHigh_split (p := fun _ => true) rfl (fun k hk _ => h1 k hk) (fun k hk _ => h2 k hk)]
  rfl

/-- Under affinity, with no job that has waited too long, a decision takes the oldest of the highest level bound to the engine. -/
theorem schedPick_bound (ha : d.affinity = true) (hw : d.sch.affWait ≠ 0) (hn : ∀ k ∈ d.sch.queue, k.waited = false)
    (hq : d.sch.queue = l1 ++ j :: l2) (hj : d.affOf j = some e) (h1 : ∀ k ∈ l1, d.affOf k = some e → k.prio < j.prio)
    (h2 : ∀ k ∈ l2, d.affOf k = some e → k.prio ≤ j.prio) : d.schedPick e = some (j, 1) := by
  have hwaited : oldestHigh (fun k => k.waited || d.sch.affWait == 0) d.sch.queue = none :=
    oldestHigh_none fun k hk => by simp [hn k hk, hw]
  have hbound : oldestHigh (fun k => d.affOf k == some e) d.sch.queue = some j := by
    rw [hq]
    exact oldestHigh_split (by simp [hj]) (fun k hk h => h1 k hk (by simpa using h)) (fun k hk h => h2 k hk (by simpa using h))
  simp [Dev.schedPick, ha, hwaited, hbound]

/-- The queue without the job taken. -/
theorem filter_order_split (h : ∀ k ∈ l1 ++ l2, k.order ≠ j.order) : (l1 ++ j :: l2).filter (fun k => k.order != j.order) = l1 ++ l2 := by
  obtain ⟨h1, h2⟩ := List.forall_mem_append.mp h
  rw [List.filter_append, List.filter_cons, List.filter_eq_self.mpr (by simpa using h1), List.filter_eq_self.mpr (by simpa using h2)]
  simp

/-! ## The slot's frame (06 R164) -/

theorem frameFor_desc (b : Bytes) (f : Tbl W32) {i : Nat} (h : i < 16) : tget 0 (frameFor b f) i = BitVec.ofNat 32 (u32 b (4 * i)) := by
  refine (read_forRun (tget 0) 0 (fun i _ => BitVec.ofNat 32 (u32 b (4 * i))) (fun i t k => ?_) 0 16 _ i).trans (if_pos ⟨Nat.zero_le i, h⟩)
  rw [Nat.zero_add]
  exact tget_tput _ _ _ _ _

theorem frameFor_gain (b : Bytes) (f : Tbl W32) {i : Nat} (h : 16 ≤ i) (h' : i < 528) : tget 0 (frameFor b f) i = 0 := by
  refine (read_forRun (tget 0) 0 (fun i _ => BitVec.ofNat 32 (u32 b (4 * i))) (fun i t k => ?_) 0 16 _ i).trans ?_
  · rw [Nat.zero_add]
    exact tget_tput _ _ _ _ _
  · rw [if_neg fun hc => Nat.not_lt.mpr h hc.2, tget_filter 0 (fun k => decide (528 ≤ k)), if_neg (by simpa using h')]

/-! ## Decisions (06 R169 to R171) -/

/-- The engine with job `j` in its slot. -/
def LawEng.given (x : LawEng) (j : Job) : LawEng := { x with slot := some j, frameS := frameFor j.desc x.frameS }

@[simp] theorem LawEng.given_slot (x : LawEng) (j : Job) : (x.given j).slot = some j := rfl
@[simp] theorem LawEng.given_frameS (x : LawEng) (j : Job) : (x.given j).frameS = frameFor j.desc x.frameS := by rw [LawEng.given]

/-- The trace entry of a decision that gives engine `e` job `j` for reason `r`, with `n` jobs left in the queue. -/
def decisionEntry (k c e : Nat) (j : Job) (r n : Nat) : TraceEnt :=
  { tickLo := k % 2 ^ 32, cycle := c, obj := j.obj, layout := j.lead, engPri := e + 8 * j.prio, kind := 0, reason := r, qdepth := n }

/-- The scheduler after a decision gives job `j` for reason `r`, before the trace takes it. -/
def Sch.gives (x : Sch) (j : Job) (r : Nat) : Sch :=
  { x with
    queue := x.queue.filter (fun k => k.order != j.order)
    affine := if r = 1 then x.affine + 1 else x.affine
    waited := if r = 2 then x.waited + 1 else x.waited }

theorem decision_gives {r : Nat} (c : Nat) (hen : (d.eng e).enabled = true) (hd : (d.eng e).disabling = false) (hs : (d.eng e).slot = none)
    (hp : d.schedPick e = some (j, r)) : decision e c d = Dev.trace ({ d with sch := d.sch.gives j r }.setEng e ((d.eng e).given j))
      (decisionEntry d.tim.tick c e j r (d.sch.gives j r).queue.length) := by
  unfold decision
  dsimp only
  rw [if_neg (by simp [hen, hd, hs]), hp]
  rfl

theorem decision_idle (c : Nat) (h : (d.eng e).slot ≠ none ∨ (d.eng e).enabled = false ∨ d.sch.queue = []) : decision e c d = d := by
  unfold decision
  obtain hs | hn | hq := h
  · exact if_pos (by simp [Option.isSome_iff_ne_none.mpr hs])
  · exact if_pos (by simp [hn])
  · rw [schedPick_empty hq]
    exact ite_self _

/-- A mode that records every entry writes it at the trace's place. -/
theorem trace_records (d : Dev) (t : TraceEnt) (hm : d.sch.traceMode = 1) (hs : d.sch.traceStop = false) :
    tget {} (d.trace t).sch.trace d.sch.traceWr = t := by
  unfold Dev.trace
  dsimp only
  rw [if_neg (by simp [hm, hs])]
  exact tget_tput_self _ _ _ _

end

section
variable {s : State} {e : Nat} {j : Job} {r : Nat}

/-- A decision that gives a job changes the engine and the scheduler alone. -/
theorem schedulerDecision_gives {P : State → Prop} (c : Nat) (he : e < 8) (hen : (s.dev.eng e).enabled = true)
    (hd : (s.dev.eng e).disabling = false) (hs : (s.dev.eng e).slot = none) (hp : s.dev.schedPick e = some (j, r))
    (hP : ∀ t : State, t.dev.eng e = (s.dev.eng e).given j → (∀ k, k ≠ e → t.dev.eng k = s.dev.eng k) →
      t.dev.sch.queue = (s.dev.sch.gives j r).queue →
      t.dev.sch.affine = (s.dev.sch.gives j r).affine →
      (s.dev.sch.traceMode = 1 → s.dev.sch.traceStop = false →
        tget {} t.dev.sch.trace s.dev.sch.traceWr = decisionEntry s.dev.tim.tick c e j r (s.dev.sch.gives j r).queue.length) → P t) :
    Does (.schedulerDecision e c) [.law, .sch] s P := by
  have hrec := trace_records ({ s.dev with sch := s.dev.sch.gives j r }.setEng e ((s.dev.eng e).given j))
    (decisionEntry s.dev.tim.tick c e j r (s.dev.sch.gives j r).queue.length)
  obtain ⟨_, _, _, _, ht⟩ := trace_eq ({ s.dev with sch := s.dev.sch.gives j r }.setEng e ((s.dev.eng e).given j))
    (decisionEntry s.dev.tim.tick c e j r (s.dev.sch.gives j r).queue.length)
  rw [ht] at hrec
  refine does_changes (run_below he ((decision_gives c hen hd hs hp).trans ht)) (hP _ ?_ (fun k hk => ?_) ?_ ?_ ?_)
    (hlaw := .inl (by decide)) (hsch := .inl (by decide))
  · rw [leaves_eng]; exact Dev.setEng_eng _ _ _
  · rw [leaves_eng]; exact Dev.setEng_eng_other _ _ hk
  · rw [leaves_sch]; rfl
  · rw [leaves_sch]; rfl
  · rw [leaves_sch]; exact hrec

end

/-! ## Collection (06 R165, R166) -/

theorem rangeFrom_eq_range' (a n : Nat) : rangeFrom a n = List.range' a n := by
  induction n generalizing a with
  | zero => rfl
  | succ n ih => rw [rangeFrom, ih]; rfl

/-- No output stands twice in a group. -/
theorem ranks_nodup (d : Dev) (mask : W32) : (d.ranks mask).Nodup := by
  rw [Dev.ranks, rangeFrom_eq_range']
  exact (List.nodup_range' ..).filter _

theorem tget_putResults_other (f : Tbl W32) (o j n : Nat) {l : List Nat} (t : Tbl (Option (Nat × Int))) {k : Nat} (h : ∀ s ∈ l, k ≠ 512 * o + s) :
    tget none (putResults f o j n l t) k = tget none t k := by
  induction l generalizing n t with
  | nil => rfl
  | cons s l ih =>
    obtain ⟨hs, hl⟩ := List.forall_mem_cons.mp h
    rw [putResults, ih _ _ hl, tget_tput_other _ _ _ hs]

/-- The gain word of each rank becomes the result of that rank's path. -/
theorem tget_putResults (f : Tbl W32) (o j n : Nat) {l : List Nat} (t : Tbl (Option (Nat × Int))) {i s : Nat} (hl : l.Nodup) (h : l[i]? = some s) :
    tget none (putResults f o j n l t) (512 * o + s) = some (j, (tget 0 f (16 + (n + i))).toInt) := by
  induction l generalizing n t i with
  | nil => exact nomatch h
  | cons a l ih =>
    obtain ⟨ha, hl⟩ := List.nodup_cons.mp hl
    rw [putResults]
    cases i with
    | zero =>
      obtain rfl : a = s := by simpa using h
      rw [tget_putResults_other _ _ _ _ _ (fun b hb he => ha (by rwa [Nat.add_left_cancel he])), tget_tput_self]
      rfl
    | succ i =>
      rw [ih _ _ hl (by simpa using h), Nat.add_right_comm n 1 i, Nat.add_assoc n i 1]

theorem jobCollectionDone_collects {s : State} {e : Nat} {j : Job} (he : e < 8) (hc : (s.dev.eng e).coll = some j) :
    Does (.jobCollectionDone e) [.law, .sch] s (fun t => (t.dev.eng e).coll = none ∧ t.dev.sch.done = s.dev.sch.done + 1 ∧
      At none s.dev.sch.aff t.dev.sch.aff (affKey j.obj j.lead) (some e) ∧
      (∀ i o, i < j.nOut → (s.dev.ranks j.laymask)[i]? = some o →
        tget none t.dev.sch.result (512 * j.obj + o) = some (j.block, (tget 0 (s.dev.eng e).frameC (16 + i)).toInt))) := by
  have hd : ∃ pn, collectionDone e s.dev = { s.dev with
      law := tput {} s.dev.law e { s.dev.eng e with coll := none }
      sch := { s.dev.sch with
        done := s.dev.sch.done + 1
        aff := tput none s.dev.sch.aff (affKey j.obj j.lead) (some e)
        result := putResults (s.dev.eng e).frameC j.obj j.block 0 ((s.dev.ranks j.laymask).take j.nOut) s.dev.sch.result
        periodN := pn } } := ⟨_, by simp only [collectionDone, hc]; rfl⟩
  obtain ⟨_, hd⟩ := hd
  refine does_changes (run_below he hd) ?_ (hlaw := .inl (by decide)) (hsch := .inl (by decide))
  rw [leaves_eng, leaves_sch, Dev.eng, tget_tput_self]
  refine ⟨rfl, rfl, at_tput none s.dev.sch.aff _ (some e), fun i o hi ho => ?_⟩
  rw [tget_putResults _ _ _ _ _ ((ranks_nodup _ _).sublist (List.take_sublist _ _)) ((List.getElem?_take_of_lt hi).trans ho), Nat.zero_add]

/-! ## Dispatch (06 R163, 05 R128) -/

theorem jobDispatch_starts {s : State} {e : Nat} {j : Job} (he : e < 8) (hs : (s.dev.eng e).slot = some j) (hi : (s.dev.eng e).st = .idle)
    (hen : (s.dev.eng e).enabled = true) : Does (.jobDispatch e) [.law] s (fun t =>
      (t.dev.eng e).run = some j ∧ (t.dev.eng e).st = .job ∧ (t.dev.eng e).slot = none ∧ (t.dev.eng e).frame = (s.dev.eng e).frameS ∧
      (t.dev.eng e).pc = (s.dev.jobProg j.law).entry ∧ (t.dev.eng e).sr = 0x1F40 ∧ (t.dev.eng e).ictl = 0 ∧ (t.dev.eng e).cyc = 0 ∧
      (t.dev.eng e).flight = [] ∧ (∀ n, (t.dev.eng e).dw n = 0 ∧ (t.dev.eng e).accOf n = 0) ∧ (∀ k, k ≠ e → t.dev.eng k = s.dev.eng k)) := by
  have hd : jobDispatch e s.dev = s.dev.setEng e { (s.dev.eng e).start j (s.dev.jobProg j.law) with
      slot := none, frame := (s.dev.eng e).frameS, frameS := (s.dev.eng e).frame } := by
    simp only [jobDispatch, hs, hi, hen]
    rfl
  refine does_law (run_below he hd) fun t ht ho _ => ?_
  rw [ht]
  exact ⟨rfl, rfl, rfl, rfl, rfl, rfl, rfl, rfl, rfl, fun _ => ⟨rfl, rfl⟩, ho⟩

/-! ## Marks (06 R170) -/

theorem affWaitReached_marks {s : State} {o : Nat} (c : Nat) (ho : ∃ j ∈ s.dev.sch.queue, j.order = o)
    (he : ∀ e, e < 8 → (s.dev.eng e).slot ≠ none ∨ (s.dev.eng e).enabled = false) : Does (.affWaitReached o c) [.sch] s (fun t =>
      t.dev.sch.queue = s.dev.sch.queue.map (fun j => if j.order = o then { j with waited := true } else j)) := by
  have hd : affWaitReached o c s.dev = { s.dev with sch := { s.dev.sch with
      queue := s.dev.sch.queue.map (fun j => if j.order = o then { j with waited := true } else j) } } := by
    rw [affWaitReached, if_pos (by simpa [List.any_eq_true] using ho)]
    exact forRun_of_fixed _ fun e hm => decision_idle c (by have := he e (mem_rangeFrom hm).2; tauto)
  exact does_changes (run_leaves hd) (by rw [leaves_sch]) (hsch := .inl (by decide))

/-! ## The obligation -/

/-- Settles O33, from the lemmas above, a part of the statement each. -/
theorem scheduling : Obligations.Scheduling := by
  refine ⟨fun s e c j l1 l2 he hen hd hs ha hq h1 h2 ho => ?_, fun s e c j l1 l2 he hen hd hs ha hw hn hq hj h1 h2 ho => ?_,
    fun s e c he h => does_nothing (run_below he (decision_idle c (h.imp_right (.imp_right id)))),
    fun s o c ho he => affWaitReached_marks c ho he, fun s e j he hs hi hen => jobDispatch_starts he hs hi hen,
    fun s e j he hc => jobCollectionDone_collects he hc⟩
  · refine schedulerDecision_gives c he hen hd hs (schedPick_oldest ha hq h1 h2) fun t hx hother hqueue _ htrace => ?_
    have hgives : (s.dev.sch.gives j 0).queue = l1 ++ l2 := by rw [Sch.gives, hq]; exact filter_order_split ho
    rw [hgives] at hqueue htrace
    rw [hx, LawEng.given_slot, LawEng.given_frameS]
    exact ⟨rfl, hqueue, fun i hi => frameFor_desc _ _ hi, fun i hi hi' => frameFor_gain _ _ hi hi', hother, htrace⟩
  · refine schedulerDecision_gives c he hen hd hs (schedPick_bound ha hw hn hq hj h1 h2) fun t hx _ hqueue haff _ => ⟨?_, hqueue.trans ?_, haff⟩
    · rw [hx, LawEng.given_slot]
    · rw [Sch.gives, hq]; exact filter_order_split ho

end Sys2Proof.Machine
end

section
/-! PROOFS. Commands of the law engines and the scheduler: how they answer, and what an image, a table and a register write leave (O36). -/

open Sys2Proof

namespace Sys2Proof.Machine

/-! ## Commands of the law engines, the scheduler and the scratch banks -/

section
variable {w : List Part} {i : AcpReq → Instr} {c : Cmd} {s : State} {r : AcpReq} {b p : Bytes} {l : Tbl LawEng} {x : Sch} {k : Scb}
  {eff : State → Prop}

/-- What a plain command leaves that changes law engines, scheduler, scratch banks and the responses: each of the first three is named in
`w` or stays. -/
theorem frame_of_jobs {h' : Hst} (h : Plain s r b) (hlaw : Part.law ∈ w ∨ l = s.dev.law) (hsch : Part.sch ∈ w ∨ x = s.dev.sch)
    (hscb : Part.scb ∈ w ∨ k = s.dev.scb)
    (hrings : Part.rings.same s { s with dev := { s.dev with hst := h' } } := by exact ⟨rfl, rfl, rfl, rfl, rfl, rfl⟩)
    (hirq : Part.irq.same s { s with dev := { s.dev with hst := h' } } := by exact ⟨rfl, rfl, rfl⟩) :
    Frame w s (leaves s { s.dev with law := l, sch := x, scb := k, hst := h' }) :=
  frame_leaves rfl h.calm fun q hq => by
    cases q
    case law => exact hlaw.resolve_left hq
    case sch => exact hsch.resolve_left hq
    case scb => exact hscb.resolve_left hq
    case rings => exact hrings
    case irq => exact hirq
    case mbox => exact fun _ => rfl
    all_goals rfl

/-- A plain command whose body accepts, and changes law engines, scheduler and scratch banks alone. -/
theorem answers_of_jobs (h : Plain s r b) (hi : exec (i r) s = run true (acpTake c r) s)
    (hb : c.body (plainCtx c.op s.dev r []) b (taken s.dev r) = okData p { taken s.dev r with law := l, sch := x, scb := k })
    (he : ∀ t : State, t.dev.law = l → t.dev.sch = x → t.dev.scb = k → eff t)
    (hlaw : Part.law ∈ w ∨ l = s.dev.law := by exact .inr rfl) (hsch : Part.sch ∈ w ∨ x = s.dev.sch := by exact .inr rfl)
    (hscb : Part.scb ∈ w ∨ k = s.dev.scb := by exact .inr rfl) : Answers (i r) c.op r s p (fun t => eff t ∧ Frame w s t) :=
  answers_of_body h hi hb rfl rfl ⟨he _ (leaves_law _ _) (leaves_sch _ _) (leaves_scb _ _), frame_of_jobs h hlaw hsch hscb⟩

/-- A plain command whose body accepts, and changes a law engine alone. -/
theorem answers_of_eng {e : Nat} {z : LawEng} (h : Plain s r b) (hi : exec (i r) s = run true (acpTake c r) s)
    (hb : c.body (plainCtx c.op s.dev r []) b (taken s.dev r) = okData p ((taken s.dev r).setEng e z)) :
    Answers (i r) c.op r s p (fun t => At {} s.dev.law t.dev.law e z ∧ Frame [.law] s t) :=
  answers_of_jobs h hi hb (fun t ht _ _ => by rw [ht]; exact at_tput {} s.dev.law e z) (hlaw := .inl (by decide))

/-- The response that awaits operation `key`. -/
def awaiting (op : Nat) (r : AcpReq) (p : Bytes) (key : Nat × Nat) : Waiting :=
  { op := op, tag := r.tag.toNat, seq := r.seq.toNat, flags := 0, rb := none, status := 0, payload := p, ackTick := none, key := key, repl := false }

/-- The device with a response more that awaits an operation. -/
def Dev.waitsFor (d : Dev) (op : Nat) (r : AcpReq) (p : Bytes) (key : Nat × Nat) : Dev :=
  { d with hst := { d.hst with wait := d.hst.wait ++ [awaiting op r p key] } }

/-- An accepted command that awaits an operation, with the device unpaired. -/
theorem complete_later (c : Cmd) (r : AcpReq) (a : Bool) (own p : Bytes) (d : Dev) (key : Nat × Nat) (hf : r.flags = 0) (hs : d.pair.st = .off) :
    Dev.complete c r a own (later key p d) = d.waitsFor c.op r p key := by
  have hr : r.rb = none := by simp [AcpReq.rb, AcpReq.isRb, hf]
  have hact : (a && (later key p d).dev.pair.st == .active) = false := by rw [later, hs]; exact Bool.and_false a
  rw [Dev.complete]
  dsimp only
  rw [hact, hr, hf]
  rfl

/-- A plain command whose body begins an operation, and changes law engines and scheduler alone. -/
theorem begins_of_jobs {key : Nat × Nat} (h : Plain s r b) (hi : exec (i r) s = run true (acpTake c r) s)
    (hb : c.body (plainCtx c.op s.dev r []) b (taken s.dev r) = later key p { taken s.dev r with law := l, sch := x })
    (he : ∀ t : State, t.dev.law = l → t.dev.sch = x → eff t)
    (hlaw : Part.law ∈ w ∨ l = s.dev.law := by exact .inr rfl) (hsch : Part.sch ∈ w ∨ x = s.dev.sch := by exact .inr rfl) :
    Begins (i r) c.op r s key (fun t => eff t ∧ Frame w s t) := by
  have ht : acpTake c r s.dev [] = Dev.waitsFor { taken s.dev r with law := l, sch := x } c.op r p key := by
    rw [acpTake_plain h c []]
    simp only [hb]
    exact (if_neg (Nat.not_le.mpr (show 0 < 256 by decide))).trans (complete_later c r _ b p _ key h.flags h.alone)
  refine ⟨_, hi.trans (run_leaves ht), leaves_hst_rspQ _ _, ⟨awaiting c.op r p key, ?_, rfl, rfl, rfl, rfl, rfl⟩, he _ (leaves_law _ _) (leaves_sch _ _),
    frame_of_jobs (k := s.dev.scb) h hlaw hsch (.inr rfl)⟩
  rw [leaves_hst_wait]
  exact List.mem_append_right _ (List.mem_singleton_self _)

/-- A plain command whose body begins an operation, and changes a law engine alone. -/
theorem begins_of_eng {key : Nat × Nat} {e : Nat} {z : LawEng} (h : Plain s r b) (hi : exec (i r) s = run true (acpTake c r) s)
    (hb : c.body (plainCtx c.op s.dev r []) b (taken s.dev r) = later key p ((taken s.dev r).setEng e z)) :
    Begins (i r) c.op r s key (fun t => At {} s.dev.law t.dev.law e z ∧ Frame [.law] s t) :=
  begins_of_jobs h hi hb (fun t ht _ => by rw [ht]; exact at_tput {} s.dev.law e z) (hlaw := .inl (by decide))

/-- A plain command whose body refuses with fields of its own changes nothing. -/
theorem refuses_of_nothing {st : Nat} (h : Plain s r b) (hi : exec (i r) s = run true (acpTake c r) s)
    (hb : c.body (plainCtx c.op s.dev r []) b (taken s.dev r) = noWith st p (taken s.dev r)) (hst : 256 ≤ st) :
    Refuses (i r) c.op r s st p (Frame [] s) := by
  have ht : acpTake c r s.dev [] = answered (taken s.dev r) c.op r st p := by
    rw [acpTake_plain h c []]
    simp only [hb]
    exact (if_pos hst).trans (refuse_plain _ c.op r st p h.flags)
  exact ⟨_, hi.trans (run_leaves ht), leaves_hst_rspQ _ _,
    frame_of_jobs (l := s.dev.law) (x := s.dev.sch) (k := s.dev.scb) h (.inr rfl) (.inr rfl) (.inr rfl)⟩

end

theorem Begins.mono {i : Instr} {op : Nat} {r : AcpReq} {s : State} {key : Nat × Nat} {P Q : State → Prop} (h : Begins i op r s key P)
    (hPQ : ∀ t, P t → Q t) : Begins i op r s key Q :=
  let ⟨t, ht, hq, hw, hp⟩ := h; ⟨t, ht, hq, hw, hPQ t hp⟩

theorem Answers.mono {i : Instr} {op : Nat} {r : AcpReq} {s : State} {p : Bytes} {P Q : State → Prop} (h : Answers i op r s p P)
    (hPQ : ∀ t, P t → Q t) : Answers i op r s p Q :=
  let ⟨t, ht, hq, hp⟩ := h; ⟨t, ht, hq, hPQ t hp⟩

/-! ## Programs written into the engines (06 R178) -/

/-- The image of a program written into every engine that is not RETIRED. -/
def loadAll (b : Bytes) (d : Dev) : Dev :=
  forRun (fun e d => let x := d.eng e
    if x.st == .retired then d else d.setEng e (x.loadImage b)) (rangeFrom 0 8) d

theorem forRun_law {f : Nat → Dev → Dev} (h : ∀ e d, ∃ l, f e d = { d with law := l }) (ks : List Nat) (d : Dev) :
    ∃ l, forRun f ks d = { d with law := l } := by
  induction ks generalizing d with
  | nil => exact ⟨d.law, rfl⟩
  | cons k ks ih =>
    obtain ⟨_, hk⟩ := h k d
    obtain ⟨_, hl⟩ := ih (f k d)
    exact ⟨_, by rw [forRun, hl, hk]⟩

theorem loadAll_eq (b : Bytes) (d : Dev) : ∃ l, loadAll b d = { d with law := l } :=
  forRun_law (fun e d => by
    dsimp only; split
    · exact ⟨d.law, rfl⟩
    · exact ⟨_, rfl⟩) _ _

theorem loadAll_eng (b : Bytes) (d : Dev) {e : Nat} (he : e < 8) :
    (loadAll b d).eng e = if (d.eng e).st == .retired then d.eng e else (d.eng e).loadImage b := by
  refine (read_forRun Dev.eng 0 (fun _ x => if x.st == .retired then x else x.loadImage b) (fun i d k => ?_) 0 8 d e).trans (if_pos ⟨Nat.zero_le e, he⟩)
  rw [Nat.zero_add]
  by_cases hk : k = i
  · subst hk
    dsimp only; split
    · exact (if_pos rfl).symm
    · rw [if_pos rfl, Dev.setEng_eng]
  · rw [if_neg hk]
    dsimp only; split
    · rfl
    · exact Dev.setEng_eng_other _ _ hk

/-- Writing an image changes the law engines alone: each that is not RETIRED takes it. -/
theorem loadAll_law (b : Bytes) (d : Dev) : ∃ l, loadAll b d = { d with law := l } ∧
    ∀ e, e < 8 → tget {} l e = if (d.eng e).st == .retired then d.eng e else (d.eng e).loadImage b := by
  obtain ⟨l, hl⟩ := loadAll_eq b d
  refine ⟨l, hl, fun e he => ?_⟩
  rw [← loadAll_eng b d he, hl]
  rfl

/-- Every check of an image that fails answers with an error status. -/
theorem imageBad_status {d : Dev} {p : Bytes} {c o st : Nat} (h : d.imageBad p = some (c, o, st)) : 256 ≤ st := by
  unfold Dev.imageBad at h
  dsimp only at h
  repeat' split at h
  all_goals cases h
  all_goals decide

/-! ## Words of a table (06 R182) -/

theorem chunks_getElem? (n : Nat) {k i : Nat} (b : Bytes) (h : i < k) : (chunks n k b)[i]? = some ((b.drop (n * i)).take n) := by
  induction k generalizing b i with
  | zero => exact absurd h (Nat.not_lt_zero i)
  | succ k ih =>
    cases i with
    | zero => rfl
    | succ i =>
      rw [chunks, List.getElem?_cons_succ, ih _ (Nat.lt_of_succ_lt_succ h), List.drop_drop, Nat.mul_succ, Nat.add_comm]

theorem chunks_length (n k : Nat) (b : Bytes) : (chunks n k b).length = k := by
  induction k generalizing b with
  | zero => rfl
  | succ k ih => rw [chunks, List.length_cons, ih]

/-- Writing words to scratch changes the scratch banks alone. -/
theorem putScr_eq (v : List W32) (w : Nat) (d : Dev) : putScr v w d = { d with scb := (putScr v w d).scb } := by
  induction v generalizing w d with
  | nil => rfl
  | cons a v ih =>
    rw [putScr, ih, testYield_setScrWord_eq d]

theorem scrWord_putScr (v : List W32) (w : Nat) (d : Dev) (k : Nat) :
    (putScr v w d).scrWord k = if w ≤ k then v[k - w]?.getD (d.scrWord k) else d.scrWord k := by
  induction v generalizing w d with
  | nil => exact (ite_self _).symm
  | cons a v ih =>
    rw [putScr, ih, scrWord_setScrWord, scrWord_congr (Dev.testYield_bank _ _) k]
    obtain hlt | rfl | hgt := Nat.lt_trichotomy k w
    · rw [if_neg (Nat.not_le.mpr (Nat.lt_succ_of_lt hlt)), if_neg hlt.ne, if_neg (Nat.not_le.mpr hlt)]
    · simp
    · obtain ⟨i, rfl⟩ := Nat.exists_eq_add_of_lt hgt
      rw [if_pos (show w + 1 ≤ w + i + 1 from hgt), if_neg hgt.ne', if_pos hgt.le, Nat.add_sub_add_right, Nat.add_assoc w i 1,
        Nat.add_sub_cancel_left, Nat.add_sub_cancel_left, List.getElem?_cons_succ]

/-! ## Operations that nothing awaits (14 R371) -/

theorem flushGo_keep (l k : List Waiting) (d : Dev) (h : ∀ w ∈ l, w.ackTick ≠ none ∨ w.key ≠ (0, 0)) :
    flushGo l k d = { d with hst := { d.hst with wait := k ++ l } } := by
  induction l generalizing k with
  | nil => rw [flushGo, List.append_nil]
  | cons w l ih =>
    obtain ⟨hw, hl⟩ := List.forall_mem_cons.mp h
    rw [flushGo, if_neg, ih _ hl, List.append_assoc]
    · rfl
    · simpa [← imp_iff_not_or] using hw

/-- The end of an operation that nothing awaits leaves everything. -/
theorem finish_unawaited {s : State} {d : Dev} {op arg : Nat} (st : Nat) (p : Bytes) (h : Unawaited s (op, arg)) (hw : d.hst.wait = s.dev.hst.wait) :
    d.finish op arg st p = d := by
  have hmap : d.hst.wait.map (fun w => if w.key == (op, arg) then w.ended st p else w) = d.hst.wait :=
    (List.map_congr_left fun w hm => if_neg (by simpa using (h w (hw ▸ hm)).1)).trans (List.map_id _)
  have hf : d.finish op arg st p = flushGo (d.hst.wait.map fun w => if w.key == (op, arg) then w.ended st p else w) []
      { d with hst := { d.hst with wait := d.hst.wait.map fun w => if w.key == (op, arg) then w.ended st p else w } } := rfl
  rw [hf, hmap, flushGo_keep _ _ _ fun w hm => (h w (hw ▸ hm)).2]
  rfl

end Sys2Proof.Machine
end

section
/-! PROOFS. The commands of bindings, programs, tables, engines and the scheduler (O36). -/

open Sys2Proof

namespace Sys2Proof.Machine

/-! ## Fields -/

theorem leNat_lt (b : Bytes) : leNat b < 256 ^ b.length := by
  induction b with
  | nil => exact Nat.one_pos
  | cons x b ih =>
    rw [leNat, List.length_cons, Nat.pow_succ']
    exact (Nat.add_lt_add_right x.isLt _).trans_le ((Nat.add_comm _ _).trans_le (Nat.mul_le_mul_left 256 ih))

theorem u32_lt (b : Bytes) (o : Nat) : u32 b o < 2 ^ 32 :=
  (leNat_lt _).trans_le (Nat.pow_le_pow_right (by decide : 0 < 256) (List.length_take_le 4 _))

theorem u32_drop (b : Bytes) (k o : Nat) : u32 (b.drop k) o = u32 b (k + o) := by
  rw [u32, uN, List.drop_drop]; rfl

/-! ## Layouts at work (01 R34) -/

theorem busyLayouts_any {d : Dev} {p : Nat → Bool} (h : ∀ l, l < 32 → (d.unit 1 l).st ≠ .stopped → p l = false) : d.busyLayouts.any p = false := by
  refine List.any_eq_false.mpr fun l hl => ?_
  obtain ⟨hmem, hst⟩ := List.mem_filter.mp hl
  rw [h l (mem_rangeFrom hmem).2 (by simpa [Dev.stopped] using hst)]
  exact Bool.false_ne_true

/-! ## Bindings (06 R158, R159) -/

theorem lawBind_sets : Sets .lawBind 0x0800 [.sch] (fun b s => b.length = 16 ∧ u8 b 0 ≤ 31 ∧ u8 b 1 ≤ 31 ∧ u8 b 2 ≤ 1 ∧ u8 b 3 = 0 ∧ u32 b 4 % 4 = 0 ∧
      u32 b 8 % 4 = 0 ∧ u32 b 12 = 0 ∧ (u8 b 1 = u8 b 0 ∨ s.dev.leadOf (u8 b 1) = u8 b 1) ∧
      (u8 b 1 = s.dev.leadOf (u8 b 0) ∨ ∀ j, j < 32 → j ≠ u8 b 0 → s.dev.leadOf j ≠ u8 b 0) ∧ (s.dev.unit 1 (u8 b 0)).st = .stopped ∧
      (∀ j, j < 32 → j ≠ u8 b 0 → s.dev.leadOf j = u8 b 1 → (s.dev.unit 1 j).st ≠ .stopped →
        (s.dev.layout j).law = (s.dev.layout (u8 b 0)).law ∧ (s.dev.layout j).period = (s.dev.layout (u8 b 0)).period ∧
        (s.dev.layout j).phase = (s.dev.layout (u8 b 0)).phase ∧ (s.dev.layout j).scale = (s.dev.layout (u8 b 0)).scale)) (fun _ _ => [])
    (fun b s t => At {} s.dev.sch.bind t.dev.sch.bind (u8 b 0)
        { lead := if u8 b 1 = u8 b 0 then none else some (u8 b 1), split := u8 b 2 == 1, param := u32 b 4, len := u32 b 8 } ∧
      ∀ k, tget none t.dev.sch.aff k = (if k % 32 = u8 b 0 then none else tget none s.dev.sch.aff k)) := by
  rintro s r b h ⟨hl, h0, h1, h2, h3, h4, h8, h12, hlead, hfree, hst, hgroup⟩
  have hleads : (u8 b 1 != u8 b 0 && s.dev.leadOf (u8 b 1) != u8 b 1) = false := by
    obtain hk | hk := hlead <;> simp [hk]
  have hled : (u8 b 1 != s.dev.leadOf (u8 b 0) && (rangeFrom 0 32).any (fun j => j != u8 b 0 && s.dev.leadOf j == u8 b 0)) = false := by
    obtain hk | hk := hfree
    · simp [hk]
    · refine Bool.and_eq_false_imp.mpr fun _ => List.any_eq_false.mpr fun j hj => ?_
      by_cases hjk : j = u8 b 0
      · simp [hjk]
      · simp [hk j (mem_rangeFrom hj).2 hjk]
  have hclash : (taken s.dev r).groupClash (fun j => if j = u8 b 0 then u8 b 1 else s.dev.leadOf j) (u8 b 0) (s.dev.layout (u8 b 0)) = false := by
    refine groupClash_false fun j hj hk hl hs => ?_
    rw [if_neg hk, if_pos rfl] at hl
    obtain ⟨hlaw, hperiod, hphase, hscale⟩ := hgroup j hj hk hl hs
    simp [groupEq, show (taken s.dev r).layout j = s.dev.layout j from rfl, hlaw, hperiod, hphase, hscale]
  refine answers_of_jobs (c := cmdLawBind) h rfl (checks_pass _ _ ?_) (fun t _ ht _ => ?_) (hsch := .inl (by decide))
  · refine List.forall_mem_cons.mpr ⟨by simp [hl], List.forall_mem_cons.mpr ⟨?_, List.forall_mem_singleton.mpr ?_⟩⟩
    · refine Bool.or_eq_false_iff.mpr ⟨Bool.or_eq_false_iff.mpr ⟨?_, hleads⟩, hled⟩
      simp [h0, h1, h2, h4, h8, rsv_of_zero (n := 1) h3, rsv_of_zero (n := 4) h12]
    · exact Bool.or_eq_false_iff.mpr ⟨by rw [(stopped_of_st (d := taken s.dev r) hst).1]; rfl, hclash⟩
  · beta_reduce
    rw [ht]
    refine ⟨at_tput _ _ _ _, fun k => (tget_filter none (fun k => k % 32 != u8 b 0) _ k).trans ?_⟩
    by_cases hk : k % 32 = u8 b 0 <;> simp [hk]

theorem lawBindGet_reads : Reads .lawBindGet 0x0801 (fun b _ => b.length = 4 ∧ u8 b 0 ≤ 31 ∧ uN 3 b 1 = 0)
    (fun b s => (s.dev.bind (u8 b 0)).bytes (u8 b 0)) := by
  rintro s r b h ⟨hl, hk, hz⟩
  exact answers_of_read (c := cmdLawBindGet) h rfl (checks_pass _ _ (by simp [hl, hk, rsv_of_zero hz]))

/-! ## Programs (06 R176 to R178) -/

/-- An image is judged against the programs stored alone. -/
theorem taken_imageBad (d : Dev) (r : AcpReq) (b : Bytes) : (taken d r).imageBad b = d.imageBad b := by
  unfold Dev.imageBad
  rw [taken_sch]

/-- The device with the program of an image stored. -/
def Dev.withProg (d : Dev) (b : Bytes) : Dev := { d with sch := { d.sch with prog := tput none d.sch.prog (u16 b 4) (some (progOf b)) } }

theorem cmdLawProgLoad_loads {d : Dev} {b : Bytes} (x : Ctx) (hi : d.imageBad b = none) (hu : d.lawBusy (u16 b 4) = false) :
    cmdLawProgLoad.body x b d = later (0x0802, u16 b 4) (zb 8) (loadAll b (d.withProg b)) := by
  unfold cmdLawProgLoad cmdA
  dsimp only
  rw [hi]
  exact if_neg (by simp [hu])

theorem cmdLawProgLoad_refuses {d : Dev} {b : Bytes} {c o st : Nat} (x : Ctx) (hi : d.imageBad b = some (c, o, st)) (hc : c ≠ 4) :
    cmdLawProgLoad.body x b d = noWith st (le 1 c ++ zb 3 ++ le 4 o) d := by
  unfold cmdLawProgLoad cmdA
  dsimp only
  rw [hi]
  exact if_neg fun h => hc h.1

theorem lawProgLoad_loads {s : State} {r : AcpReq} {b : Bytes} (h : Plain s r b) (hi : s.dev.imageBad b = none) (hu : s.dev.lawBusy (u16 b 4) = false) :
    Begins (.lawProgLoad r) 0x0802 r s (0x0802, u16 b 4) (fun t => At none s.dev.sch.prog t.dev.sch.prog (u16 b 4) (some (progOf b)) ∧
      (∀ e, e < 8 → (s.dev.eng e).st ≠ .retired → t.dev.eng e = (s.dev.eng e).loadImage b) ∧
      (∀ e, e < 8 → (s.dev.eng e).st = .retired → t.dev.eng e = s.dev.eng e) ∧ Frame [.law, .sch] s t) := by
  obtain ⟨l, hl, heng⟩ := loadAll_law b ((taken s.dev r).withProg b)
  have hold : ∀ e, ((taken s.dev r).withProg b).eng e = s.dev.eng e := fun _ => rfl
  refine (begins_of_jobs (c := cmdLawProgLoad) (w := [.law, .sch]) (l := l) (x := ((taken s.dev r).withProg b).sch)
    (eff := fun t => t.dev.sch = ((taken s.dev r).withProg b).sch ∧ t.dev.law = l) h rfl
    ((cmdLawProgLoad_loads _ ((taken_imageBad _ _ _).trans hi) hu).trans (congrArg _ hl)) (fun t hlaw hsch => ⟨hsch, hlaw⟩) (.inl (by decide)) (.inl (by decide))).mono ?_
  rintro t ⟨⟨hsch, hlaw⟩, hf⟩
  rw [hsch]
  refine ⟨at_tput none s.dev.sch.prog (u16 b 4) (some (progOf b)), fun e he hst => ?_, fun e he hst => ?_, hf⟩
  all_goals rw [Dev.eng, hlaw, heng e he, hold]
  · exact if_neg (by simpa using hst)
  · exact if_pos (by simpa using hst)

theorem lawProgLoad_refuses {s : State} {r : AcpReq} {b : Bytes} {c o st : Nat} (h : Plain s r b) (hi : s.dev.imageBad b = some (c, o, st))
    (hc : c ≠ 4) : Refuses (.lawProgLoad r) 0x0802 r s st (le 1 c ++ zb 3 ++ le 4 o) (Frame [] s) :=
  refuses_of_nothing (c := cmdLawProgLoad) h rfl (cmdLawProgLoad_refuses _ ((taken_imageBad _ _ _).trans hi) hc) (imageBad_status hi)

theorem lawProgUnload_unloads : Sets .lawProgUnload 0x0803 [.sch] (fun b s => b.length = 4 ∧ u16 b 2 = 0 ∧ (s.dev.prog (u16 b 0)).isSome = true ∧
      ∀ l, l < 32 → (s.dev.unit 1 l).st ≠ .stopped → (s.dev.layout l).law ≠ u16 b 0) (fun _ _ => [])
    (fun b s t => At none s.dev.sch.prog t.dev.sch.prog (u16 b 0) none) := by
  rintro s r b h ⟨hl, hz, hp, hu⟩
  have hbusy : (taken s.dev r).lawBusy (u16 b 0) = false := busyLayouts_any fun l hl hst => beq_eq_false_iff_ne.mpr (hu l hl hst)
  have hprog : ((taken s.dev r).prog (u16 b 0)).isNone = false := by rw [Option.isNone_eq_false_iff]; exact hp
  refine answers_of_jobs (c := cmdLawProgUnload) h rfl (checks_pass _ _ ?_) (fun t _ ht _ => ?_) (hsch := .inl (by decide))
  · simp [hl, hbusy, hprog, rsv_of_zero (n := 2) hz]
  · beta_reduce; rw [ht]; exact at_tdel _ _ _

theorem lawProgList_reads : Reads .lawProgList 0x0804 (fun b _ => b = []) (fun _ s => (rangeFrom 0 64).flatMap (fun i => match s.dev.prog (0x100 + i) with
    | some g => le 2 (0x100 + i) ++ le 2 g.version ++ le 2 g.codeBase ++ le 2 g.codeLimit ++ le 4 g.crc.toNat ++ le 4 g.wcet.toNat
    | none => zb 16)) := by
  rintro s r b h hb
  exact answers_of_read (c := cmdLawProgList) h rfl (checks_pass _ _ (by simp [hb]))

/-! ## Tables (06 R182) -/

/-- Words of a table of a law-address range. -/
def tableWords (b : Bytes) : List W32 := (chunks 4 (u32 b 4 / 4) (b.drop 8)).map (fun b => BitVec.ofNat 32 (leNat b))

theorem tableWords_getElem? (b : Bytes) {i : Nat} (h : i < u32 b 4 / 4) : (tableWords b)[i]? = some (BitVec.ofNat 32 (u32 b (8 + 4 * i))) := by
  rw [tableWords, List.getElem?_map, chunks_getElem? 4 _ h, List.drop_drop]
  rfl

theorem tableWords_length (b : Bytes) : (tableWords b).length = u32 b 4 / 4 := by rw [tableWords, List.length_map, chunks_length]

/-- A table that is empty, or lies apart from a range, shares no byte with it. -/
theorem table_apart {a n : Nat} {u : Nat × Nat} (h : u.2 = 0 ∨ a + n ≤ u.1 ∨ u.1 + u.2 ≤ a) : (decide (0 < u.2) && overlaps a n u.1 u.2) = false := by
  obtain h | h | h := h
  · rw [h]; rfl
  · rw [overlaps, decide_eq_false (Nat.not_lt.mpr h), Bool.and_false, Bool.and_false]
  · rw [overlaps, decide_eq_false (Nat.not_lt.mpr h), Bool.false_and, Bool.and_false]

theorem lawTableLoad_loads : Sets .lawTableLoad 0x0810 [.scb] (fun b s => b.length = 8 + u32 b 4 ∧ u32 b 0 % 4 = 0 ∧ 0 < u32 b 4 ∧ u32 b 4 % 4 = 0 ∧
      s.dev.lawRegion (u32 b 0) (u32 b 4) = true ∧
      ∀ l, l < 32 → (s.dev.unit 1 l).st ≠ .stopped → ∀ u ∈ [s.dev.tableOf l, s.dev.tableOf (s.dev.leadOf l)],
        u.2 = 0 ∨ u32 b 0 + u32 b 4 ≤ u.1 ∨ u.1 + u.2 ≤ u32 b 0) (fun _ _ => [])
    (fun b s t => (∀ i, i < u32 b 4 / 4 → t.dev.scrWord ((u32 b 0 - 0x100000) / 4 + i) = BitVec.ofNat 32 (u32 b (8 + 4 * i))) ∧
      ∀ w, (w < (u32 b 0 - 0x100000) / 4 ∨ (u32 b 0 - 0x100000) / 4 + u32 b 4 / 4 ≤ w) → t.dev.scrWord w = s.dev.scrWord w) := by
  rintro s r b h ⟨hl, ha, hn, hn4, hregion, htables⟩
  have hhit : s.dev.busyLayouts.any (fun l =>
      (decide (0 < (s.dev.tableOf (s.dev.leadOf l)).2) && overlaps (u32 b 0) (u32 b 4) (s.dev.tableOf (s.dev.leadOf l)).1 (s.dev.tableOf (s.dev.leadOf l)).2) ||
      (decide (0 < (s.dev.tableOf l).2) && overlaps (u32 b 0) (u32 b 4) (s.dev.tableOf l).1 (s.dev.tableOf l).2)) = false :=
    busyLayouts_any fun l hl hst => Bool.or_eq_false_iff.mpr
      ⟨table_apart (htables l hl hst _ (by simp)), table_apart (htables l hl hst _ (by simp))⟩
  refine answers_of_jobs (c := cmdLawTableLoad) (k := (putScr (tableWords b) ((u32 b 0 - 0x100000) / 4) (taken s.dev r)).scb) h rfl
    ((checks_pass _ _ ?_).trans (congrArg ok (putScr_eq _ _ _))) (fun t _ _ ht => ?_) (hscb := .inl (by decide))
  · refine List.forall_mem_cons.mpr ⟨?_, List.forall_mem_cons.mpr ⟨?_, List.forall_mem_singleton.mpr (Bool.or_eq_false_iff.mpr ⟨?_, hhit⟩)⟩⟩
    · simp [hl]
    · simp [ha, hn4, Nat.ne_of_gt hn]
    · rw [show (taken s.dev r).lawRegion (u32 b 0) (u32 b 4) = true from hregion]; rfl
  · have hword : ∀ w, t.dev.scrWord w = (putScr (tableWords b) ((u32 b 0 - 0x100000) / 4) (taken s.dev r)).scrWord w :=
      scrWord_of_bank (congrArg Scb.bank ht)
    refine ⟨fun i hi => ?_, fun w hw => ?_⟩
    · rw [hword, scrWord_putScr, if_pos (Nat.le_add_right _ _), Nat.add_sub_cancel_left, tableWords_getElem? b hi]; rfl
    · rw [hword, scrWord_putScr]
      obtain hlt | hge := hw
      · exact if_neg (Nat.not_le.mpr hlt)
      · rw [List.getElem?_eq_none (by rw [tableWords_length]; exact Nat.le_sub_of_add_le' hge)]
        exact ite_self _

/-! ## Engines (06 R179) -/

theorem lawEngineSet_enables {s : State} {r : AcpReq} {b : Bytes} (h : Plain s r b) (hl : b.length = 4) (he : u8 b 0 ≤ 7) (h1 : u8 b 1 = 1)
    (hz : u16 b 2 = 0) (hst : (s.dev.eng (u8 b 0)).st ≠ .retired) (hw : Unawaited s (0x0830, u8 b 0)) :
    Answers (.lawEngineSet r) 0x0830 r s [] (fun t =>
      At {} s.dev.law t.dev.law (u8 b 0) { s.dev.eng (u8 b 0) with runEn := true, disabling := false } ∧ Frame [.law] s t) := by
  have hb : ∀ x, cmdLawEngineSet.body x b (taken s.dev r) =
      ok ((taken s.dev r).setEng (u8 b 0) { s.dev.eng (u8 b 0) with runEn := true, disabling := false }) := fun x => by
    refine (checks_pass _ _ ?_).trans ?_
    · have hret : (taken s.dev r).eng (u8 b 0) = s.dev.eng (u8 b 0) := rfl
      simp [hl, he, h1, hret, hst, rsv_of_zero (n := 2) hz]
    · rw [h1]
      exact congrArg ok (finish_unawaited 0 [] hw rfl)
  exact answers_of_eng (c := cmdLawEngineSet) h rfl (hb _)

section
variable {s : State} {r : AcpReq} {b : Bytes} {e : Nat}

/-- 06 R179: an engine that is not the last one at work may be disabled. -/
theorem not_last {d : Dev} (hk : ∃ k, k < 8 ∧ k ≠ e ∧ (d.eng k).enabled = true ∧ (d.eng k).disabling = false) :
    (rangeFrom 0 8).any (fun k => k != e && (d.eng k).enabled && !(d.eng k).disabling) = true := by
  obtain ⟨k, hk, hne, hen, hdis⟩ := hk
  refine List.any_eq_true.mpr ⟨k, ?_, by simp [hne, hen, hdis]⟩
  rw [rangeFrom_eq_range']
  exact List.mem_range'_1.mpr ⟨Nat.zero_le k, by omega⟩

/-- LAW_ENGINE_SET that disables an engine with an empty slot: an idle one at once, another as its job ends. -/
theorem cmdLawEngineSet_disables (x : Ctx) (hl : b.length = 4) (hb : e = u8 b 0) (he : e ≤ 7) (h1 : u8 b 1 = 0) (hz : u16 b 2 = 0)
    (hst : (s.dev.eng e).st ≠ .retired) (hrun : (s.dev.eng e).runEn = true)
    (hk : ∃ k, k < 8 ∧ k ≠ e ∧ (s.dev.eng k).enabled = true ∧ (s.dev.eng k).disabling = false) (hslot : (s.dev.eng e).slot = none) :
    cmdLawEngineSet.body x b (taken s.dev r) = if (s.dev.eng e).run.isNone && (s.dev.eng e).coll.isNone
      then ok ((taken s.dev r).setEng e { s.dev.eng e with slot := none, runEn := false, disabling := false })
      else later (0x0830, e) [] ((taken s.dev r).setEng e { s.dev.eng e with slot := none, disabling := true }) := by
  subst hb
  have heng : ∀ k, (taken s.dev r).eng k = s.dev.eng k := fun _ => rfl
  refine (checks_pass _ _ ?_).trans ?_
  · simp [hl, he, h1, heng, hst, not_last hk, rsv_of_zero (n := 2) hz]
  · refine (if_neg (by simp [h1])).trans ((if_neg (by simp [heng, hrun])).trans ?_)
    rw [heng, hslot]

theorem lawEngineSet_disables (h : Plain s r b) (hl : b.length = 4) (hb : e = u8 b 0) (he : e ≤ 7) (h1 : u8 b 1 = 0) (hz : u16 b 2 = 0)
    (hst : (s.dev.eng e).st ≠ .retired) (hrun : (s.dev.eng e).runEn = true)
    (hk : ∃ k, k < 8 ∧ k ≠ e ∧ (s.dev.eng k).enabled = true ∧ (s.dev.eng k).disabling = false) (hslot : (s.dev.eng e).slot = none) :
    ((s.dev.eng e).run = none → (s.dev.eng e).coll = none → Answers (.lawEngineSet r) 0x0830 r s [] (fun t =>
      At {} s.dev.law t.dev.law e { s.dev.eng e with slot := none, runEn := false, disabling := false } ∧ Frame [.law] s t)) ∧
    ((s.dev.eng e).run ≠ none → Begins (.lawEngineSet r) 0x0830 r s (0x0830, e) (fun t =>
      At {} s.dev.law t.dev.law e { s.dev.eng e with slot := none, disabling := true } ∧ Frame [.law] s t)) := by
  have hbody := fun x => cmdLawEngineSet_disables (r := r) x hl hb he h1 hz hst hrun hk hslot
  refine ⟨fun hr hc => answers_of_eng (c := cmdLawEngineSet) h rfl ((hbody _).trans (if_pos (by rw [hr, hc]; rfl))),
    fun hr => begins_of_eng (c := cmdLawEngineSet) h rfl ((hbody _).trans (if_neg (by simp [hr])))⟩

/-! ## Test jobs (06 R180) -/

theorem lawTestRun_starts {j : Job} (h : Plain s r b) (hl : b.length = 72) (hb : e = u8 b 0) (he : e ≤ 7) (hz : uN 3 b 1 = 0)
    (hj : j = jobOfDesc (b.drop 8) (u32 b 4)) (hn : 0 < j.nOut) (hn' : j.nOut ≤ 512)
    (hlaw : (1 ≤ j.law ∧ j.law ≤ 6) ∨ (s.dev.prog j.law).isSome = true) (hst : (s.dev.eng e).st = .idle) (hrun : (s.dev.eng e).runEn = false) :
    Begins (.lawTestRun r) 0x0831 r s (0x0831, e) (fun t => (t.dev.eng e).run = some j ∧ (t.dev.eng e).st = .job ∧
      (t.dev.eng e).pc = (s.dev.jobProg j.law).entry ∧ (∀ i, i < 16 → tget 0 (t.dev.eng e).frame i = BitVec.ofNat 32 (u32 b (8 + 4 * i))) ∧
      Frame [.law] s t) := by
  subst hb hj
  have heng : (taken s.dev r).eng (u8 b 0) = s.dev.eng (u8 b 0) := rfl
  have hmodel : (decide (1 ≤ (jobOfDesc (b.drop 8) (u32 b 4)).law ∧ (jobOfDesc (b.drop 8) (u32 b 4)).law ≤ 6) ||
      (s.dev.prog (jobOfDesc (b.drop 8) (u32 b 4)).law).isSome) = true := by simpa using hlaw
  refine (begins_of_eng (c := cmdLawTestRun) h rfl (checks_pass _ _ ?_)).mono ?_
  · refine List.forall_mem_cons.mpr ⟨by simp [hl], List.forall_mem_cons.mpr ⟨?_, by simp [heng, hst, hrun]⟩⟩
    refine Bool.or_eq_false_iff.mpr ⟨?_, congrArg (!·) hmodel⟩
    simp [he, rsv_of_zero hz, Nat.ne_of_gt hn, hn']
  · rintro t ⟨⟨hx, -⟩, hf⟩
    rw [Dev.eng, hx]
    refine ⟨rfl, rfl, rfl, fun i hi => ?_, hf⟩
    rw [← u32_drop]
    exact frameFor_desc _ _ hi

/-! ## Debug (05 R155, R156, 06 R181) -/

theorem lawDebug_reads {v : Nat} (h : Plain s r b) (hl : b.length = 12) (hb : e = u8 b 0) (he : e ≤ 7) (h1 : u8 b 1 = 0) (hz : u16 b 2 = 0)
    (ha : u32 b 4 % 4 = 0) (hv : (s.dev.eng e).reg (u32 b 4) = some v) (hst : (s.dev.eng e).st ≠ .retired) (hrun : (s.dev.eng e).runEn = false) :
    Answers (.lawDebug r) 0x0832 r s (le 4 v) (Frame [] s) := by
  subst hb
  have heng : (taken s.dev r).eng (u8 b 0) = s.dev.eng (u8 b 0) := rfl
  refine answers_of_read (c := cmdLawDebug) h rfl ((checks_pass _ _ ?_).trans ?_)
  · simp [hl, he, h1, heng, ha, hv, hst, hrun, rsv_of_zero (n := 2) hz]
  · simp [h1, heng, hv]

/-- The engine with a data register written. -/
def LawEng.putData (x : LawEng) (k : Nat) (v : W32) : LawEng := { x with pd := tput 0 x.pd k v }

section
variable {x : LawEng} {o : Nat} (hlo : 0x100 ≤ o) (hhi : o < 0x180)

include hlo in
theorem not_in_below {k l : Nat} (hl : l ≤ 0x100) : ¬ (k ≤ o ∧ o < l) := fun h => Nat.not_lt.mpr (hl.trans hlo) h.2

include hhi in
theorem not_in_above {k l : Nat} (hk : 0x180 ≤ k) : ¬ (k ≤ o ∧ o < l) := fun h => Nat.not_le.mpr (hhi.trans_le hk) h.1

include hlo hhi

/-- The data registers stand at 0x100 (05 Table 5.15). -/
theorem reg_data : (x.reg o).isSome = true :=
  congrArg Option.isSome ((if_neg (not_in_above hhi (by decide))).trans ((if_neg (not_in_below hlo (by decide))).trans
    ((if_neg (not_in_below hlo (by decide))).trans (if_pos ⟨hlo, hhi⟩))))

/-- A write of a data register of a HALTED engine is not ignored. -/
theorem writeIgnored_data (hst : x.st = .halted) (v : W32) : x.writeIgnored o v = false :=
  (if_neg (Nat.ne_of_gt (Nat.zero_lt_of_lt hlo))).trans ((if_neg (not_in_below hlo (by decide))).trans
    ((if_pos ⟨hlo, hhi.trans (by decide)⟩).trans (by rw [hst]; rfl)))

theorem lawRegWrite_data {d : Dev} (hst : (d.eng e).st = .halted) (v : W32) :
    lawRegWrite e o v d = d.setEng e ((d.eng e).putData ((o - 0x100) / 4) v) :=
  (if_neg (Bool.eq_false_iff.mp (writeIgnored_data hlo hhi hst v))).trans ((if_neg (Nat.ne_of_gt (Nat.zero_lt_of_lt hlo))).trans
    (congrArg (d.setEng e) ((if_neg (not_in_above hhi (by decide))).trans ((if_neg (not_in_below hlo (by decide))).trans
      ((if_neg (not_in_below hlo (by decide))).trans (if_pos ⟨hlo, hhi⟩))))))

end

theorem lawDebug_writes (h : Plain s r b) (hl : b.length = 12) (hb : e = u8 b 0) (he : e ≤ 7) (h1 : u8 b 1 = 1) (hz : u16 b 2 = 0)
    (hn : ∃ n, n < 32 ∧ u32 b 4 = 0x100 + 4 * n) (hst : (s.dev.eng e).st = .halted) (hrun : (s.dev.eng e).runEn = false) :
    Answers (.lawDebug r) 0x0832 r s (le 4 (u32 b 8)) (fun t =>
      At 0 (s.dev.eng e).pd (t.dev.eng e).pd ((u32 b 4 - 0x100) / 4) (BitVec.ofNat 32 (u32 b 8)) ∧ Frame [.law] s t) := by
  subst hb
  obtain ⟨n, hn, ho⟩ := hn
  have hlo : 0x100 ≤ u32 b 4 := ho ▸ Nat.le_add_right _ _
  have hhi : u32 b 4 < 0x180 := ho ▸ Nat.add_lt_add_left (Nat.mul_lt_mul_of_pos_left hn (by decide)) _
  have hword4 : u32 b 4 % 4 = 0 := by rw [ho]; exact Nat.add_mul_mod_self_left 0x100 4 n
  have heng : (taken s.dev r).eng (u8 b 0) = s.dev.eng (u8 b 0) := rfl
  have hword : (BitVec.ofNat 32 (u32 b 8)).toNat = u32 b 8 := by rw [BitVec.toNat_ofNat, Nat.mod_eq_of_lt (u32_lt b 8)]
  have hreg : ((s.dev.eng (u8 b 0)).reg (u32 b 4)).isNone = false := by rw [Option.isNone_eq_false_iff]; exact reg_data hlo hhi
  refine (answers_of_eng (c := cmdLawDebug) (e := u8 b 0)
    (z := (s.dev.eng (u8 b 0)).putData ((u32 b 4 - 0x100) / 4) (BitVec.ofNat 32 (u32 b 8))) h rfl ((checks_pass _ _ ?_).trans ?_)).mono ?_
  · simp only [hl, h1, heng, hst, hrun, hreg, writeIgnored_data hlo hhi hst, rsv_of_zero (n := 2) hz, hword4]
    simp [he]
  · simp only [h1, hword]
    rw [lawRegWrite_data hlo hhi (by rw [heng]; exact hst)]
    rfl
  · rintro t ⟨⟨hx, -⟩, hf⟩
    rw [Dev.eng, Dev.eng, hx]
    exact ⟨at_tput _ _ _ _, hf⟩

theorem lawDebug_resumes (h : Plain s r b) (hl : b.length = 12) (hb : e = u8 b 0) (he : e ≤ 7) (h1 : u8 b 1 = 4) (hz : u16 b 2 = 0)
    (hd : (s.dev.eng e).dbg = true) (hst : (s.dev.eng e).st = .halted) : Answers (.lawDebug r) 0x0832 r s (le 4 0) (fun t =>
      At {} s.dev.law t.dev.law e { s.dev.eng e with st := if (s.dev.eng e).inHandler then .handler else .job, resumed := true } ∧ Frame [.law] s t) := by
  subst hb
  have heng : (taken s.dev r).eng (u8 b 0) = s.dev.eng (u8 b 0) := rfl
  have hrun : (s.dev.eng (u8 b 0)).runEn = false := by
    simp only [LawEng.dbg, Bool.and_eq_true, Bool.not_eq_true'] at hd
    obtain ⟨⟨⟨-, hoff⟩, -⟩, -⟩ := hd
    exact hoff
  refine answers_of_eng (c := cmdLawDebug) h rfl ((checks_pass _ _ ?_).trans ?_)
  · simp [hl, he, h1, heng, hst, hrun, hd, rsv_of_zero (n := 2) hz]
  · simp only [h1]
    exact congrArg (okData _) (lawResume_halted (d := taken s.dev r) hd hst)

end

theorem lawStatsGet_reads : Reads .lawStatsGet 0x0833 (fun b _ => b.length = 4 ∧ u8 b 0 ≤ 7 ∧ uN 3 b 1 = 0) (fun b s => le 4 (s.dev.eng (u8 b 0)).st.code
    ++ le 8 (s.dev.eng (u8 b 0)).busy ++ words [(s.dev.eng (u8 b 0)).faults.toNat, (s.dev.eng (u8 b 0)).aovJobs.toNat,
      (s.dev.eng (u8 b 0)).eccCorr.toNat, (s.dev.eng (u8 b 0)).eccUncorr.toNat]) := by
  rintro s r b h ⟨hl, he, hz⟩
  exact answers_of_read (c := cmdLawStatsGet) h rfl (checks_pass _ _ (by simp [hl, he, rsv_of_zero hz]))

/-! ## The scheduler (06 R169 to R171) -/

theorem schConfig_keeps : Sets .schConfig 0x0820 [.sch] (fun b _ => b.length = 4 ∧ u8 b 2 ≤ 3 ∧ u8 b 3 = 0) (fun _ _ => [])
    (fun b s t => t.dev.sch = { s.dev.sch with affWait := u16 b 0, traceMode := u8 b 2 }) := by
  rintro s r b h ⟨hl, h2, h3⟩
  exact answers_of_jobs (c := cmdSchConfig) h rfl ((checks_pass _ _ (by simp [hl, h2, h3])).trans (congrArg ok (if_neg (by simp [h3]))))
    (fun _ _ ht _ => ht) (hsch := .inl (by decide))

theorem schConfig_clears : Sets .schConfig 0x0820 [.sch] (fun b _ => b.length = 4 ∧ u8 b 2 ≤ 3 ∧ u8 b 3 = 1) (fun _ _ => [])
    (fun b s t => t.dev.sch = { s.dev.sch with affWait := u16 b 0, traceMode := u8 b 2, trace := [], traceWr := 0, traceWrapped := false,
                                               traceStop := false }) := by
  rintro s r b h ⟨hl, h2, h3⟩
  exact answers_of_jobs (c := cmdSchConfig) h rfl ((checks_pass _ _ (by simp [hl, h2, h3])).trans (congrArg ok (if_pos h3)))
    (fun _ _ ht _ => ht) (hsch := .inl (by decide))

theorem schStatusGet_restarts : Sets .schStatusGet 0x0821 [.sch] (fun b _ => b = []) (fun _ s => le 1 s.dev.nEn ++ le 1 (b01 (decide (5 ≤ s.dev.nEn)))
      ++ le 2 s.dev.sch.queue.length ++ le 2 s.dev.sch.qMax ++ zb 2 ++ words [s.dev.sch.issued.toNat, s.dev.sch.done.toNat, s.dev.sch.full.toNat,
        s.dev.sch.miss.toNat, s.dev.sch.affine.toNat, s.dev.sch.waited.toNat])
    (fun _ s t => t.dev.sch = { s.dev.sch with qMax := 0 }) := by
  rintro s r b h hb
  exact answers_of_jobs (c := cmdSchStatusGet) h rfl (checks_pass _ _ (by simp [hb])) (fun _ _ ht _ => ht) (hsch := .inl (by decide))

theorem schTraceRead_reads : Reads .schTraceRead 0x0822 (fun b _ => b.length = 4 ∧ 0 < u16 b 2 ∧ u16 b 2 ≤ 2048) (fun b s =>
    le 2 s.dev.sch.traceWr ++ le 2 (b01 s.dev.sch.traceWrapped)
      ++ (rangeFrom (u16 b 0) (u16 b 2)).flatMap (fun i => (tget {} s.dev.sch.trace (i % 2048)).bytes)) := by
  rintro s r b h ⟨hl, hn, hn'⟩
  exact answers_of_read (c := cmdSchTraceRead) h rfl (checks_pass _ _ (by simp [hl, Nat.ne_of_gt hn, hn']))

/-! ## The obligation -/

/-- Settles O36, from the lemmas above, a part of the statement each. -/
theorem lawCommands : Obligations.LawCommands :=
  ⟨lawBind_sets, lawBindGet_reads, fun _ _ _ h hi hu => lawProgLoad_loads h hi hu, fun _ _ _ _ _ _ h hi hc => lawProgLoad_refuses h hi hc,
   lawProgUnload_unloads, lawProgList_reads, lawTableLoad_loads,
   fun _ _ _ h hl he h1 hz hst hw => lawEngineSet_enables h hl he h1 hz hst hw,
   fun _ _ _ _ h hl hb he h1 hz hst hrun hk hslot => lawEngineSet_disables h hl hb he h1 hz hst hrun hk hslot,
   fun _ _ _ _ _ h hl hb he hz hj hn hn' hlaw hst hrun => lawTestRun_starts h hl hb he hz hj hn hn' hlaw hst hrun,
   fun _ _ _ _ _ h hl hb he h1 hz ha hv hst hrun => lawDebug_reads h hl hb he h1 hz ha hv hst hrun,
   fun _ _ _ _ h hl hb he h1 hz hn hst hrun => lawDebug_writes h hl hb he h1 hz hn hst hrun,
   fun _ _ _ _ h hl hb he h1 hz hd hst => lawDebug_resumes h hl hb he h1 hz hd hst,
   lawStatsGet_reads, schConfig_keeps, schConfig_clears, schStatusGet_restarts, schTraceRead_reads⟩

end Sys2Proof.Machine
end

section
/-! PROOFS. What becomes of lanes: late lanes, memory errors, self-tests and takeovers (O37). -/

open Sys2Proof

namespace Sys2Proof.Machine

/-! ## Events of the render fabric -/

/-- One lane written: it is as written, and every other lane as it was. -/
theorem laneIs_of_setLane {s t : State} {p : Nat} {x : Lane} (h : t.dev.rnd.lane = (s.dev.setLane p x).rnd.lane) : LaneIs s t p x := by
  have hlane : ∀ q, t.dev.lane q = (s.dev.setLane p x).lane q := fun q => by rw [Dev.lane, h, Dev.lane]
  exact ⟨(hlane p).trans (Dev.setLane_lane _ _ _), fun q hq => (hlane q).trans (Dev.setLane_lane_other _ _ hq)⟩

/-- An event that changes the render fabric, the health counts, the store, the pair and the held events changes no other kind of state; each
of the health counts, the store and the pair is named in `w` or stays. -/
theorem does_fabric {i : Instr} {w : List Part} {s : State} {d : Dev} {eff : State → Prop} (hi : exec i s = .next (leaves s d))
    (hd : d = { s.dev with rnd := d.rnd, hlt := d.hlt, store := d.store, pair := d.pair,
                           hst := { s.dev.hst with evq := d.hst.evq, evLost := d.hst.evLost } })
    (he : eff (leaves s d)) (hrnd : Part.rnd ∈ w := by decide) (hhlt : Part.hlt ∈ w ∨ d.hlt = s.dev.hlt := by exact .inr rfl)
    (hstore : Part.store ∈ w ∨ d.store = s.dev.store := by exact .inr rfl) (hpair : Part.pair ∈ w ∨ d.pair = s.dev.pair := by exact .inr rfl) :
    Does i w s eff :=
  does_leaves hi (by rw [hd]) (fun p hp => by
    rw [hd]
    cases p
    case rnd => exact absurd hrnd hp
    case hlt => exact congrArg (fun h : Hlt => { h with flags := s.dev.hlt.flags }) (hhlt.resolve_left hp)
    case store => exact hstore.resolve_left hp
    case pair => exact congrArg (fun x : Pair => { x with flt := s.dev.pair.flt }) (hpair.resolve_left hp)
    case rings => exact ⟨rfl, rfl, rfl, rfl, rfl, rfl⟩
    case irq => exact ⟨rfl, rfl, rfl⟩
    case mbox => exact fun _ => rfl
    all_goals rfl) he

/-- An event that sets the render fabric alone. -/
theorem does_rnd {i : Instr} {s : State} {x : Rnd} {eff : State → Prop} (hi : exec i s = .next (leaves s { s.dev with rnd := x }))
    (he : ∀ t : State, t.dev.rnd = x → eff t) : Does i [.rnd] s eff :=
  does_fabric hi rfl (he _ (leaves_rnd _ _))

/-- An event that sets the render fabric and then strikes a channel. -/
theorem does_rnd_struck {i : Instr} {s : State} {c src det : Nat} {x : Rnd} {eff : State → Prop} (h : Strikable s c)
    (hi : exec i s = .next (leaves s (Dev.strike { s.dev with rnd := x } c src det)))
    (he : ∀ t : State, t.dev.rnd = x → Struck s t c → eff t) : Does i [.rnd, .hlt] s eff := by
  obtain ⟨l, hl, hch⟩ := h.strikeBy_eq (d := { s.dev with rnd := x }) (fun d => d.retire c 1) src det rfl rfl
  rw [Dev.strike, hl] at hi
  exact does_fabric hi rfl (he _ (leaves_rnd _ _) ((leaves_chan _ _ _).trans hch)) (hhlt := .inl (by decide))

/-! ## Late lanes (01 Table 1.7) -/

section
variable {s : State} {p : Nat}

theorem rndDeadline_late (hp : p < 68) (hl : (s.dev.lane p).logical ≠ none) (hn : (s.dev.lane p).lateNow = false)
    (he : (s.dev.unit 0 0).emits (s.dev.tim.tick + 1) = true) (hk : Strikable s p) : Does (.rndDeadline p) [.rnd, .hlt] s (fun t =>
      LaneIs s t p { s.dev.lane p with lateNow := true, late := (s.dev.lane p).late + 1 } ∧ t.dev.rnd.missed = true ∧ Struck s t p) :=
  does_rnd_struck (x := (s.dev.laneLate p).rnd) hk (run_below (f := rndDeadline p) hp (if_neg (by simp [hl, hn, he]))) fun t ht hs =>
    ⟨laneIs_of_setLane (by rw [ht]; rfl), by rw [ht]; rfl, hs⟩

theorem rndDeadline_passes (hp : p < 68) (h : (s.dev.lane p).logical = none ∨ (s.dev.lane p).lateNow = true) :
    Does (.rndDeadline p) [] s (fun _ => True) :=
  does_nothing (run_below (f := rndDeadline p) hp (if_pos (by rcases h with h | h <;> simp [h])))

/-! ## Memory errors (07 R201, 17 R434) -/

theorem memoryScrub_leaves {path : Bool} {addr : Nat} {e : EccErr} {d : Dev} (hp : p < 68) (ha : addr < laneWords path)
    (h : memoryScrub p path addr e s.dev = d) : exec (.memoryScrub p path addr e) s = .next (leaves s d) := by
  show run (decide (p < 68) && decide (addr < laneWords path)) _ s = _
  rw [decide_eq_true hp, decide_eq_true ha]
  exact run_leaves h

theorem memoryScrub_corrects {path : Bool} {addr : Nat} (hp : p < 68) (ha : addr < laneWords path) (hs : s.dev.rnd.scrub = true)
    (hst : (s.dev.lane p).st ≠ .retired) : Does (.memoryScrub p path addr .single) [.rnd] s (fun t =>
      LaneIs s t p { s.dev.lane p with eccCorr := (s.dev.lane p).eccCorr + 1 }) :=
  does_rnd (x := (s.dev.setLane p { s.dev.lane p with eccCorr := (s.dev.lane p).eccCorr + 1 }).rnd)
    (memoryScrub_leaves hp ha ((if_neg (by simp [hs])).trans ((if_neg (by simpa using hst)).trans rfl)))
    fun t ht => laneIs_of_setLane (by rw [ht])

theorem memoryScrub_passes {path : Bool} {addr : Nat} {e : EccErr} (hp : p < 68) (ha : addr < laneWords path)
    (h : s.dev.rnd.scrub = false ∨ e = .none) : Does (.memoryScrub p path addr e) [] s (fun _ => True) := by
  refine does_nothing (memoryScrub_leaves hp ha ?_)
  obtain h | rfl := h
  · exact if_pos (by simp [h])
  · exact ite_self _

/-- A lane with one more uncorrectable error, in path word `addr` at time `now`. -/
def Lane.pathUncorr (x : Lane) (addr now : Nat) : Lane := { x with eccUncorr := x.eccUncorr + 1, bad := (1, addr, now) :: x.bad }

/-- The fabric with path entry `key` silent for the block and given a cold rotation (07 R201). -/
def Rnd.silence (x : Rnd) (key : Nat) : Rnd :=
  { x with mute := x.mute ++ [key], cold := if x.cold.contains key then x.cold else x.cold ++ [key] }

theorem Rnd.mem_silence_cold (x : Rnd) (key : Nat) : key ∈ (x.silence key).cold := by
  show key ∈ ite _ _ _
  split
  · next h => exact List.contains_iff_mem.mp h
  · exact List.mem_append_right _ (List.mem_singleton_self _)

/-- The first uncorrectable error in a path word silences its path and strikes its lane. -/
theorem laneUncorr_path {d : Dev} {addr l : Nat} (hl : (d.lane p).logical = some l) (hb : ∀ b ∈ (d.lane p).bad, b.1 ≠ 1 ∨ b.2.1 ≠ addr) :
    laneUncorr p true addr d =
      Dev.strike { d with rnd := (d.setLane p ((d.lane p).pathUncorr addr d.tim.now)).rnd.silence (8192 * l + addr / 8) } p 0 addr := by
  have hfresh : ∀ b ∈ (d.lane p).bad, (b.1 == b01 true && b.2.1 == addr) = false := fun b hm => by
    rw [Bool.and_eq_false_iff, beq_eq_false_iff_ne, beq_eq_false_iff_ne]
    exact hb b hm
  have hfilter : (d.lane p).bad.filter (fun b => !(b.1 == b01 true && b.2.1 == addr)) = (d.lane p).bad :=
    List.filter_eq_self.mpr fun b hm => by rw [hfresh b hm]; rfl
  have hany : ∀ now, (d.lane p).bad.any (fun b => b.1 == b01 true && b.2.1 == addr && decide (now ≤ b.2.2 + 2 * 10 ^ 9 * 2 ^ 40)) = false :=
    fun _ => List.any_eq_false.mpr fun b hm => by rw [hfresh b hm]; exact Bool.false_ne_true
  unfold laneUncorr
  simp only [hl, hfilter, Lane.pathUncorr, if_true]
  exact (if_neg (Bool.eq_false_iff.mp (hany _))).trans rfl

theorem memoryScrub_silences {addr l : Nat} (hp : p < 68) (ha : addr < laneWords true) (hs : s.dev.rnd.scrub = true)
    (hst : (s.dev.lane p).st ≠ .retired) (hl : (s.dev.lane p).logical = some l)
    (hb : ∀ b ∈ (s.dev.lane p).bad, b.1 ≠ 1 ∨ b.2.1 ≠ addr) (hk : Strikable s p) :
    Does (.memoryScrub p true addr .double) [.rnd, .hlt] s (fun t => Struck s t p ∧ 8192 * l + addr / 8 ∈ t.dev.rnd.mute ∧
      8192 * l + addr / 8 ∈ t.dev.rnd.cold ∧
      LaneIs s t p { s.dev.lane p with eccUncorr := (s.dev.lane p).eccUncorr + 1, bad := (1, addr, s.dev.tim.now) :: (s.dev.lane p).bad }) := by
  have hecc : memoryScrub p true addr .double s.dev = laneUncorr p true addr s.dev :=
    (if_neg (by simp [hs])).trans ((if_neg (by simpa using hst)).trans (if_pos rfl))
  refine does_rnd_struck hk (memoryScrub_leaves hp ha (hecc.trans (laneUncorr_path hl hb))) fun t ht hs => ⟨hs, ?_, ?_, laneIs_of_setLane ?_⟩
  · rw [ht]; exact List.mem_append_right _ (List.mem_singleton_self _)
  · rw [ht]; exact Rnd.mem_silence_cold _ _
  · rw [ht]; rfl

/-! ## Self-tests passed (07 R203 to R205) -/

/-- With no lane attached whose path memory is bad, no endpoint is written without the limit. -/
theorem freeEndpoints_sound {d : Dev} (h : ∀ a ∈ d.rnd.attachAt, (d.lane a.2.1).pathBad = false) : freeEndpoints d = d := by
  have hnone : d.rnd.attachAt.filter (fun a => a.2.2 == some (d.tim.tick + 2) && (d.lane a.2.1).pathBad) = [] :=
    List.filter_eq_nil_iff.mpr fun a ha => by simp [h a ha]
  unfold freeEndpoints
  simp only [hnone, List.map_nil, List.isEmpty_nil, Bool.true_or, if_true]

theorem laneSelfTestDone_leaves {pass : Bool} {d : Dev} (hp : p < 68) (h : selfTestDone p pass s.dev = d)
    (hs : ∀ a ∈ d.rnd.attachAt, (d.lane a.2.1).pathBad = false) : exec (.laneSelfTestDone p pass) s = .next (leaves s d) :=
  run_below (f := fun d => freeEndpoints (selfTestDone p pass d)) hp ((congrArg freeEndpoints h).trans (freeEndpoints_sound hs))

theorem laneSelfTestDone_fixes_migration {m : Migration} (hp : p < 68) (hst : (s.dev.lane p).st = .testing) (ha : s.dev.rnd.attachAt = [])
    (hm : s.dev.rnd.mig = some m) (hnew : m.new = p) (hb : m.block = none) (hd : m.done = false) :
    Does (.laneSelfTestDone p true) [.rnd] s (fun t => t.dev.rnd = { s.dev.rnd with
      mig := some { m with block := some (if s.dev.now16 ≤ boundT s.dev.rate s.dev.tim.tick then s.dev.tim.tick + 3 else s.dev.tim.tick + 4) } }) := by
  refine does_rnd (laneSelfTestDone_leaves hp ?_ ?_) fun _ ht => ht
  · simp [selfTestDone, hst, hm, hnew, hb, hd, ha]
  · simp [ha]

theorem laneSelfTestDone_fixes_attach {l : Nat} (hp : p < 68) (hst : (s.dev.lane p).st = .testing) (hm : s.dev.rnd.mig = none)
    (ha : s.dev.rnd.attachAt = [(p, l, none)]) (hl : (s.dev.lane l).pathBad = false) :
    Does (.laneSelfTestDone p true) [.rnd] s (fun t => t.dev.rnd = { s.dev.rnd with attachAt := [(p, l, some (s.dev.tim.tick + 2))] }) := by
  refine does_rnd (laneSelfTestDone_leaves hp ?_ ?_) fun _ ht => ht
  · simp [selfTestDone, hst, hm, ha]
  · exact List.forall_mem_singleton.mpr hl

theorem laneSelfTestDone_passes {ok : Bool} (hp : p < 68) (hst : (s.dev.lane p).st ≠ .testing) (ha : s.dev.rnd.attachAt = []) :
    Does (.laneSelfTestDone p ok) [] s (fun _ => True) :=
  does_nothing (laneSelfTestDone_leaves hp (if_pos (by simpa using hst)) (by simp [ha]))

end

/-! ## Retirement of a lane that serves nothing (17 R435, Table 17.2) -/

/-- An entry of the fault log changes the log and the store alone; the channels stay. -/
theorem logCh_eq (d : Dev) (c code cause src det : Nat) :
    ∃ l st, d.logCh c code cause src det = { d with hlt := l, store := st } ∧ l.ch = d.hlt.ch := by
  unfold Dev.logCh Dev.log
  dsimp only
  split
  · exact ⟨_, _, rfl, rfl⟩
  · exact ⟨_, d.store, rfl, rfl⟩

/-- 17 R435: a channel retired with a cause. -/
def Chan.retiredBy (x : Chan) (cause : Nat) : Chan := { x with retired := true, cause := cause, leak := false }

/-- 07 R203: a lane retired that served no logical lane. -/
def Lane.retiredSpare (x : Lane) : Lane := { x with st := .retired, logical := none, lastBlk := none }

section
variable {d : Dev} {p : Nat}

theorem retireLane_spare (now : Bool) (hl : (d.lane p).logical = none) (hm : d.rnd.mig = none) (ha : d.rnd.attachAt = []) :
    d.retireLane p now = d.setLane p (d.lane p).retiredSpare := by
  have hmig : (d.setLane p (d.lane p).retiredSpare).migLost p = d.setLane p (d.lane p).retiredSpare := by
    unfold Dev.migLost
    rw [show (d.setLane p (d.lane p).retiredSpare).rnd.mig = none from hm]
  have hattach : (d.setLane p (d.lane p).retiredSpare).attachLost p = d.setLane p (d.lane p).retiredSpare := by
    simp [Dev.attachLost, Dev.setLane, ha]
  unfold Dev.retireLane
  simp only [hl]
  exact (congrArg (·.attachLost p) hmig).trans hattach

theorem retireFx_lane (d : Dev) (hp : p < 68) (cause aux : Nat) : d.retireFx p cause aux = d.retireLane p (cause == 3) := by
  unfold Dev.retireFx
  rw [show chanKind p = 0 from if_pos hp]
  rfl

/-- A lane that serves nothing is retired for a failed self-test: the lane, its channel, the fault log, the store and the pair change, and
EV_UNIT_RETIRED tells of it. -/
theorem retire_spare (hp : p < 68) (hr : (d.chan p).retired = false) (hl : (d.lane p).logical = none) (hm : d.rnd.mig = none)
    (ha : d.rnd.attachAt = []) : ∃ l st pr, d.retire p 2 =
      Dev.raise { d with rnd := (d.setLane p (d.lane p).retiredSpare).rnd, hlt := l, store := st, pair := pr } 0x8F00 9
        (le 1 0 ++ le 1 2 ++ le 2 p ++ zb 4 ++ le 8 (d.tim.tick + 2)) ∧ l.ch = tput {} d.hlt.ch p ((d.chan p).retiredBy 2) := by
  have hkind : chanKind p = 0 := if_pos hp
  obtain ⟨l₁, st₁, hlog₁, hch₁⟩ := logCh_eq d p 2 2 0 0
  have hchan : ({ d with hlt := l₁, store := st₁ } : Dev).chan p = d.chan p := by rw [Dev.chan, hch₁, Dev.chan]
  obtain ⟨l₂, st₂, hlog₂, hch₂⟩ := logCh_eq
    { d with hlt := { l₁ with ch := tput {} l₁.ch p ((d.chan p).retiredBy 2) }, store := st₁ } p 3 2 0x8F00 0
  have hfx : ({ d with hlt := l₂, store := st₂ } : Dev).retireFx p 2 2 =
      ({ d with hlt := l₂, store := st₂ } : Dev).setLane p (d.lane p).retiredSpare :=
    (retireFx_lane _ hp 2 2).trans (retireLane_spare _ hl hm ha)
  obtain ⟨pr, hpair⟩ := spliceAgain_eq (({ d with hlt := l₂, store := st₂ } : Dev).setLane p (d.lane p).retiredSpare)
  have hone : d.retire1 p 2 2 = Dev.raise { d with rnd := (d.setLane p (d.lane p).retiredSpare).rnd, hlt := l₂, store := st₂, pair := pr } 0x8F00 9
      (le 1 0 ++ le 1 2 ++ le 2 p ++ zb 4 ++ le 8 (d.tim.tick + 2)) := by
    unfold Dev.retire1
    rw [if_neg (by simp [Dev.chRet, hr]), if_neg (by decide), hlog₁]
    dsimp only
    unfold Chan.retiredBy at hlog₂
    rw [hchan, hlog₂, hfx, hpair, chanGroup, hkind]
    rfl
  refine ⟨l₂, st₂, pr, ?_, hch₂.trans (by rw [hch₁])⟩
  unfold Dev.retire
  rw [hone, hkind]
  exact (if_neg (by omega)).trans (if_neg (fun h => absurd h.1 (by decide)))

end

theorem laneSelfTestDone_retires {s : State} {p : Nat} (hp : p < 68) (hst : (s.dev.lane p).st = .testing) (hl : (s.dev.lane p).logical = none)
    (hm : s.dev.rnd.mig = none) (ha : s.dev.rnd.attachAt = []) (hr : (s.dev.chan p).retired = false) :
    Does (.laneSelfTestDone p false) [.rnd, .hlt, .store, .pair] s (fun t => (t.dev.lane p).st = .retired ∧ (t.dev.chan p).retired = true ∧
      (t.dev.chan p).cause = 2 ∧ Raises s t 0x8F00 9 (le 1 0 ++ le 1 2 ++ le 2 p ++ zb 4 ++ le 8 (s.dev.tim.tick + 2))) := by
  obtain ⟨l, st, pr, hret, hch⟩ := retire_spare hp hr hl hm ha
  have hraise := raises_of_raise (s := s)
    (d := { s.dev with rnd := (s.dev.setLane p (s.dev.lane p).retiredSpare).rnd, hlt := l, store := st, pair := pr }) 0x8F00
    (le 1 0 ++ le 1 2 ++ le 2 p ++ zb 4 ++ le 8 (s.dev.tim.tick + 2)) (show 9 ≤ 254 by decide) rfl
  obtain ⟨q, n, hq⟩ := Dev.raise_eq { s.dev with rnd := (s.dev.setLane p (s.dev.lane p).retiredSpare).rnd, hlt := l, store := st, pair := pr }
    0x8F00 9 (le 1 0 ++ le 1 2 ++ le 2 p ++ zb 4 ++ le 8 (s.dev.tim.tick + 2))
  rw [hq] at hret hraise
  have hself : selfTestDone p false s.dev = s.dev.retire p 2 := (if_neg (by simp [hst])).trans (if_pos rfl)
  refine does_fabric (laneSelfTestDone_leaves hp (hself.trans hret) ?_) rfl ?_ (hhlt := .inl (by decide)) (hstore := .inl (by decide))
    (hpair := .inl (by decide))
  · intro a hmem
    exact absurd (show a ∈ s.dev.rnd.attachAt from hmem) (by simp [ha])
  · have hlane := Dev.setLane_lane s.dev p (s.dev.lane p).retiredSpare
    have hchan : tget {} l.ch p = (s.dev.chan p).retiredBy 2 := by rw [hch, tget_tput_self]
    refine ⟨?_, ?_, ?_, hraise⟩
    · rw [Dev.lane, leaves_rnd]; exact congrArg Lane.st hlane
    · rw [leaves_chan]; exact congrArg Chan.retired hchan
    · rw [leaves_chan]; exact congrArg Chan.cause hchan

/-! ## Takeovers (07 R204) -/

/-- A lane that serves nothing and is free. -/
def Lane.idled (x : Lane) : Lane := { x with st := .idle, logical := none, ownDelay := false, ownPath := false }

/-- At its takeover block a migration idles the old lane, and the new one serves. -/
theorem laneTakeover_migration {d : Dev} {m : Migration} (ha : d.rnd.attachAt = []) (hm : d.rnd.mig = some m) (hd : m.done = false)
    (hb : m.block = some (d.tim.tick + 2)) (hr : m.replan ≠ 1) : laneTakeover d =
      { d with rnd := { (((d.setLane m.old (d.lane m.old).idled).serve m.new m.logical).rnd) with mig := some { m with done := true } } } := by
  unfold laneTakeover takeover
  simp only [ha, List.foldl_nil, hm, hd, hb, bne_self_eq_false, Bool.or_false, Bool.false_eq_true, if_false, if_neg hr]
  rfl

theorem laneTakeover_moves {s : State} {m : Migration} (ha : s.dev.rnd.attachAt = []) (hm : s.dev.rnd.mig = some m) (hd : m.done = false)
    (hb : m.block = some (s.dev.tim.tick + 2)) (hne : m.old ≠ m.new) (hr : m.replan ≠ 1) : Does .laneTakeover [.rnd] s (fun t =>
      (t.dev.lane m.old).st = .idle ∧ (t.dev.lane m.old).logical = none ∧ (t.dev.lane m.new).st = .working ∧
      (t.dev.lane m.new).logical = some m.logical ∧ t.dev.rnd.mig = some { m with done := true } ∧
      ∀ q, q ≠ m.old → q ≠ m.new → t.dev.lane q = s.dev.lane q) := by
  refine does_rnd (run_leaves (laneTakeover_migration ha hm hd hb hr)) fun t ht => ?_
  have hlane : ∀ q, t.dev.lane q = ((s.dev.setLane m.old (s.dev.lane m.old).idled).serve m.new m.logical).lane q := fun q => by
    rw [Dev.lane, ht]; rfl
  have hold : t.dev.lane m.old = (s.dev.lane m.old).idled :=
    (hlane _).trans ((Dev.setLane_lane_other _ _ hne).trans (Dev.setLane_lane _ _ _))
  have hnew := (hlane m.new).trans (Dev.setLane_lane _ _ _)
  rw [hold, hnew]
  exact ⟨rfl, rfl, rfl, rfl, by rw [ht], fun q ho hn =>
    (hlane q).trans ((Dev.setLane_lane_other _ _ hn).trans (Dev.setLane_lane_other _ _ ho))⟩

theorem laneTakeover_passes {s : State} (ha : s.dev.rnd.attachAt = []) (hm : s.dev.rnd.mig = none) : Does .laneTakeover [] s (fun _ => True) :=
  does_nothing (run_leaves (f := laneTakeover) (by unfold laneTakeover takeover; simp only [ha, List.foldl_nil, hm]))

/-! ## The obligation -/

/-- Settles O37, from the lemmas above, a part of the statement each. -/
theorem laneEvents : Obligations.LaneEvents :=
  ⟨fun _ _ hp hl hn he hk => rndDeadline_late hp hl hn he hk,
   fun _ _ hp h => rndDeadline_passes hp h,
   fun _ _ _ _ hp ha hs hst => memoryScrub_corrects hp ha hs hst,
   fun _ _ _ _ _ hp ha h => memoryScrub_passes hp ha h,
   fun _ _ _ _ hp ha hs hst hl hb hk => memoryScrub_silences hp ha hs hst hl hb hk,
   fun _ _ _ hp hst ha hm hnew hb hd => laneSelfTestDone_fixes_migration hp hst ha hm hnew hb hd,
   fun _ _ _ hp hst hm ha _ hl => laneSelfTestDone_fixes_attach hp hst hm ha hl,
   fun _ _ hp hst hl hm ha hr => laneSelfTestDone_retires hp hst hl hm ha hr,
   fun _ _ _ hp hst ha => laneSelfTestDone_passes hp hst ha,
   fun _ _ ha hm hd hb hne hr => laneTakeover_moves ha hm hd hb hne hr,
   fun _ ha hm => laneTakeover_passes ha hm⟩

end Sys2Proof.Machine
end

section
/-! PROOFS. The commands of the render fabric (O38). -/

open Sys2Proof

namespace Sys2Proof.Machine

/-! ## Commands of the render fabric -/

section
variable {i : AcpReq → Instr} {c : Cmd} {s : State} {r : AcpReq} {b p : Bytes} {x : Rnd} {eff : State → Prop}

/-- What a plain command leaves that changes the render fabric and the responses. -/
theorem frame_of_rnd {h' : Hst} (h : Plain s r b)
    (hrings : Part.rings.same s { s with dev := { s.dev with hst := h' } } := by exact ⟨rfl, rfl, rfl, rfl, rfl, rfl⟩)
    (hirq : Part.irq.same s { s with dev := { s.dev with hst := h' } } := by exact ⟨rfl, rfl, rfl⟩) :
    Frame [.rnd] s (leaves s { s.dev with rnd := x, hst := h' }) :=
  frame_leaves rfl h.calm fun k hk => by
    cases k
    case rnd => exact absurd (List.mem_singleton_self _) hk
    case rings => exact hrings
    case irq => exact hirq
    case mbox => exact fun _ => rfl
    all_goals rfl

/-- A plain command whose body accepts, and changes the render fabric alone. -/
theorem answers_of_rnd (h : Plain s r b) (hi : exec (i r) s = run true (acpTake c r) s)
    (hb : c.body (plainCtx c.op s.dev r []) b (taken s.dev r) = okData p { taken s.dev r with rnd := x })
    (he : ∀ t : State, t.dev.rnd = x → eff t) : Answers (i r) c.op r s p (fun t => eff t ∧ Frame [.rnd] s t) :=
  answers_of_body h hi hb rfl rfl ⟨he _ (leaves_rnd _ _), frame_of_rnd h⟩

/-- A plain command whose body begins an operation, and changes the render fabric alone. -/
theorem begins_of_rnd {key : Nat × Nat} (h : Plain s r b) (hi : exec (i r) s = run true (acpTake c r) s)
    (hb : c.body (plainCtx c.op s.dev r []) b (taken s.dev r) = later key p { taken s.dev r with rnd := x })
    (he : ∀ t : State, t.dev.rnd = x → eff t) : Begins (i r) c.op r s key (fun t => eff t ∧ Frame [.rnd] s t) := by
  have ht : acpTake c r s.dev [] = Dev.waitsFor { taken s.dev r with rnd := x } c.op r p key := by
    rw [acpTake_plain h c []]
    simp only [hb]
    exact (if_neg (Nat.not_le.mpr (show 0 < 256 by decide))).trans (complete_later c r _ b p _ key h.flags h.alone)
  refine ⟨_, hi.trans (run_leaves ht), leaves_hst_rspQ _ _, ⟨awaiting c.op r p key, ?_, rfl, rfl, rfl, rfl, rfl⟩, he _ (leaves_rnd _ _),
    frame_of_rnd h⟩
  rw [leaves_hst_wait]
  exact List.mem_append_right _ (List.mem_singleton_self _)

end

/-! ## The lane map (07 R184, Table 7.1) -/

theorem mapWord_eq (d : Dev) (i : Nat) : d.mapWord i = tget (mapDflt d.rate i) d.rnd.map i := by
  show (if tget (mapDflt d.rate i) d.rnd.map i = 0xFFFF then none else some (tget (mapDflt d.rate i) d.rnd.map i)).getD 0xFFFF = _
  split
  · next h => exact h.symm
  · rfl

theorem slotObj_eq (d : Dev) (i : Nat) : d.slotObj i = if d.mapWord i = 0xFFFF then none else some (d.mapWord i) := by
  rw [mapWord_eq]; rfl

/-- A run of slots written reads as written, and every other slot as it was. -/
theorem tget_writeMap (rate : Nat) (new : Nat → Nat) (a n : Nat) (t : Tbl Nat) (k : Nat) :
    tget (mapDflt rate k) (forRun (fun i t => tput (mapDflt rate i) t i (new i)) (rangeFrom a n) t) k =
      if a ≤ k ∧ k < a + n then new k else tget (mapDflt rate k) t k := by
  refine (read_forRun (fun t k => tget (mapDflt rate k) t k) 0 (fun i _ => new i) (fun i t k => ?_) a n t k).trans (by simp)
  rw [Nat.zero_add]
  split
  · next h => rw [h, tget_tput_self]
  · next h => exact tget_tput_apart _ _ _ _ h

/-- The entries of a lane map that name an object. -/
def mapEntries (new : Nat → Nat) : List (Nat × Nat) := ((rangeFrom 0 1024).map (fun i => (i, new i))).filter (fun x => x.2 != 0xFFFF)

theorem mem_mapEntries {new : Nat → Nat} {x : Nat × Nat} (h : x ∈ mapEntries new) : x.1 < 1024 ∧ x.2 = new x.1 ∧ new x.1 ≠ 0xFFFF := by
  obtain ⟨hmem, hne⟩ := List.mem_filter.mp h
  obtain ⟨i, hi, rfl⟩ := List.mem_map.mp hmem
  exact ⟨by simpa using (mem_rangeFrom hi).2, rfl, by simpa using hne⟩

/-- A map of objects in force in slots of the rate passes. -/
theorem mapEntries_fit {new : Nat → Nat} {rate : Nat}
    (h : ∀ i, i < 1024 → new i = 0xFFFF ∨ (new i < nObj rate ∧ i % 16 < slotsPerLane rate)) :
    (mapEntries new).any (fun x => decide (nObj rate ≤ x.2) || decide (slotsPerLane rate ≤ x.1 % 16)) = false := by
  refine List.any_eq_false.mpr fun x hx => ?_
  obtain ⟨hi, hval, hne⟩ := mem_mapEntries hx
  obtain ⟨hobj, hslot⟩ := (h x.1 hi).resolve_left hne
  simp [hval, hobj, hslot]

theorem eraseDups_of_nodup {α : Type} [BEq α] [LawfulBEq α] {l : List α} (h : l.Nodup) : l.eraseDups = l := by
  induction l with
  | nil => rfl
  | cons a l ih =>
    obtain ⟨ha, hl⟩ := List.nodup_cons.mp h
    have hfilter : l.filter (fun b => !b == a) = l := List.filter_eq_self.mpr fun b hb => by
      rw [beq_false_of_ne fun hba : b = a => ha (hba ▸ hb)]; rfl
    rw [List.eraseDups_cons, hfilter, ih hl]

/-- A map that names each object once passes. -/
theorem mapEntries_distinct {new : Nat → Nat} (h : ∀ i j, i < 1024 → j < 1024 → new i = new j → new i ≠ 0xFFFF → i = j) :
    (((mapEntries new).map Prod.snd).eraseDups.length != (mapEntries new).length) = false := by
  have hentries : (mapEntries new).Nodup :=
    (List.Nodup.map (fun i j hij => (Prod.mk.inj hij).1) (rangeFrom_eq_range' 0 1024 ▸ List.nodup_range')).filter _
  have hobjs : ((mapEntries new).map Prod.snd).Nodup := hentries.map_on fun x hx y hy hxy => by
    obtain ⟨hi, hval, hne⟩ := mem_mapEntries hx
    obtain ⟨hj, hval', -⟩ := mem_mapEntries hy
    exact Prod.ext (h x.1 y.1 hi hj (hval.symm.trans (hxy.trans hval')) hne) hxy
  rw [eraseDups_of_nodup hobjs, List.length_map]
  exact bne_self_eq_false _

/-- The slots of a run whose object changes. -/
def movedSlots (new old : Nat → Nat) (a n : Nat) : List Nat := (rangeFrom a n).filter (fun i => new i != old i)

/-- With the slots outside the run as they were, the slots moved are those that change. -/
theorem movedSlots_contains {new old : Nat → Nat} {a n : Nat} (h : ∀ i, ¬ (a ≤ i ∧ i < a + n) → new i = old i) (i : Nat) :
    (movedSlots new old a n).contains i = !decide (new i = old i) := by
  rw [Bool.eq_iff_iff, List.contains_iff_mem, movedSlots, List.mem_filter, rangeFrom_eq_range', List.mem_range'_1]
  by_cases hi : new i = old i
  · simp [hi]
  · simp [hi, Decidable.not_imp_comm.mp (h i) hi]

/-- The fabric with a run of slots mapped anew, and the path entries of every slot whose object changes cleared. -/
def Dev.mappedRnd (d : Dev) (new : Nat → Nat) (a n : Nat) : Rnd :=
  { d.rnd with
    map := forRun (fun i t => tput (mapDflt d.rate i) t i (new i)) (rangeFrom a n) d.rnd.map
    path := d.rnd.path.filter (fun e => !(movedSlots new d.mapWord a n).contains (e.1 / 512)) }

theorem mappedRnd_map (d : Dev) (new : Nat → Nat) (a n k : Nat) :
    tget (mapDflt d.rate k) (d.mappedRnd new a n).map k = if a ≤ k ∧ k < a + n then new k else tget (mapDflt d.rate k) d.rnd.map k :=
  tget_writeMap _ _ _ _ _ _

theorem mappedRnd_path {d : Dev} {new : Nat → Nat} {a n : Nat} (h : ∀ i, ¬ (a ≤ i ∧ i < a + n) → new i = d.mapWord i) (k : Nat) :
    tget ({} : PathE) (d.mappedRnd new a n).path k = if new (k / 512) = d.mapWord (k / 512) then tget {} d.rnd.path k else {} := by
  refine (tget_filter {} (fun k => !(movedSlots new d.mapWord a n).contains (k / 512)) d.rnd.path k).trans ?_
  simp only [movedSlots_contains h, Bool.not_not, decide_eq_true_eq]

theorem rndLaneMapSet_maps {s : State} {r : AcpReq} {b : Bytes} {new : Nat → Nat} (h : Plain s r b)
    (hnew : ∀ i, new i = (if 16 * u8 b 0 ≤ i ∧ i < 16 * (u8 b 0 + u8 b 1) then u16 b (4 + 2 * (i - 16 * u8 b 0)) else (s.dev.slotObj i).getD 0xFFFF))
    (hl : b.length = 4 + 32 * u8 b 1) (hn : 0 < u8 b 1) (hf : u8 b 0 + u8 b 1 ≤ 64) (hz : u16 b 2 = 0) (hst : (s.dev.unit 0 0).st = .stopped)
    (hfit : ∀ i, i < 1024 → new i = 0xFFFF ∨ (new i < nObj s.dev.rate ∧ i % 16 < slotsPerLane s.dev.rate))
    (honce : ∀ i j, i < 1024 → j < 1024 → new i = new j → new i ≠ 0xFFFF → i = j) :
    Answers (.rndLaneMapSet r) 0x0900 r s [] (fun t => (∀ i, i < 1024 → t.dev.slotObj i = (if new i = 0xFFFF then none else some (new i))) ∧
      (∀ k, k < 524288 → tget ({} : PathE) t.dev.rnd.path k =
        (if new (k / 512) = (s.dev.slotObj (k / 512)).getD 0xFFFF then tget {} s.dev.rnd.path k else {})) ∧ Frame [.rnd] s t) := by
  have hkeep : ∀ i, ¬ (16 * u8 b 0 ≤ i ∧ i < 16 * u8 b 0 + 16 * u8 b 1) → new i = s.dev.mapWord i := fun i hi =>
    (hnew i).trans (if_neg (by rwa [Nat.mul_add]))
  have hbody : (fun i => if 16 * u8 b 0 ≤ i ∧ i < 16 * (u8 b 0 + u8 b 1) then u16 b (4 + 2 * (i - 16 * u8 b 0)) else (taken s.dev r).mapWord i) = new :=
    funext fun i => (hnew i).symm
  obtain ⟨hstop, hret⟩ := stopped_of_st (d := taken s.dev r) hst
  refine (answers_of_rnd (c := cmdRndLaneMapSet) (x := s.dev.mappedRnd new (16 * u8 b 0) (16 * u8 b 1)) h rfl ((checks_pass _ _ ?_).trans ?_)
    fun _ ht => ht).mono fun t ⟨ht, hframe⟩ => ⟨fun i _ => ?_, fun k _ => ?_, hframe⟩
  · rw [hbody]
    refine List.forall_mem_cons.mpr ⟨?_, List.forall_mem_cons.mpr ⟨?_, List.forall_mem_cons.mpr ⟨hret, List.forall_mem_singleton.mpr ?_⟩⟩⟩
    · simp [hl]
    · refine Bool.or_eq_false_iff.mpr ⟨Bool.or_eq_false_iff.mpr ⟨?_, mapEntries_fit hfit⟩, mapEntries_distinct honce⟩
      simp [Nat.ne_of_gt hn, hf, rsv_of_zero (n := 2) hz]
    · rw [hstop]; rfl
  · rw [hbody]; rfl
  · have hrate : t.dev.rate = s.dev.rate := hframe.2 .rate (by decide)
    have hword : t.dev.mapWord i = new i := by
      rw [mapWord_eq, ht, hrate]
      exact (mappedRnd_map ..).trans (ite_eq_left_iff.mpr fun hi => ((hkeep i hi).trans (mapWord_eq _ _)).symm)
    rw [slotObj_eq, hword]
  · rw [ht]
    exact mappedRnd_path hkeep k

theorem rndLaneMapGet_reads : Reads .rndLaneMapGet 0x0901 (fun b _ => b.length = 4 ∧ 0 < u8 b 1 ∧ u8 b 0 + u8 b 1 ≤ 64 ∧ u16 b 2 = 0)
    (fun b s => (rangeFrom (16 * u8 b 0) (16 * u8 b 1)).flatMap (fun i => le 2 ((s.dev.slotObj i).getD 0xFFFF))) := by
  rintro s r b h ⟨hl, hn, hf, hz⟩
  exact answers_of_read (c := cmdRndLaneMapGet) h rfl (checks_pass _ _ (by simp [hl, Nat.ne_of_gt hn, hf, rsv_of_zero (n := 2) hz]))

/-! ## Lanes and migrations (07 R206, R207) -/

theorem rndLaneStatus_reads : Reads .rndLaneStatus 0x0902 (fun b _ => b = []) (fun _ s => (rangeFrom 0 68).flatMap (fun q =>
    le 1 (s.dev.lane q).st.code ++ le 1 ((s.dev.lane q).logical.getD 255)
    ++ le 1 (b01 (s.dev.lane q).ownDelay + 2 * b01 (s.dev.lane q).ownPath + 4 * b01 (s.dev.lane q).delayBad + 8 * b01 (s.dev.lane q).pathBad) ++ zb 1
    ++ le 2 (s.dev.lane q).clock ++ le 2 (if (s.dev.lane q).logical.isSome && s.dev.rendering then Config.laneLoadPct q s.dev.tim.tick else 0)
    ++ le 4 (s.dev.lane q).redo.toNat ++ le 4 (s.dev.lane q).late.toNat)) := by
  rintro s r b h hb
  exact answers_of_read (c := cmdRndLaneStatus) h rfl (checks_pass _ _ (by simp [hb]))

/-- The migration that RND_MIGRATE begins, of logical lane `l` from lane `a` to lane `q`, before its takeover block is fixed. -/
def migrationOf (l a q : Nat) : Migration := { logical := l, new := q, old := a, replan := 0, block := none, done := false }

section
variable {s : State} {r : AcpReq} {b : Bytes} {l : Nat}

/-- RND_MIGRATE accepted begins the self-test of the new lane, and its response awaits the migration. -/
theorem rndMigrate_begins {a q : Nat} (h : Plain s r b)
    (hb : cmdRndMigrate.body (plainCtx 0x0903 s.dev r []) b (taken s.dev r) = later (0x0903, 0) [] (beginMigration l a q 0 (taken s.dev r))) :
    Begins (.rndMigrate r) 0x0903 r s (0x0903, 0) (fun t => (t.dev.lane q).st = .testing ∧ t.dev.rnd.mig = some (migrationOf l a q) ∧
      Frame [.rnd] s t) := by
  refine (begins_of_rnd (c := cmdRndMigrate) (x := { (s.dev.testing q).rnd with mig := some (migrationOf l a q) })
    (eff := fun t => (t.dev.lane q).st = .testing ∧ t.dev.rnd.mig = some (migrationOf l a q)) h rfl hb fun t ht => ⟨?_, by rw [ht]⟩).mono
    fun t ⟨⟨hst, hmig⟩, hframe⟩ => ⟨hst, hmig, hframe⟩
  rw [Dev.lane, ht]
  exact congrArg Lane.st (Dev.setLane_lane s.dev q { s.dev.lane q with st := .testing })

theorem rndMigrate_out {q : Nat} {rest : List Nat} (h : Plain s r b) (hl : b.length = 4) (hlane : l = u8 b 0) (hle : l ≤ 63) (h1 : u8 b 1 = 0)
    (hz : u16 b 2 = 0) (hsrv : s.dev.server l = some l) (hm : s.dev.rnd.mig = none) (hq : s.dev.freeReserves = q :: rest) :
    Begins (.rndMigrate r) 0x0903 r s (0x0903, 0) (fun t => (t.dev.lane q).st = .testing ∧
      t.dev.rnd.mig = some { logical := l, new := q, old := l, replan := 0, block := none, done := false } ∧ Frame [.rnd] s t) := by
  subst hlane
  have hsrv' : (taken s.dev r).server (u8 b 0) = some (u8 b 0) := hsrv
  have hq' : (taken s.dev r).freeReserves = q :: rest := hq
  refine rndMigrate_begins h ((checks_pass _ _ ?_).trans ?_)
  · simp [hl, hle, h1, rsv_of_zero (n := 2) hz, hsrv', hq', hm]
  · simp [h1, hsrv', hq']

theorem rndMigrate_home {q : Nat} (h : Plain s r b) (hl : b.length = 4) (hlane : l = u8 b 0) (hle : l ≤ 63) (h1 : u8 b 1 = 1)
    (hz : u16 b 2 = 0) (hsrv : s.dev.server l = some q) (hne : q ≠ l) (hm : s.dev.rnd.mig = none) (hfree : (s.dev.lane l).logical = none)
    (hst : (s.dev.lane l).st ≠ .retired) : Begins (.rndMigrate r) 0x0903 r s (0x0903, 0) (fun t => (t.dev.lane l).st = .testing ∧
      t.dev.rnd.mig = some { logical := l, new := l, old := q, replan := 0, block := none, done := false } ∧ Frame [.rnd] s t) := by
  subst hlane
  have hsrv' : (taken s.dev r).server (u8 b 0) = some q := hsrv
  have hlane' : (taken s.dev r).lane (u8 b 0) = s.dev.lane (u8 b 0) := rfl
  refine rndMigrate_begins h ((checks_pass _ _ ?_).trans ?_)
  · simp [hl, hle, h1, rsv_of_zero (n := 2) hz, hsrv', hne, hm, hlane', hfree, hst]
  · simp [h1, hsrv']

/-! ## Path entries and counts (07 R208 to R210) -/

/-- A range of entries of an object in force passes the checks of RND_PATH_GET. -/
theorem pathGet_passes {rate : Nat} (hl : b.length = 8) (ho : u16 b 0 < nObj rate) (hn : 0 < u16 b 4) (hf : u16 b 2 + u16 b 4 ≤ 512)
    (hz : u16 b 6 = 0) (d : Dev) (p : Rep) : checks [(b.length != 8, 0x101),
      (decide (nObj rate ≤ u16 b 0) || u16 b 4 == 0 || decide (512 < u16 b 2 + u16 b 4) || rsv b 6 2, 0x102)] d p = p :=
  checks_pass _ _ (by simp [hl, ho, Nat.ne_of_gt hn, hf, rsv_of_zero (n := 2) hz])

theorem rndPathGet_reads {i m : Nat} (h : Plain s r b) (hl : b.length = 8) (ho : u16 b 0 < nObj s.dev.rate) (hn : 0 < u16 b 4)
    (hf : u16 b 2 + u16 b 4 ≤ 512) (hz : u16 b 6 = 0) (hi : s.dev.slotOf (u16 b 0) = some i) (hm : s.dev.rnd.block = some m)
    (hp : s.dev.rnd.pathFree = none) : Answers (.rndPathGet r) 0x0904 r s
      (le 8 m ++ (rangeFrom (u16 b 2) (u16 b 4)).flatMap (fun o => (tget ({} : PathE) s.dev.rnd.path (512 * i + o)).bytes)) (Frame [] s) := by
  have hi' : (taken s.dev r).slotOf (u16 b 0) = some i := hi
  refine answers_of_read (c := cmdRndPathGet) h rfl ((pathGet_passes hl ho hn hf hz _ _).trans ?_)
  simp only [hi', taken_rnd, hm, hp, Option.getD_some]

end

theorem rndPathGet_before_rotation : Reads .rndPathGet 0x0904
    (fun b s => b.length = 8 ∧ u16 b 0 < nObj s.dev.rate ∧ 0 < u16 b 4 ∧ u16 b 2 + u16 b 4 ≤ 512 ∧ u16 b 6 = 0 ∧ s.dev.rnd.block = none)
    (fun b _ => zb 8 ++ (rangeFrom (u16 b 2) (u16 b 4)).flatMap (fun _ => zb 32)) := by
  rintro s r b h ⟨hl, ho, hn, hf, hz, hm⟩
  refine answers_of_read (c := cmdRndPathGet) h rfl ((pathGet_passes hl ho hn hf hz _ _).trans ?_)
  simp only [taken_rnd, hm]
  cases (taken s.dev r).slotOf (u16 b 0) <;> rfl

theorem rndStatsGet_reads : Reads .rndStatsGet 0x0906 (fun b _ => b = []) (fun _ s => words [s.dev.rnd.dclamp.toNat, s.dev.rnd.isat.toNat,
      s.dev.rnd.pathUncorr.toNat, s.dev.rnd.migrations.toNat, s.dev.rnd.migDeferred.toNat]
    ++ le 1 s.dev.freeReserves.length ++ zb 3 ++ le 2 s.dev.hlt.objectsShed ++ zb 6) := by
  rintro s r b h hb
  exact answers_of_read (c := cmdRndStatsGet) h rfl (checks_pass _ _ (by simp [hb]))

/-! ## The interpolator's coefficients (07 R195) -/

theorem rndCoefGet_reads : Reads .rndCoefGet 0x0905 (fun b _ => b.length = 4 ∧ 0 < u16 b 2 ∧ u16 b 0 + u16 b 2 ≤ 1024)
    (fun b _ => (rangeFrom (u16 b 0) (u16 b 2)).flatMap (fun k => (coefSet k).flatMap (leI 4))) := by
  rintro s r b h ⟨hl, hn, hf⟩
  exact answers_of_read (c := cmdRndCoefGet) h rfl (checks_pass _ _ (by simp [hl, Nat.ne_of_gt hn, hf]))

theorem length_setAt {α : Type} (l : List α) (i : Nat) (v : α) : (setAt l i v).length = l.length := by
  induction l generalizing i with
  | nil => rfl
  | cons a l ih =>
    cases i with
    | zero => rfl
    | succ i => rw [setAt, List.length_cons, ih, List.length_cons]

/-- An element replaced changes the sum by what it grows. -/
theorem sumI_setAt {l : List Int} {i : Nat} (v : Int) (h : i < l.length) : sumI (setAt l i v) = sumI l - l.getD i 0 + v := by
  induction l generalizing i with
  | nil => exact absurd h (Nat.not_lt_zero i)
  | cons a l ih =>
    cases i with
    | zero => simp only [setAt, sumI, List.getD_cons_zero]; omega
    | succ i => simp only [setAt, sumI, List.getD_cons_succ, ih (Nat.lt_of_succ_lt_succ h)]; omega

/-- One tap of a set takes up what rounding leaves, so the set sums to 1.0. -/
theorem coefSet_sums (p : Nat) : sumI (coefSet p) = 2 ^ 30 ∧ (coefSet p).length = 24 := by
  unfold coefSet
  split
  · exact ⟨rfl, rfl⟩
  · split
    · exact ⟨rfl, rfl⟩
    · extract_lets v h i
      have hlen : h.length = 24 := by simp only [h, v, List.length_map]; rfl
      have hi : i < h.length := by rw [hlen]; simp only [i]; split <;> decide
      rw [sumI_setAt _ hi, length_setAt, hlen]
      exact ⟨by omega, rfl⟩

/-! ## The obligation -/

/-- Settles O38, from the lemmas above, a part of the statement each. -/
theorem renderCommands : Obligations.RenderCommands :=
  ⟨fun _ _ _ _ h hnew hl hn hf hz hst hfit honce => rndLaneMapSet_maps h hnew hl hn hf hz hst hfit honce,
   rndLaneMapGet_reads, rndLaneStatus_reads,
   fun _ _ _ _ _ _ h hl hb hle h1 hz hsrv hm hq => rndMigrate_out h hl hb hle h1 hz hsrv hm hq,
   fun _ _ _ _ _ h hl hb hle h1 hz hsrv hne hm hfree hst => rndMigrate_home h hl hb hle h1 hz hsrv hne hm hfree hst,
   fun _ _ _ _ _ h hl ho hn hf hz hi hm hp => rndPathGet_reads h hl ho hn hf hz hi hm hp,
   rndPathGet_before_rotation, rndCoefGet_reads, coefSet_sums, rndStatsGet_reads⟩

end Sys2Proof.Machine
end

section
/-! PROOFS. What the outputs and banks of room correction read after each operation on them, and what an operation on room correction
leaves (O39 to O41). -/

open Sys2Proof

namespace Sys2Proof.Machine

/-! ## Banks of an output (08 R225) -/

/-- The state of a bank of an output written reads as written, and the other bank as it was. -/
theorem CnvOut.setBank_bank (o : CnvOut) (b : Bool) (x : Bank) : (o.setBank b x).bank b = x := by cases b <;> rfl

theorem CnvOut.setBank_bank_not (o : CnvOut) (b : Bool) (x : Bank) : (o.setBank b x).bank (!b) = o.bank (!b) := by cases b <;> rfl

theorem CnvOut.setBank_sel (o : CnvOut) (b : Bool) (x : Bank) : (o.setBank b x).sel = o.sel := by cases b <;> rfl

/-- The banks of an output do not depend on what is queued for it. -/
theorem CnvOut.queued_bank (o : CnvOut) (q : Option Swap) (b : Bool) : CnvOut.bank { o with queued := q } b = o.bank b := by cases b <;> rfl

/-- The banks of an output do not depend on its frames. -/
theorem CnvOut.frames_bank (o : CnvOut) (y1 y2 : Tbl (List Int)) (b : Bool) : CnvOut.bank { o with y1 := y1, y2 := y2 } b = o.bank b := by
  cases b <;> rfl

theorem bankNo_beq_one {b : Nat} (h : b < 2) : bankNo (b == 1) = b := by interval_cases b <;> rfl

/-! ## Outputs -/

/-- The outputs follow from the convolution engine alone. -/
theorem cnvo_congr {d e : Dev} (h : d.cnv = e.cnv) (o : Nat) : d.cnvo o = e.cnvo o := by rw [Dev.cnvo, h, Dev.cnvo]

theorem setCnvo_cnvo_ite (d : Dev) (i j : Nat) (x : CnvOut) : (d.setCnvo i x).cnvo j = if j = i then x else d.cnvo j := tget_tput _ _ _ _ _

theorem cnvCount_cnvo (d : Dev) (i n k : Nat) : (d.cnvCount i n).cnvo k = d.cnvo k := rfl

/-- The number of outputs in degraded correction follows from the convolution engine alone. -/
theorem degCount_congr {d e : Dev} (h : d.cnv = e.cnv) : d.degCount = e.degCount := by unfold Dev.degCount Dev.needsT2; rw [h]

/-! ## Operations on room correction alone -/

/-- Device `e` is device `d` but for room correction and the held events. -/
def CnvOnly (d e : Dev) : Prop :=
  e = { d with cnv := e.cnv, hst := { d.hst with evq := e.hst.evq, evLost := e.hst.evLost } }

theorem CnvOnly.trans {d e f : Dev} (h : CnvOnly d e) (h' : CnvOnly e f) : CnvOnly d f := by
  unfold CnvOnly at *
  rw [h', h]

theorem CnvOnly.of_cnv (d : Dev) (x : Cnv) : CnvOnly d { d with cnv := x } := Eq.refl _

theorem setCnvo_cnvOnly (d : Dev) (s : Nat) (o : CnvOut) : CnvOnly d (d.setCnvo s o) := Eq.refl _

theorem cnvCount_cnvOnly (d : Dev) (i n : Nat) : CnvOnly d (d.cnvCount i n) := Eq.refl _

theorem hold_cnvOnly (d : Dev) (e : EvRec) : CnvOnly d (d.hold e) := by
  obtain ⟨_, _, h⟩ := Dev.hold_eq d e
  rw [h]
  exact Eq.refl _

theorem raise_cnvOnly (d : Dev) (c i : Nat) (p : Bytes) : CnvOnly d (d.raise c i p) := hold_cnvOnly _ _

theorem hold_cnv (d : Dev) (e : EvRec) : (d.hold e).cnv = d.cnv := by
  obtain ⟨_, _, h⟩ := Dev.hold_eq d e
  rw [h]

/-- A run of operations on room correction alone is one. -/
theorem forRun_cnvOnly {f : Nat → Dev → Dev} (h : ∀ k d, CnvOnly d (f k d)) (l : List Nat) (d : Dev) : CnvOnly d (forRun f l d) := by
  induction l generalizing d with
  | nil => exact Eq.refl _
  | cons k l ih => exact (h k d).trans (ih _)

/-! ## Banks that become INCOMPLETE (08 R224, R231, R236) -/

/-- Dropping a queued request leaves the device, or drops it, counts it and reports it. -/
theorem dropQueued_cases (d : Dev) (s : Nat) (b : Bool) : d.dropQueued s b = d ∨ d.dropQueued s b =
    ((d.setCnvo s { d.cnvo s with queued := none }).cnvCount 5 1).raise 0x8A03 255 (le 2 s ++ le 1 (bankNo b) ++ zb 1) := by
  unfold Dev.dropQueued
  dsimp only
  split
  · split
    · exact .inr rfl
    · exact .inl rfl
  · exact .inl rfl

theorem dropQueued_cnvOnly (d : Dev) (s : Nat) (b : Bool) : CnvOnly d (d.dropQueued s b) := by
  obtain h | h := dropQueued_cases d s b
  · rw [h]; exact Eq.refl _
  · rw [h]; exact ((setCnvo_cnvOnly ..).trans (cnvCount_cnvOnly ..)).trans (raise_cnvOnly ..)

/-- Dropping a queued request leaves the banks of every output. -/
theorem dropQueued_bank (d : Dev) (s k : Nat) (b b' : Bool) : ((d.dropQueued s b).cnvo k).bank b' = (d.cnvo k).bank b' := by
  obtain h | h := dropQueued_cases d s b
  · rw [h]
  · rw [h, cnvo_congr (Dev.raise_cnv ..), cnvCount_cnvo, setCnvo_cnvo_ite]
    split
    · next hk => rw [hk, CnvOut.queued_bank]
    · rfl

theorem dropQueued_cnvo_other (d : Dev) {s k : Nat} (b : Bool) (hk : k ≠ s) : (d.dropQueued s b).cnvo k = d.cnvo k := by
  obtain h | h := dropQueued_cases d s b
  · rw [h]
  · rw [h, cnvo_congr (Dev.raise_cnv ..), cnvCount_cnvo]
    exact Dev.setCnvo_cnvo_other d _ hk

theorem bankIncomplete_cnvOnly (d : Dev) (s : Nat) (b lost : Bool) : CnvOnly d (d.bankIncomplete s b lost) :=
  (setCnvo_cnvOnly ..).trans (dropQueued_cnvOnly ..)

theorem bankIncomplete_bank (d : Dev) (s : Nat) (b lost : Bool) : ((d.bankIncomplete s b lost).cnvo s).bank b =
    { (d.cnvo s).bank b with st := .incomplete, t2Lost := ((d.cnvo s).bank b).t2Lost || lost, committing := none } := by
  unfold Dev.bankIncomplete
  rw [dropQueued_bank, Dev.setCnvo_cnvo, CnvOut.setBank_bank]

theorem bankIncomplete_cnvo_other (d : Dev) {s k : Nat} (b lost : Bool) (hk : k ≠ s) : (d.bankIncomplete s b lost).cnvo k = d.cnvo k :=
  (dropQueued_cnvo_other _ b hk).trans (Dev.setCnvo_cnvo_other d _ hk)

/-! ## What an operation on room correction leaves -/

theorem leaves_cnvo (s : State) (d : Dev) (o : Nat) : (leaves s d).dev.cnvo o = d.cnvo o := cnvo_congr (leaves_cnv s d) o

/-- What is left where room correction and the host interface change, but for its rings and interrupts. -/
theorem frame_of_cnv {s : State} {x : Cnv} {h' : Hst} (h : s.dev.mboxClear = false)
    (hrings : Part.rings.same s { s with dev := { s.dev with hst := h' } }) (hirq : Part.irq.same s { s with dev := { s.dev with hst := h' } }) :
    Frame [.cnv] s (leaves s { s.dev with cnv := x, hst := h' }) :=
  frame_leaves rfl h fun k hk => by
    cases k
    case cnv => exact absurd (List.mem_singleton_self _) hk
    case rings => exact hrings
    case irq => exact hirq
    case mbox => exact fun _ => rfl
    all_goals rfl

end Sys2Proof.Machine
end

section
/-! PROOFS. Tier-2 deadlines, banks that become READY and verification (O39). -/

open Sys2Proof

namespace Sys2Proof.Machine

/-! ## Events of room correction -/

section
variable {i : Instr} {s : State} {d : Dev} {eff : State → Prop}

/-- An event that changes room correction, and holds events, changes no other kind of state. -/
theorem does_cnv (hi : exec i s = .next (leaves s d)) (hd : CnvOnly s.dev d) (he : eff (leaves s d)) : Does i [.cnv] s eff := fun h => by
  refine ⟨_, hi, he, ?_⟩
  rw [show d = _ from hd]
  exact frame_of_cnv h ⟨rfl, rfl, rfl, rfl, rfl, rfl⟩ ⟨rfl, rfl, rfl⟩

/-- An event that changes room correction and then ends an operation. -/
theorem does_cnv_finish {op arg st : Nat} {p : Bytes} (hi : exec i s = .next (leaves s (d.finish op arg st p))) (hd : CnvOnly s.dev d)
    (he : ∀ t : State, t.dev.cnv = d.cnv → Ends s t op arg st p → eff t) : Does i [.cnv] s eff := fun h => by
  have hends : Ends s (leaves s (d.finish op arg st p)) op arg st p := ends_finish op arg st p (by rw [show d = _ from hd])
  obtain ⟨_, _, _, _, _, hf⟩ := finish_eq d op arg st p
  refine ⟨_, hi, he _ ?_ hends, ?_⟩
  · rw [leaves_cnv, hf]
  · rw [hf, show d = _ from hd]
    exact frame_of_cnv h ⟨rfl, rfl, rfl, rfl, rfl, rfl⟩ ⟨rfl, rfl, rfl⟩

/-- An event raised last is held. -/
theorem raises_of_raiseSev (code sev : Nat) {inst : Nat} (p : Bytes) (hn : inst ≤ 254) (hq : d.hst.evq = s.dev.hst.evq) :
    Raises s (leaves s (d.raiseSev code inst sev p)) code inst p :=
  fun h => ⟨_, mem_leaves (mem_hold_self _ (hq ▸ h)), rfl, if_neg (Nat.not_lt.mpr hn), rfl⟩

end

section
variable {s : State} {o b : Nat}

/-! ## Tier-2 deadlines (08 R220) -/

theorem cnvT2FrameDeadline_late {f : Nat} (ho : o < 512) (ht : s.dev.tim.tick + 2 = 64 * f) (hin : s.dev.cnv.t2In = true)
    (hl : (s.dev.cnvo o).t2Late ≠ some f) (hk : ∃ k, ((s.dev.cnvo o).bank k).live = true ∧ s.dev.needsT2 ((s.dev.cnvo o).bank k) = true) :
    Does (.cnvT2FrameDeadline o f) [.cnv] s (fun t => At {} s.dev.cnv.out t.dev.cnv.out o { s.dev.cnvo o with t2Late := some f } ∧
      tget 0 t.dev.cnv.ctr 0 = tget 0 s.dev.cnv.ctr 0 + 64) := by
  have hany : [false, true].any (fun k => ((s.dev.cnvo o).bank k).live && s.dev.needsT2 ((s.dev.cnvo o).bank k)) = true := by
    obtain ⟨k, hlive, hneeds⟩ := hk
    exact List.any_eq_true.mpr ⟨k, by cases k <;> decide, Bool.and_eq_true_iff.mpr ⟨hlive, hneeds⟩⟩
  refine does_cnv (run_below (f := t2Miss o f) ho (if_pos ⟨ht, hin, hl, hany⟩)) ((setCnvo_cnvOnly ..).trans (cnvCount_cnvOnly ..)) ?_
  rw [leaves_cnv]
  exact ⟨at_tput _ _ _ _, tget_tput_self _ _ _ _⟩

theorem cnvT2FrameDeadline_passes {f : Nat} (ho : o < 512) (ht : s.dev.tim.tick + 2 ≠ 64 * f) :
    Does (.cnvT2FrameDeadline o f) [] s (fun _ => True) :=
  does_nothing (run_below (f := t2Miss o f) ho (if_neg fun h => ht h.1))

/-! ## Banks whose spectra are ready (08 R227, R228, R237) -/

theorem bankReady_leaves {d : Dev} (ho : o < 512) (hb : b < 2) (h : bankReady o (b == 1) s.dev = d) :
    exec (.bankReady o b) s = .next (leaves s d) := by
  show run (decide (o < 512) && decide (b < 2)) _ s = _
  rw [decide_eq_true ho, decide_eq_true hb]
  exact run_leaves h

/-- The warm block of a bank READY in the tick in progress. -/
theorem warmBlock_eq (c : Nat) (t2 : Bool) : warmBlock c t2 =
    if t2 then max (8 * ((c + 9) / 8 + 1)) (64 * ((c + 65) / 64 + 1)) else 8 * ((c + 9) / 8 + 1) := rfl

theorem bankReady_ready {k : Bank} {trunc w : Nat} (ho : o < 512) (hb : b < 2) (hk : k = (s.dev.cnvo o).bank (b == 1))
    (hc : k.committing = some trunc) (hin : s.dev.needsT2 k = true → s.dev.cnv.t2In = true)
    (hw : w = (if s.dev.needsT2 k then max (8 * ((s.dev.tim.tick + 9) / 8 + 1)) (64 * ((s.dev.tim.tick + 65) / 64 + 1))
      else 8 * ((s.dev.tim.tick + 9) / 8 + 1))) :
    Does (.bankReady o b) [.cnv] s (fun t => (t.dev.cnvo o).bank (b == 1) = { k with st := .ready, committing := none, warm := w } ∧
      (t.dev.cnvo o).bank (b != 1) = (s.dev.cnvo o).bank (b != 1) ∧ Ends s t 0x0A12 (2 * o + b) 0 (le 4 k.taps ++ le 4 trunc ++ le 8 w)) := by
  have hserved : ¬ (s.dev.needsT2 k && !s.dev.cnv.t2In) = true := by simpa using hin
  have hready : bankReady o (b == 1) s.dev = (s.dev.setCnvo o ((s.dev.cnvo o).setBank (b == 1)
      { k with st := .ready, committing := none, warm := w })).finish 0x0A12 (2 * o + b) 0 (le 4 k.taps ++ le 4 trunc ++ le 8 w) := by
    unfold bankReady
    simp only [← hk, hc]
    rw [if_neg hserved, warmBlock_eq, ← hw, bankNo_beq_one hb]
  refine does_cnv_finish (bankReady_leaves ho hb hready) (setCnvo_cnvOnly ..) fun t ht he => ?_
  rw [cnvo_congr ht, Dev.setCnvo_cnvo]
  exact ⟨CnvOut.setBank_bank .., CnvOut.setBank_bank_not .., he⟩

theorem bankReady_incomplete {k : Bank} {trunc : Nat} (ho : o < 512) (hb : b < 2) (hk : k = (s.dev.cnvo o).bank (b == 1))
    (hc : k.committing = some trunc) (hn : s.dev.needsT2 k = true) (hout : s.dev.cnv.t2In = false) :
    Does (.bankReady o b) [.cnv] s (fun t => ((t.dev.cnvo o).bank (b == 1)).st = .incomplete ∧ ((t.dev.cnvo o).bank (b == 1)).t2Lost = true ∧
      Ends s t 0x0A12 (2 * o + b) 0x103 []) := by
  have hfails : bankReady o (b == 1) s.dev = ((s.dev.bankIncomplete o (b == 1) true).raise 0x8A01 255
      (le 2 o ++ le 1 (bankNo (b == 1)) ++ zb 1)).finish 0x0A12 (2 * o + b) 0x103 [] := by
    unfold bankReady
    simp only [← hk, hc]
    rw [if_pos (by rw [hn, hout]; rfl), bankNo_beq_one hb]
  refine does_cnv_finish (bankReady_leaves ho hb hfails) ((bankIncomplete_cnvOnly ..).trans (raise_cnvOnly ..)) fun t ht he => ?_
  rw [cnvo_congr (ht.trans (Dev.raise_cnv ..)), bankIncomplete_bank]
  exact ⟨rfl, Bool.or_true _, he⟩

theorem bankReady_passes (ho : o < 512) (hb : b < 2) (hc : ((s.dev.cnvo o).bank (b == 1)).committing = none) :
    Does (.bankReady o b) [] s (fun _ => True) :=
  does_nothing (bankReady_leaves ho hb (by unfold bankReady; simp only [hc]))

/-! ## Verification (08 R233, R236) -/

/-- 08 R233: tier 2 back in service, its frames still to come. -/
def Cnv.served (x : Cnv) : Cnv := { x with verifying := false, t2In := true, t2Wait := true, t2From := none }

/-- What the end of a verification makes of bank `b` of output `o`, which failed it. -/
def Dev.t2Failed (d : Dev) (o : Nat) (b : Bool) : Dev :=
  ((d.bankIncomplete o b true).cnvCount 7 1).raise 0x8A01 255 (le 2 o ++ le 1 (bankNo b) ++ zb 1)

theorem t2Failed_cnvOnly (d : Dev) (o : Nat) (b : Bool) : CnvOnly d (d.t2Failed o b) :=
  ((bankIncomplete_cnvOnly ..).trans (cnvCount_cnvOnly ..)).trans (raise_cnvOnly ..)

theorem t2Failed_cnvo (d : Dev) (o : Nat) (b : Bool) (k : Nat) : (d.t2Failed o b).cnvo k = (d.bankIncomplete o b true).cnvo k := by
  rw [Dev.t2Failed, cnvo_congr (Dev.raise_cnv ..), cnvCount_cnvo]

/-- A verification that ends reports tier 2 in service. -/
def Dev.t2Serve (d : Dev) : Dev :=
  Dev.raiseSev { d with cnv := d.cnv.served } 0x8A00 0 1 (le 1 0 ++ zb 1 ++ le 2 (Dev.degCount { d with cnv := d.cnv.served }))

theorem t2Serve_cnv (d : Dev) : d.t2Serve.cnv = d.cnv.served := hold_cnv _ _

theorem t2Serve_cnvo (d : Dev) (k : Nat) : d.t2Serve.cnvo k = d.cnvo k := by rw [Dev.cnvo, t2Serve_cnv]; rfl

theorem t2Serve_cnvOnly (d : Dev) : CnvOnly d d.t2Serve := (CnvOnly.of_cnv d d.cnv.served).trans (hold_cnvOnly _ _)

/-- What the end of a verification makes of a bank named as one that failed it. -/
def Dev.t2Judge (d : Dev) (x : Nat × Nat) : Dev :=
  if x.1 < 512 ∧ ((d.cnvo x.1).bank (x.2 == 1)).st = .ready ∧ 2048 < ((d.cnvo x.1).bank (x.2 == 1)).taps then d.t2Failed x.1 (x.2 == 1) else d

theorem verifyDone_of_verifying {d : Dev} (l : List (Nat × Nat)) (h : d.cnv.verifying = true) : verifyDone l d = (l.foldl Dev.t2Judge d).t2Serve :=
  if_neg (by rw [h]; decide)

theorem cnvVerifyDone_serves (h : s.dev.cnv.verifying = true) : Does (.cnvVerifyDone []) [.cnv] s (fun t =>
    t.dev.cnv = { s.dev.cnv with verifying := false, t2In := true, t2Wait := true, t2From := none } ∧
    Raises s t 0x8A00 0 (le 1 0 ++ zb 1 ++ le 2 t.dev.degCount)) := by
  have hcnv : (leaves s s.dev.t2Serve).dev.cnv = s.dev.cnv.served := (leaves_cnv _ _).trans (t2Serve_cnv _)
  have hserve : verifyDone [] s.dev = s.dev.t2Serve := verifyDone_of_verifying [] h
  refine does_cnv (run_leaves hserve) (t2Serve_cnvOnly _) ⟨hcnv, ?_⟩
  rw [degCount_congr (e := { s.dev with cnv := s.dev.cnv.served }) hcnv]
  exact raises_of_raiseSev 0x8A00 1 _ (Nat.zero_le _) rfl

theorem cnvVerifyDone_fails (h : s.dev.cnv.verifying = true) (ho : o < 512) (hst : ((s.dev.cnvo o).bank (b == 1)).st = .ready)
    (hlong : 2048 < ((s.dev.cnvo o).bank (b == 1)).taps) :
    Does (.cnvVerifyDone [(o, b)]) [.cnv] s (fun t => t.dev.cnv.t2In = true ∧ ((t.dev.cnvo o).bank (b == 1)).st = .incomplete ∧
      ((t.dev.cnvo o).bank (b == 1)).t2Lost = true ∧ (∀ o', o' ≠ o → t.dev.cnvo o' = s.dev.cnvo o')) := by
  have hfails : verifyDone [(o, b)] s.dev = (s.dev.t2Failed o (b == 1)).t2Serve := by
    rw [verifyDone_of_verifying _ h, List.foldl_cons, List.foldl_nil, Dev.t2Judge, if_pos ⟨ho, hst, hlong⟩]
  refine does_cnv (run_leaves hfails) ((t2Failed_cnvOnly ..).trans (t2Serve_cnvOnly _)) ?_
  have hcnvo : ∀ k, (leaves s (s.dev.t2Failed o (b == 1)).t2Serve).dev.cnvo k = (s.dev.bankIncomplete o (b == 1) true).cnvo k := fun k =>
    (leaves_cnvo ..).trans ((t2Serve_cnvo ..).trans (t2Failed_cnvo ..))
  rw [hcnvo, bankIncomplete_bank, leaves_cnv, t2Serve_cnv]
  exact ⟨rfl, rfl, Bool.or_true _, fun k hk => (hcnvo k).trans (bankIncomplete_cnvo_other _ _ _ hk)⟩

theorem cnvVerifyDone_passes {l : List (Nat × Nat)} (h : s.dev.cnv.verifying = false) : Does (.cnvVerifyDone l) [] s (fun _ => True) :=
  does_nothing (run_leaves (f := verifyDone l) (if_pos (by rw [h]; rfl)))

end

/-! ## The obligation -/

/-- Settles O39, from the lemmas above, a part of the statement each. -/
theorem correctionEvents : Obligations.CorrectionEvents :=
  ⟨fun _ _ _ ho ht hin hl hk => cnvT2FrameDeadline_late ho ht hin hl hk,
   fun _ _ _ ho ht => cnvT2FrameDeadline_passes ho ht,
   fun _ _ _ _ _ _ ho hb hk hc hin hw => bankReady_ready ho hb hk hc hin hw,
   fun _ _ _ _ _ ho hb hk hc hn hout => bankReady_incomplete ho hb hk hc hn hout,
   fun _ _ _ ho hb hc => bankReady_passes ho hb hc,
   fun _ h => cnvVerifyDone_serves h,
   fun _ _ _ h ho _ hst hlong => cnvVerifyDone_fails h ho hst hlong,
   fun _ _ h => cnvVerifyDone_passes h⟩

end Sys2Proof.Machine
end

section
/-! PROOFS. The commands that upload and clear coefficients (O40). -/

open Sys2Proof

namespace Sys2Proof.Machine

/-! ## Commands of room correction -/

section
variable {i : AcpReq → Instr} {c : Cmd} {s : State} {r : AcpReq} {b p : Bytes} {d : Dev} {eff : State → Prop}

/-- What a plain command leaves that changes room correction, the held events and the responses. -/
theorem frame_of_answered {op st : Nat} (h : Plain s r b) (hd : CnvOnly (taken s.dev r) d) :
    Frame [.cnv] s (leaves s (answered d op r st p)) := by
  rw [show d = _ from hd]
  exact frame_of_cnv h.calm ⟨rfl, rfl, rfl, rfl, rfl, rfl⟩ ⟨rfl, rfl, rfl⟩

/-- A plain command whose body accepts, and changes room correction alone. -/
theorem answers_of_cnv (h : Plain s r b) (hi : exec (i r) s = run true (acpTake c r) s)
    (hb : c.body (plainCtx c.op s.dev r []) b (taken s.dev r) = okData p d) (hd : CnvOnly (taken s.dev r) d)
    (he : ∀ t : State, t.dev.cnv = d.cnv → eff t) : Answers (i r) c.op r s p (fun t => eff t ∧ Frame [.cnv] s t) :=
  answers_of_body h hi hb (by rw [show d = _ from hd]; rfl) (by rw [show d = _ from hd]; rfl) ⟨he _ (leaves_cnv _ _), frame_of_answered h hd⟩

/-- What a plain command makes of its request is what it makes of the answer of its body. -/
theorem acpTake_of_body {a : Rep} (h : Plain s r b) (hb : c.body (plainCtx c.op s.dev r []) b (taken s.dev r) = a) :
    acpTake c r s.dev [] =
      if 256 ≤ a.st then a.dev.refuse c.op r a.st a.data else Dev.complete c r (c.classA b (taken s.dev r)) b a := by
  rw [← hb]
  exact acpTake_plain h c []

/-- A plain command whose body refuses, with the completed responses as they were, is answered at once. -/
theorem refuses_of_body {st : Nat} {P : State → Prop} (h : Plain s r b) (hi : exec (i r) s = run true (acpTake c r) s)
    (hb : c.body (plainCtx c.op s.dev r []) b (taken s.dev r) = noWith st p d) (hst : 256 ≤ st) (hq : d.hst.rspQ = s.dev.hst.rspQ)
    (hP : P (leaves s (answered d c.op r st p))) : Refuses (i r) c.op r s st p P := by
  have ht : acpTake c r s.dev [] = answered d c.op r st p :=
    (acpTake_of_body h hb).trans ((if_pos hst).trans (refuse_plain d c.op r st p h.flags))
  refine ⟨_, hi.trans (run_leaves ht), ?_, hP⟩
  rw [leaves_hst_rspQ]
  exact congrArg (· ++ _) hq

/-- A plain command whose body refuses, and changes room correction alone. -/
theorem refuses_of_cnv {st : Nat} (h : Plain s r b) (hi : exec (i r) s = run true (acpTake c r) s)
    (hb : c.body (plainCtx c.op s.dev r []) b (taken s.dev r) = no st d) (hst : 256 ≤ st) (hd : CnvOnly (taken s.dev r) d)
    (he : ∀ t : State, t.dev.cnv = d.cnv → eff t) : Refuses (i r) c.op r s st [] (fun t => eff t ∧ Frame [.cnv] s t) :=
  refuses_of_body h hi hb hst (by rw [show d = _ from hd]; rfl) ⟨he _ (leaves_cnv _ _), frame_of_answered h hd⟩

/-- A plain command whose body begins an operation, with the pair and the completed responses as they were, awaits its end. -/
theorem begins_of_body {key : Nat × Nat} {P : State → Prop} (h : Plain s r b) (hi : exec (i r) s = run true (acpTake c r) s)
    (hb : c.body (plainCtx c.op s.dev r []) b (taken s.dev r) = later key p d) (hp : d.pair = s.dev.pair) (hq : d.hst.rspQ = s.dev.hst.rspQ)
    (hP : P (leaves s (d.waitsFor c.op r p key))) : Begins (i r) c.op r s key P := by
  have ht : acpTake c r s.dev [] = d.waitsFor c.op r p key :=
    (acpTake_of_body h hb).trans ((if_neg (Nat.not_le.mpr (Nat.zero_lt_succ 255))).trans
      (complete_later c r _ b p d key h.flags (hp ▸ h.alone)))
  refine ⟨_, hi.trans (run_leaves ht), (leaves_hst_rspQ _ _).trans hq, ⟨awaiting c.op r p key, ?_, rfl, rfl, rfl, rfl, rfl⟩, hP⟩
  rw [leaves_hst_wait]
  exact List.mem_append_right _ (List.mem_singleton_self _)

/-- A plain command whose body begins an operation, and changes room correction alone. -/
theorem begins_of_cnv {x : Cnv} {key : Nat × Nat} (h : Plain s r b) (hi : exec (i r) s = run true (acpTake c r) s)
    (hb : c.body (plainCtx c.op s.dev r []) b (taken s.dev r) = later key p { taken s.dev r with cnv := x })
    (he : ∀ t : State, t.dev.cnv = x → eff t) : Begins (i r) c.op r s key (fun t => eff t ∧ Frame [.cnv] s t) :=
  begins_of_body h hi hb rfl rfl ⟨he _ (leaves_cnv _ _), frame_of_cnv h.calm ⟨rfl, rfl, rfl, rfl, rfl, rfl⟩ ⟨rfl, rfl, rfl⟩⟩

end

/-- A unit that is not RETIRED passes the check for it. -/
theorem retired_of_ne {d : Dev} {k i : Nat} (h : (d.unit k i).st ≠ .retired) : d.retired k i = false := beq_eq_false_iff_ne.mpr h

/-! ## Tier 2's region (08 R222, R233) -/

/-- With tier 2 out of service and its region inside the memory, verification begins where DRC serves. -/
theorem t2Check_of_out {d : Dev} (hin : d.cnv.t2In = false) (hreg : d.regionIn d.cnv.t2Base = true) :
    d.t2Check = { d with cnv := if d.drc.cond = .inService ∧ (d.unit 9 0).st = .running then { d.cnv with verifying := true }
      else { d.cnv with verifying := false, t2Bad := true } } := by
  have hallowed : d.t2Allowed = decide (d.drc.cond = .inService ∧ (d.unit 9 0).st = .running) := by
    rw [Dev.t2Allowed, hreg, Bool.and_true, Bool.decide_and]
    rfl
  unfold Dev.t2Check
  by_cases hs : d.drc.cond = .inService ∧ (d.unit 9 0).st = .running
  · rw [if_neg (by simp [hallowed, hs]), if_pos hs, hin, Bool.false_or]
    split
    · next hv => rw [← hv]
    · rfl
  · rw [if_pos (by rw [hallowed, decide_eq_false hs]; rfl), if_neg hs]
    exact if_neg (Bool.eq_false_iff.mp hin)

theorem cnvConfig_sets : Sets .cnvConfig 0x0A00 [.cnv] (fun b s => b.length = 8 ∧ u8 b 0 ≤ 1 ∧ u8 b 1 = 0 ∧ u32 b 4 = 0 ∧
      s.dev.regionIn (u16 b 2) = true ∧ (s.dev.unit 2 0).st = .stopped ∧ s.dev.cnv.t2In = false) (fun _ _ => [])
    (fun b s t => t.dev.cnv = (if s.dev.drc.cond = .inService ∧ (s.dev.unit 9 0).st = .running
      then { s.dev.cnv with t2En := u8 b 0 == 1, t2Base := u16 b 2, verifying := true }
      else { s.dev.cnv with t2En := u8 b 0 == 1, t2Base := u16 b 2, verifying := false, t2Bad := true })) := by
  rintro s r b h ⟨hl, hen, hz1, hz4, hreg, hst, hin⟩
  obtain ⟨hstop, hret⟩ := stopped_of_st (d := taken s.dev r) hst
  have hreg' : (taken s.dev r).regionIn (u16 b 2) = true := hreg
  refine answers_of_cnv (c := cmdCnvConfig) h rfl ((checks_pass _ _ ?_).trans (congrArg ok (t2Check_of_out hin hreg))) (CnvOnly.of_cnv _ _)
    fun t ht => ht
  simp [hl, hen, rsv_of_zero (n := 1) hz1, rsv_of_zero (n := 4) hz4, hreg', hret, hstop]

/-! ## Banks uploaded (08 R226, R227) -/

/-- An output whose bank `b` is written anew, the frames computed of it gone. -/
def CnvOut.renew (o : CnvOut) (b : Bool) (x : Bank) : CnvOut :=
  { o with y1 := tdel o.y1 (bankNo b), y2 := tdel o.y2 (bankNo b) }.setBank b x

theorem CnvOut.renew_bank (o : CnvOut) (b : Bool) (x : Bank) : (o.renew b x).bank b = x := setBank_bank _ _ _

theorem CnvOut.renew_bank_not (o : CnvOut) (b : Bool) (x : Bank) : (o.renew b x).bank (!b) = o.bank (!b) :=
  (setBank_bank_not _ _ _).trans (frames_bank _ _ _ _)

theorem CnvOut.renew_sel (o : CnvOut) (b : Bool) (x : Bank) : (o.renew b x).sel = o.sel := setBank_sel _ _ _

/-- The tap `k` of a bank after a run of taps written from tap `f` on. -/
theorem tget_putTaps (v : List Int) (f : Nat) (t : Tbl Int) (n k : Nat) :
    tget 0 ((v.zipIdx n).foldl (fun t c => tput 0 t (f + c.2) c.1) t) k = if f + n ≤ k then v[k - (f + n)]?.getD (tget 0 t k) else tget 0 t k := by
  induction v generalizing t n with
  | nil => exact (ite_self _).symm
  | cons a v ih =>
    rw [List.zipIdx_cons, List.foldl_cons, ih, tget_tput]
    obtain hlt | rfl | hgt := Nat.lt_trichotomy k (f + n)
    · rw [if_neg (by omega), if_neg hlt.ne, if_neg (Nat.not_le.mpr hlt)]
    · simp
    · obtain ⟨i, rfl⟩ := Nat.exists_eq_add_of_lt hgt
      rw [if_pos (by omega), if_neg hgt.ne', if_pos hgt.le, show f + n + i + 1 - (f + (n + 1)) = i by omega,
        show f + n + i + 1 - (f + n) = i + 1 by omega, List.getElem?_cons_succ]

theorem tapsOf_getElem? (b : Bytes) (o : Nat) {n i : Nat} (h : i < n) : (tapsOf b o n)[i]? = some (s32 b (o + 4 * i)) := by
  rw [tapsOf, List.getElem?_map, rangeFrom_getElem? 0 h, Nat.zero_add]
  rfl

theorem tapsOf_length (b : Bytes) (o n : Nat) : (tapsOf b o n).length = n := by
  rw [tapsOf, List.length_map, rangeFrom_eq_range', List.length_range']

section
variable {s : State} {r : AcpReq} {b : Bytes} {k : Nat} {x : Bank}

theorem taken_cnvo (d : Dev) (r : AcpReq) (o : Nat) : (taken d r).cnvo o = d.cnvo o := rfl

/-- An upload that no commit awaits is abandoned without a response. -/
theorem abandon_unawaited {d : Dev} {o : Nat} (h : Unawaited s (0x0A12, 2 * o + k)) (hk : k < 2) (hw : d.hst.wait = s.dev.hst.wait) :
    d.abandon o (k == 1) = d := by
  rw [Dev.abandon, bankNo_beq_one hk]
  exact finish_unawaited _ _ h hw

/-- A plain command that writes bank `k` of output `o` anew, and abandons an upload that no commit awaits. -/
theorem answers_of_renew {i : AcpReq → Instr} {c : Cmd} {o : Nat} (h : Plain s r b) (hi : exec (i r) s = run true (acpTake c r) s)
    (hb : c.body (plainCtx c.op s.dev r []) b (taken s.dev r) =
      ok (((taken s.dev r).setCnvo o (((taken s.dev r).cnvo o).renew (k == 1) x)).abandon o (k == 1)))
    (hk : k < 2) (hw : Unawaited s (0x0A12, 2 * o + k)) : Answers (i r) c.op r s [] (fun t =>
      (t.dev.cnvo o).bank (k == 1) = x ∧ (t.dev.cnvo o).bank (k != 1) = (s.dev.cnvo o).bank (k != 1) ∧
      (t.dev.cnvo o).sel = (s.dev.cnvo o).sel ∧ (∀ o', o' ≠ o → t.dev.cnvo o' = s.dev.cnvo o') ∧ Frame [.cnv] s t) := by
  rw [abandon_unawaited (d := (taken s.dev r).setCnvo _ _) hw hk rfl] at hb
  refine (answers_of_cnv h hi hb (setCnvo_cnvOnly ..) fun t ht => cnvo_congr ht).mono fun t ⟨ht, hframe⟩ => ?_
  rw [ht, Dev.setCnvo_cnvo]
  exact ⟨CnvOut.renew_bank .., CnvOut.renew_bank_not .., CnvOut.renew_sel ..,
    fun o' ho' => (ht o').trans (Dev.setCnvo_cnvo_other _ _ ho'), hframe⟩

theorem cnvCoefBegin_loads (h : Plain s r b) (hl : b.length = 16) (ho : u16 b 0 < 512) (hk : k = u8 b 2) (hk1 : k ≤ 1)
    (he : u8 b 3 ≤ 7 ∨ u8 b 3 = 255) (hn : 0 < u32 b 4) (hmax : u32 b 4 ≤ tapsMax s.dev.rate) (hz : u32 b 12 = 0)
    (hst : (s.dev.unit 2 0).st ≠ .retired) (hfree : (s.dev.cnvo (u16 b 0)).busy s.dev.tim.tick (k == 1) = false)
    (hw : Unawaited s (0x0A12, 2 * u16 b 0 + k)) : Answers (.cnvCoefBegin r) 0x0A10 r s [] (fun t =>
      (t.dev.cnvo (u16 b 0)).bank (k == 1) = { st := .loading, taps := u32 b 4, want := u32 b 4, crc := u32 b 8, preeq := u8 b 3 } ∧
      (t.dev.cnvo (u16 b 0)).bank (k != 1) = (s.dev.cnvo (u16 b 0)).bank (k != 1) ∧ (t.dev.cnvo (u16 b 0)).sel = (s.dev.cnvo (u16 b 0)).sel ∧
      (∀ o, o ≠ u16 b 0 → t.dev.cnvo o = s.dev.cnvo o) ∧ Frame [.cnv] s t) := by
  subst hk
  refine answers_of_renew (c := cmdCnvCoefBegin) h rfl (checks_pass _ _ ?_) (Nat.lt_succ_of_le hk1) hw
  have hpreeq : (decide (7 < u8 b 3) && u8 b 3 != 255) = false := by
    obtain he | he := he
    · simp [Nat.not_lt.mpr he]
    · simp [he]
  have htaps : decide (tapsMax (taken s.dev r).rate < u32 b 4) = false := decide_eq_false (Nat.not_lt.mpr hmax)
  simp [-taken_rate, hl, hk1, hpreeq, hn.ne', htaps, rsv_of_zero (n := 4) hz, retired_of_ne (d := taken s.dev r) hst, taken_cnvo,
    hfree, Nat.le_of_lt_succ ho]

theorem cnvCoefClear_empties (h : Plain s r b) (hl : b.length = 4) (ho : u16 b 0 < 512) (hk : k = u8 b 2) (hk1 : k ≤ 1) (hz : u8 b 3 = 0)
    (hst : (s.dev.unit 2 0).st ≠ .retired) (hfree : (s.dev.cnvo (u16 b 0)).busy s.dev.tim.tick (k == 1) = false)
    (hw : Unawaited s (0x0A12, 2 * u16 b 0 + k)) : Answers (.cnvCoefClear r) 0x0A13 r s [] (fun t =>
      (t.dev.cnvo (u16 b 0)).bank (k == 1) = {} ∧ (t.dev.cnvo (u16 b 0)).bank (k != 1) = (s.dev.cnvo (u16 b 0)).bank (k != 1) ∧
      (∀ o, o ≠ u16 b 0 → t.dev.cnvo o = s.dev.cnvo o) ∧ Frame [.cnv] s t) := by
  subst hk
  refine (answers_of_renew (c := cmdCnvCoefClear) h rfl (checks_pass _ _ ?_) (Nat.lt_succ_of_le hk1) hw).mono
    fun t ⟨hbank, hother, _, hrest⟩ => ⟨hbank, hother, hrest⟩
  simp [hl, hk1, rsv_of_zero (n := 1) hz, retired_of_ne (d := taken s.dev r) hst, taken_cnvo, hfree, Nat.le_of_lt_succ ho]

/-- A bank with the next `n` taps of a request written from tap `f` on. -/
def Bank.upload (x : Bank) (b : Bytes) (f n : Nat) : Bank :=
  { x with h := (tapsOf b 12 n).zipIdx.foldl (fun t c => tput 0 t (f + c.2) c.1) x.h, next := f + n }

theorem Bank.upload_tap (x : Bank) (b : Bytes) (f : Nat) {n i : Nat} (hi : i < n) : tget 0 (x.upload b f n).h (f + i) = s32 b (12 + 4 * i) := by
  refine (tget_putTaps _ _ _ _ _).trans ?_
  rw [Nat.add_zero, if_pos (Nat.le_add_right f i), Nat.add_sub_cancel_left, tapsOf_getElem? b 12 hi, Option.getD_some]

theorem Bank.upload_tap_other (x : Bank) (b : Bytes) {f n j : Nat} (hj : j < f ∨ f + n ≤ j) : tget 0 (x.upload b f n).h j = tget 0 x.h j := by
  refine (tget_putTaps _ _ _ _ _).trans (ite_eq_right_iff.mpr fun hle => ?_)
  rw [List.getElem?_eq_none (by rw [tapsOf_length]; omega), Option.getD_none]

theorem cnvCoefWrite_stores (h : Plain s r b) (hl : b.length = 12 + 4 * u32 b 8) (ho : u16 b 0 < 512) (hk : k = u8 b 2) (hk1 : k ≤ 1)
    (hz : u8 b 3 = 0) (hn : 0 < u32 b 8) (hst : (s.dev.unit 2 0).st ≠ .retired) (hx : x = (s.dev.cnvo (u16 b 0)).bank (k == 1))
    (hfree : (s.dev.cnvo (u16 b 0)).busy s.dev.tim.tick (k == 1) = false) (hload : x.st = .loading) (hc : x.committing = none)
    (hf : u32 b 4 = x.next) (hfit : u32 b 4 + u32 b 8 ≤ x.want) (ht2 : u32 b 4 + u32 b 8 ≤ 2048 ∨ s.dev.cnv.t2In = true) :
    Answers (.cnvCoefWrite r) 0x0A11 r s [] (fun t =>
      (∀ i, i < u32 b 8 → tget 0 ((t.dev.cnvo (u16 b 0)).bank (k == 1)).h (u32 b 4 + i) = s32 b (12 + 4 * i)) ∧
      (∀ j, (j < u32 b 4 ∨ u32 b 4 + u32 b 8 ≤ j) → tget 0 ((t.dev.cnvo (u16 b 0)).bank (k == 1)).h j = tget 0 x.h j) ∧
      ((t.dev.cnvo (u16 b 0)).bank (k == 1)).next = u32 b 4 + u32 b 8 ∧
      (∀ o, o ≠ u16 b 0 → t.dev.cnvo o = s.dev.cnvo o) ∧ Frame [.cnv] s t) := by
  subst hk
  have hnext : (u32 b 4 == x.next && decide (u32 b 4 + u32 b 8 ≤ x.want)) = true := by simp [hf ▸ hfit, hf]
  have hserved : (decide (2048 < u32 b 4 + u32 b 8) && !s.dev.cnv.t2In) = false := by
    obtain hle | hin := ht2
    · simp [Nat.not_lt.mpr hle]
    · simp [hin]
  refine (answers_of_cnv (c := cmdCnvCoefWrite)
    (d := (taken s.dev r).setCnvo (u16 b 0) ((s.dev.cnvo (u16 b 0)).setBank (u8 b 2 == 1) (x.upload b (u32 b 4) (u32 b 8)))) h rfl
    ((checks_pass _ _ ?_).trans ?_) (setCnvo_cnvOnly ..) fun t ht => cnvo_congr ht).mono fun t ⟨ht, hframe⟩ => ?_
  · simp [hl, hk1, rsv_of_zero (n := 1) hz, hn.ne', retired_of_ne (d := taken s.dev r) hst, taken_cnvo, hfree,
      Nat.le_of_lt_succ ho, ← hx, hload, hc, hnext, hserved]
  · simp only [taken_cnvo, ← hx, hnext, if_true]
    rfl
  · rw [ht, Dev.setCnvo_cnvo, CnvOut.setBank_bank]
    exact ⟨fun i hi => Bank.upload_tap x b _ hi, fun j hj => Bank.upload_tap_other x b hj, rfl,
      fun o ho' => (ht o).trans (Dev.setCnvo_cnvo_other _ _ ho'), hframe⟩

/-! ## Banks committed (08 R227, R229) -/

/-- With no pre-equalisation, a bank folds to its own taps. -/
theorem folded_plain {d : Dev} (hp : x.preeq = 255) (hmax : x.want ≤ tapsMax d.rate) : d.folded x = (x.want, 0) := by
  rw [Dev.folded, if_pos hp, Nat.min_eq_left hmax, Nat.sub_eq_zero_of_le hmax]

theorem foldBank_plain {d : Dev} (hp : x.preeq = 255) (hmax : x.want ≤ tapsMax d.rate) :
    d.foldBank x = { x with taps := x.want, committing := some 0 } := by
  rw [Dev.foldBank, folded_plain hp hmax, if_pos hp]

/-- A bank with all its taps, which no commit has taken, passes the checks of CNV_COEF_COMMIT up to that of its CRC. -/
theorem cnvCoefCommit_judges (hl : b.length = 4) (ho : u16 b 0 < 512) (hk1 : u8 b 2 ≤ 1) (hz : u8 b 3 = 0)
    (hst : (s.dev.unit 2 0).st ≠ .retired) (hx : x = (s.dev.cnvo (u16 b 0)).bank (u8 b 2 == 1))
    (hfree : (s.dev.cnvo (u16 b 0)).busy s.dev.tim.tick (u8 b 2 == 1) = false) (hload : x.st = .loading) (hc : x.committing = none)
    (hall : x.next = x.want) (hp : x.preeq = 255) (hmax : x.want ≤ tapsMax s.dev.rate) (ht2 : x.want ≤ 2048 ∨ s.dev.cnv.t2In = true) :
    cmdCnvCoefCommit.body (plainCtx 0x0A12 s.dev r []) b (taken s.dev r) = if x.tapCrc = x.crc
      then later (0x0A12, 2 * u16 b 0 + u8 b 2) [] ((taken s.dev r).setCnvo (u16 b 0)
        ((s.dev.cnvo (u16 b 0)).setBank (u8 b 2 == 1) { x with taps := x.want, committing := some 0 }))
      else no 0x102 ((taken s.dev r).bankIncomplete (u16 b 0) (u8 b 2 == 1) false) := by
  have hserved : ¬ (2048 < x.want ∧ s.dev.cnv.t2In = false) := fun ⟨hlong, hout⟩ =>
    ht2.elim (Nat.not_le.mpr hlong) (Bool.eq_false_iff.mp hout)
  have hrange : ¬ 511 < u16 b 0 := Nat.not_lt.mpr (Nat.le_of_lt_succ ho)
  have hret := retired_of_ne (d := taken s.dev r) hst
  have hfold := folded_plain (d := taken s.dev r) hp hmax
  have hbank := foldBank_plain (d := taken s.dev r) hp hmax
  have hkey : commitKey (u16 b 0) (u8 b 2 == 1) = (0x0A12, 2 * u16 b 0 + u8 b 2) := by
    rw [commitKey, bankNo_beq_one (Nat.lt_succ_of_le hk1)]
  by_cases hcrc : x.tapCrc = x.crc
  · simp [cmdCnvCoefCommit, cmdA, firstErr, hl, Nat.not_lt.mpr hk1, rsv_of_zero (n := 1) hz, hret, taken_cnvo, hfree, hrange, ← hx,
      hload, hc, hall, hfold, hserved, hcrc, hbank, hkey]
  · simp [cmdCnvCoefCommit, cmdA, firstErr, hl, Nat.not_lt.mpr hk1, rsv_of_zero (n := 1) hz, hret, taken_cnvo, hfree, hrange, ← hx,
      hload, hc, hall, hcrc]

theorem cnvCoefCommit_commits (h : Plain s r b) (hl : b.length = 4) (ho : u16 b 0 < 512) (hk : k = u8 b 2) (hk1 : k ≤ 1) (hz : u8 b 3 = 0)
    (hst : (s.dev.unit 2 0).st ≠ .retired) (hx : x = (s.dev.cnvo (u16 b 0)).bank (k == 1))
    (hfree : (s.dev.cnvo (u16 b 0)).busy s.dev.tim.tick (k == 1) = false) (hload : x.st = .loading) (hc : x.committing = none)
    (hall : x.next = x.want) (hp : x.preeq = 255) (hmax : x.want ≤ tapsMax s.dev.rate) (ht2 : x.want ≤ 2048 ∨ s.dev.cnv.t2In = true) :
    (x.tapCrc = x.crc → Begins (.cnvCoefCommit r) 0x0A12 r s (0x0A12, 2 * u16 b 0 + k) (fun t =>
      (t.dev.cnvo (u16 b 0)).bank (k == 1) = { x with taps := x.want, committing := some 0 } ∧ Frame [.cnv] s t)) ∧
    (x.tapCrc ≠ x.crc → Refuses (.cnvCoefCommit r) 0x0A12 r s 0x102 [] (fun t =>
      ((t.dev.cnvo (u16 b 0)).bank (k == 1)).st = .incomplete ∧ Frame [.cnv] s t)) := by
  subst hk
  have hbody := cnvCoefCommit_judges (r := r) hl ho hk1 hz hst hx hfree hload hc hall hp hmax ht2
  refine ⟨fun hcrc => begins_of_cnv (c := cmdCnvCoefCommit) h rfl (hbody.trans (if_pos hcrc)) fun t ht => ?_,
    fun hcrc => refuses_of_cnv (c := cmdCnvCoefCommit) h rfl (hbody.trans (if_neg hcrc)) (by decide) (bankIncomplete_cnvOnly ..) fun t ht => ?_⟩
  · rw [Dev.cnvo, ht]
    exact (congrArg (CnvOut.bank · _) (Dev.setCnvo_cnvo s.dev _ _)).trans (CnvOut.setBank_bank _ _ _)
  · rw [cnvo_congr ht, bankIncomplete_bank]

end

/-! ## Pre-equalisation tables (08 R229) -/

theorem cnvPreeqSet_sets : Sets .cnvPreeqSet 0x0A30 [.cnv] (fun b _ => b.length = 4 + 4 * u16 b 2 ∧ u8 b 0 ≤ 7 ∧ u8 b 1 = 0 ∧ 0 < u16 b 2 ∧
      u16 b 2 ≤ 256) (fun _ _ => [])
    (fun b s t => At [2 ^ 30] s.dev.cnv.preeq t.dev.cnv.preeq (u8 b 0) ((rangeFrom 0 (u16 b 2)).map (fun i => s32 b (4 + 4 * i)))) := by
  rintro s r b h ⟨hl, he, hz, hn, hmax⟩
  refine answers_of_cnv (c := cmdCnvPreeqSet) h rfl (checks_pass _ _ ?_) (CnvOnly.of_cnv _ _) fun t ht => ?_
  · simp [hl, he, rsv_of_zero (n := 1) hz, hn.ne', hmax]
  · show At _ _ t.dev.cnv.preeq _ _
    rw [ht]
    exact at_tput _ _ _ _

/-! ## The obligation -/

/-- Settles O40, from the lemmas above, a part of the statement each. -/
theorem correctionUploads : Obligations.CorrectionUploads :=
  ⟨cnvConfig_sets,
   fun _ _ _ _ h hl ho hk hk1 he hn hmax hz hst hfree hw => cnvCoefBegin_loads h hl ho hk hk1 he hn hmax hz hst hfree hw,
   fun _ _ _ _ _ h hl ho hk hk1 hz hn hst hx hfree hload hc hf hfit ht2 =>
    cnvCoefWrite_stores h hl ho hk hk1 hz hn hst hx hfree hload hc hf hfit ht2,
   fun _ _ _ _ _ h hl ho hk hk1 hz hst hx hfree hload hc hall hp hmax ht2 =>
    cnvCoefCommit_commits h hl ho hk hk1 hz hst hx hfree hload hc hall hp hmax ht2,
   fun _ _ _ _ h hl ho hk hk1 hz hst hfree hw => cnvCoefClear_empties h hl ho hk hk1 hz hst hfree hw,
   cnvPreeqSet_sets⟩

end Sys2Proof.Machine
end

section
/-! PROOFS. Bank switches and the reading commands of room correction (O41). -/

open Sys2Proof

namespace Sys2Proof.Machine

/-! ## What a request makes of an output (08 R230, R231) -/

/-- What a request for bank `bank` at block `j` with a fade of `fade` makes of an output in tick `k`; `runs` says whether CNV runs. -/
def CnvOut.switched (o : CnvOut) (k bank j fade : Nat) (runs : Bool) : CnvOut :=
  if !runs then { o with sel := bank, fade := none, queued := none }
  else if (o.request k bank j runs).1 = 0 then o
  else { o with queued := some { bank := bank, block := (o.request k bank j runs).2, fade := fade } }

section
variable {bank j fade k : Nat} {runs : Bool}

/-- A request for the other bank starts at its block where no fade runs, or CNV is STOPPED. -/
theorem CnvOut.request_of_steady {o : CnvOut} (hsel : o.sel ≠ bank) (h : runs = true → o.fade = none) : o.request k bank j runs = (1, j) := by
  cases runs
  · exact if_neg hsel.symm
  · unfold request
    simp only [h rfl, hsel.symm, false_and, if_false]
    rfl

/-- A request that starts queues the switch where CNV runs. -/
theorem CnvOut.switched_of_starts {o : CnvOut} (h : o.request k bank j true = (1, j)) :
    o.switched k bank j fade true = { o with queued := some { bank := bank, block := j, fade := fade } } := by
  simp [switched, h]

theorem switchOne_cnvo (d : Dev) (i k : Nat) : (switchOne bank j fade runs i d).cnvo k =
    if k = i then (d.cnvo k).switched d.tim.tick bank j fade runs else d.cnvo k := by
  unfold switchOne CnvOut.switched
  dsimp only
  split
  · rw [setCnvo_cnvo_ite]
    split
    · next hk => rw [hk]
    · rfl
  · by_cases hk : k = i
    · rw [if_pos hk, hk]
      split
      · rfl
      · exact Dev.setCnvo_cnvo ..
    · rw [if_neg hk]
      split
      · rfl
      · exact Dev.setCnvo_cnvo_other _ _ hk

theorem switchOne_cnvOnly (i : Nat) (d : Dev) : CnvOnly d (switchOne bank j fade runs i d) := by
  unfold switchOne
  dsimp only
  split
  · exact setCnvo_cnvOnly ..
  · split
    · exact Eq.refl _
    · exact setCnvo_cnvOnly ..

/-- A run of outputs switched: each is as the request makes it, and every other output as it was. -/
theorem switchRun_cnvo (d : Dev) (f n k : Nat) : (forRun (switchOne bank j fade runs) (rangeFrom f n) d).cnvo k =
    if f ≤ k ∧ k < f + n then (d.cnvo k).switched d.tim.tick bank j fade runs else d.cnvo k := by
  have hstep : ∀ i d k, ((switchOne bank j fade runs i d).tim.tick, (switchOne bank j fade runs i d).cnvo k) =
      if k = 0 + i then (d.tim.tick, (d.cnvo k).switched d.tim.tick bank j fade runs) else (d.tim.tick, d.cnvo k) := fun i d k => by
    rw [show (switchOne bank j fade runs i d).tim = d.tim by rw [show switchOne bank j fade runs i d = _ from switchOne_cnvOnly i d],
      switchOne_cnvo, Nat.zero_add, ← apply_ite (Prod.mk d.tim.tick)]
  have hrun := read_forRun (fun (d : Dev) k => (d.tim.tick, d.cnvo k)) 0 (fun _ x => (x.1, x.2.switched x.1 bank j fade runs)) hstep f n d k
  rw [Nat.zero_add, ← apply_ite (Prod.mk d.tim.tick)] at hrun
  exact (Prod.mk.inj hrun).2

end

/-- A run of outputs whose queued requests are dropped. -/
theorem dropRun_cnvo (d : Dev) (l : List Nat) (k : Nat) : (forRun (fun i d => d.setCnvo i { d.cnvo i with queued := none }) l d).cnvo k =
    if k ∈ l then { d.cnvo k with queued := none } else d.cnvo k := by
  induction l generalizing d with
  | nil => rfl
  | cons i l ih =>
    rw [forRun, ih, setCnvo_cnvo_ite]
    by_cases hk : k = i
    · subst hk
      simp
    · simp [hk]

/-! ## CNV_SWITCH (08 R230, R231) -/

/-- 08 R230: the operands of a CNV_SWITCH over outputs the device has; `cancel` is its CANCEL field. -/
def SwitchRun (b : Bytes) (cancel : Nat) : Prop :=
  b.length = 8 ∧ 0 < u16 b 2 ∧ u16 b 0 + u16 b 2 ≤ 512 ∧ u8 b 4 ≤ 1 ∧ u8 b 5 = cancel ∧ 0 < u16 b 6 ∧ u16 b 6 ≤ 1024

section
variable {s : State} {r : AcpReq} {b : Bytes}

/-- Output `o` stands in the run of a CNV_SWITCH. -/
def InRun (b : Bytes) (o : Nat) : Prop := u16 b 0 ≤ o ∧ o < u16 b 0 + u16 b 2

theorem mem_run_iff {o : Nat} : o ∈ rangeFrom (u16 b 0) (u16 b 2) ↔ InRun b o := by
  rw [rangeFrom_eq_range', List.mem_range'_1, InRun]

theorem length_run (b : Bytes) : (rangeFrom (u16 b 0) (u16 b 2)).length = u16 b 2 := by rw [rangeFrom_eq_range', List.length_range']

theorem SwitchRun.nonempty {cancel : Nat} (h : SwitchRun b cancel) : 0 < u16 b 2 :=
  let ⟨_, hn, _⟩ := h
  hn

theorem SwitchRun.cancels {cancel : Nat} (h : SwitchRun b cancel) : u8 b 5 = cancel :=
  let ⟨_, _, _, _, hcan, _⟩ := h
  hcan

/-- The checks of a CNV_SWITCH come down to that of its outputs. -/
theorem SwitchRun.judge {cancel : Nat} (h : SwitchRun b cancel) (hc : cancel ≤ 1) {d : Dev} (hst : (d.unit 2 0).st ≠ .retired)
    (err : Option Nat) (p : Rep) :
    checks [(b.length != 8, 0x101), (u16 b 2 == 0 || decide (512 < u16 b 0 + u16 b 2) || decide (1 < u8 b 4) || decide (1 < u8 b 5)
      || u16 b 6 == 0 || decide (1024 < u16 b 6), 0x102), (d.retired 2 0, 0x109), (err.isSome, err.getD 0)] d p = err.elim p (no · d) := by
  obtain ⟨hl, hn, hf, hb, hcan, hfade, hmax⟩ := h
  subst hcan
  cases err <;>
    simp [checks, firstErr, hl, hn.ne', Nat.not_lt.mpr hf, Nat.not_lt.mpr hb, Nat.not_lt.mpr hc, hfade.ne', Nat.not_lt.mpr hmax, retired_of_ne hst]

/-- A request that starts is refused for no bank that is EMPTY, or READY and, where CNV runs, warm. -/
theorem switchErr_none {d : Dev} {bank j o : Nat} {runs : Bool} (hreq : (d.cnvo o).request d.tim.tick bank j runs = (1, j))
    (hbank : ((d.cnvo o).bank (bank == 1)).st = .empty ∨
      (((d.cnvo o).bank (bank == 1)).st = .ready ∧ (runs = true → ((d.cnvo o).bank (bank == 1)).warm ≤ j))) :
    d.switchErr bank j runs o = none := by
  unfold Dev.switchErr
  dsimp only
  rw [hreq, if_neg Nat.one_ne_zero]
  obtain hempty | ⟨hready, hwarm⟩ := hbank
  · rw [if_neg (by simp [hempty]), if_neg (by simp [hempty])]
  · rw [if_neg fun ⟨hr, _, hlt⟩ => Nat.not_lt.mpr (hwarm hr) hlt, if_neg (by simp [hready])]

/-- How many outputs of the run take a request for bank `bank` at block `j` as `k` says. -/
def Dev.takers (d : Dev) (b : Bytes) (j : Nat) (runs : Bool) (k : Nat) : Nat :=
  ((rangeFrom (u16 b 0) (u16 b 2)).filter (fun o => ((d.cnvo o).request d.tim.tick (u8 b 4) j runs).1 == k)).length

/-- Where every output of the run takes a request alike, the others are none. -/
theorem takers_alike {d : Dev} {j v : Nat} {runs : Bool} (h : ∀ o, InRun b o → (d.cnvo o).request d.tim.tick (u8 b 4) j runs = (v, j)) (k : Nat) :
    d.takers b j runs k = if v = k then u16 b 2 else 0 := by
  have hall : ∀ o ∈ rangeFrom (u16 b 0) (u16 b 2), (((d.cnvo o).request d.tim.tick (u8 b 4) j runs).1 == k) = (v == k) := fun o ho => by
    rw [h o (mem_run_iff.mp ho)]
  rw [Dev.takers, List.filter_congr hall]
  by_cases hk : v = k
  · simp [hk, length_run]
  · simp [hk]

/-- The device with the run of a CNV_SWITCH switched at block `j`. -/
def Dev.switchRun (d : Dev) (b : Bytes) (j : Nat) (runs : Bool) : Dev :=
  forRun (switchOne (u8 b 4) j (u16 b 6) runs) (rangeFrom (u16 b 0) (u16 b 2)) d

/-- A CNV_SWITCH without CANCEL refuses its run with the status of the first output that refuses it, or switches the run. -/
theorem cnvSwitch_body {runs : Bool} (hrun : SwitchRun b 0) (hst : (s.dev.unit 2 0).st ≠ .retired)
    (hruns : ((s.dev.unit 2 0).st == .running || (s.dev.unit 2 0).st == .starting) = runs) :
    cmdCnvSwitch.body (plainCtx 0x0A20 s.dev r []) b (taken s.dev r) =
      ((firstFail (s.dev.switchErr (u8 b 4) (s.dev.tim.tick + 2) runs) 0 (rangeFrom (u16 b 0) (u16 b 2))).map Prod.snd).elim
        (okData (le 2 (s.dev.takers b (s.dev.tim.tick + 2) runs 1) ++ le 2 (s.dev.takers b (s.dev.tim.tick + 2) runs 2)
          ++ le 2 (s.dev.takers b (s.dev.tim.tick + 2) runs 0) ++ zb 2) ((taken s.dev r).switchRun b (s.dev.tim.tick + 2) runs))
        (no · (taken s.dev r)) := by
  subst hruns
  refine (hrun.judge (d := taken s.dev r) (Nat.zero_le _) hst _ _).trans ?_
  rw [hrun.cancels]
  rfl

/-- A request that every output of its run takes at its block is answered with their number. -/
theorem cnvSwitch_starts {runs : Bool} (h : Plain s r b) (hrun : SwitchRun b 0) (hst : (s.dev.unit 2 0).st ≠ .retired)
    (hruns : ((s.dev.unit 2 0).st == .running || (s.dev.unit 2 0).st == .starting) = runs)
    (hreq : ∀ o, InRun b o → (s.dev.cnvo o).request s.dev.tim.tick (u8 b 4) (s.dev.tim.tick + 2) runs = (1, s.dev.tim.tick + 2))
    (hbank : ∀ o, InRun b o → ((s.dev.cnvo o).bank (u8 b 4 == 1)).st = .empty ∨
      (((s.dev.cnvo o).bank (u8 b 4 == 1)).st = .ready ∧ (runs = true → ((s.dev.cnvo o).bank (u8 b 4 == 1)).warm ≤ s.dev.tim.tick + 2))) :
    Answers (.cnvSwitch r) 0x0A20 r s (le 2 (u16 b 2) ++ zb 6) (fun t =>
      (∀ o, InRun b o → t.dev.cnvo o = (s.dev.cnvo o).switched s.dev.tim.tick (u8 b 4) (s.dev.tim.tick + 2) (u16 b 6) runs) ∧
      (∀ o, ¬ InRun b o → t.dev.cnvo o = s.dev.cnvo o) ∧ Frame [.cnv] s t) := by
  have herr : firstFail (s.dev.switchErr (u8 b 4) (s.dev.tim.tick + 2) runs) 0 (rangeFrom (u16 b 0) (u16 b 2)) = none :=
    firstFail_pass 0 fun o ho => switchErr_none (hreq o (mem_run_iff.mp ho)) (hbank o (mem_run_iff.mp ho))
  have hdata : le 2 (s.dev.takers b (s.dev.tim.tick + 2) runs 1) ++ le 2 (s.dev.takers b (s.dev.tim.tick + 2) runs 2)
      ++ le 2 (s.dev.takers b (s.dev.tim.tick + 2) runs 0) ++ zb 2 = le 2 (u16 b 2) ++ zb 6 := by
    rw [takers_alike hreq, takers_alike hreq, takers_alike hreq, if_pos rfl, if_neg (by decide), if_neg (by decide), List.append_assoc,
      List.append_assoc]
    rfl
  refine (answers_of_cnv (c := cmdCnvSwitch) h rfl ((cnvSwitch_body hrun hst hruns).trans (by rw [herr, hdata]; rfl))
    (forRun_cnvOnly (fun k d => switchOne_cnvOnly k d) _ _) fun t ht o => (cnvo_congr ht o).trans (switchRun_cnvo ..)).mono fun t ⟨ht, hframe⟩ =>
      ⟨fun o ho => (ht o).trans (if_pos ho), fun o ho => (ht o).trans (if_neg ho), hframe⟩

/-- A run whose first output refuses is refused with its status, and nothing changes. -/
theorem cnvSwitch_refuses {runs : Bool} {e : Nat} (h : Plain s r b) (hrun : SwitchRun b 0) (hst : (s.dev.unit 2 0).st ≠ .retired)
    (hruns : ((s.dev.unit 2 0).st == .running || (s.dev.unit 2 0).st == .starting) = runs)
    (herr : s.dev.switchErr (u8 b 4) (s.dev.tim.tick + 2) runs (u16 b 0) = some e) (he : 256 ≤ e) :
    Refuses (.cnvSwitch r) 0x0A20 r s e [] (Frame [] s) := by
  have hfail : firstFail (s.dev.switchErr (u8 b 4) (s.dev.tim.tick + 2) runs) 0 (rangeFrom (u16 b 0) (u16 b 2)) = some (0, e) := by
    obtain ⟨n, hn⟩ := Nat.exists_eq_succ_of_ne_zero hrun.nonempty.ne'
    rw [hn, rangeFrom, firstFail, herr]
  exact refuses_of_nothing (c := cmdCnvSwitch) h rfl ((cnvSwitch_body hrun hst hruns).trans (by rw [hfail]; rfl)) he

/-- A request with CANCEL drops what is queued for its run, and answers with how many were. -/
theorem cnvSwitch_cancels (h : Plain s r b) (hrun : SwitchRun b 1) (hst : (s.dev.unit 2 0).st ≠ .retired) :
    Answers (.cnvSwitch r) 0x0A20 r s (zb 6 ++ le 2 ((rangeFrom (u16 b 0) (u16 b 2)).filter (fun o => (s.dev.cnvo o).queued.isSome)).length) (fun t =>
      (∀ o, InRun b o → t.dev.cnvo o = { s.dev.cnvo o with queued := none }) ∧
      (∀ o, ¬ InRun b o → t.dev.cnvo o = s.dev.cnvo o) ∧ Frame [.cnv] s t) := by
  have hbody : cmdCnvSwitch.body (plainCtx 0x0A20 s.dev r []) b (taken s.dev r) =
      okData (zb 6 ++ le 2 ((rangeFrom (u16 b 0) (u16 b 2)).filter (fun o => (s.dev.cnvo o).queued.isSome)).length)
        (forRun (fun o d => d.setCnvo o { d.cnvo o with queued := none })
          ((rangeFrom (u16 b 0) (u16 b 2)).filter (fun o => (s.dev.cnvo o).queued.isSome)) (taken s.dev r)) := by
    refine (hrun.judge (d := taken s.dev r) (Nat.le_refl _) hst _ _).trans ?_
    rw [hrun.cancels]
    rfl
  refine (answers_of_cnv (c := cmdCnvSwitch) h rfl hbody (forRun_cnvOnly (fun o d => setCnvo_cnvOnly d o _) _ _)
    fun t ht o => (cnvo_congr ht o).trans (dropRun_cnvo ..)).mono fun t ⟨ht, hframe⟩ => ⟨fun o ho => ?_, fun o ho => ?_, hframe⟩
  · rw [ht]
    split
    · rfl
    · next hnot =>
      have hnone : (s.dev.cnvo o).queued = none := by simpa [mem_run_iff.mpr ho] using hnot
      rw [← hnone]
      rfl
  · rw [ht, if_neg fun hmem => ho (mem_run_iff.mp (List.mem_filter.mp hmem).1)]
    rfl

/-- An output outside a run stands before it or after it. -/
theorem not_inRun {o : Nat} (h : o < u16 b 0 ∨ u16 b 0 + u16 b 2 ≤ o) : ¬ InRun b o := fun ⟨hlo, hhi⟩ => by omega

theorem cnvSwitch_queues (h : Plain s r b) (hrun : SwitchRun b 0) (hst : (s.dev.unit 2 0).st = .running)
    (hout : ∀ o, u16 b 0 ≤ o → o < u16 b 0 + u16 b 2 → (s.dev.cnvo o).sel ≠ u8 b 4 ∧ (s.dev.cnvo o).fade = none ∧
      (((s.dev.cnvo o).bank (u8 b 4 == 1)).st = .empty ∨
        (((s.dev.cnvo o).bank (u8 b 4 == 1)).st = .ready ∧ ((s.dev.cnvo o).bank (u8 b 4 == 1)).warm ≤ s.dev.tim.tick + 2))) :
    Answers (.cnvSwitch r) 0x0A20 r s (le 2 (u16 b 2) ++ zb 6) (fun t =>
      (∀ o, u16 b 0 ≤ o → o < u16 b 0 + u16 b 2 → t.dev.cnvo o = { s.dev.cnvo o with
        queued := some { bank := u8 b 4, block := s.dev.tim.tick + 2, fade := u16 b 6 } }) ∧
      (∀ o, (o < u16 b 0 ∨ u16 b 0 + u16 b 2 ≤ o) → t.dev.cnvo o = s.dev.cnvo o) ∧ Frame [.cnv] s t) := by
  have hreq : ∀ o, InRun b o →
      (s.dev.cnvo o).request s.dev.tim.tick (u8 b 4) (s.dev.tim.tick + 2) true = (1, s.dev.tim.tick + 2) := fun o ⟨hlo, hhi⟩ =>
    let ⟨hsel, hfade, _⟩ := hout o hlo hhi
    CnvOut.request_of_steady hsel fun _ => hfade
  refine (cnvSwitch_starts h hrun (by rw [hst]; decide) (by rw [hst]; rfl) hreq fun o ⟨hlo, hhi⟩ => ?_).mono fun t ⟨hin, hrest, hframe⟩ =>
    ⟨fun o hlo hhi => (hin o ⟨hlo, hhi⟩).trans (CnvOut.switched_of_starts (hreq o ⟨hlo, hhi⟩)),
     fun o ho => hrest o (not_inRun ho), hframe⟩
  obtain ⟨-, -, hbank⟩ := hout o hlo hhi
  exact hbank.imp_right fun ⟨hready, hwarm⟩ => ⟨hready, fun _ => hwarm⟩

theorem cnvSwitch_selects (h : Plain s r b) (hrun : SwitchRun b 0) (hst : (s.dev.unit 2 0).st = .stopped)
    (hout : ∀ o, u16 b 0 ≤ o → o < u16 b 0 + u16 b 2 → (s.dev.cnvo o).sel ≠ u8 b 4 ∧
      (((s.dev.cnvo o).bank (u8 b 4 == 1)).st = .empty ∨ ((s.dev.cnvo o).bank (u8 b 4 == 1)).st = .ready)) :
    Answers (.cnvSwitch r) 0x0A20 r s (le 2 (u16 b 2) ++ zb 6) (fun t =>
      (∀ o, u16 b 0 ≤ o → o < u16 b 0 + u16 b 2 → t.dev.cnvo o = { s.dev.cnvo o with sel := u8 b 4, fade := none, queued := none }) ∧
      (∀ o, (o < u16 b 0 ∨ u16 b 0 + u16 b 2 ≤ o) → t.dev.cnvo o = s.dev.cnvo o) ∧ Frame [.cnv] s t) := by
  refine (cnvSwitch_starts (runs := false) h hrun (by rw [hst]; decide) (by rw [hst]; rfl)
    (fun o ⟨hlo, hhi⟩ => CnvOut.request_of_steady (hout o hlo hhi).1 nofun)
    fun o ⟨hlo, hhi⟩ => (hout o hlo hhi).2.imp_right fun hready => ⟨hready, nofun⟩).mono fun t ⟨hin, hrest, hframe⟩ =>
      ⟨fun o hlo hhi => hin o ⟨hlo, hhi⟩, fun o ho => hrest o (not_inRun ho), hframe⟩

theorem cnvSwitch_refused {x : Bank} (h : Plain s r b) (hrun : SwitchRun b 0) (hst : (s.dev.unit 2 0).st = .running)
    (hsel : (s.dev.cnvo (u16 b 0)).sel ≠ u8 b 4) (hfade : (s.dev.cnvo (u16 b 0)).fade = none)
    (hx : x = (s.dev.cnvo (u16 b 0)).bank (u8 b 4 == 1)) :
    ((x.st = .loading ∨ x.st = .incomplete) → Refuses (.cnvSwitch r) 0x0A20 r s 0x10C [] (Frame [] s)) ∧
    (x.st = .ready → s.dev.tim.tick + 2 < x.warm → Refuses (.cnvSwitch r) 0x0A20 r s 0x104 [] (Frame [] s)) := by
  have hreq := CnvOut.request_of_steady (k := s.dev.tim.tick) (j := s.dev.tim.tick + 2) (runs := true) hsel fun _ => hfade
  refine ⟨fun hload => cnvSwitch_refuses (runs := true) h hrun (by rw [hst]; decide) (by rw [hst]; rfl) ?_ (by decide),
    fun hready hwarm => cnvSwitch_refuses (runs := true) h hrun (by rw [hst]; decide) (by rw [hst]; rfl) ?_ (by decide)⟩
  · unfold Dev.switchErr
    dsimp only
    rw [hreq, ← hx, if_neg Nat.one_ne_zero, if_neg (by rintro ⟨-, hready, -⟩; simp [hready] at hload), if_pos hload]
  · unfold Dev.switchErr
    dsimp only
    rw [hreq, ← hx, if_neg Nat.one_ne_zero, if_pos ⟨rfl, hready, hwarm⟩]

end

/-! ## Reading commands (08 Tables 8.9, 8.11, R215) -/

theorem cnvStatusGet_reads : Reads .cnvStatusGet 0x0A01 (fun b _ => b = []) (fun _ s => words (s.dev.cnvStatus ::
      (rangeFrom 0 8).map (fun i => (tget 0 s.dev.cnv.ctr i).toNat)
    ++ [if (s.dev.unit 2 0).emits s.dev.tim.tick then Config.cnvLoad s.dev.tim.tick % 2 ^ 32 else 0])) := by
  rintro s r b h hb
  exact answers_of_read (c := cmdCnvStatusGet) h rfl (checks_pass _ _ (by simp [hb]))

theorem cnvOutStatus_reads : Reads .cnvOutStatus 0x0A21 (fun b _ => b.length = 4 ∧ 0 < u16 b 2 ∧ u16 b 0 + u16 b 2 ≤ 512)
    (fun b s => (rangeFrom (u16 b 0) (u16 b 2)).flatMap (fun o =>
      le 4 (s.dev.cnvOutState o) ++ le 2 (s.dev.cnvo o).a.taps ++ le 2 (s.dev.cnvo o).b.taps ++ le 8 (match (s.dev.cnvo o).queued with
        | some q => q.block
        | none => 0) ++ le 4 (s.dev.cnvo o).a.crc ++ le 4 (s.dev.cnvo o).b.crc)) := by
  rintro s r b h ⟨hl, hn, hf⟩
  exact answers_of_read (c := cmdCnvOutStatus) h rfl (checks_pass _ _ (by simp [hl, hn.ne', hf]))

theorem cnvTwiddleGet_reads : Reads .cnvTwiddleGet 0x0A31 (fun b _ => b.length = 4 ∧ 0 < u16 b 2 ∧ u16 b 0 + u16 b 2 ≤ 1024)
    (fun b _ => (rangeFrom (u16 b 0) (u16 b 2)).flatMap (fun m => leI 4 (twiddle m).1 ++ leI 4 (twiddle m).2)) := by
  rintro s r b h ⟨hl, hn, hf⟩
  exact answers_of_read (c := cmdCnvTwiddleGet) h rfl (checks_pass _ _ (by simp [hl, hn.ne', hf]))

/-! ## The obligation -/

/-- Settles O41, from the lemmas above, a part of the statement each. -/
theorem correctionSwitches : Obligations.CorrectionSwitches :=
  ⟨fun _ _ _ h hl hn hf hb hc hfade hmax hst hout => cnvSwitch_queues h ⟨hl, hn, hf, hb, hc, hfade, hmax⟩ hst hout,
   fun _ _ _ h hl hn hf hb hc hfade hmax hst hout => cnvSwitch_selects h ⟨hl, hn, hf, hb, hc, hfade, hmax⟩ hst hout,
   fun _ _ _ _ h hl hn hf hb hc hfade hmax hst hsel hno hx => cnvSwitch_refused h ⟨hl, hn, hf, hb, hc, hfade, hmax⟩ hst hsel hno hx,
   fun _ _ _ h hl hn hf hb hc hfade hmax hst => (cnvSwitch_cancels h ⟨hl, hn, hf, hb, hc, hfade, hmax⟩ hst).mono
    fun _ ⟨hin, hrest, hframe⟩ => ⟨fun o hlo hhi => hin o ⟨hlo, hhi⟩, fun o ho => hrest o (not_inRun ho), hframe⟩,
   cnvStatusGet_reads, cnvOutStatus_reads, cnvTwiddleGet_reads, by decide, by decide⟩

end Sys2Proof.Machine
end
